-- ==== Sys2Proof/Word.lean ====
section
/-! DEFINITION. The machine's words: a register is 32 bits wide (00_scope.md, Registers), an OTP, Granary or host
byte is 8 bits wide. -/

namespace Sys2Proof

/-- A register of the device: 32 bits. -/
abbrev Word := BitVec 32

/-- A byte of a host frame, a two-wire transfer or a Granary record. -/
abbrev Byte := BitVec 8

end Sys2Proof
end

