-- ==== Sys2Proof/Syntax.lean ====
section
/-! DEFINITION. The commands of the block: every operation and event of spec/opcode_table.json as one constructor of
`Instr`, and the types of their operands. A command is something that reaches the device from outside its state: an
access of its registers, a protocol frame, a level or edge on a ball, a converter result, or a moment that its clocks
and analogue parts reach. Operands carry what the spec takes from outside the state: addresses, values, measured
readings and levels. -/

namespace Sys2Proof

/-- Who accesses a register (R34). Hardware and fault reactions act inside the device and send no command. -/
inductive Origin where
  | host
  | twowire
  | engine (n : Nat)
  | factory
  deriving DecidableEq, Repr

/-- One slice's readings of a frame, in its own LSB before correction (R185): of its own duty, and, for the rover in an
overlap frame, of the duty it takes over. -/
structure SliceIn where
  prim : Int
  sec : Int
  deriving DecidableEq, Repr

/-- A bank's readings of a frame: its ten slices (R174) and the fast path of its four channels (R178). -/
structure BankIn where
  slices : List SliceIn
  fast : List Int
  deriving DecidableEq, Repr

/-- No readings. -/
def BankIn.none : BankIn := ⟨[], []⟩

/-- What the analogue side gives a frame (R92, R174 to R178): the readings of the eight banks, the IMON frame mean of the
64 phases in mA (R103), one bit per channel for the level on its ISO ball (R125), whether another device holds FAULT_N
low (R347), the levels of ID0 to ID2 where they have changed (R72), the levels driven from outside on GPIO.0 to GPIO.3 where they
have changed (R422), and the memory errors that arose: recipe memory words by byte address, uncorrectable or not (R238), and
the engines whose RAM corrected an error (ENG:RAM_ECC). -/
structure FrameIn where
  banks : List BankIn
  imons : List Int
  isoLevel : Nat
  peerLow : Bool
  straps : Option Nat
  gpio : Option Nat
  flips : List (Nat × Bool)
  ramEcc : List Nat
  deriving DecidableEq, Repr

/-- A frame without readings, with FAULT_N released by the other devices. -/
def FrameIn.quiet : FrameIn := ⟨[], [], 0, false, none, none, [], []⟩

/-- The windows of a calibration step (R186, R187), in the slice's LSB: the sums of the 64 samples of the zero, +REF and
−REF windows, and the sum of the squares of the zero window. -/
structure CalIn where
  zero : Int
  zeroSq : Int
  pos : Int
  neg : Int
  deriving DecidableEq, Repr

/-- What a verify of one half of an OTP word found (R430, R432): the word, its physical bits that read 0, and those that read
1 but fail the verify margin. -/
structure OtpVerify where
  word : Nat
  zeros : Nat
  weak : Nat
  deriving DecidableEq, Repr

/-- The three writable views of the time (R409). -/
inductive TimeReg where
  | timeSec
  | calTime
  | calDate
  deriving DecidableEq, Repr

/-- A host request (R449 to R454): whether it came on four lanes, the ID and the reserved bits of its header, ADDR, LEN
and the CRC that it carried. -/
structure HostReq where
  four : Bool
  id : Nat
  addr : Nat
  len : Nat
  crc : Nat
  deriving DecidableEq, Repr

/-- The commands of the device: one constructor per row of the opcode table, in its order. -/
inductive Instr where
  /-- VSYS_POWER_ON (R46). -/
  | vsysPowerOn (strap : Nat)
  /-- VSYS_POWER_LOSS (R46). -/
  | vsysPowerLoss
  /-- BACKUP_DOMAIN_POWER_ON (R405). -/
  | backupDomainPowerOn
  /-- REEVE_SELFTEST_DONE (R46). -/
  | reeveSelftestDone (pass : Bool) (vbak : Nat)
  /-- REFCLK_QUALIFIED (R52). -/
  | refclkQualified (khz : Nat)
  /-- MAIN_START_ENTRY (R46). -/
  | mainStartEntry
  /-- PLL_LOCKED (R77). -/
  | pllLocked
  /-- PLL_LOCK_TIMEOUT (R77). -/
  | pllLockTimeout
  /-- OTP_LOAD_DONE (R54). -/
  | otpLoadDone
  /-- ENGINES_BOOTED (R46). -/
  | enginesBooted
  /-- TRANSIT_WAIT_TIMEOUT (R57). -/
  | transitWaitTimeout
  /-- RESET_CMD_WARM (R62). -/
  | resetCmdWarm (o : Origin)
  /-- RESET_CMD_COLD (R67). -/
  | resetCmdCold (o : Origin) (f : FrameIn) (len : Nat)
  /-- COLD_RESET_EXECUTE (R67). -/
  | coldResetExecute
  /-- WARM_RESET_ENTRY (R66). -/
  | warmResetEntry (f : FrameIn) (len : Nat)
  /-- MAIN_RESET_COMPLETE (R46). -/
  | mainResetComplete
  /-- CHIP_GO (R70). -/
  | chipGo (o : Origin)
  /-- REFCLK_LOSS (R77). -/
  | refclkLoss (khz : Option Nat)
  /-- PLL_UNLOCK (R77). -/
  | pllUnlock
  /-- HOLDOVER_END (R79). -/
  | holdoverEnd
  /-- HOLDOVER_LIMIT_EXPIRY (R80). -/
  | holdoverLimitExpiry
  /-- FRAME_BOUNDARY (R92). -/
  | frameBoundary (f : FrameIn)
  /-- TRANSIT_EDGE (R85). -/
  | transitEdge (t : Int)
  /-- TRANSIT_MATCH_WINDOW_CLOSE (R89). -/
  | transitMatchWindowClose
  /-- TRANSIT_CONTENTION_CHECK (R88). -/
  | transitContentionCheck (opposite : Bool)
  /-- TRANSIT_MARK (R84). -/
  | transitMark (o : Origin)
  /-- TRANSIT_PERIOD_WRITE (R82). -/
  | transitPeriodWrite (o : Origin) (value : Nat)
  /-- HEARTBEAT_POSTED (R275). -/
  | heartbeatPosted (e : Nat) (n : Nat)
  /-- ENGINE_RAM_ERROR (R276). -/
  | engineRamError (e : Nat)
  /-- ENGINE_TRAP (R276). -/
  | engineTrap (e : Nat)
  /-- ENG10_SLOT_HEARTBEAT_MISS (R276). -/
  | eng10SlotHeartbeatMiss
  /-- REEVE_WATCHDOG_EXPIRY (R286). -/
  | reeveWatchdogExpiry
  /-- ENGCTL_STOP (R283). -/
  | engctlStop (o : Origin) (e : Nat)
  /-- ENGCTL_RESTART (R282). -/
  | engctlRestart (o : Origin) (e : Nat)
  /-- ENGINE_RESTART_DONE (R277). -/
  | engineRestartDone (e : Nat) (ramOk : Bool)
  /-- HOLD_LIMIT_EXPIRY (R281). -/
  | holdLimitExpiry (b : Nat)
  /-- BANK_HANDBACK (R282). -/
  | bankHandback (b : Nat)
  /-- SWITCHING_CYCLE (R106). -/
  | switchingCycle (p : Nat) (imonOut : Bool)
  /-- FAST_LIMIT_POS_TRIP (R107). -/
  | fastLimitPosTrip (p : Nat)
  /-- FAST_LIMIT_NEG_TRIP (R108). -/
  | fastLimitNegTrip (p : Nat)
  /-- OC_FAST_RUN (R110). -/
  | ocFastRun (p : Nat)
  /-- IMON_OUT_OF_RANGE (R101). -/
  | imonOutOfRange (p : Nat)
  /-- SLOW_LIMIT_TRIP (R113). -/
  | slowLimitTrip (p : Nat)
  /-- BALANCING_OBSERVATION_DONE (R114). -/
  | balancingObservationDone (c : Nat)
  /-- IMON_ZERO_CAPTURE (R124). -/
  | imonZeroCapture (c : Nat) (rawA : Int) (rawB : Int)
  /-- ISO_DRIVE_HIGH (R124). -/
  | isoDriveHigh (c : Nat)
  /-- CHAN_ENABLE (R143). -/
  | chanEnable (o : Origin) (c : Nat)
  /-- CHAN_DISABLE (R155). -/
  | chanDisable (o : Origin) (c : Nat) (byMode : Bool)
  /-- CHAN_MODE_WRITE (R138). -/
  | chanModeWrite (o : Origin) (c : Nat) (mode : Nat)
  /-- CHAN_RESUME (R160). -/
  | chanResume (o : Origin) (c : Nat)
  /-- CHAN_GANG_WRITE (R163). -/
  | chanGangWrite (o : Origin) (c : Nat) (size : Nat)
  /-- CELL_COMMIT (R167). -/
  | cellCommit (o : Origin) (c : Nat)
  /-- MATE_RESET (R170). -/
  | mateReset (o : Origin) (c : Nat) (key : Nat)
  /-- CHANNEL_SHORT_RAMP (R147). -/
  | channelShortRamp (c : Nat)
  /-- CHANNEL_SHORT_ZV (R148). -/
  | channelShortZv (c : Nat)
  /-- PROBE_RESISTANCE_WEAR (R169). -/
  | probeResistanceWear (c : Nat)
  /-- MATE_RECORD_RETRY (R171). -/
  | mateRecordRetry
  /-- CAL_STEP_START (R180). -/
  | calStepStart (b : Nat)
  /-- CAL_DONE (R188). -/
  | calDone (b : Nat) (cal : CalIn)
  /-- SLICE_FAILURE (R190). -/
  | sliceFailure (b : Nat) (k : Nat)
  /-- CAL_ENABLE_WRITE (R184). -/
  | calEnableWrite (o : Origin) (b : Nat) (value : Nat)
  /-- RETIRE_CLR (R192). -/
  | retireClr (o : Origin) (b : Nat) (mask : Nat)
  /-- TRACKER_CLR_V (R199). -/
  | trackerClrV (o : Origin) (c : Nat)
  /-- TRACKER_CLR_I (R199). -/
  | trackerClrI (o : Origin) (c : Nat)
  /-- BUS_TRACKER_CLR (R199). -/
  | busTrackerClr (o : Origin) (b : Nat)
  /-- BANK_STATUS_SNAPSHOT_READ (R200). -/
  | bankStatusSnapshotRead (o : Origin) (b : Nat) (k : Nat)
  /-- HK_CONVERTER_SLOT (R204). -/
  | hkConverterSlot (raw : Int)
  /-- THERMAL_SHUTDOWN (R495). -/
  | thermalShutdown
  /-- PERIODIC_CHECKPOINT (R221). -/
  | periodicCheckpoint
  /-- CHECKPOINT_LATE (R221). -/
  | checkpointLate
  /-- CKPT_NOW (R220). -/
  | ckptNow (o : Origin)
  /-- LEDGER_SNAP (R232). -/
  | ledgerSnap (o : Origin)
  /-- CLR_RUN (R214). -/
  | clrRun (o : Origin) (c : Nat)
  /-- BUS_CLR (R230). -/
  | busClr (o : Origin) (b : Nat)
  /-- ACC_SNAP_READ (R231). -/
  | accSnapRead (o : Origin) (c : Nat)
  /-- LO_WORD_LATCH_READ (R233). -/
  | loWordLatchRead (o : Origin) (addr : Nat)
  /-- OPEN_CHECKPOINT_HEADER (R222). -/
  | openCheckpointHeader
  /-- BALANCE_WINDOW_CLOSE (R227). -/
  | balanceWindowClose (b : Nat)
  /-- RECIPE_RECORD_COMMIT_WRITE (R237). -/
  | recipeRecordCommitWrite (o : Origin) (b : Nat) (r : Nat) (value : Nat)
  /-- RCP_START (R260). -/
  | rcpStart (o : Origin) (c : Nat)
  /-- RECIPE_VALIDATION_DONE (R262). -/
  | recipeValidationDone (c : Nat)
  /-- RCP_CONTINUE (R251). -/
  | rcpContinue (o : Origin) (c : Nat)
  /-- RCP_JUMP (R252). -/
  | rcpJump (o : Origin) (c : Nat) (n : Nat)
  /-- END_INFO_READ (R271). -/
  | endInfoRead (o : Origin) (c : Nat)
  /-- TONE_SET_COMMIT (R295). -/
  | toneSetCommit (o : Origin) (t : Nat) (value : Nat)
  /-- IMPEDANCE_WINDOW_CLOSE (R300). -/
  | impedanceWindowClose (c : Nat)
  /-- RESULT_PUBLISH (R292). -/
  | resultPublish (c : Nat)
  /-- DCIR_PULSE_END (R304). -/
  | dcirPulseEnd (c : Nat)
  /-- OCV_RELAXATION_FIT (R305). -/
  | ocvRelaxationFit (c : Nat)
  /-- OCV_TABLE_COMMIT (R309). -/
  | ocvTableCommit (o : Origin) (t : Nat) (tag : Nat)
  /-- RES_SNAP_READ (R313). -/
  | resSnapRead (o : Origin) (c : Nat)
  /-- RING_TRAIN_ORIGINATE (R325). -/
  | ringTrainOriginate
  /-- ORPHAN_TRAIN_ORIGINATE (R326). -/
  | orphanTrainOriginate
  /-- RING_TRAIN_FORWARD (R325). -/
  | ringTrainForward (hdr : Nat) (slots : List Nat)
  /-- TOKEN_RETURN (R328). -/
  | tokenReturn
  /-- RING_FREEZE (R330). -/
  | ringFreeze
  /-- TOKEN_STARVE_DETECT (R320). -/
  | tokenStarveDetect (c : Nat)
  /-- REISSUE (R334). -/
  | reissue (o : Origin) (value : Nat)
  /-- REISSUE_APPLY (R334). -/
  | reissueApply
  /-- FAULT_N_LOW_INPUT (R348). -/
  | faultNLowInput
  /-- BOARD_FAULT_AUTOCLEAR (R349). -/
  | boardFaultAutoclear
  /-- FAULT_CLEAR (R353). -/
  | faultClear (o : Origin) (value : Nat)
  /-- SEVERITY_MAP_WRITE (R341). -/
  | severityMapWrite (o : Origin) (page : Nat) (n : Nat) (value : Nat)
  /-- FIFO_MSG_READ (R339). -/
  | fifoMsgRead (o : Origin)
  /-- CRIER_SEND (R350). -/
  | crierSend (lost : Bool) (ack : Bool)
  /-- CRIER_RECEIVE (R351). -/
  | crierReceive (bytes : List Nat)
  /-- TEST_KEY_WRITE (R355). -/
  | testKeyWrite (o : Origin) (value : Nat) (pin : Bool)
  /-- FAULT_INJECT (R356). -/
  | faultInject (o : Origin) (value : Nat)
  /-- TEST_MODE_EXIT (R357). -/
  | testModeExit
  /-- SEQ_SLOT (R362). -/
  | seqSlot (low : Nat) (drained : Nat) (amps : List Nat)
  /-- PG_CHANGE (R363). -/
  | pgChange (r : Nat) (pg : Bool) (above : Bool)
  /-- RAIL_QUALIFIED (R363). -/
  | railQualified (r : Nat)
  /-- RAIL_START_TIMEOUT (R365). -/
  | railStartTimeout (r : Nat)
  /-- RAIL_SOFTSTART_SHORT (R365). -/
  | railSoftstartShort (r : Nat)
  /-- RAIL_FAULT_TRIP (R367). -/
  | railFaultTrip (r : Nat) (cause : Nat)
  /-- OFF_TIMEOUT (R369). -/
  | offTimeout (r : Nat)
  /-- DOWN_RAIL_OVERCURRENT (R370). -/
  | downRailOvercurrent (r : Nat)
  /-- SEQUENCER_RETRY (R360). -/
  | sequencerRetry
  /-- SEQUENCER_THERMAL_RESTART (R360). -/
  | sequencerThermalRestart
  /-- EMERG_OFF_RESTART (R504). -/
  | emergOffRestart
  /-- HKSEQ_CMD_UP (R378). -/
  | hkseqCmdUp (o : Origin)
  /-- HKSEQ_CMD_DOWN (R378). -/
  | hkseqCmdDown (o : Origin)
  /-- RESET_OUTPUT_RELEASE (R371). -/
  | resetOutputRelease (k : Nat)
  /-- RAIL_EN_WRITE (R372). -/
  | railEnWrite (o : Origin) (r : Nat) (value : Nat)
  /-- RAIL_VSET_WRITE (R374). -/
  | railVsetWrite (o : Origin) (r : Nat) (mv : Nat)
  /-- PATH_CONVERTER_START (R382). -/
  | pathConverterStart
  /-- START_LATCH_CLEAR (R382). -/
  | startLatchClear
  /-- HANDOVER_START (R383). -/
  | handoverStart
  /-- HANDOVER_COMPLETE (R383). -/
  | handoverComplete
  /-- HANDBACK (R386). -/
  | handback
  /-- PACK_SHUTDOWN (R388). -/
  | packShutdown (f : FrameIn) (len : Nat)
  /-- PACK_SHUTDOWN_FINISH (R388). -/
  | packShutdownFinish
  /-- PACK_CUTOFF (R389). -/
  | packCutoff
  /-- EMERGENCY_COMMIT_START (R442). -/
  | emergencyCommitStart (f : FrameIn) (len : Nat)
  /-- EMERGENCY_COMMIT_DONE (R504). -/
  | emergencyCommitDone
  /-- CHARGE_CV_ENTRY (R392). -/
  | chargeCvEntry
  /-- CHARGE_DONE (R392). -/
  | chargeDone
  /-- CHARGE_RESTART (R392). -/
  | chargeRestart
  /-- CHARGE_TIMER_EXPIRED (R393). -/
  | chargeTimerExpired
  /-- PACK_ABSENT (R394). -/
  | packAbsent (collapse : Bool)
  /-- PACK_PRESENT (R395). -/
  | packPresent
  /-- AUTH_START (R396). -/
  | authStart (o : Origin)
  /-- PACK_AUTH_ATTEMPT (R396). -/
  | packAuthAttempt (lost : Bool) (challenge : List Nat) (response : Option (List Nat))
  /-- GAUGE_UPDATE (R398). -/
  | gaugeUpdate (mc : Int) (iin : Nat)
  /-- GAUGE_FORCED_EMPTY (R399). -/
  | gaugeForcedEmpty
  /-- GAUGE_REST (R401). -/
  | gaugeRest
  /-- GAUGE_IMP_STEP (R400). -/
  | gaugeImpStep (dv : Int) (di : Int)
  /-- GAUGE_RELEARN (R402). -/
  | gaugeRelearn (o : Origin)
  /-- RTC_SECOND (R407). -/
  | rtcSecond (rcKhz : Nat)
  /-- RTC_TIME_WRITE (R409). -/
  | rtcTimeWrite (o : Origin) (reg : TimeReg) (value : Nat)
  /-- RTC_HALT_WRITE (R409). -/
  | rtcHaltWrite (o : Origin) (halt : Bool)
  /-- TIME_SEC_READ (R408). -/
  | timeSecRead (o : Origin)
  /-- CRYSTAL_STOP (R410). -/
  | crystalStop
  /-- ALARM_ARM_WRITE (R414). -/
  | alarmArmWrite (o : Origin) (arm : Bool)
  /-- TRIM_MEAS_START (R412). -/
  | trimMeasStart (o : Origin) (window : Nat) (apply : Bool)
  /-- TRIM_MEAS_DONE (R412). -/
  | trimMeasDone (count : Nat)
  /-- TRIM_MEAS_ABORT (R412). -/
  | trimMeasAbort
  /-- WAKE_RELEASE (R415). -/
  | wakeRelease (o : Origin)
  /-- WAKE_FORCE (R415). -/
  | wakeForce (o : Origin)
  /-- WAKE_PULSE_END (R415). -/
  | wakePulseEnd
  /-- COMPARE_ARM (R418). -/
  | compareArm (o : Origin) (k : Nat) (hi : Nat)
  /-- COMPARE_FIRE (R418). -/
  | compareFire (k : Nat)
  /-- COMPARE_PULSE_END (R418). -/
  | comparePulseEnd (k : Nat)
  /-- CAPTURE_EDGE (R420). -/
  | captureEdge (k : Nat) (rising : Bool)
  /-- CAP_LO_READ (R420). -/
  | capLoRead (o : Origin) (k : Nat)
  /-- TICK_LO_READ (R417). -/
  | tickLoRead (o : Origin)
  /-- GPIO_CFG_WRITE (R421). -/
  | gpioCfgWrite (o : Origin) (value : Nat)
  /-- OTP_PROG_WORD (R430). -/
  | otpProgWord (o : Origin)
  /-- OTP_PROG_CRC (R431). -/
  | otpProgCrc (o : Origin) (region : Nat)
  /-- OTP_MARGIN (R432). -/
  | otpMargin (o : Origin) (region : Nat)
  /-- OTP_PROG_DONE (R430). -/
  | otpProgDone (pulses : Nat) (failA : List OtpVerify) (failB : List OtpVerify)
  /-- GRANARY_COMMIT_DONE (R437). -/
  | granaryCommitDone (bad : List Nat)
  /-- GRANARY_ERASE_DONE (R437). -/
  | granaryEraseDone
  /-- GRANARY_COMMIT_REFUSED (R439). -/
  | granaryCommitRefused
  /-- GRANARY_WEAR_REWRITE (R438). -/
  | granaryWearRewrite (id : Nat)
  /-- LOG_TAIL_COMMIT (R445). -/
  | logTailCommit
  /-- CUST_COMMIT (R446). -/
  | custCommit (o : Origin) (r : Nat) (len : Nat)
  /-- LOCK_CMD_LOCK (R30). -/
  | lockCmdLock (o : Origin) (page : Nat)
  /-- LOCK_CMD_LOCK_HARD (R30). -/
  | lockCmdLockHard (o : Origin) (page : Nat)
  /-- LOCK_CMD_UNLOCK (R31). -/
  | lockCmdUnlock (o : Origin) (page : Nat) (key : Nat)
  /-- LOCK_CMD_FACTORY_UNLOCK (R30). -/
  | lockCmdFactoryUnlock (o : Origin) (page : Nat) (key : Nat)
  /-- CHANGELOG_TAIL_WRITE (R498). -/
  | changelogTailWrite (o : Origin) (value : Nat)
  /-- CHANGELOG_ENTRY_READ (R499). -/
  | changelogEntryRead (o : Origin)
  /-- READ_CLEAR_FIELD (R4). -/
  | readClearField (o : Origin) (addr : Nat)
  /-- HOST_READ (R456). -/
  | hostRead (q : HostReq)
  /-- HOST_READ_FIXED (R456). -/
  | hostReadFixed (q : HostReq)
  /-- HOST_WRITE (R455). -/
  | hostWrite (q : HostReq) (data : List Nat) (late : Bool)
  /-- HOST_WRITE_FIXED (R455). -/
  | hostWriteFixed (q : HostReq) (data : List Nat) (late : Bool)
  /-- HOST_BCAST_WRITE (R457). -/
  | hostBcastWrite (q : HostReq) (data : List Nat) (late : Bool)
  /-- HOST_WRITE_DEFERRED_APPLY (R455). -/
  | hostWriteDeferredApply
  /-- HOST_FRAME_INVALID (R453). -/
  | hostFrameInvalid (mark : Nat) (hdr : Nat) (four : Bool)
  /-- HOST_FRAME_ABORTED (R453). -/
  | hostFrameAborted
  /-- STREAM_RECORD_WRITE (R462). -/
  | streamRecordWrite
  /-- STREAM_DATA_READ (R463). -/
  | streamDataRead (o : Origin) (k : Nat)
  /-- STREAM_RETIRE (R464). -/
  | streamRetire (o : Origin) (k : Nat) (value : Nat)
  /-- STREAM_ENABLE_WRITE (R466). -/
  | streamEnableWrite (o : Origin) (value : Nat)
  /-- STREAM_CONFIG_WRITE (R467). -/
  | streamConfigWrite (o : Origin) (route : Bool) (value : Nat)
  /-- TWOWIRE_STATUS_READ (R473). -/
  | twowireStatusRead
  /-- TWOWIRE_NOP (R474). -/
  | twowireNop
  /-- TWOWIRE_ESTOP (R476). -/
  | twowireEstop
  /-- TWOWIRE_FAULT_CLEAR (R353). -/
  | twowireFaultClear
  /-- TWOWIRE_RESUME (R474). -/
  | twowireResume (arg : Nat)
  /-- TWOWIRE_HK_UP (R378). -/
  | twowireHkUp
  /-- TWOWIRE_HK_DOWN (R378). -/
  | twowireHkDown
  /-- TWOWIRE_GO (R474). -/
  | twowireGo
  /-- TWOWIRE_CHARGE (R474). -/
  | twowireCharge (en : Bool)
  /-- TWOWIRE_ACK (R474). -/
  | twowireAck (arg : Nat)
  /-- TWOWIRE_CMD_DISCARD (R474). -/
  | twowireCmdDiscard (bytes : List Nat) (timedOut : Bool)
  /-- TWOWIRE_STATUS_WRITE (R476). -/
  | twowireStatusWrite (o : Origin) (value : Nat)
  /-- ALERT_RESPONSE_READ (R477). -/
  | alertResponseRead (won : Bool)
  /-- TWOWIRE_BUS_TIMEOUT (R479). -/
  | twowireBusTimeout (controller : Bool)
  /-- REGISTER_WRITE (R34). -/
  | registerWrite (o : Origin) (addr : Nat) (value : Nat)
  /-- BACKUP_DOMAIN_POWER_LOSS (R405). -/
  | backupDomainPowerLoss
  deriving DecidableEq, Repr

end Sys2Proof
end

