-- ==== Sys2Proof/WellFormed.lean ====
section
/-! DEFINITION. Which commands are well formed: every index, address, value and byte of a command within the range that the
spec gives it. A command that is not well formed stands for nothing that can reach the device; its meaning is no event. -/

namespace Sys2Proof

/-- A number below a bound. -/
def below (v n : Nat) : Bool := decide (v < n)

/-- The engines are ENG.0 to ENG.11 (R272). -/
def Origin.wf (o : Origin) : Bool :=
  match o with
  | .engine n => below n 12
  | _ => true

/-- At most eight banks of ten slices and four fast paths, and 64 phases; one level bit per channel; three straps; four GPIO;
errors of recipe memory words and of engine RAM. -/
def FrameIn.wf (f : FrameIn) : Bool :=
  below f.banks.length 9 && f.banks.all (fun b => below b.slices.length 11 && below b.fast.length 5) &&
    below f.imons.length 65 && below f.isoLevel (2 ^ 32) && f.straps.all (fun v => below v 8) && f.gpio.all (fun v => below v 16) &&
    f.flips.all (fun e => decide (0x200 * 0x400 ≤ e.1 ∧ e.1 < 0x280 * 0x400 ∧ e.1 % 4 = 0)) && f.ramEcc.all (fun e => below e 12)

/-- The widths of a request's fields (R451). -/
def HostReq.wf (q : HostReq) : Bool := below q.id 256 && below q.addr (2 ^ 24) && below q.len 256 && below q.crc 65536

/-- As many words as a request's LEN says. -/
def wordsOk (data : List Nat) (q : HostReq) : Bool := decide (data.length = q.len + 1) && data.all (fun v => below v (2 ^ 32))

/-- A word of the OTP array and two masks of its bits. -/
def verifyOk (x : OtpVerify) : Bool := below x.word 256 && below x.zeros (2 ^ 32) && below x.weak (2 ^ 32)

/-- `n` bytes. -/
def bytesOk (l : List Nat) (n : Nat) : Bool := decide (l.length = n) && l.all (fun v => below v 256)

/-- The eight slots of a ring train (R325). -/
def slotsOk (l : List Nat) : Bool := decide (l.length = 8) && l.all (fun v => below v (2 ^ 58))

/-- Is a command well formed? -/
def Instr.wf (i : Instr) : Bool :=
  match i with
  | .vsysPowerOn strap => below strap 8
  | .vsysPowerLoss => true
  | .backupDomainPowerOn => true
  | .reeveSelftestDone _ vbak => below vbak (2 ^ 16)
  | .refclkQualified khz => below khz (2 ^ 16)
  | .mainStartEntry => true
  | .pllLocked => true
  | .pllLockTimeout => true
  | .otpLoadDone => true
  | .enginesBooted => true
  | .transitWaitTimeout => true
  | .resetCmdWarm o => o.wf
  | .resetCmdCold o f _ => o.wf && f.wf
  | .coldResetExecute => true
  | .warmResetEntry f _ => f.wf
  | .mainResetComplete => true
  | .chipGo o => o.wf
  | .refclkLoss khz => (khz.all (fun v => below v 65536))
  | .pllUnlock => true
  | .holdoverEnd => true
  | .holdoverLimitExpiry => true
  | .frameBoundary f => f.wf
  | .transitEdge _ => true
  | .transitMatchWindowClose => true
  | .transitContentionCheck _ => true
  | .transitMark o => o.wf
  | .transitPeriodWrite o value => o.wf && below value (2 ^ 32)
  | .heartbeatPosted e n => below e 12 && below n (2 ^ 32)
  | .engineRamError e => below e 12
  | .engineTrap e => below e 12
  | .eng10SlotHeartbeatMiss => true
  | .reeveWatchdogExpiry => true
  | .engctlStop o e => o.wf && below e 16
  | .engctlRestart o e => o.wf && below e 16
  | .engineRestartDone e _ => below e 12
  | .holdLimitExpiry b => below b 8
  | .bankHandback b => below b 8
  | .switchingCycle p _ => below p 64
  | .fastLimitPosTrip p => below p 64
  | .fastLimitNegTrip p => below p 64
  | .ocFastRun p => below p 64
  | .imonOutOfRange p => below p 64
  | .slowLimitTrip p => below p 64
  | .balancingObservationDone c => below c 32
  | .imonZeroCapture c _ _ => below c 32
  | .isoDriveHigh c => below c 32
  | .chanEnable o c => o.wf && below c 32
  | .chanDisable o c _ => o.wf && below c 32
  | .chanModeWrite o c mode => o.wf && below c 32 && below mode 16
  | .chanResume o c => o.wf && below c 32
  | .chanGangWrite o c size => o.wf && below c 32 && below size 4
  | .cellCommit o c => o.wf && below c 32
  | .mateReset o c key => o.wf && below c 32 && below key (2 ^ 16)
  | .channelShortRamp c => below c 32
  | .channelShortZv c => below c 32
  | .probeResistanceWear c => below c 32
  | .mateRecordRetry => true
  | .calStepStart b => below b 8
  | .calDone b _ => below b 8
  | .sliceFailure b k => below b 8 && below k 10
  | .calEnableWrite o b value => o.wf && below b 8 && below value (2 ^ 32)
  | .retireClr o b mask => o.wf && below b 8 && below mask (2 ^ 10)
  | .trackerClrV o c => o.wf && below c 32
  | .trackerClrI o c => o.wf && below c 32
  | .busTrackerClr o b => o.wf && below b 8
  | .bankStatusSnapshotRead o b k => o.wf && below b 8 && below k 5
  | .hkConverterSlot _ => true
  | .thermalShutdown => true
  | .periodicCheckpoint => true
  | .checkpointLate => true
  | .ckptNow o => o.wf
  | .ledgerSnap o => o.wf
  | .clrRun o c => o.wf && below c 32
  | .busClr o b => o.wf && below b 8
  | .accSnapRead o c => o.wf && below c 32
  | .loWordLatchRead o addr => o.wf && below addr (2 ^ 24)
  | .openCheckpointHeader => true
  | .balanceWindowClose b => below b 8
  | .recipeRecordCommitWrite o b r value => o.wf && below b 8 && below r 256 && below value (2 ^ 32)
  | .rcpStart o c => o.wf && below c 32
  | .recipeValidationDone c => below c 32
  | .rcpContinue o c => o.wf && below c 32
  | .rcpJump o c n => o.wf && below c 32 && below n 64
  | .endInfoRead o c => o.wf && below c 32
  | .toneSetCommit o t value => o.wf && below t 4 && below value (2 ^ 32)
  | .impedanceWindowClose c => below c 32
  | .resultPublish c => below c 32
  | .dcirPulseEnd c => below c 32
  | .ocvRelaxationFit c => below c 32
  | .ocvTableCommit o t tag => o.wf && below t 4 && below tag (2 ^ 16)
  | .resSnapRead o c => o.wf && below c 32
  | .ringTrainOriginate => true
  | .orphanTrainOriginate => true
  | .ringTrainForward hdr slots => below hdr (2 ^ 32) && slotsOk slots
  | .tokenReturn => true
  | .ringFreeze => true
  | .tokenStarveDetect c => below c 32
  | .reissue o value => o.wf && below value (2 ^ 32)
  | .reissueApply => true
  | .faultNLowInput => true
  | .boardFaultAutoclear => true
  | .faultClear o value => o.wf && below value (2 ^ 32)
  | .severityMapWrite o page n value => o.wf && below page (2 ^ 14) && below n 3 && below value (2 ^ 32)
  | .fifoMsgRead o => o.wf
  | .crierSend _ _ => true
  | .crierReceive bytes => bytes.all (fun v => below v 256)
  | .testKeyWrite o value _ => o.wf && below value (2 ^ 32)
  | .faultInject o value => o.wf && below value (2 ^ 32)
  | .testModeExit => true
  | .seqSlot low drained amps => below low 16 && below drained 16 && below amps.length 5
  | .pgChange r _ _ => below r 4
  | .railQualified r => below r 4
  | .railStartTimeout r => below r 4
  | .railSoftstartShort r => below r 4
  | .railFaultTrip r cause => below r 4 && below cause 4
  | .offTimeout r => below r 4
  | .downRailOvercurrent r => below r 4
  | .sequencerRetry => true
  | .sequencerThermalRestart => true
  | .emergOffRestart => true
  | .hkseqCmdUp o => o.wf
  | .hkseqCmdDown o => o.wf
  | .resetOutputRelease k => below k 2
  | .railEnWrite o r value => o.wf && below r 4 && below value (2 ^ 32)
  | .railVsetWrite o r mv => o.wf && below r 4 && below mv (2 ^ 16)
  | .pathConverterStart => true
  | .startLatchClear => true
  | .handoverStart => true
  | .handoverComplete => true
  | .handback => true
  | .packShutdown f _ => f.wf
  | .packShutdownFinish => true
  | .packCutoff => true
  | .emergencyCommitStart f _ => f.wf
  | .emergencyCommitDone => true
  | .chargeCvEntry => true
  | .chargeDone => true
  | .chargeRestart => true
  | .chargeTimerExpired => true
  | .packAbsent _ => true
  | .packPresent => true
  | .authStart o => o.wf
  | .packAuthAttempt _ challenge response => bytesOk challenge 16 && (response.all (fun l => bytesOk l 16))
  | .gaugeUpdate _ iin => below iin (2 ^ 16)
  | .gaugeForcedEmpty => true
  | .gaugeRest => true
  | .gaugeImpStep _ _ => true
  | .gaugeRelearn o => o.wf
  | .rtcSecond rcKhz => below rcKhz (2 ^ 16)
  | .rtcTimeWrite o _ value => o.wf && below value (2 ^ 32)
  | .rtcHaltWrite o _ => o.wf
  | .timeSecRead o => o.wf
  | .crystalStop => true
  | .alarmArmWrite o _ => o.wf
  | .trimMeasStart o window _ => o.wf && below window 128
  | .trimMeasDone count => below count (2 ^ 64)
  | .trimMeasAbort => true
  | .wakeRelease o => o.wf
  | .wakeForce o => o.wf
  | .wakePulseEnd => true
  | .compareArm o k hi => o.wf && below k 8 && below hi (2 ^ 32)
  | .compareFire k => below k 8
  | .comparePulseEnd k => below k 8
  | .captureEdge k _ => below k 4
  | .capLoRead o k => o.wf && below k 4
  | .tickLoRead o => o.wf
  | .gpioCfgWrite o value => o.wf && below value (2 ^ 32)
  | .otpProgWord o => o.wf
  | .otpProgCrc o region => o.wf && below region 8
  | .otpMargin o region => o.wf && below region 8
  | .otpProgDone pulses failA failB => below pulses (2 ^ 32) && failA.all verifyOk && failB.all verifyOk
  | .granaryCommitDone bad => bad.all (fun n => below n 1024)
  | .granaryEraseDone => true
  | .granaryCommitRefused => true
  | .granaryWearRewrite id => below id 256
  | .logTailCommit => true
  | .custCommit o r len => o.wf && below r 32 && below len 512
  | .lockCmdLock o page => o.wf && below page (2 ^ 14)
  | .lockCmdLockHard o page => o.wf && below page (2 ^ 14)
  | .lockCmdUnlock o page key => o.wf && below page (2 ^ 14) && below key (2 ^ 16)
  | .lockCmdFactoryUnlock o page key => o.wf && below page (2 ^ 14) && below key (2 ^ 16)
  | .changelogTailWrite o value => o.wf && below value (2 ^ 32)
  | .changelogEntryRead o => o.wf
  | .readClearField o addr => o.wf && below addr (2 ^ 24)
  | .hostRead q => q.wf
  | .hostReadFixed q => q.wf
  | .hostWrite q data _ => q.wf && wordsOk data q
  | .hostWriteFixed q data _ => q.wf && wordsOk data q
  | .hostBcastWrite q data _ => q.wf && wordsOk data q
  | .hostWriteDeferredApply => true
  | .hostFrameInvalid mark hdr _ => below mark 16 && below hdr (2 ^ 48)
  | .hostFrameAborted => true
  | .streamRecordWrite => true
  | .streamDataRead o k => o.wf && below k 4
  | .streamRetire o k value => o.wf && below k 4 && below value (2 ^ 32)
  | .streamEnableWrite o value => o.wf && below value (2 ^ 32)
  | .streamConfigWrite o _ value => o.wf && below value (2 ^ 32)
  | .twowireStatusRead => true
  | .twowireNop => true
  | .twowireEstop => true
  | .twowireFaultClear => true
  | .twowireResume arg => below arg 64
  | .twowireHkUp => true
  | .twowireHkDown => true
  | .twowireGo => true
  | .twowireCharge _ => true
  | .twowireAck arg => below arg 16
  | .twowireCmdDiscard bytes _ => bytes.all (fun b => below b 256)
  | .twowireStatusWrite o value => o.wf && below value (2 ^ 32)
  | .alertResponseRead _ => true
  | .twowireBusTimeout _ => true
  | .registerWrite o addr value => o.wf && below addr (2 ^ 24) && below value (2 ^ 32)
  | .backupDomainPowerLoss => true

end Sys2Proof
end

