-- ==== Sys2Proof/Decode.lean ====
section
/-! DEFINITION. Commands read from words. The opcode table gives no row any bits: a command reaches the device as a protocol
frame, a register access or an event, never as a word of an instruction, so no word spells one. -/

namespace Sys2Proof

/-- The command that a word of `nbits` bits spells by the opcode table: none, since no row of it has bits. -/
def decodeTableWord (_nbits _w : Nat) : Option Instr := none

end Sys2Proof
end

