-- ==== Sys2Proof/Config.lean ====
section
/-! DEFINITION. What the spec leaves to an implementation, and the free values: constants with no body, so that no
proof can see what they are. Each is named in a row of notes/assumptions. -/

namespace Sys2Proof

/-- Free: does the device round a half-way fraction num/den up? The spec's "round" does not say (log entry 12). -/
opaque Config.roundTieUp (num den : Int) : Bool

/-- Free: does a result that is no exact multiple of its field's LSB take the multiple above it? Where the spec states
no rounding, it leaves this open (log entry 12). -/
opaque Config.quantUp (num : Int) (den : Nat) : Bool

/-- Free: the output of the voltage loop in 10 µA, whose control law the spec does not give (R134; log entry 13). -/
opaque Config.voltageLoop (index : Nat) : Int

/-- Free: the proportional-integral term of the current loop in fine steps on a channel's share of the reference in 10 µA
(R102, R165; log entry 14). -/
opaque Config.currentLoop (index : Nat) (share : Int) : Int

/-- Free: the cycles an engine has used when it posts a heartbeat (ENG:CYCLES_LAST; log entry 72). -/
opaque Config.engineCycles (index : Nat) : BitVec 16

/-- Free: a draw of the 15-bit LFSR of pseudo-random spread spectrum, whose polynomial the spec does not give (R97; log
entry 75). -/
opaque Config.spreadDraw (index : Nat) : BitVec 15

/-- Free: the bus-current substitute of a frame whose bus voltage is 0, in 100 µA (R194; log entry 15). -/
opaque Config.busSubstZero (index : Nat) : Int

/-- The fast-path current in 10 µA (R178) of a channel in a frame closed by a command that brings no readings: the spec
substitutes it for the current (R195, R218) and nothing outside gives its value (log entry 83). -/
opaque Config.fastReading (index : Nat) (channel : Nat) : Int

/-- Free: a quotient whose divisor is 0 and whose value the spec does not state: the feed-forward term at a bus voltage of 0
(R102), a DCIR with no current step, an impedance with no current phasor, a leakage current outside the OCV table (R300, R304, R307; log entry 17). -/
opaque Config.openQuotient (index : Nat) : Int

/-- Free: charge, energy and frames of a capacity result whose step ended DONE before its start mark, which the spec does not
state (R302; log entry 76). -/
opaque Config.openCapacity (index : Nat) : Int

/-- Free: FILL, REC_COUNT and WORD_COUNT of a stream channel after its disable, which the spec calls undefined (R466; log
entry 18). -/
opaque Config.openStream (index : Nat) : Nat

/-- Free: a byte of a Granary page whose program was abandoned, which the spec does not state; by the sequence of its slot and its
place (R442, R443; log entry 99). -/
opaque Config.tornByte (seq place : Nat) : BitVec 8

/-- Free: the trimmed cycles that a crystal which had stopped has counted since it resumed, a moment that nothing shows before the
next second; by the RC time of the read (R410; log entry 103). -/
opaque Config.resumedCycles (rcUs : Nat) : Nat

end Sys2Proof
end

