-- ==== Sys2Proof/Machine/Bits.lean ====
section
/-! DEFINITION. Bit fields, two's complement and exact arithmetic: the helpers every other file of the machine uses. -/

namespace Sys2Proof.Machine

/-- A field of a register: the register's offset on its page, the field's high and low bit, and, for a register that
repeats along an index, the distance in bytes from one instance to the next. -/
structure Fld where
  off : Nat
  hi : Nat
  lo : Nat
  stride : Nat
  deriving DecidableEq, Repr

/-- The field in instance `k` of an array of registers. -/
def Fld.ix (f : Fld) (k : Nat) : Fld := ⟨f.off + k * f.stride, f.hi, f.lo, f.stride⟩

/-- The width of a field in bits. -/
def Fld.width (f : Fld) : Nat := f.hi - f.lo + 1

/-- Bits [hi:lo] of a number. -/
def bitsOf (n hi lo : Nat) : Nat := n / 2 ^ lo % 2 ^ (hi - lo + 1)

/-- The number with bits [hi:lo] replaced by the low bits of `v`. -/
def withBits (n hi lo v : Nat) : Nat :=
  n / 2 ^ (hi + 1) * 2 ^ (hi + 1) + v % 2 ^ (hi - lo + 1) * 2 ^ lo + n % 2 ^ lo

/-- Bit `k` of a number. -/
def bitOf (n k : Nat) : Bool := decide (n / 2 ^ k % 2 = 1)

/-- 1 for true, 0 for false. -/
def b2n (b : Bool) : Nat := if b then 1 else 0

/-- The signed value of an `n`-bit two's complement pattern (R2). -/
def signed (n v : Nat) : Int := if v < 2 ^ (n - 1) then (v : Int) else (v : Int) - (2 : Int) ^ n

/-- The `n`-bit two's complement pattern of an integer (R2). -/
def unsigned (n : Nat) (i : Int) : Nat := (i % (2 : Int) ^ n).toNat

/-- An integer held within [lo, hi]. -/
def clampInt (lo hi i : Int) : Int := if i < lo then lo else if hi < i then hi else i

/-- A rational held within [lo, hi]. -/
def clampRat (lo hi x : Rat) : Rat := if x < lo then lo else if hi < x then hi else x

/-- An integer saturated to the range of an `n`-bit signed field. -/
def satSigned (n : Nat) (i : Int) : Int := clampInt (-(2 : Int) ^ (n - 1)) ((2 : Int) ^ (n - 1) - 1) i

/-- A count held at the maximum of an `n`-bit unsigned field ("saturates"). -/
def satNat (n v : Nat) : Nat := if v < 2 ^ n then v else 2 ^ n - 1

/-- The quotient truncated toward zero; 0 for a zero divisor. -/
def truncDiv (a b : Int) : Int := Int.tdiv a b

/-- The quotient rounded down. -/
def floorDiv (a b : Int) : Int := Int.fdiv a b

/-- The quotient rounded up. -/
def ceilDiv (a b : Int) : Int := -(Int.fdiv (-a) b)

/-- The integer nearest to a fraction. Where the fraction lies half way between two integers the spec's "round" does
not say which is taken: `Config.roundTieUp` stands for that choice. -/
def roundDiv (a b : Int) : Int :=
  let f := Int.fdiv a b
  let r := 2 * (a - f * b)
  if b < 0 then (if r > b then f else if r < b then f + 1 else if Config.roundTieUp a b then f + 1 else f)
  else (if r < b then f else if r > b then f + 1 else if Config.roundTieUp a b then f + 1 else f)

/-- An exact value as a multiple of a field's LSB (R2): itself where it is one, otherwise the multiple below or above
it, which the spec does not say: `Config.quantUp` stands for that choice. -/
def quant (r : Rat) : Int :=
  if r.den = 1 then r.num else if Config.quantUp r.num r.den then Int.fdiv r.num r.den + 1 else Int.fdiv r.num r.den

/-- The value truncated toward zero. -/
def truncR (r : Rat) : Int := Int.tdiv r.num r.den

/-- An integer as a rational. -/
def ratI (i : Int) : Rat := Rat.ofInt i

/-- A natural as a rational. -/
def ratN (n : Nat) : Rat := Rat.ofInt n

/-- Absolute value of a rational. -/
def absR (r : Rat) : Rat := if r < 0 then -r else r

/-- The sum of a list of integers. -/
def sumInt (l : List Int) : Int := l.foldl (· + ·) 0

/-- The sum of a list of naturals. -/
def sumNat (l : List Nat) : Nat := l.foldl (· + ·) 0

/-- Absolute value as an integer. -/
def absI (i : Int) : Int := if i < 0 then -i else i

/-- The sign of an integer: −1, 0 or 1. -/
def signI (i : Int) : Int := if i < 0 then -1 else if i = 0 then 0 else 1

/-- ⌈n/d⌉ on naturals. -/
def ceilDivNat (n d : Nat) : Nat := (n + d - 1) / d

/-- The little-endian bytes of a number. -/
def bytesLE : Nat → Nat → List Nat
  | 0, _ => []
  | n + 1, v => v % 256 :: bytesLE n (v / 256)

/-- The number that little-endian bytes spell. -/
def natOfLE : List Nat → Nat
  | [] => 0
  | b :: bs => b % 256 + 256 * natOfLE bs

/-- The element of a list at an index, a default past its end. -/
def nth {α : Type} (d : α) : List α → Nat → α
  | [], _ => d
  | a :: _, 0 => a
  | _ :: l, n + 1 => nth d l n

/-- The list with the element at an index replaced; unchanged past its end. -/
def setNth {α : Type} : List α → Nat → α → List α
  | [], _, _ => []
  | _ :: l, 0, v => v :: l
  | a :: l, n + 1, v => a :: setNth l n v

/-- The last `n` elements of a list. -/
def lastN {α : Type} (n : Nat) (l : List α) : List α := l.drop (l.length - n)

/-- Apply an indexed update for each index below `n`, in rising order. -/
def forIdx {σ : Type} (n : Nat) (s : σ) (f : σ → Nat → σ) : σ := (List.range n).foldl f s

end Sys2Proof.Machine
end

