-- ==== Sys2Proof/Machine/Aes.lean ====
section
/-! DEFINITION. AES-128 encryption of one block (R396), as FIPS 197 defines it (PRESUMED, log entry 24): the spec names the
cipher and gives no text of it. -/

namespace Sys2Proof.Machine

/-- Multiply by x in GF(2^8) modulo x^8 + x^4 + x^3 + x + 1. -/
def xtime (a : Nat) : Nat := if a < 128 then 2 * a else (2 * a - 256) ^^^ 0x1B

/-- The product of two bytes in GF(2^8), over the low `n` bits of the second. -/
def gfMul : Nat → Nat → Nat → Nat
  | 0, _, _ => 0
  | n + 1, a, b => (if b % 2 = 1 then a else 0) ^^^ gfMul n (xtime a) (b / 2)

/-- The multiplicative inverse a^254, and 0 for 0: 254 is the sum of 2, 4, …, 128. -/
def gfInv (a : Nat) : Nat :=
  let sq := fun x => gfMul 8 x x
  let a2 := sq a
  let a4 := sq a2
  let a8 := sq a4
  let a16 := sq a8
  let a32 := sq a16
  let a64 := sq a32
  [a4, a8, a16, a32, a64, sq a64].foldl (fun x y => gfMul 8 x y) a2

/-- A byte rotated left. -/
def rotl8 (a k : Nat) : Nat := (a * 2 ^ k) % 256 ^^^ a / 2 ^ (8 - k)

/-- The S-box. -/
def sbox (a : Nat) : Nat :=
  let b := gfInv a
  b ^^^ rotl8 b 1 ^^^ rotl8 b 2 ^^^ rotl8 b 3 ^^^ rotl8 b 4 ^^^ 0x63

/-- The bytes of two lists combined. -/
def xorBytes (a b : List Nat) : List Nat := List.zipWith (· ^^^ ·) a b

/-- The next round key from a round key of 16 bytes and the round constant. -/
def nextRoundKey (k : List Nat) (rc : Nat) : List Nat :=
  let w := fun i => (k.drop (4 * i)).take 4
  let t := [sbox (nth 0 k 13) ^^^ rc, sbox (nth 0 k 14), sbox (nth 0 k 15), sbox (nth 0 k 12)]
  let w0 := xorBytes (w 0) t
  let w1 := xorBytes (w 1) w0
  let w2 := xorBytes (w 2) w1
  w0 ++ w1 ++ w2 ++ xorBytes (w 3) w2

/-- Byte substitution and row shift: byte 4c + r comes from column c + r. -/
def subShift (s : List Nat) : List Nat :=
  (List.range 16).map (fun i => sbox (nth 0 s ((4 * (i / 4 + i % 4) + i % 4) % 16)))

/-- One column mixed. -/
def mixColumn (c : List Nat) : List Nat :=
  (List.range 4).map (fun r =>
    gfMul 8 (nth 0 c r) 2 ^^^ gfMul 8 (nth 0 c ((r + 1) % 4)) 3 ^^^ nth 0 c ((r + 2) % 4) ^^^ nth 0 c ((r + 3) % 4))

/-- The rounds: a round key, a round constant and the rounds left; the last one mixes no columns. -/
def aesRounds : Nat → List Nat → Nat → List Nat → List Nat
  | 0, _, _, s => s
  | n + 1, k, rc, s =>
    let k := nextRoundKey k rc
    let s := subShift s
    let s := if n = 0 then s
      else (List.range 4).flatMap (fun c => mixColumn ((s.drop (4 * c)).take 4))
    aesRounds n k (xtime rc) (xorBytes s k)

/-- AES-128 of a 16-byte block under a 16-byte key. -/
def aes128 (key block : List Nat) : List Nat := aesRounds 10 key 1 (xorBytes block key)

end Sys2Proof.Machine
end

