-- ==== Sys2Proof/Machine/Crc.lean ====
section
/-! DEFINITION. The check codes of the spec: CRC-32 (R425), CRC-16/CCITT (R237) and CRC-8 (R350). -/

namespace Sys2Proof.Machine

/-- One bit step of the reflected CRC-32 with polynomial 0x04C1_1DB7. -/
def crc32Bit (c : Nat) : Nat := if c % 2 = 1 then (c / 2) ^^^ 0xEDB88320 else c / 2

/-- Eight bit steps after a byte has entered. -/
def crc32Byte (c b : Nat) : Nat := (List.range 8).foldl (fun a _ => crc32Bit a) (c ^^^ (b % 256))

/-- CRC-32 of a byte list (R425): initial value and final XOR 0xFFFF_FFFF, reflected. -/
def crc32 (l : List Nat) : Nat := (l.foldl crc32Byte 0xFFFFFFFF) ^^^ 0xFFFFFFFF

/-- CRC-32 of words, each taken as four bytes, least significant first (R425). -/
def crc32Words (l : List Nat) : Nat := crc32 (l.flatMap (bytesLE 4))

/-- One bit step of CRC-16/CCITT, polynomial 0x1021. -/
def crc16Bit (c : Nat) : Nat := if c / 32768 % 2 = 1 then (c * 2 % 65536) ^^^ 0x1021 else c * 2 % 65536

/-- One byte of CRC-16/CCITT. -/
def crc16Byte (c b : Nat) : Nat := (List.range 8).foldl (fun a _ => crc16Bit a) (c ^^^ (b % 256 * 256))

/-- CRC-16/CCITT: polynomial 0x1021, initial value 0xFFFF, no reflection, no final XOR (R237). -/
def crc16 (l : List Nat) : Nat := l.foldl crc16Byte 0xFFFF

/-- One bit step of CRC-8, polynomial 0x07. -/
def crc8Bit (c : Nat) : Nat := if c / 128 % 2 = 1 then (c * 2 % 256) ^^^ 0x07 else c * 2 % 256

/-- One byte of CRC-8. -/
def crc8Byte (c b : Nat) : Nat := (List.range 8).foldl (fun a _ => crc8Bit a) (c ^^^ (b % 256))

/-- CRC-8: polynomial 0x07, initial value 0x00, no reflection, no final XOR (R350). -/
def crc8 (l : List Nat) : Nat := l.foldl crc8Byte 0

end Sys2Proof.Machine
end

