-- ==== Sys2Proof/Machine/RegDefs.lean ====
section
/-! DEFINITION. The register map of the device as data: for each page kind, every register of the spec's register
tables with its fields, their access codes, logging classes (R4), reset values (R6) and stated ranges. -/

namespace Sys2Proof.Machine

/-- Access codes of *Access codes and logging classes* (R4). -/
inductive Access where
  | ro | rw | rwl | w1c | wo | rc
  deriving DecidableEq, Repr

/-- Logging classes of R4: configuration, setpoint, volatile. -/
inductive LogClass where
  | c | s | v
  deriving DecidableEq, Repr

/-- The blocks of *Page map* (R27), the recipe memory windows (R28) and the common page header (R29). -/
inductive PageKind where
  | chip | clock | transit | host | stream | twowire | fault | changelog | rtc | timer | otp | granary | hkseq
  | hkrail | backup | gauge | commons | ledger | estim | engctl | bank | chan | phase | eng | result
  | recipe | header
  deriving DecidableEq, Repr

/-- One field of a register. `rng` is the field's stated range where it is one interval of unsigned values; a range
that depends on other fields or is signed is checked by the page's own rule. -/
structure FieldDef where
  hi : Nat
  lo : Nat
  acc : Access
  cls : LogClass
  reset : Nat
  rng : Option (Nat × Nat)
  deriving DecidableEq, Repr

/-- One register, or an array of `cnt` registers `stride` bytes apart. Reserved bits have no field: they read 0. -/
structure RegDef where
  off : Nat
  cnt : Nat
  stride : Nat
  fields : List FieldDef
  deriving DecidableEq, Repr

/-- The registers of the common header of every page, from the register tables of 02_register_pages_and_change_log.md. -/
def headerRegs : List RegDef := [
  /- PAGE_ID -/ ⟨0x000, 1, 0, [⟨31, 16, .ro, .v, 0, none⟩, ⟨15, 8, .ro, .v, 0, none⟩, ⟨7, 0, .ro, .v, 1, none⟩]⟩,
  /- PAGE_STATUS -/ ⟨0x004, 1, 0, [⟨3, 3, .ro, .v, 0, none⟩, ⟨2, 2, .ro, .v, 0, none⟩, ⟨1, 1, .ro, .v, 0, none⟩, ⟨0, 0, .ro, .v, 0, none⟩]⟩,
  /- EVENT -/ ⟨0x008, 1, 0, [⟨26, 26, .w1c, .v, 0, none⟩, ⟨25, 25, .w1c, .v, 0, none⟩, ⟨24, 24, .w1c, .v, 0, none⟩, ⟨23, 0, .w1c, .v, 0, none⟩]⟩,
  /- EVENT_EN -/ ⟨0x00C, 1, 0, [⟨31, 0, .rw, .c, 0, none⟩]⟩,
  /- FAULT_LAST -/ ⟨0x010, 1, 0, [⟨31, 0, .ro, .v, 0, none⟩]⟩,
  /- SEVERITY_MAP -/ ⟨0x014, 3, 4, [⟨2, 0, .rwl, .c, 0, none⟩, ⟨5, 3, .rwl, .c, 0, none⟩, ⟨8, 6, .rwl, .c, 0, none⟩, ⟨11, 9, .rwl, .c, 0, none⟩, ⟨14, 12, .rwl, .c, 0, none⟩, ⟨17, 15, .rwl, .c, 0, none⟩, ⟨20, 18, .rwl, .c, 0, none⟩, ⟨23, 21, .rwl, .c, 0, none⟩, ⟨26, 24, .rwl, .c, 0, none⟩, ⟨29, 27, .rwl, .c, 0, none⟩]⟩,
  /- LOCK -/ ⟨0x020, 1, 0, [⟨31, 16, .wo, .c, 0, none⟩, ⟨9, 8, .ro, .c, 0, none⟩, ⟨2, 0, .wo, .c, 0, none⟩]⟩,
  /- CHANGE_SEQ -/ ⟨0x024, 1, 0, [⟨31, 0, .ro, .v, 0, none⟩]⟩]

/-- The registers of the CHIP page, from the register tables of 03_bring_up_and_reduced_service.md. -/
def chipRegs : List RegDef := [
  /- STATUS -/ ⟨0x040, 1, 0, [⟨23, 23, .ro, .v, 0, none⟩, ⟨22, 22, .ro, .v, 0, none⟩, ⟨21, 17, .ro, .v, 0, none⟩, ⟨16, 16, .ro, .v, 0, none⟩, ⟨14, 14, .ro, .v, 0, none⟩, ⟨13, 13, .ro, .v, 0, none⟩, ⟨12, 12, .ro, .v, 0, none⟩, ⟨11, 11, .ro, .v, 0, none⟩, ⟨10, 10, .ro, .v, 0, none⟩, ⟨9, 9, .ro, .v, 0, none⟩, ⟨8, 8, .ro, .v, 0, none⟩, ⟨2, 0, .ro, .v, 0, none⟩]⟩,
  /- RESET_CAUSE -/ ⟨0x044, 1, 0, [⟨6, 6, .w1c, .v, 0, none⟩, ⟨5, 5, .w1c, .v, 0, none⟩, ⟨4, 4, .w1c, .v, 0, none⟩, ⟨3, 3, .w1c, .v, 0, none⟩, ⟨2, 2, .w1c, .v, 0, none⟩, ⟨1, 1, .w1c, .v, 0, none⟩, ⟨0, 0, .w1c, .v, 1, none⟩]⟩,
  /- RESET_CMD -/ ⟨0x048, 1, 0, [⟨31, 16, .wo, .c, 0, none⟩, ⟨1, 0, .wo, .c, 0, none⟩]⟩,
  /- CONTROL -/ ⟨0x04C, 1, 0, [⟨0, 0, .wo, .c, 0, none⟩]⟩,
  /- START_CFG -/ ⟨0x050, 1, 0, [⟨15, 8, .rwl, .c, 10, none⟩, ⟨0, 0, .rwl, .c, 1, none⟩]⟩,
  /- START_TIME -/ ⟨0x054, 1, 0, [⟨31, 0, .ro, .v, 0, none⟩]⟩,
  /- WARM_COUNT -/ ⟨0x058, 1, 0, [⟨31, 0, .ro, .v, 0, none⟩]⟩,
  /- IDENT -/ ⟨0x05C, 1, 0, [⟨23, 16, .ro, .v, 0, none⟩, ⟨15, 8, .ro, .v, 8, none⟩, ⟨2, 0, .ro, .v, 0, none⟩]⟩]

/-- The registers of the CLOCK page, from the register tables of 04_clocks_and_the_transit.md. -/
def clockRegs : List RegDef := [
  /- REFCLK_CFG -/ ⟨0x040, 1, 0, [⟨15, 0, .rw, .c, 0x61A8, some (10000, 50000)⟩]⟩,
  /- HOLDOVER -/ ⟨0x044, 1, 0, [⟨3, 0, .rw, .c, 12, some (1, 12)⟩]⟩,
  /- STATUS -/ ⟨0x048, 1, 0, [⟨3, 3, .ro, .v, 0, none⟩, ⟨2, 2, .ro, .v, 0, none⟩, ⟨1, 1, .ro, .v, 0, none⟩, ⟨0, 0, .ro, .v, 0, none⟩]⟩,
  /- REFCLK_MEAS -/ ⟨0x04C, 1, 0, [⟨15, 0, .ro, .v, 0, none⟩]⟩,
  /- RC_MEAS -/ ⟨0x050, 1, 0, [⟨15, 0, .ro, .v, 0, none⟩]⟩,
  /- HOLD_COUNT -/ ⟨0x054, 1, 0, [⟨31, 0, .ro, .v, 0, none⟩]⟩,
  /- HOLD_MAX -/ ⟨0x058, 1, 0, [⟨31, 0, .ro, .v, 0, none⟩]⟩]

/-- The registers of the TRANSIT page, from the register tables of 04_clocks_and_the_transit.md. -/
def transitRegs : List RegDef := [
  /- CTRL -/ ⟨0x040, 1, 0, [⟨5, 4, .rw, .c, 1, none⟩, ⟨1, 0, .rw, .c, 0, some (0, 2)⟩]⟩,
  /- ALIGN_CFG -/ ⟨0x044, 1, 0, [⟨15, 8, .rw, .c, 40, none⟩, ⟨7, 0, .rw, .c, 0, none⟩]⟩,
  /- STATUS -/ ⟨0x048, 1, 0, [⟨4, 4, .ro, .v, 0, none⟩, ⟨3, 3, .ro, .v, 0, none⟩, ⟨2, 2, .ro, .v, 0, none⟩, ⟨1, 1, .ro, .v, 0, none⟩, ⟨0, 0, .ro, .v, 0, none⟩]⟩,
  /- SKEW -/ ⟨0x04C, 1, 0, [⟨15, 0, .ro, .v, 0, none⟩]⟩,
  /- SKEW_MAX -/ ⟨0x050, 1, 0, [⟨15, 0, .rc, .v, 0, none⟩]⟩,
  /- MISSED -/ ⟨0x054, 1, 0, [⟨31, 0, .ro, .v, 0, none⟩]⟩,
  /- OUT_OF_WIN -/ ⟨0x058, 1, 0, [⟨31, 0, .ro, .v, 0, none⟩]⟩,
  /- LAST_LEN -/ ⟨0x05C, 1, 0, [⟨15, 0, .ro, .v, 0, none⟩]⟩,
  /- FRAME_LO -/ ⟨0x060, 1, 0, [⟨31, 0, .ro, .v, 0, none⟩]⟩,
  /- FRAME_HI -/ ⟨0x064, 1, 0, [⟨31, 0, .ro, .v, 0, none⟩]⟩,
  /- MARK -/ ⟨0x068, 1, 0, [⟨0, 0, .wo, .v, 0, none⟩]⟩,
  /- MARK_LO -/ ⟨0x06C, 1, 0, [⟨31, 0, .ro, .v, 0, none⟩]⟩,
  /- MARK_HI -/ ⟨0x070, 1, 0, [⟨31, 0, .ro, .v, 0, none⟩]⟩,
  /- PWM_CFG -/ ⟨0x080, 1, 0, [⟨16, 16, .rw, .c, 1, none⟩, ⟨9, 0, .rw, .c, 400, some (200, 1000)⟩]⟩,
  /- SSC_CFG -/ ⟨0x084, 1, 0, [⟨16, 16, .rw, .c, 0, none⟩, ⟨14, 8, .rw, .c, 20, some (1, 100)⟩, ⟨6, 0, .rw, .c, 0, some (0, 120)⟩]⟩]

/-- The registers of the HOST page, from the register tables of 18_host_port_and_stream.md. -/
def hostRegs : List RegDef := [
  /- CFG -/ ⟨0x040, 1, 0, [⟨1, 1, .rw, .c, 1, none⟩, ⟨0, 0, .rw, .c, 1, none⟩]⟩,
  /- STATUS -/ ⟨0x044, 1, 0, [⟨1, 1, .ro, .v, 0, none⟩, ⟨0, 0, .ro, .v, 0, none⟩]⟩,
  /- LAST_RESP -/ ⟨0x048, 1, 0, [⟨15, 0, .ro, .v, 0, none⟩]⟩,
  /- LAST_BCAST -/ ⟨0x04C, 1, 0, [⟨15, 0, .ro, .v, 0, none⟩]⟩,
  /- FRAMES -/ ⟨0x050, 1, 0, [⟨31, 0, .ro, .v, 0, none⟩]⟩,
  /- BCASTS -/ ⟨0x054, 1, 0, [⟨31, 0, .ro, .v, 0, none⟩]⟩,
  /- CRC_ERR -/ ⟨0x058, 1, 0, [⟨31, 0, .ro, .v, 0, none⟩]⟩,
  /- BAD_FRAME -/ ⟨0x05C, 1, 0, [⟨31, 0, .ro, .v, 0, none⟩]⟩,
  /- ABORTED -/ ⟨0x060, 1, 0, [⟨31, 0, .ro, .v, 0, none⟩]⟩,
  /- DEFERRED -/ ⟨0x064, 1, 0, [⟨31, 0, .ro, .v, 0, none⟩]⟩,
  /- IRQ_INDEX -/ ⟨0x068, 1, 0, [⟨9, 0, .rw, .v, 0, none⟩]⟩,
  /- IRQ_NEXT -/ ⟨0x06C, 1, 0, [⟨31, 31, .ro, .v, 0, none⟩, ⟨9, 0, .ro, .v, 0, none⟩]⟩,
  /- IRQ_COUNT -/ ⟨0x070, 1, 0, [⟨9, 0, .ro, .v, 0, none⟩]⟩]

/-- The registers of the STREAM page, from the register tables of 18_host_port_and_stream.md. -/
def streamRegs : List RegDef := [
  /- CTRL -/ ⟨0x040, 1, 0, [⟨3, 0, .rw, .c, 0, none⟩]⟩,
  /- BUF_CFG -/ ⟨0x044, 1, 0, [⟨4, 0, .rw, .c, 4, some (0, 16)⟩, ⟨12, 8, .rw, .c, 4, some (0, 16)⟩, ⟨20, 16, .rw, .c, 4, some (0, 16)⟩, ⟨28, 24, .rw, .c, 4, some (0, 16)⟩]⟩,
  /- ROUTE -/ ⟨0x048, 1, 0, [⟨2, 2, .rw, .c, 1, none⟩, ⟨6, 6, .rw, .c, 1, none⟩, ⟨10, 10, .rw, .c, 1, none⟩, ⟨14, 14, .rw, .c, 0, none⟩, ⟨1, 0, .rw, .c, 0, none⟩, ⟨5, 4, .rw, .c, 1, none⟩, ⟨9, 8, .rw, .c, 2, none⟩, ⟨13, 12, .rw, .c, 0, none⟩]⟩,
  /- TELEM_CFG -/ ⟨0x04C, 1, 0, [⟨15, 0, .rw, .c, 20, some (1, 65535)⟩]⟩,
  /- TELEM_MASK -/ ⟨0x050, 1, 0, [⟨31, 0, .rw, .c, 0xFFFFFFFF, none⟩]⟩,
  /- STATUS -/ ⟨0x054, 1, 0, [⟨4, 4, .ro, .v, 0, none⟩, ⟨3, 0, .ro, .v, 0, none⟩]⟩,
  /- DROP_TOTAL -/ ⟨0x058, 1, 0, [⟨31, 0, .ro, .v, 0, none⟩]⟩,
  /- MARKS -/ ⟨0x080, 4, 32, [⟨24, 16, .rw, .c, 32, some (1, 256)⟩, ⟨8, 0, .rw, .c, 8, none⟩]⟩,
  /- FILL -/ ⟨0x084, 4, 32, [⟨12, 0, .ro, .v, 0, none⟩]⟩,
  /- SEQ -/ ⟨0x088, 4, 32, [⟨31, 0, .ro, .v, 0, none⟩]⟩,
  /- RETIRED_SEQ -/ ⟨0x08C, 4, 32, [⟨31, 0, .ro, .v, 0xFFFFFFFF, none⟩]⟩,
  /- RETIRE -/ ⟨0x090, 4, 32, [⟨31, 0, .wo, .v, 0, none⟩]⟩,
  /- REC_COUNT -/ ⟨0x094, 4, 32, [⟨31, 0, .ro, .v, 0, none⟩]⟩,
  /- WORD_COUNT -/ ⟨0x098, 4, 32, [⟨31, 0, .ro, .v, 0, none⟩]⟩,
  /- DATA -/ ⟨0x100, 4, 4, [⟨31, 0, .ro, .v, 0, none⟩]⟩,
  /- DROP -/ ⟨0x200, 42, 4, [⟨31, 0, .ro, .v, 0, none⟩]⟩]

/-- The registers of the TWOWIRE page, from the register tables of 19_two_wire_bus.md. -/
def twowireRegs : List RegDef := [
  /- CFG -/ ⟨0x040, 1, 0, [⟨8, 8, .rwl, .c, 0, none⟩, ⟨2, 0, .rw, .c, 6, none⟩]⟩,
  /- TIMING.0 -/ ⟨0x044, 1, 0, [⟨15, 8, .rwl, .c, 30, some (8, 255)⟩, ⟨7, 0, .rwl, .c, 12, some (0, 255)⟩]⟩,
  /- TIMING.1 -/ ⟨0x048, 1, 0, [⟨31, 16, .rwl, .c, 68, some (24, 1023)⟩, ⟨15, 0, .rwl, .c, 44, some (12, 1023)⟩]⟩,
  /- STATUS -/ ⟨0x04C, 1, 0, [⟨15, 4, .ro, .v, 0, none⟩, ⟨3, 0, .w1c, .v, 1, none⟩]⟩,
  /- LAST_CMD -/ ⟨0x050, 1, 0, [⟨31, 30, .ro, .v, 0, none⟩, ⟨15, 0, .ro, .v, 0, none⟩]⟩,
  /- CMDS -/ ⟨0x054, 1, 0, [⟨31, 0, .ro, .v, 0, none⟩]⟩,
  /- CMD_BAD -/ ⟨0x058, 1, 0, [⟨31, 0, .ro, .v, 0, none⟩]⟩,
  /- PEC_ERR -/ ⟨0x05C, 1, 0, [⟨31, 0, .ro, .v, 0, none⟩]⟩,
  /- READS -/ ⟨0x060, 1, 0, [⟨31, 0, .ro, .v, 0, none⟩]⟩,
  /- ARB_LOST -/ ⟨0x064, 1, 0, [⟨31, 0, .ro, .v, 0, none⟩]⟩,
  /- BUS_TIMEOUT -/ ⟨0x068, 1, 0, [⟨31, 0, .ro, .v, 0, none⟩]⟩]

/-- The registers of the FAULT page, from the register tables of 13_faults_and_safe_states.md. -/
def faultRegs : List RegDef := [
  /- CFG -/ ⟨0x040, 1, 0, [⟨10, 10, .rw, .c, 1, none⟩, ⟨9, 9, .rw, .c, 1, none⟩, ⟨6, 4, .rwl, .c, 3, some (1, 5)⟩, ⟨2, 0, .rwl, .c, 5, some (1, 5)⟩]⟩,
  /- STATUS -/ ⟨0x044, 1, 0, [⟨23, 23, .ro, .v, 0, none⟩, ⟨22, 22, .ro, .v, 0, none⟩, ⟨21, 21, .ro, .v, 1, none⟩, ⟨20, 20, .ro, .v, 0, none⟩, ⟨19, 19, .ro, .v, 0, none⟩, ⟨18, 16, .ro, .v, 0, none⟩, ⟨15, 8, .ro, .v, 0, none⟩]⟩,
  /- CLEAR -/ ⟨0x048, 1, 0, [⟨31, 31, .wo, .c, 0, none⟩, ⟨27, 16, .wo, .c, 0, none⟩, ⟨7, 0, .wo, .c, 0, none⟩]⟩,
  /- ACT_INDEX -/ ⟨0x04C, 1, 0, [⟨11, 0, .rw, .v, 0, none⟩]⟩,
  /- ACT_NEXT -/ ⟨0x050, 1, 0, [⟨31, 31, .ro, .v, 0, none⟩, ⟨27, 16, .ro, .v, 0, none⟩, ⟨2, 0, .ro, .v, 0, none⟩]⟩,
  /- ACT_SLOTS -/ ⟨0x054, 1, 0, [⟨30, 30, .ro, .v, 0, none⟩, ⟨29, 0, .ro, .v, 0, none⟩]⟩,
  /- ACT_COUNT -/ ⟨0x058, 1, 0, [⟨15, 0, .ro, .v, 0, none⟩]⟩,
  /- FIFO_FILL -/ ⟨0x060, 1, 0, [⟨6, 0, .ro, .v, 0, none⟩]⟩,
  /- FIFO_MSG -/ ⟨0x064, 1, 0, [⟨31, 0, .rc, .v, 0, none⟩]⟩,
  /- FIFO_FRAME -/ ⟨0x068, 1, 0, [⟨31, 0, .ro, .v, 0, none⟩]⟩,
  /- FIFO_SEC -/ ⟨0x06C, 1, 0, [⟨31, 0, .ro, .v, 0, none⟩]⟩,
  /- FIFO_LOST -/ ⟨0x070, 1, 0, [⟨31, 0, .ro, .v, 0, none⟩]⟩,
  /- MSG_COUNT -/ ⟨0x074, 1, 0, [⟨31, 0, .ro, .v, 0, none⟩]⟩,
  /- CRIER_TX -/ ⟨0x080, 1, 0, [⟨31, 0, .ro, .v, 0, none⟩]⟩,
  /- CRIER_LOST -/ ⟨0x084, 1, 0, [⟨31, 0, .ro, .v, 0, none⟩]⟩,
  /- CRIER_NOACK -/ ⟨0x088, 1, 0, [⟨31, 0, .ro, .v, 0, none⟩]⟩,
  /- CRIER_RX -/ ⟨0x08C, 1, 0, [⟨31, 0, .ro, .v, 0, none⟩]⟩,
  /- CRIER_BAD -/ ⟨0x090, 1, 0, [⟨31, 0, .ro, .v, 0, none⟩]⟩,
  /- CRIER_LAST_ID -/ ⟨0x094, 1, 0, [⟨2, 0, .ro, .v, 0, none⟩]⟩,
  /- CRIER_LAST_MSG -/ ⟨0x098, 1, 0, [⟨31, 0, .ro, .v, 0, none⟩]⟩,
  /- CRIER_LAST_SEC -/ ⟨0x09C, 1, 0, [⟨31, 0, .ro, .v, 0, none⟩]⟩,
  /- REC_CTRL -/ ⟨0x0A0, 1, 0, [⟨1, 1, .rw, .v, 0, none⟩, ⟨0, 0, .rw, .v, 0, none⟩]⟩,
  /- REC_SEQ -/ ⟨0x0A4, 1, 0, [⟨31, 0, .ro, .v, 0, none⟩]⟩,
  /- REC_SKIPPED -/ ⟨0x0A8, 1, 0, [⟨31, 0, .ro, .v, 0, none⟩]⟩,
  /- TEST_KEY -/ ⟨0x0C0, 1, 0, [⟨15, 0, .wo, .c, 0, none⟩]⟩,
  /- INJECT -/ ⟨0x0C4, 1, 0, [⟨31, 0, .wo, .c, 0, none⟩]⟩,
  /- INJECT_COUNT -/ ⟨0x0C8, 1, 0, [⟨31, 0, .ro, .v, 0, none⟩]⟩,
  /- RECORD -/ ⟨0x200, 128, 4, [⟨31, 0, .ro, .v, 0, none⟩]⟩]

/-- The registers of the CHANGELOG page, from the register tables of 02_register_pages_and_change_log.md. -/
def changelogRegs : List RegDef := [
  /- CTRL -/ ⟨0x040, 1, 0, [⟨13, 8, .rw, .c, 51, none⟩, ⟨1, 1, .rw, .c, 0, none⟩, ⟨0, 0, .rw, .c, 0, none⟩]⟩,
  /- HEAD -/ ⟨0x044, 1, 0, [⟨9, 0, .ro, .v, 0, none⟩]⟩,
  /- TAIL -/ ⟨0x048, 1, 0, [⟨9, 0, .rw, .v, 0, none⟩]⟩,
  /- FILL -/ ⟨0x04C, 1, 0, [⟨10, 0, .ro, .v, 0, none⟩]⟩,
  /- TOTAL -/ ⟨0x050, 1, 0, [⟨31, 0, .ro, .v, 0, none⟩]⟩,
  /- OVERFLOW -/ ⟨0x054, 1, 0, [⟨31, 0, .ro, .v, 0, none⟩]⟩,
  /- OVERWRITTEN -/ ⟨0x058, 1, 0, [⟨31, 0, .ro, .v, 0, none⟩]⟩,
  /- PERSIST_DROP -/ ⟨0x05C, 1, 0, [⟨31, 0, .ro, .v, 0, none⟩]⟩,
  /- RD_INDEX -/ ⟨0x060, 1, 0, [⟨9, 0, .rw, .v, 0, none⟩]⟩,
  /- ENTRY -/ ⟨0x064, 6, 4, [⟨31, 0, .ro, .v, 0, none⟩]⟩]

/-- The registers of the RTC page, from the register tables of 16_real_time_clock_and_timers.md. -/
def rtcRegs : List RegDef := [
  /- CTRL -/ ⟨0x040, 1, 0, [⟨0, 0, .rw, .c, 0, none⟩]⟩,
  /- STATUS -/ ⟨0x044, 1, 0, [⟨4, 4, .ro, .v, 0, none⟩, ⟨3, 3, .w1c, .v, 0, none⟩, ⟨2, 2, .w1c, .v, 0, none⟩, ⟨1, 1, .w1c, .v, 0, none⟩, ⟨0, 0, .w1c, .v, 1, none⟩]⟩,
  /- TIME_SEC -/ ⟨0x048, 1, 0, [⟨31, 0, .rw, .c, 0, none⟩]⟩,
  /- SUBSEC -/ ⟨0x04C, 1, 0, [⟨14, 0, .ro, .v, 0, none⟩]⟩,
  /- CAL_TIME -/ ⟨0x050, 1, 0, [⟨20, 16, .rw, .c, 0, some (0, 23)⟩, ⟨13, 8, .rw, .c, 0, some (0, 59)⟩, ⟨5, 0, .rw, .c, 0, some (0, 59)⟩]⟩,
  /- CAL_DATE -/ ⟨0x054, 1, 0, [⟨31, 24, .rw, .c, 0, some (0, 136)⟩, ⟨19, 16, .rw, .c, 1, some (1, 12)⟩, ⟨12, 8, .rw, .c, 1, some (1, 31)⟩, ⟨2, 0, .ro, .v, 6, none⟩]⟩,
  /- ALARM -/ ⟨0x058, 1, 0, [⟨31, 0, .rw, .c, 0, none⟩]⟩,
  /- ALARM_CTRL -/ ⟨0x05C, 1, 0, [⟨0, 0, .rw, .c, 0, none⟩]⟩,
  /- WAKE_CFG -/ ⟨0x060, 1, 0, [⟨16, 16, .ro, .v, 0, none⟩, ⟨15, 8, .rw, .c, 10, some (1, 255)⟩, ⟨3, 3, .wo, .c, 0, none⟩, ⟨2, 2, .rw, .c, 0, none⟩, ⟨1, 1, .rw, .c, 0, none⟩, ⟨0, 0, .rw, .c, 0, none⟩]⟩,
  /- TRIM -/ ⟨0x064, 1, 0, [⟨10, 0, .rw, .c, 0, none⟩]⟩,
  /- TRIM_MEAS -/ ⟨0x068, 1, 0, [⟨17, 16, .ro, .v, 0, none⟩, ⟨14, 8, .rw, .c, 16, some (1, 64)⟩, ⟨1, 1, .rw, .c, 0, none⟩, ⟨0, 0, .wo, .c, 0, none⟩]⟩,
  /- MEAS_COUNT_LO -/ ⟨0x06C, 1, 0, [⟨31, 0, .ro, .v, 0, none⟩]⟩,
  /- MEAS_COUNT_HI -/ ⟨0x070, 1, 0, [⟨31, 0, .ro, .v, 0, none⟩]⟩,
  /- MEAS_ERR -/ ⟨0x074, 1, 0, [⟨31, 0, .ro, .v, 0, none⟩]⟩,
  /- MEAS_SUGGEST -/ ⟨0x078, 1, 0, [⟨10, 0, .ro, .v, 0, none⟩]⟩,
  /- TRICKLE -/ ⟨0x07C, 1, 0, [⟨5, 4, .rw, .c, 0, some (0, 2)⟩, ⟨3, 2, .rw, .c, 2, some (0, 2)⟩, ⟨0, 0, .rw, .c, 0, none⟩]⟩,
  /- OSC_STOPS -/ ⟨0x080, 1, 0, [⟨31, 0, .ro, .v, 0, none⟩]⟩]

/-- The registers of the TIMER page, from the register tables of 16_real_time_clock_and_timers.md. -/
def timerRegs : List RegDef := [
  /- TICK_LO -/ ⟨0x040, 1, 0, [⟨31, 0, .ro, .v, 0, none⟩]⟩,
  /- TICK_HI -/ ⟨0x044, 1, 0, [⟨23, 0, .ro, .v, 0, none⟩]⟩,
  /- GPIO_CFG -/ ⟨0x048, 1, 0, [⟨2, 2, .rw, .c, 0, none⟩, ⟨6, 6, .rw, .c, 0, none⟩, ⟨10, 10, .rw, .c, 0, none⟩, ⟨14, 14, .rw, .c, 0, none⟩, ⟨0, 0, .rw, .c, 0, none⟩, ⟨4, 4, .rw, .c, 0, none⟩, ⟨8, 8, .rw, .c, 0, none⟩, ⟨12, 12, .rw, .c, 0, none⟩]⟩,
  /- GPIO_LEVEL -/ ⟨0x04C, 1, 0, [⟨3, 0, .ro, .v, 0, none⟩]⟩,
  /- CMP_LO -/ ⟨0x080, 8, 16, [⟨31, 0, .rw, .c, 0, none⟩]⟩,
  /- CMP_HI -/ ⟨0x084, 8, 16, [⟨23, 0, .rw, .c, 0, none⟩]⟩,
  /- CMP_CTRL -/ ⟨0x088, 8, 16, [⟨31, 31, .ro, .v, 0, none⟩, ⟨30, 30, .ro, .v, 0, none⟩, ⟨23, 8, .rw, .c, 1, some (1, 65535)⟩, ⟨7, 6, .rw, .c, 0, none⟩, ⟨5, 3, .rw, .c, 0, some (0, 4)⟩, ⟨0, 0, .rw, .c, 0, none⟩]⟩,
  /- CAP_LO -/ ⟨0x100, 4, 16, [⟨31, 0, .ro, .v, 0, none⟩]⟩,
  /- CAP_HI -/ ⟨0x104, 4, 16, [⟨23, 0, .ro, .v, 0, none⟩]⟩,
  /- CAP_CTRL -/ ⟨0x108, 4, 16, [⟨9, 9, .w1c, .v, 0, none⟩, ⟨8, 8, .ro, .v, 0, none⟩, ⟨6, 4, .rw, .c, 0, some (0, 5)⟩, ⟨2, 1, .rw, .c, 1, some (1, 3)⟩, ⟨0, 0, .rw, .c, 0, none⟩]⟩]

/-- The registers of the OTP page, from the register tables of 17_otp_and_the_granary.md. -/
def otpRegs : List RegDef := [
  /- REGION_STATUS -/ ⟨0x040, 1, 0, [⟨9, 0, .ro, .v, 0, none⟩]⟩,
  /- PROG_ADDR -/ ⟨0x044, 1, 0, [⟨7, 0, .rwl, .c, 0, none⟩]⟩,
  /- PROG_DATA -/ ⟨0x048, 1, 0, [⟨31, 0, .rwl, .c, 0, none⟩]⟩,
  /- PROG_CMD -/ ⟨0x04C, 1, 0, [⟨31, 16, .wo, .c, 0, none⟩, ⟨6, 4, .wo, .c, 0, none⟩, ⟨1, 0, .wo, .c, 0, none⟩]⟩,
  /- PROG_STATUS -/ ⟨0x050, 1, 0, [⟨31, 16, .ro, .v, 0, none⟩, ⟨11, 8, .ro, .v, 0, none⟩, ⟨4, 4, .ro, .v, 0, none⟩, ⟨3, 0, .ro, .v, 0, none⟩]⟩,
  /- READ_ADDR -/ ⟨0x054, 1, 0, [⟨7, 0, .rwl, .v, 0, none⟩]⟩,
  /- READ_DATA -/ ⟨0x058, 1, 0, [⟨31, 0, .ro, .v, 0, none⟩]⟩,
  /- PROG_COUNT -/ ⟨0x05C, 1, 0, [⟨31, 0, .ro, .v, 0, none⟩]⟩,
  /- CUST_IGNORED -/ ⟨0x060, 1, 0, [⟨31, 0, .ro, .v, 0, none⟩]⟩,
  /- SERIAL_LO -/ ⟨0x064, 1, 0, [⟨31, 0, .ro, .v, 0, none⟩]⟩,
  /- SERIAL_HI -/ ⟨0x068, 1, 0, [⟨31, 0, .ro, .v, 0, none⟩]⟩,
  /- LOT -/ ⟨0x06C, 1, 0, [⟨31, 0, .ro, .v, 0, none⟩]⟩,
  /- WAFER_XY -/ ⟨0x070, 1, 0, [⟨31, 0, .ro, .v, 0, none⟩]⟩]

/-- The registers of the GRANARY page, from the register tables of 17_otp_and_the_granary.md. -/
def granaryRegs : List RegDef := [
  /- STATUS -/ ⟨0x040, 1, 0, [⟨31, 16, .ro, .v, 0, none⟩, ⟨3, 3, .ro, .v, 0, none⟩, ⟨2, 2, .ro, .v, 0, none⟩, ⟨1, 1, .ro, .v, 0, none⟩, ⟨0, 0, .ro, .v, 0, none⟩]⟩,
  /- WEAR_MAX -/ ⟨0x044, 1, 0, [⟨31, 0, .ro, .v, 0, none⟩]⟩,
  /- WEAR_MIN -/ ⟨0x048, 1, 0, [⟨31, 0, .ro, .v, 0, none⟩]⟩,
  /- RETIRED -/ ⟨0x04C, 1, 0, [⟨31, 0, .ro, .v, 0, none⟩]⟩,
  /- COMMITS -/ ⟨0x050, 1, 0, [⟨31, 0, .ro, .v, 0, none⟩]⟩,
  /- FALLBACKS -/ ⟨0x054, 1, 0, [⟨31, 0, .ro, .v, 0, none⟩]⟩,
  /- EMERG_COUNT -/ ⟨0x058, 1, 0, [⟨31, 0, .ro, .v, 0, none⟩]⟩,
  /- LOG_FIRST -/ ⟨0x05C, 1, 0, [⟨31, 0, .ro, .v, 0, none⟩]⟩,
  /- LOG_LAST -/ ⟨0x060, 1, 0, [⟨31, 0, .ro, .v, 0, none⟩]⟩,
  /- WIN_SEL -/ ⟨0x064, 1, 0, [⟨31, 30, .rw, .v, 0, some (0, 2)⟩, ⟨29, 0, .rw, .v, 0, none⟩]⟩,
  /- CUST_CMD -/ ⟨0x068, 1, 0, [⟨31, 31, .wo, .c, 0, none⟩, ⟨24, 16, .wo, .c, 0, none⟩, ⟨4, 0, .wo, .c, 0, none⟩]⟩,
  /- CUST_STATUS -/ ⟨0x06C, 1, 0, [⟨31, 8, .ro, .v, 0, none⟩, ⟨3, 0, .ro, .v, 0, none⟩]⟩,
  /- WINDOW -/ ⟨0x200, 128, 4, [⟨31, 0, .rw, .v, 0, none⟩]⟩]

/-- The registers of the HKSEQ page, from the register tables of 14_housekeeping_rails_and_sequencing.md. -/
def hkseqRegs : List RegDef := [
  /- CFG -/ ⟨0x040, 1, 0, [⟨9, 8, .rwl, .c, 0, some (0, 3)⟩, ⟨5, 0, .rwl, .c, 4, some (1, 63)⟩]⟩,
  /- CMD -/ ⟨0x044, 1, 0, [⟨31, 16, .wo, .c, 0, none⟩, ⟨1, 0, .wo, .c, 0, none⟩]⟩,
  /- STATUS -/ ⟨0x048, 1, 0, [⟨29, 28, .ro, .v, 0, none⟩, ⟨27, 27, .ro, .v, 0, none⟩, ⟨26, 24, .ro, .v, 0, none⟩, ⟨23, 20, .ro, .v, 0, none⟩, ⟨17, 16, .ro, .v, 0, none⟩, ⟨13, 8, .ro, .v, 0, none⟩, ⟨7, 0, .ro, .v, 0, none⟩]⟩,
  /- RAIL_SEQ -/ ⟨0x050, 4, 4, [⟨30, 30, .rwl, .c, 1, none⟩, ⟨29, 24, .rwl, .c, 0, some (0, 63)⟩, ⟨21, 16, .rwl, .c, 0, some (0, 63)⟩, ⟨15, 8, .rwl, .c, 10, some (1, 255)⟩, ⟨7, 0, .rwl, .c, 5, some (1, 255)⟩]⟩,
  /- RST_CFG -/ ⟨0x060, 2, 4, [⟨19, 16, .rwl, .c, 0, none⟩, ⟨7, 0, .rwl, .c, 0, some (1, 200)⟩]⟩,
  /- OFF_RESULT -/ ⟨0x068, 1, 0, [⟨7, 0, .ro, .v, 0, none⟩]⟩,
  /- UP_COUNT -/ ⟨0x06C, 1, 0, [⟨31, 0, .ro, .v, 0, none⟩]⟩,
  /- ABORT_COUNT -/ ⟨0x070, 1, 0, [⟨31, 0, .ro, .v, 0, none⟩]⟩,
  /- LAST_UP_US -/ ⟨0x074, 1, 0, [⟨31, 0, .ro, .v, 0, none⟩]⟩]

/-- The registers of the HKRAIL page, from the register tables of 14_housekeeping_rails_and_sequencing.md. -/
def hkrailRegs : List RegDef := [
  /- CTRL -/ ⟨0x040, 4, 32, [⟨1, 1, .rw, .c, 1, none⟩, ⟨0, 0, .rw, .c, 0, none⟩]⟩,
  /- VSET -/ ⟨0x044, 4, 32, [⟨15, 0, .rw, .c, 0, none⟩]⟩,
  /- SS_SLEW -/ ⟨0x048, 4, 32, [⟨31, 16, .rw, .c, 10, some (1, 1000)⟩, ⟨7, 0, .rw, .c, 0, some (1, 100)⟩]⟩,
  /- LIMIT -/ ⟨0x04C, 4, 32, [⟨31, 24, .rwl, .c, 20, some (1, 255)⟩, ⟨23, 16, .rwl, .c, 10, some (5, 50)⟩, ⟨15, 0, .rwl, .c, 0, none⟩]⟩,
  /- STATUS -/ ⟨0x050, 4, 32, [⟨6, 6, .ro, .v, 0, none⟩, ⟨5, 5, .ro, .v, 0, none⟩, ⟨4, 4, .ro, .v, 0, none⟩, ⟨3, 3, .ro, .v, 1, none⟩, ⟨2, 2, .ro, .v, 0, none⟩, ⟨1, 1, .ro, .v, 0, none⟩, ⟨0, 0, .ro, .v, 0, none⟩]⟩,
  /- VREF -/ ⟨0x054, 4, 32, [⟨15, 0, .ro, .v, 0, none⟩]⟩,
  /- VOUT -/ ⟨0x058, 4, 32, [⟨15, 0, .ro, .v, 0, none⟩]⟩,
  /- SLEW_RETARGET -/ ⟨0x05C, 4, 32, [⟨31, 0, .rc, .v, 0, none⟩]⟩,
  /- VIN -/ ⟨0x0C0, 1, 0, [⟨15, 0, .ro, .v, 0, none⟩]⟩,
  /- VSYS -/ ⟨0x0C4, 1, 0, [⟨15, 0, .ro, .v, 0, none⟩]⟩,
  /- VBAK -/ ⟨0x0C8, 1, 0, [⟨15, 0, .ro, .v, 0, none⟩]⟩,
  /- VBK -/ ⟨0x0CC, 1, 0, [⟨15, 0, .ro, .v, 0, none⟩]⟩,
  /- DIE -/ ⟨0x0D0, 4, 4, [⟨15, 0, .ro, .v, 0, none⟩]⟩,
  /- DERATE -/ ⟨0x0E0, 1, 0, [⟨7, 0, .rwl, .c, 70, some (50, 100)⟩]⟩,
  /- TS_CFG -/ ⟨0x0E4, 1, 0, [⟨31, 16, .rw, .c, 0xD6B, some (2000, 6000)⟩, ⟨15, 0, .rw, .c, 0x3E8, some (100, 10000)⟩]⟩,
  /- CELL_T -/ ⟨0x100, 32, 4, [⟨31, 31, .ro, .v, 0, none⟩, ⟨15, 0, .ro, .v, 0, none⟩]⟩]

/-- The registers of the BACKUP page, from the register tables of 15_backup_pack_and_power_path.md. -/
def backupRegs : List RegDef := [
  /- VIN_TH -/ ⟨0x040, 1, 0, [⟨31, 16, .rwl, .c, 0x1F40, none⟩, ⟨15, 0, .rwl, .c, 0x1B58, some (6000, 38000)⟩]⟩,
  /- PATH_CFG -/ ⟨0x044, 1, 0, [⟨31, 24, .rwl, .c, 5, some (1, 255)⟩, ⟨16, 16, .rwl, .c, 1, none⟩, ⟨15, 0, .rwl, .c, 0x2710, some (9000, 14000)⟩]⟩,
  /- IIN_LIM -/ ⟨0x048, 1, 0, [⟨15, 0, .rw, .c, 400, some (50, 800)⟩]⟩,
  /- CHG_CFG -/ ⟨0x04C, 1, 0, [⟨31, 31, .rw, .c, 1, none⟩, ⟨28, 28, .rwl, .c, 1, none⟩, ⟨23, 16, .rw, .c, 10, some (2, 50)⟩, ⟨15, 0, .rw, .c, 0x3E8, some (100, 2000)⟩]⟩,
  /- CHG_TIMER -/ ⟨0x050, 1, 0, [⟨23, 16, .rw, .c, 10, some (5, 30)⟩, ⟨15, 0, .rw, .c, 600, some (30, 1440)⟩]⟩,
  /- SHUT_CFG -/ ⟨0x054, 1, 0, [⟨31, 24, .rwl, .c, 20, some (5, 50)⟩, ⟨23, 16, .rwl, .c, 10, some (0, 50)⟩, ⟨15, 0, .rwl, .c, 0xBB8, some (2500, 3400)⟩]⟩,
  /- TS_CFG -/ ⟨0x058, 1, 0, [⟨31, 16, .rw, .c, 0xD6B, some (2000, 6000)⟩, ⟨15, 0, .rw, .c, 0x3E8, some (100, 10000)⟩]⟩,
  /- ZONE_HYST -/ ⟨0x05C, 1, 0, [⟨7, 0, .rw, .c, 20, some (0, 100)⟩]⟩,
  /- ZONE -/ ⟨0x060, 5, 4, [⟨31, 16, .rw, .c, 0, none⟩, ⟨15, 8, .rw, .c, 0, none⟩]⟩,
  /- ZONE_V -/ ⟨0x080, 5, 4, [⟨15, 0, .rw, .c, 0, some (3600, 4350)⟩]⟩,
  /- PATH_STATUS -/ ⟨0x0A0, 1, 0, [⟨6, 6, .ro, .v, 0, none⟩, ⟨5, 5, .ro, .v, 0, none⟩, ⟨4, 4, .ro, .v, 0, none⟩, ⟨3, 3, .ro, .v, 0, none⟩, ⟨2, 0, .ro, .v, 0, none⟩]⟩,
  /- CHG_STATUS -/ ⟨0x0A4, 1, 0, [⟨10, 10, .ro, .v, 0, none⟩, ⟨9, 9, .ro, .v, 0, none⟩, ⟨8, 8, .ro, .v, 0, none⟩, ⟨6, 4, .ro, .v, 0, none⟩, ⟨3, 0, .ro, .v, 0, none⟩]⟩,
  /- PACK_T -/ ⟨0x0A8, 1, 0, [⟨31, 31, .ro, .v, 0, none⟩, ⟨15, 0, .ro, .v, 0, none⟩]⟩,
  /- CHG_TIME -/ ⟨0x0AC, 1, 0, [⟨15, 0, .ro, .v, 0, none⟩]⟩,
  /- HANDOVERS -/ ⟨0x0B0, 1, 0, [⟨31, 0, .ro, .v, 0, none⟩]⟩,
  /- LAST_OUTAGE -/ ⟨0x0B4, 1, 0, [⟨31, 0, .ro, .v, 0, none⟩]⟩,
  /- AUTH_CFG -/ ⟨0x0B8, 1, 0, [⟨31, 31, .rwl, .c, 0, none⟩, ⟨6, 0, .rwl, .c, 54, none⟩]⟩,
  /- AUTH_CMD -/ ⟨0x0BC, 1, 0, [⟨0, 0, .wo, .c, 0, none⟩]⟩]

/-- The registers of the GAUGE page, from the register tables of 15_backup_pack_and_power_path.md. -/
def gaugeRegs : List RegDef := [
  /- DESIGN_CAP -/ ⟨0x040, 1, 0, [⟨23, 0, .rwl, .c, 0xBB8, some (100, 20000)⟩]⟩,
  /- GAUGE_CFG -/ ⟨0x044, 1, 0, [⟨31, 16, .rwl, .c, 0x3E8, some (100, 5000)⟩, ⟨15, 8, .rw, .c, 15, some (5, 50)⟩, ⟨7, 0, .rw, .c, 30, some (5, 240)⟩]⟩,
  /- CMD -/ ⟨0x048, 1, 0, [⟨31, 16, .wo, .c, 0, none⟩, ⟨0, 0, .wo, .c, 0, none⟩]⟩,
  /- SOC -/ ⟨0x04C, 1, 0, [⟨31, 16, .ro, .v, 0, none⟩, ⟨15, 0, .ro, .v, 0, none⟩]⟩,
  /- STATUS -/ ⟨0x050, 1, 0, [⟨8, 8, .ro, .v, 0, none⟩, ⟨7, 7, .ro, .v, 0, none⟩, ⟨6, 6, .ro, .v, 0, none⟩, ⟨5, 5, .ro, .v, 0, none⟩, ⟨4, 4, .ro, .v, 0, none⟩, ⟨3, 3, .ro, .v, 0, none⟩, ⟨2, 2, .ro, .v, 0, none⟩, ⟨1, 0, .ro, .v, 0, none⟩]⟩,
  /- Q_RAW -/ ⟨0x054, 1, 0, [⟨31, 0, .ro, .v, 0, none⟩]⟩,
  /- FCC -/ ⟨0x058, 1, 0, [⟨31, 0, .ro, .v, 0, none⟩]⟩,
  /- Q_UNUSABLE -/ ⟨0x05C, 1, 0, [⟨31, 0, .ro, .v, 0, none⟩]⟩,
  /- PACK_I -/ ⟨0x060, 1, 0, [⟨31, 0, .ro, .v, 0, none⟩]⟩,
  /- LOAD_AVG -/ ⟨0x064, 1, 0, [⟨31, 0, .ro, .v, 0, none⟩]⟩,
  /- CYCLES -/ ⟨0x068, 1, 0, [⟨31, 0, .ro, .v, 0, none⟩]⟩,
  /- LEARN_COUNT -/ ⟨0x06C, 1, 0, [⟨31, 0, .ro, .v, 0, none⟩]⟩,
  /- IMP -/ ⟨0x070, 8, 4, [⟨31, 31, .ro, .v, 0, none⟩, ⟨15, 0, .ro, .v, 0, none⟩]⟩,
  /- OCV -/ ⟨0x0A0, 11, 4, [⟨15, 0, .rw, .c, 0, none⟩]⟩]

/-- The registers of the COMMONS page, from the register tables of 12_the_commons_power_budget.md. -/
def commonsRegs : List RegDef := [
  /- CFG -/ ⟨0x040, 1, 0, [⟨31, 16, .rw, .c, 0x7D0, some (1, 65535)⟩, ⟨11, 8, .rw, .c, 2, some (1, 15)⟩, ⟨0, 0, .rw, .c, 1, none⟩]⟩,
  /- STARVE_CFG -/ ⟨0x044, 1, 0, [⟨23, 16, .rw, .c, 20, some (1, 255)⟩, ⟨15, 0, .rw, .c, 0x7D0, some (1, 65535)⟩]⟩,
  /- FLOOR -/ ⟨0x048, 1, 0, [⟨15, 0, .rw, .c, 0, none⟩]⟩,
  /- STATUS -/ ⟨0x04C, 1, 0, [⟨15, 8, .ro, .v, 0, none⟩, ⟨7, 7, .ro, .v, 0, none⟩, ⟨6, 6, .ro, .v, 0, none⟩, ⟨5, 5, .ro, .v, 0, none⟩, ⟨4, 4, .ro, .v, 0, none⟩, ⟨3, 3, .ro, .v, 0, none⟩, ⟨2, 2, .ro, .v, 1, none⟩, ⟨1, 1, .ro, .v, 0, none⟩, ⟨0, 0, .ro, .v, 0, none⟩]⟩,
  /- HELD -/ ⟨0x050, 1, 0, [⟨31, 0, .ro, .v, 0, none⟩]⟩,
  /- PURSE -/ ⟨0x054, 1, 0, [⟨31, 0, .ro, .v, 0, none⟩]⟩,
  /- NEED -/ ⟨0x058, 1, 0, [⟨31, 0, .ro, .v, 0, none⟩]⟩,
  /- DEMAND -/ ⟨0x05C, 1, 0, [⟨15, 0, .ro, .v, 0, none⟩]⟩,
  /- BANK -/ ⟨0x060, 8, 4, [⟨31, 16, .ro, .v, 0, none⟩, ⟨15, 0, .ro, .v, 0, none⟩]⟩,
  /- LOAN_LAST -/ ⟨0x080, 1, 0, [⟨31, 16, .ro, .v, 0, none⟩, ⟨15, 0, .ro, .v, 0, none⟩]⟩,
  /- GRANTED -/ ⟨0x084, 1, 0, [⟨31, 0, .ro, .v, 0, none⟩]⟩,
  /- RETURNED -/ ⟨0x088, 1, 0, [⟨31, 0, .ro, .v, 0, none⟩]⟩,
  /- STARVE_COUNT -/ ⟨0x08C, 1, 0, [⟨31, 0, .ro, .v, 0, none⟩]⟩,
  /- BREAK_COUNT -/ ⟨0x090, 1, 0, [⟨31, 0, .ro, .v, 0, none⟩]⟩,
  /- CRC_ERR -/ ⟨0x094, 1, 0, [⟨31, 0, .ro, .v, 0, none⟩]⟩,
  /- BORROW_COUNT -/ ⟨0x098, 1, 0, [⟨31, 0, .ro, .v, 0, none⟩]⟩,
  /- OVERDRAW -/ ⟨0x09C, 1, 0, [⟨31, 0, .ro, .v, 0, none⟩]⟩,
  /- ISSUE_SEEN -/ ⟨0x0A0, 1, 0, [⟨3, 0, .ro, .v, 0, none⟩]⟩,
  /- TOTAL -/ ⟨0x100, 1, 0, [⟨31, 0, .ro, .v, 0, none⟩]⟩,
  /- RESERVE -/ ⟨0x104, 1, 0, [⟨31, 0, .ro, .v, 0, none⟩]⟩,
  /- ISSUE -/ ⟨0x108, 1, 0, [⟨31, 0, .ro, .v, 0, none⟩]⟩,
  /- NEW_TOTAL -/ ⟨0x10C, 1, 0, [⟨31, 0, .rwl, .c, 0, none⟩]⟩,
  /- REISSUE -/ ⟨0x110, 1, 0, [⟨31, 16, .wo, .c, 0, none⟩, ⟨15, 8, .wo, .c, 0, none⟩, ⟨0, 0, .wo, .c, 0, none⟩]⟩,
  /- LEND_MAX -/ ⟨0x114, 1, 0, [⟨15, 0, .rwl, .c, 0, none⟩]⟩,
  /- PRESENT -/ ⟨0x118, 1, 0, [⟨15, 8, .ro, .v, 0, none⟩, ⟨7, 0, .ro, .v, 0, none⟩]⟩,
  /- LAST_SETTLE -/ ⟨0x11C, 1, 0, [⟨31, 0, .ro, .v, 0, none⟩]⟩,
  /- START -/ ⟨0x120, 1, 0, [⟨2, 0, .ro, .v, 0, none⟩]⟩,
  /- CLOSURES -/ ⟨0x124, 1, 0, [⟨31, 0, .ro, .v, 0, none⟩]⟩,
  /- QUOTA -/ ⟨0x140, 8, 4, [⟨15, 0, .rwl, .c, 0, none⟩]⟩,
  /- VIEW -/ ⟨0x160, 8, 4, [⟨31, 0, .ro, .v, 0, none⟩]⟩,
  /- GPURSE -/ ⟨0x180, 8, 4, [⟨19, 18, .ro, .v, 0, none⟩, ⟨17, 16, .ro, .v, 0, none⟩, ⟨15, 0, .ro, .v, 0, none⟩]⟩]

/-- The registers of the LEDGER page, from the register tables of 08_the_charge_ledger.md. -/
def ledgerRegs : List RegDef := [
  /- CKPT_CFG -/ ⟨0x040, 1, 0, [⟨15, 0, .rw, .c, 0x4B0, some (20, 65535)⟩]⟩,
  /- CMD -/ ⟨0x044, 1, 0, [⟨1, 1, .wo, .c, 0, none⟩, ⟨0, 0, .wo, .v, 0, none⟩]⟩,
  /- STATUS -/ ⟨0x048, 1, 0, [⟨3, 3, .ro, .v, 0, none⟩, ⟨2, 2, .ro, .v, 0, none⟩, ⟨1, 1, .ro, .v, 0, none⟩, ⟨0, 0, .ro, .v, 0, none⟩]⟩,
  /- CKPT_STATUS -/ ⟨0x04C, 1, 0, [⟨7, 4, .ro, .v, 0, none⟩, ⟨3, 0, .ro, .v, 0, none⟩]⟩,
  /- COVERAGE_LO -/ ⟨0x050, 1, 0, [⟨31, 0, .ro, .v, 0, none⟩]⟩,
  /- COVERAGE_HI -/ ⟨0x054, 1, 0, [⟨31, 0, .ro, .v, 0, none⟩]⟩,
  /- GAP_LO -/ ⟨0x058, 1, 0, [⟨31, 0, .ro, .v, 0, none⟩]⟩,
  /- GAP_HI -/ ⟨0x05C, 1, 0, [⟨31, 0, .ro, .v, 0, none⟩]⟩,
  /- EPOCH_LO -/ ⟨0x060, 1, 0, [⟨31, 0, .ro, .v, 0, none⟩]⟩,
  /- EPOCH_HI -/ ⟨0x064, 1, 0, [⟨31, 0, .ro, .v, 0, none⟩]⟩,
  /- EPOCH_SEC -/ ⟨0x068, 1, 0, [⟨31, 0, .ro, .v, 0, none⟩]⟩,
  /- GAP_EVENTS -/ ⟨0x06C, 1, 0, [⟨31, 0, .ro, .v, 0, none⟩]⟩,
  /- LAST_GAP_START -/ ⟨0x070, 1, 0, [⟨31, 0, .ro, .v, 0, none⟩]⟩,
  /- LAST_GAP_LEN -/ ⟨0x074, 1, 0, [⟨31, 0, .ro, .v, 0, none⟩]⟩,
  /- CKPT_FRAME_LO -/ ⟨0x078, 1, 0, [⟨31, 0, .ro, .v, 0, none⟩]⟩,
  /- CKPT_FRAME_HI -/ ⟨0x07C, 1, 0, [⟨31, 0, .ro, .v, 0, none⟩]⟩,
  /- CKPT_COUNT -/ ⟨0x080, 1, 0, [⟨31, 0, .ro, .v, 0, none⟩]⟩,
  /- CKPT_FAIL -/ ⟨0x084, 1, 0, [⟨31, 0, .ro, .v, 0, none⟩]⟩,
  /- SNAP_FRAME_LO -/ ⟨0x088, 1, 0, [⟨31, 0, .ro, .v, 0, none⟩]⟩,
  /- SNAP_FRAME_HI -/ ⟨0x08C, 1, 0, [⟨31, 0, .ro, .v, 0, none⟩]⟩,
  /- SAT_COUNT -/ ⟨0x090, 1, 0, [⟨31, 0, .ro, .v, 0, none⟩]⟩,
  /- LOSS_P0 -/ ⟨0x100, 8, 64, [⟨15, 0, .rw, .c, 0, none⟩]⟩,
  /- LOSS_A -/ ⟨0x104, 8, 64, [⟨15, 0, .rw, .c, 0, none⟩]⟩,
  /- LOSS_B -/ ⟨0x108, 8, 64, [⟨15, 0, .rw, .c, 0, none⟩]⟩,
  /- BAL_CFG -/ ⟨0x10C, 8, 64, [⟨31, 31, .rw, .c, 0, none⟩, ⟨27, 24, .rw, .c, 2, some (1, 15)⟩, ⟨19, 16, .rw, .c, 10, some (4, 14)⟩, ⟨15, 8, .rw, .c, 20, some (1, 255)⟩]⟩,
  /- ABS_TOL -/ ⟨0x110, 8, 64, [⟨15, 0, .rw, .c, 500, some (1, 65535)⟩]⟩,
  /- BAL_STATUS -/ ⟨0x114, 8, 64, [⟨31, 16, .ro, .v, 0, none⟩, ⟨11, 8, .ro, .v, 0, none⟩, ⟨2, 2, .ro, .v, 0, none⟩, ⟨1, 1, .ro, .v, 0, none⟩, ⟨0, 0, .ro, .v, 0, none⟩]⟩,
  /- BUS_E_LO -/ ⟨0x118, 8, 64, [⟨31, 0, .ro, .v, 0, none⟩]⟩,
  /- BUS_E_HI -/ ⟨0x11C, 8, 64, [⟨31, 0, .ro, .v, 0, none⟩]⟩,
  /- LAST_RESID -/ ⟨0x120, 8, 64, [⟨31, 0, .ro, .v, 0, none⟩]⟩,
  /- LAST_BOUND -/ ⟨0x124, 8, 64, [⟨31, 0, .ro, .v, 0, none⟩]⟩,
  /- WINDOWS -/ ⟨0x128, 8, 64, [⟨31, 0, .ro, .v, 0, none⟩]⟩,
  /- SKIP_FRAMES -/ ⟨0x12C, 8, 64, [⟨31, 0, .ro, .v, 0, none⟩]⟩,
  /- IMBAL_COUNT -/ ⟨0x130, 8, 64, [⟨31, 0, .ro, .v, 0, none⟩]⟩,
  /- BANK_CMD -/ ⟨0x134, 8, 64, [⟨0, 0, .wo, .c, 0, none⟩]⟩]

/-- The registers of the ESTIM page, from the register tables of 11_grading_and_impedance.md. -/
def estimRegs : List RegDef := [
  /- CFG -/ ⟨0x040, 1, 0, [⟨15, 0, .rw, .c, 100, some (10, 10000)⟩]⟩,
  /- CAP_LIMITS -/ ⟨0x044, 1, 0, [⟨31, 16, .rw, .c, 0x1004, some (0, 5500)⟩, ⟨15, 0, .rw, .c, 0xBB8, some (0, 5500)⟩]⟩,
  /- DCIR_CFG -/ ⟨0x048, 1, 0, [⟨31, 16, .rw, .c, 0x7D0, none⟩, ⟨15, 0, .rw, .c, 200, none⟩]⟩,
  /- DCIR_D.0 -/ ⟨0x04C, 1, 0, [⟨31, 16, .rw, .c, 200, none⟩, ⟨15, 0, .rw, .c, 20, some (1, 65535)⟩]⟩,
  /- DCIR_D.1 -/ ⟨0x050, 1, 0, [⟨19, 16, .rw, .c, 8, some (4, 12)⟩, ⟨15, 0, .rw, .c, 0x7D0, none⟩]⟩,
  /- OCV_CFG -/ ⟨0x054, 1, 0, [⟨31, 16, .rw, .c, 0x7D0, some (1, 65535)⟩, ⟨15, 0, .rw, .c, 200, some (0, 65535)⟩]⟩,
  /- K_CFG -/ ⟨0x058, 1, 0, [⟨20, 16, .rw, .c, 16, some (10, 20)⟩, ⟨15, 0, .rw, .c, 0xE10, none⟩]⟩,
  /- CAP_NOM -/ ⟨0x05C, 1, 0, [⟨23, 0, .rw, .c, 0, none⟩]⟩,
  /- OCV_SEL -/ ⟨0x060, 4, 4, [⟨3, 0, .rw, .c, 0, some (0, 4)⟩, ⟨7, 4, .rw, .c, 0, some (0, 4)⟩, ⟨11, 8, .rw, .c, 0, some (0, 4)⟩, ⟨15, 12, .rw, .c, 0, some (0, 4)⟩, ⟨19, 16, .rw, .c, 0, some (0, 4)⟩, ⟨23, 20, .rw, .c, 0, some (0, 4)⟩, ⟨27, 24, .rw, .c, 0, some (0, 4)⟩, ⟨31, 28, .rw, .c, 0, some (0, 4)⟩]⟩,
  /- LOAD -/ ⟨0x070, 1, 0, [⟨23, 16, .ro, .v, 0, none⟩, ⟨15, 8, .ro, .v, 0, none⟩, ⟨7, 0, .ro, .v, 39, none⟩]⟩,
  /- DEFERRED -/ ⟨0x074, 1, 0, [⟨31, 0, .ro, .v, 0, none⟩]⟩,
  /- DISCARDED -/ ⟨0x078, 1, 0, [⟨31, 0, .ro, .v, 0, none⟩]⟩,
  /- SET_CFG -/ ⟨0x080, 4, 4, [⟨31, 16, .rw, .c, 0x3E8, none⟩, ⟨11, 8, .rw, .c, 2, some (1, 15)⟩, ⟨7, 4, .ro, .v, 0, none⟩, ⟨2, 2, .ro, .v, 0, none⟩, ⟨1, 1, .ro, .v, 0, none⟩, ⟨0, 0, .wo, .c, 0, none⟩]⟩,
  /- TONE -/ ⟨0x0A0, 32, 4, [⟨31, 25, .rw, .c, 0, none⟩, ⟨24, 19, .rw, .c, 0, none⟩, ⟨18, 0, .rw, .c, 0, none⟩]⟩,
  /- OCV_HDR -/ ⟨0x180, 4, 96, [⟨31, 16, .rw, .c, 0, none⟩, ⟨2, 2, .ro, .v, 0, none⟩, ⟨1, 1, .ro, .v, 0, none⟩, ⟨0, 0, .wo, .c, 0, none⟩]⟩,
  /- OCV_PT.1 -/ ⟨0x184, 21, 4, [⟨18, 0, .rw, .c, 0, none⟩]⟩,
  /- OCV_PT.2 -/ ⟨0x1E4, 21, 4, [⟨18, 0, .rw, .c, 0, none⟩]⟩,
  /- OCV_PT.3 -/ ⟨0x244, 21, 4, [⟨18, 0, .rw, .c, 0, none⟩]⟩,
  /- OCV_PT.4 -/ ⟨0x2A4, 21, 4, [⟨18, 0, .rw, .c, 0, none⟩]⟩,
  /- GENERIC -/ ⟨0x300, 21, 4, [⟨18, 0, .ro, .v, 0, none⟩]⟩]

/-- The registers of the ENGCTL page, from the register tables of 10_engines_and_failover.md. -/
def engctlRegs : List RegDef := [
  /- CFG -/ ⟨0x040, 1, 0, [⟨18, 18, .rwl, .c, 1, none⟩, ⟨17, 17, .rwl, .c, 0, none⟩, ⟨16, 16, .rwl, .c, 1, none⟩, ⟨15, 0, .rwl, .c, 100, some (2, 65535)⟩]⟩,
  /- RUNNING -/ ⟨0x044, 1, 0, [⟨11, 0, .ro, .v, 0, none⟩]⟩,
  /- STOPPED -/ ⟨0x048, 1, 0, [⟨11, 0, .ro, .v, 0, none⟩]⟩,
  /- DEAD -/ ⟨0x04C, 1, 0, [⟨11, 0, .ro, .v, 0, none⟩]⟩,
  /- CARRY -/ ⟨0x050, 1, 0, [⟨7, 4, .ro, .v, 15, none⟩, ⟨3, 0, .ro, .v, 15, none⟩]⟩,
  /- CMD -/ ⟨0x054, 1, 0, [⟨31, 16, .wo, .c, 0, none⟩, ⟨9, 8, .wo, .c, 0, none⟩, ⟨3, 0, .wo, .c, 0, none⟩]⟩,
  /- STALL_COUNT -/ ⟨0x058, 1, 0, [⟨31, 0, .ro, .v, 0, none⟩]⟩,
  /- LAST_STALL -/ ⟨0x05C, 1, 0, [⟨7, 4, .ro, .v, 0, none⟩, ⟨3, 0, .ro, .v, 0, none⟩]⟩,
  /- ROM_ID -/ ⟨0x060, 1, 0, [⟨31, 16, .ro, .v, 0, none⟩, ⟨15, 8, .ro, .v, 0, none⟩, ⟨1, 1, .ro, .v, 0, none⟩, ⟨0, 0, .ro, .v, 0, none⟩]⟩,
  /- PATCH_CRC -/ ⟨0x064, 1, 0, [⟨31, 0, .ro, .v, 0, none⟩]⟩]

/-- The registers of the BANK page, from the register tables of 07_measurement_and_background_calibration.md. -/
def bankRegs : List RegDef := [
  /- CAL_CFG -/ ⟨0x040, 1, 0, [⟨23, 16, .rwl, .c, 20, some (1, 255)⟩, ⟨15, 8, .rwl, .c, 50, some (1, 255)⟩, ⟨2, 1, .rwl, .c, 0, none⟩, ⟨0, 0, .rwl, .c, 1, none⟩]⟩,
  /- CAL_STATUS -/ ⟨0x044, 1, 0, [⟨31, 31, .ro, .v, 0, none⟩, ⟨30, 30, .ro, .v, 0, none⟩, ⟨27, 24, .ro, .v, 9, none⟩, ⟨23, 20, .ro, .v, 0, none⟩, ⟨19, 17, .ro, .v, 1, none⟩, ⟨10, 0, .ro, .v, 0, none⟩]⟩,
  /- SLICE_MAP.0 -/ ⟨0x048, 1, 0, [⟨3, 0, .ro, .v, 0, none⟩, ⟨7, 4, .ro, .v, 1, none⟩, ⟨11, 8, .ro, .v, 2, none⟩, ⟨15, 12, .ro, .v, 3, none⟩, ⟨19, 16, .ro, .v, 4, none⟩, ⟨23, 20, .ro, .v, 5, none⟩, ⟨27, 24, .ro, .v, 6, none⟩, ⟨31, 28, .ro, .v, 7, none⟩]⟩,
  /- SLICE_MAP.1 -/ ⟨0x04C, 1, 0, [⟨7, 4, .ro, .v, 9, none⟩, ⟨3, 0, .ro, .v, 8, none⟩]⟩,
  /- SLICE_HEALTH -/ ⟨0x050, 1, 0, [⟨25, 16, .ro, .v, 0, none⟩, ⟨9, 0, .ro, .v, 0, none⟩]⟩,
  /- NEXT_HANDOVER -/ ⟨0x054, 1, 0, [⟨31, 0, .ro, .v, 0xFFFFFFFF, none⟩]⟩,
  /- ROT_COUNT -/ ⟨0x058, 1, 0, [⟨31, 0, .ro, .v, 0, none⟩]⟩,
  /- CYCLE_COUNT -/ ⟨0x05C, 1, 0, [⟨31, 0, .ro, .v, 0, none⟩]⟩,
  /- SUBST_COUNT -/ ⟨0x060, 1, 0, [⟨31, 0, .ro, .v, 0, none⟩]⟩,
  /- XCHECK_LAST -/ ⟨0x064, 1, 0, [⟨31, 28, .ro, .v, 0, none⟩, ⟨27, 24, .ro, .v, 0, none⟩, ⟨23, 20, .ro, .v, 0, none⟩, ⟨19, 0, .ro, .v, 0, none⟩]⟩,
  /- LAST_CAL -/ ⟨0x068, 1, 0, [⟨15, 12, .ro, .v, 0, none⟩, ⟨11, 8, .ro, .v, 0, none⟩, ⟨2, 0, .ro, .v, 0, none⟩]⟩,
  /- LAST_CAL_OFFSET -/ ⟨0x06C, 1, 0, [⟨31, 0, .ro, .v, 0, none⟩]⟩,
  /- LAST_CAL_GAIN -/ ⟨0x070, 1, 0, [⟨31, 0, .ro, .v, 0, none⟩]⟩,
  /- RP_CFG -/ ⟨0x074, 1, 0, [⟨31, 16, .rw, .c, 500, some (100, 10000)⟩, ⟨15, 0, .rw, .c, 0x7D0, none⟩]⟩,
  /- SHUNT -/ ⟨0x080, 4, 64, [⟨15, 0, .rwl, .c, 0x2710, some (2000, 50000)⟩]⟩,
  /- CFG -/ ⟨0x084, 4, 64, [⟨25, 25, .rw, .c, 0, none⟩, ⟨24, 24, .rw, .c, 0, none⟩, ⟨18, 18, .rw, .c, 1, none⟩, ⟨17, 17, .rw, .c, 1, none⟩, ⟨16, 16, .rw, .c, 1, none⟩, ⟨11, 8, .rw, .c, 4, some (1, 8)⟩, ⟨7, 4, .rw, .c, 4, some (1, 8)⟩, ⟨3, 0, .rw, .c, 4, some (1, 8)⟩]⟩,
  /- CMD -/ ⟨0x088, 4, 64, [⟨1, 1, .wo, .v, 0, none⟩, ⟨0, 0, .wo, .v, 0, none⟩]⟩,
  /- STATUS -/ ⟨0x08C, 4, 64, [⟨31, 16, .ro, .v, 0, none⟩, ⟨9, 9, .ro, .v, 0, none⟩, ⟨8, 8, .ro, .v, 0, none⟩, ⟨7, 7, .ro, .v, 1, none⟩, ⟨6, 6, .ro, .v, 1, none⟩, ⟨5, 5, .ro, .v, 0, none⟩, ⟨4, 4, .ro, .v, 0, none⟩, ⟨3, 3, .ro, .v, 0, none⟩, ⟨2, 2, .ro, .v, 0, none⟩, ⟨1, 1, .ro, .v, 0, none⟩, ⟨0, 0, .ro, .v, 0, none⟩]⟩,
  /- AVG_V -/ ⟨0x090, 4, 64, [⟨31, 0, .ro, .v, 0, none⟩]⟩,
  /- AVG_I -/ ⟨0x094, 4, 64, [⟨31, 0, .ro, .v, 0, none⟩]⟩,
  /- AVG_F -/ ⟨0x098, 4, 64, [⟨31, 0, .ro, .v, 0, none⟩]⟩,
  /- PROBE_R -/ ⟨0x09C, 4, 64, [⟨31, 0, .ro, .v, 0x4E20, none⟩]⟩,
  /- V_MIN -/ ⟨0x0A0, 4, 64, [⟨31, 0, .ro, .v, 0x7FFFFFFF, none⟩]⟩,
  /- V_MIN_FRAME -/ ⟨0x0A4, 4, 64, [⟨31, 0, .ro, .v, 0, none⟩]⟩,
  /- V_MAX -/ ⟨0x0A8, 4, 64, [⟨31, 0, .ro, .v, 0x80000000, none⟩]⟩,
  /- V_MAX_FRAME -/ ⟨0x0AC, 4, 64, [⟨31, 0, .ro, .v, 0, none⟩]⟩,
  /- I_MIN -/ ⟨0x0B0, 4, 64, [⟨31, 0, .ro, .v, 0x7FFFFFFF, none⟩]⟩,
  /- I_MIN_FRAME -/ ⟨0x0B4, 4, 64, [⟨31, 0, .ro, .v, 0, none⟩]⟩,
  /- I_MAX -/ ⟨0x0B8, 4, 64, [⟨31, 0, .ro, .v, 0x80000000, none⟩]⟩,
  /- I_MAX_FRAME -/ ⟨0x0BC, 4, 64, [⟨31, 0, .ro, .v, 0, none⟩]⟩,
  /- BUS_SHUNT -/ ⟨0x180, 1, 0, [⟨15, 0, .rwl, .c, 0x2710, some (2000, 50000)⟩]⟩,
  /- BUS_CFG -/ ⟨0x184, 1, 0, [⟨24, 24, .rw, .c, 0, none⟩, ⟨17, 17, .rw, .c, 1, none⟩, ⟨16, 16, .rw, .c, 1, none⟩, ⟨7, 4, .rw, .c, 4, some (1, 8)⟩, ⟨3, 0, .rw, .c, 4, some (1, 8)⟩]⟩,
  /- BUS_CMD -/ ⟨0x188, 1, 0, [⟨0, 0, .wo, .v, 0, none⟩]⟩,
  /- BUS_STATUS -/ ⟨0x18C, 1, 0, [⟨31, 16, .ro, .v, 0, none⟩, ⟨5, 5, .ro, .v, 0, none⟩, ⟨4, 4, .ro, .v, 1, none⟩, ⟨3, 3, .ro, .v, 0, none⟩, ⟨2, 2, .ro, .v, 0, none⟩, ⟨1, 1, .ro, .v, 0, none⟩, ⟨0, 0, .ro, .v, 0, none⟩]⟩,
  /- AVG_BUS_I -/ ⟨0x190, 1, 0, [⟨31, 0, .ro, .v, 0, none⟩]⟩,
  /- AVG_BUS_V -/ ⟨0x194, 1, 0, [⟨31, 0, .ro, .v, 0, none⟩]⟩,
  /- BUS_I_MIN -/ ⟨0x198, 1, 0, [⟨31, 0, .ro, .v, 0x7FFFFFFF, none⟩]⟩,
  /- BUS_I_MIN_FRAME -/ ⟨0x19C, 1, 0, [⟨31, 0, .ro, .v, 0, none⟩]⟩,
  /- BUS_I_MAX -/ ⟨0x1A0, 1, 0, [⟨31, 0, .ro, .v, 0x80000000, none⟩]⟩,
  /- BUS_I_MAX_FRAME -/ ⟨0x1A4, 1, 0, [⟨31, 0, .ro, .v, 0, none⟩]⟩,
  /- FT_V_OFFSET -/ ⟨0x300, 10, 16, [⟨31, 0, .rwl, .c, 0, none⟩]⟩,
  /- FT_V_GAIN -/ ⟨0x304, 10, 16, [⟨31, 0, .rwl, .c, 0, none⟩]⟩,
  /- FT_I_OFFSET -/ ⟨0x308, 10, 16, [⟨31, 0, .rwl, .c, 0, none⟩]⟩,
  /- FT_I_GAIN -/ ⟨0x30C, 10, 16, [⟨31, 0, .rwl, .c, 0, none⟩]⟩,
  /- REF_V -/ ⟨0x3A0, 1, 0, [⟨31, 0, .rwl, .c, 0x2625A00, none⟩]⟩,
  /- REF_VN -/ ⟨0x3A4, 1, 0, [⟨31, 0, .rwl, .c, 0xFFF0BDC0, none⟩]⟩,
  /- REF_IP -/ ⟨0x3A8, 1, 0, [⟨31, 0, .rwl, .c, 0x61A800, none⟩]⟩,
  /- REF_IN -/ ⟨0x3AC, 1, 0, [⟨31, 0, .rwl, .c, 0xFF9E5800, none⟩]⟩,
  /- REF_CURVE -/ ⟨0x3B0, 1, 0, [⟨31, 16, .rwl, .c, 0, none⟩, ⟨15, 0, .rwl, .c, 0, none⟩]⟩,
  /- SHUNT_TRIM -/ ⟨0x3B4, 4, 4, [⟨31, 0, .rwl, .c, 0, none⟩]⟩,
  /- BUS_SHUNT_TRIM -/ ⟨0x3C4, 1, 0, [⟨31, 0, .rwl, .c, 0, none⟩]⟩,
  /- RETIRE_CLR -/ ⟨0x3F0, 1, 0, [⟨9, 0, .wo, .c, 0, none⟩]⟩]

/-- The registers of the CHAN page, from the register tables of 06_channel_regulation.md, 08_the_charge_ledger.md, 09_step_tables.md. -/
def chanRegs : List RegDef := [
  /- CONTROL -/ ⟨0x040, 1, 0, [⟨9, 9, .wo, .c, 0, none⟩, ⟨7, 4, .rw, .s, 0, some (0, 7)⟩, ⟨2, 2, .rw, .c, 0, none⟩, ⟨1, 1, .rw, .c, 0, none⟩, ⟨0, 0, .rw, .c, 0, none⟩]⟩,
  /- ISET -/ ⟨0x044, 1, 0, [⟨31, 0, .rw, .s, 0, none⟩]⟩,
  /- VSET -/ ⟨0x048, 1, 0, [⟨18, 0, .rw, .s, 0, some (0, 500000)⟩]⟩,
  /- PSET -/ ⟨0x04C, 1, 0, [⟨31, 0, .rw, .s, 0, none⟩]⟩,
  /- SLEW_UP -/ ⟨0x050, 1, 0, [⟨20, 0, .rw, .s, 0x2710, some (1, 2000000)⟩]⟩,
  /- SLEW_DOWN -/ ⟨0x054, 1, 0, [⟨20, 0, .rw, .s, 0x2710, some (1, 2000000)⟩]⟩,
  /- SLEW_V -/ ⟨0x058, 1, 0, [⟨19, 0, .rw, .s, 0x186A0, some (1, 1000000)⟩]⟩,
  /- VGUARD -/ ⟨0x05C, 1, 0, [⟨31, 16, .rw, .s, 0x1194, some (0, 5500)⟩, ⟨15, 0, .rw, .s, 0x7D0, some (0, 5500)⟩]⟩,
  /- IGUARD -/ ⟨0x060, 1, 0, [⟨15, 0, .rw, .s, 0x189C, none⟩]⟩,
  /- TGUARD -/ ⟨0x064, 1, 0, [⟨15, 0, .rw, .s, 600, none⟩]⟩,
  /- PULSE_B -/ ⟨0x068, 1, 0, [⟨31, 0, .rw, .s, 0, none⟩]⟩,
  /- PULSE_TIME -/ ⟨0x06C, 1, 0, [⟨31, 16, .rw, .s, 1, some (1, 65535)⟩, ⟨15, 0, .rw, .s, 1, some (1, 65535)⟩]⟩,
  /- PULSE_COUNT -/ ⟨0x070, 1, 0, [⟨15, 0, .rw, .s, 0, none⟩]⟩,
  /- ZV_CFG -/ ⟨0x074, 1, 0, [⟨31, 16, .rw, .c, 0x3E8, some (200, 2500)⟩, ⟨15, 0, .rw, .c, 500, some (10, 5000)⟩]⟩,
  /- CONTACT_CFG -/ ⟨0x078, 1, 0, [⟨31, 24, .rw, .c, 50, some (5, 255)⟩, ⟨23, 16, .rw, .c, 20, some (5, 255)⟩, ⟨15, 0, .rw, .c, 100, some (10, 10000)⟩]⟩,
  /- PRIORITY -/ ⟨0x07C, 1, 0, [⟨3, 0, .rw, .s, 8, none⟩]⟩,
  /- GANG -/ ⟨0x080, 1, 0, [⟨1, 0, .rw, .c, 0, some (0, 2)⟩]⟩,
  /- STATUS -/ ⟨0x084, 1, 0, [⟨31, 30, .ro, .v, 0, none⟩, ⟨29, 26, .ro, .v, 0, none⟩, ⟨25, 22, .ro, .v, 0, none⟩, ⟨21, 21, .ro, .v, 0, none⟩, ⟨20, 20, .ro, .v, 0, none⟩, ⟨19, 19, .ro, .v, 0, none⟩, ⟨18, 18, .ro, .v, 0, none⟩, ⟨17, 17, .ro, .v, 0, none⟩, ⟨16, 16, .ro, .v, 0, none⟩, ⟨15, 15, .ro, .v, 0, none⟩, ⟨14, 14, .ro, .v, 0, none⟩, ⟨13, 13, .ro, .v, 0, none⟩, ⟨10, 9, .ro, .v, 0, none⟩, ⟨7, 4, .ro, .v, 0, none⟩, ⟨2, 0, .ro, .v, 0, none⟩]⟩,
  /- IREF -/ ⟨0x088, 1, 0, [⟨31, 0, .ro, .v, 0, none⟩]⟩,
  /- VREF -/ ⟨0x08C, 1, 0, [⟨18, 0, .ro, .v, 0, none⟩]⟩,
  /- SLEW_RETARGET -/ ⟨0x090, 1, 0, [⟨31, 0, .rc, .v, 0, none⟩]⟩,
  /- CELL_ID -/ ⟨0x0A0, 4, 4, [⟨31, 0, .rw, .c, 0, none⟩]⟩,
  /- CELL_CMD -/ ⟨0x0B0, 1, 0, [⟨31, 16, .wo, .c, 0, none⟩, ⟨1, 1, .wo, .c, 0, none⟩, ⟨0, 0, .wo, .c, 0, none⟩]⟩,
  /- MATE_COUNT -/ ⟨0x0B4, 1, 0, [⟨31, 0, .ro, .v, 0, none⟩]⟩,
  /- MATE_LIMIT -/ ⟨0x0B8, 1, 0, [⟨31, 16, .rwl, .c, 400, none⟩, ⟨15, 0, .rwl, .c, 500, none⟩]⟩,
  /- PROBE_R_LIM -/ ⟨0x0BC, 1, 0, [⟨15, 0, .rw, .c, 500, none⟩]⟩,
  /- MATE_STATUS -/ ⟨0x0C0, 1, 0, [⟨31, 31, .ro, .v, 0, none⟩, ⟨15, 0, .ro, .v, 0, none⟩]⟩,
  /- ACC_SNAP -/ ⟨0x100, 1, 0, [⟨31, 0, .ro, .v, 0, none⟩]⟩,
  /- ACC_FLAGS -/ ⟨0x104, 1, 0, [⟨6, 6, .ro, .v, 0, none⟩, ⟨5, 5, .ro, .v, 0, none⟩, ⟨4, 4, .ro, .v, 0, none⟩, ⟨3, 3, .ro, .v, 0, none⟩, ⟨2, 2, .ro, .v, 0, none⟩, ⟨1, 1, .ro, .v, 0, none⟩, ⟨0, 0, .ro, .v, 0, none⟩]⟩,
  /- STEP_Q_LO -/ ⟨0x108, 1, 0, [⟨31, 0, .ro, .v, 0, none⟩]⟩,
  /- STEP_Q_HI -/ ⟨0x10C, 1, 0, [⟨31, 0, .ro, .v, 0, none⟩]⟩,
  /- STEP_E_LO -/ ⟨0x110, 1, 0, [⟨31, 0, .ro, .v, 0, none⟩]⟩,
  /- STEP_E_HI -/ ⟨0x114, 1, 0, [⟨31, 0, .ro, .v, 0, none⟩]⟩,
  /- RUN_Q_LO -/ ⟨0x118, 1, 0, [⟨31, 0, .ro, .v, 0, none⟩]⟩,
  /- RUN_Q_HI -/ ⟨0x11C, 1, 0, [⟨31, 0, .ro, .v, 0, none⟩]⟩,
  /- RUN_E_LO -/ ⟨0x120, 1, 0, [⟨31, 0, .ro, .v, 0, none⟩]⟩,
  /- RUN_E_HI -/ ⟨0x124, 1, 0, [⟨31, 0, .ro, .v, 0, none⟩]⟩,
  /- LIFE_IN_LO -/ ⟨0x128, 1, 0, [⟨31, 0, .ro, .v, 0, none⟩]⟩,
  /- LIFE_IN_HI -/ ⟨0x12C, 1, 0, [⟨31, 0, .ro, .v, 0, none⟩]⟩,
  /- LIFE_OUT_LO -/ ⟨0x130, 1, 0, [⟨31, 0, .ro, .v, 0, none⟩]⟩,
  /- LIFE_OUT_HI -/ ⟨0x134, 1, 0, [⟨31, 0, .ro, .v, 0, none⟩]⟩,
  /- STEP_FRAMES_LO -/ ⟨0x138, 1, 0, [⟨31, 0, .ro, .v, 0, none⟩]⟩,
  /- STEP_FRAMES_HI -/ ⟨0x13C, 1, 0, [⟨31, 0, .ro, .v, 0, none⟩]⟩,
  /- RUN_FRAMES_LO -/ ⟨0x140, 1, 0, [⟨31, 0, .ro, .v, 0, none⟩]⟩,
  /- RUN_FRAMES_HI -/ ⟨0x144, 1, 0, [⟨31, 0, .ro, .v, 0, none⟩]⟩,
  /- SUBST_FRAMES -/ ⟨0x148, 1, 0, [⟨31, 0, .ro, .v, 0, none⟩]⟩,
  /- GAP_FRAMES -/ ⟨0x14C, 1, 0, [⟨31, 0, .ro, .v, 0, none⟩]⟩,
  /- RUN_START -/ ⟨0x150, 1, 0, [⟨31, 0, .ro, .v, 0, none⟩]⟩,
  /- ACC_CMD -/ ⟨0x154, 1, 0, [⟨0, 0, .wo, .c, 0, none⟩]⟩,
  /- ACC_RESERVED -/ ⟨0x180, 21, 4, []⟩,
  /- RCP_CFG -/ ⟨0x200, 1, 0, [⟨21, 16, .rw, .c, 0, none⟩, ⟨14, 8, .rw, .c, 64, some (1, 64)⟩, ⟨7, 0, .rw, .c, 0, none⟩]⟩,
  /- DERIV_CFG -/ ⟨0x204, 1, 0, [⟨3, 0, .rw, .c, 10, some (6, 14)⟩]⟩,
  /- RCP_CMD -/ ⟨0x208, 1, 0, [⟨13, 8, .wo, .c, 0, none⟩, ⟨2, 2, .wo, .c, 0, none⟩, ⟨1, 1, .wo, .c, 0, none⟩, ⟨0, 0, .wo, .c, 0, none⟩]⟩,
  /- RCP_STATUS -/ ⟨0x20C, 1, 0, [⟨31, 28, .ro, .v, 0, none⟩, ⟨25, 20, .ro, .v, 0, none⟩, ⟨18, 16, .ro, .v, 7, none⟩, ⟨15, 8, .ro, .v, 0, none⟩, ⟨7, 4, .ro, .v, 0, none⟩, ⟨3, 3, .ro, .v, 0, none⟩, ⟨2, 2, .ro, .v, 0, none⟩, ⟨1, 1, .ro, .v, 0, none⟩]⟩,
  /- STEP_TAG -/ ⟨0x210, 1, 0, [⟨15, 0, .ro, .v, 0, none⟩]⟩,
  /- LOOP_CNT -/ ⟨0x214, 1, 0, [⟨7, 0, .ro, .v, 0, none⟩, ⟨15, 8, .ro, .v, 0, none⟩, ⟨23, 16, .ro, .v, 0, none⟩, ⟨31, 24, .ro, .v, 0, none⟩]⟩,
  /- CV_FRAMES -/ ⟨0x218, 1, 0, [⟨31, 0, .ro, .v, 0, none⟩]⟩,
  /- DVDT -/ ⟨0x21C, 1, 0, [⟨31, 0, .ro, .v, 0, none⟩]⟩,
  /- DIDT -/ ⟨0x220, 1, 0, [⟨31, 0, .ro, .v, 0, none⟩]⟩,
  /- TRANSITIONS -/ ⟨0x224, 1, 0, [⟨31, 0, .rc, .v, 0, none⟩]⟩,
  /- ZONE_CHANGES -/ ⟨0x228, 1, 0, [⟨31, 0, .rc, .v, 0, none⟩]⟩,
  /- QV_Q -/ ⟨0x22C, 1, 0, [⟨31, 0, .ro, .v, 0, none⟩]⟩,
  /- QV_V -/ ⟨0x230, 1, 0, [⟨31, 0, .ro, .v, 0, none⟩]⟩,
  /- LIST_CRC -/ ⟨0x234, 1, 0, [⟨31, 16, .ro, .v, 0, none⟩, ⟨15, 0, .ro, .v, 0, none⟩]⟩,
  /- END_INFO -/ ⟨0x240, 1, 0, [⟨31, 30, .ro, .v, 0, none⟩, ⟨29, 27, .ro, .v, 0, none⟩, ⟨26, 26, .ro, .v, 0, none⟩, ⟨25, 24, .ro, .v, 0, none⟩, ⟨23, 20, .ro, .v, 0, none⟩, ⟨19, 16, .ro, .v, 0, none⟩, ⟨15, 8, .ro, .v, 255, none⟩, ⟨7, 0, .ro, .v, 255, none⟩]⟩,
  /- END_FRAME -/ ⟨0x244, 1, 0, [⟨31, 0, .ro, .v, 0, none⟩]⟩,
  /- END_Q_LO -/ ⟨0x248, 1, 0, [⟨31, 0, .ro, .v, 0, none⟩]⟩,
  /- END_Q_HI -/ ⟨0x24C, 1, 0, [⟨31, 0, .ro, .v, 0, none⟩]⟩,
  /- END_E_LO -/ ⟨0x250, 1, 0, [⟨31, 0, .ro, .v, 0, none⟩]⟩,
  /- END_E_HI -/ ⟨0x254, 1, 0, [⟨31, 0, .ro, .v, 0, none⟩]⟩,
  /- END_FRAMES_LO -/ ⟨0x258, 1, 0, [⟨31, 0, .ro, .v, 0, none⟩]⟩,
  /- END_FRAMES_HI -/ ⟨0x25C, 1, 0, [⟨31, 0, .ro, .v, 0, none⟩]⟩,
  /- END_VALUE -/ ⟨0x260, 1, 0, [⟨31, 0, .ro, .v, 0, none⟩]⟩,
  /- END_TAG -/ ⟨0x264, 1, 0, [⟨15, 0, .ro, .v, 0, none⟩]⟩]

/-- The registers of the PHASE page, from the register tables of 05_power_stage_control.md. -/
def phaseRegs : List RegDef := [
  /- CTRL -/ ⟨0x040, 1, 0, [⟨1, 1, .rwl, .c, 0, none⟩, ⟨0, 0, .rwl, .c, 1, none⟩]⟩,
  /- STAGE -/ ⟨0x044, 1, 0, [⟨31, 24, .rwl, .c, 60, some (2, 80)⟩, ⟨15, 0, .rwl, .c, 0x898, some (100, 10000)⟩]⟩,
  /- TIMING -/ ⟨0x048, 1, 0, [⟨23, 16, .rwl, .c, 8, some (4, 20)⟩, ⟨15, 8, .rwl, .c, 8, some (4, 40)⟩, ⟨7, 0, .rwl, .c, 8, some (4, 40)⟩]⟩,
  /- IMON_CFG -/ ⟨0x04C, 1, 0, [⟨15, 0, .rwl, .c, 0x2710, some (2000, 50000)⟩]⟩,
  /- IMON_ZERO -/ ⟨0x050, 1, 0, [⟨15, 0, .ro, .v, 0, none⟩]⟩,
  /- FAST_LIM -/ ⟨0x054, 1, 0, [⟨23, 16, .rwl, .c, 8, none⟩, ⟨15, 8, .rwl, .c, 216, none⟩, ⟨7, 0, .rwl, .c, 216, none⟩]⟩,
  /- SLOW_LIM -/ ⟨0x058, 1, 0, [⟨31, 16, .rwl, .c, 0x708, some (100, 40000)⟩, ⟨15, 9, .rwl, .c, 80, some (50, 99)⟩, ⟨8, 0, .rwl, .c, 135, some (100, 400)⟩]⟩,
  /- BAL_CFG -/ ⟨0x05C, 1, 0, [⟨31, 31, .rw, .c, 1, none⟩, ⟨27, 24, .rw, .c, 1, some (1, 15)⟩, ⟨21, 16, .rw, .c, 40, some (0, 40)⟩, ⟨15, 8, .rw, .c, 6, some (1, 200)⟩, ⟨7, 0, .rw, .c, 30, some (5, 100)⟩]⟩,
  /- ISO_CFG -/ ⟨0x060, 1, 0, [⟨9, 8, .rwl, .c, 2, none⟩, ⟨7, 0, .rwl, .c, 20, some (1, 100)⟩]⟩,
  /- STATUS -/ ⟨0x064, 1, 0, [⟨11, 11, .ro, .v, 0, none⟩, ⟨10, 10, .ro, .v, 0, none⟩, ⟨9, 7, .ro, .v, 0, none⟩, ⟨6, 6, .ro, .v, 0, none⟩, ⟨5, 5, .ro, .v, 0, none⟩, ⟨4, 4, .ro, .v, 0, none⟩, ⟨3, 3, .ro, .v, 0, none⟩, ⟨2, 2, .ro, .v, 0, none⟩, ⟨1, 1, .ro, .v, 0, none⟩, ⟨0, 0, .ro, .v, 0, none⟩]⟩,
  /- IAVG -/ ⟨0x068, 1, 0, [⟨31, 31, .ro, .v, 0, none⟩, ⟨23, 0, .ro, .v, 0, none⟩]⟩,
  /- TRIM -/ ⟨0x06C, 1, 0, [⟨15, 0, .ro, .v, 0, none⟩]⟩,
  /- DUTY -/ ⟨0x070, 1, 0, [⟨15, 0, .ro, .v, 0, none⟩]⟩,
  /- SLOW_ACC -/ ⟨0x074, 1, 0, [⟨31, 0, .ro, .v, 0, none⟩]⟩,
  /- TRIP_COUNT -/ ⟨0x078, 1, 0, [⟨31, 0, .rc, .v, 0, none⟩]⟩,
  /- DROP_FRAME -/ ⟨0x07C, 1, 0, [⟨31, 0, .ro, .v, 0, none⟩]⟩]

/-- The registers of the ENG page, from the register tables of 10_engines_and_failover.md. -/
def engRegs : List RegDef := [
  /- STATE -/ ⟨0x040, 1, 0, [⟨12, 12, .ro, .v, 0, none⟩, ⟨11, 8, .ro, .v, 15, none⟩, ⟨2, 0, .ro, .v, 0, none⟩]⟩,
  /- HEARTBEAT -/ ⟨0x044, 1, 0, [⟨31, 0, .ro, .v, 0, none⟩]⟩,
  /- CYCLES_LAST -/ ⟨0x048, 1, 0, [⟨15, 0, .ro, .v, 0, none⟩]⟩,
  /- CYCLES_MAX -/ ⟨0x04C, 1, 0, [⟨15, 0, .rc, .v, 0, none⟩]⟩,
  /- MISSED -/ ⟨0x050, 1, 0, [⟨31, 0, .ro, .v, 0, none⟩]⟩,
  /- RAM_ECC -/ ⟨0x054, 1, 0, [⟨31, 0, .ro, .v, 0, none⟩]⟩,
  /- STOP_FRAME -/ ⟨0x058, 1, 0, [⟨31, 0, .ro, .v, 0, none⟩]⟩,
  /- STOP_CAUSE -/ ⟨0x05C, 1, 0, [⟨3, 0, .ro, .v, 0, none⟩]⟩]

/-- The registers of the RESULT page, from the register tables of 11_grading_and_impedance.md. -/
def resultRegs : List RegDef := [
  /- RES_SNAP -/ ⟨0x040, 1, 0, [⟨31, 0, .ro, .v, 0, none⟩]⟩,
  /- RES_STATUS -/ ⟨0x044, 1, 0, [⟨26, 24, .ro, .v, 0, none⟩, ⟨23, 20, .ro, .v, 0, none⟩, ⟨19, 17, .ro, .v, 0, none⟩, ⟨16, 16, .ro, .v, 0, none⟩, ⟨12, 8, .ro, .v, 0, none⟩, ⟨4, 0, .ro, .v, 0, none⟩]⟩,
  /- CELL_ID -/ ⟨0x048, 4, 4, [⟨31, 0, .ro, .v, 0, none⟩]⟩,
  /- PUB_FRAME -/ ⟨0x058, 1, 0, [⟨31, 0, .ro, .v, 0, none⟩]⟩,
  /- Z_END -/ ⟨0x060, 1, 0, [⟨31, 0, .ro, .v, 0, none⟩]⟩,
  /- Z_INFO -/ ⟨0x064, 1, 0, [⟨31, 16, .ro, .v, 0, none⟩, ⟨15, 8, .ro, .v, 0, none⟩, ⟨3, 0, .ro, .v, 0, none⟩]⟩,
  /- Z_DC -/ ⟨0x068, 1, 0, [⟨31, 0, .ro, .v, 0, none⟩]⟩,
  /- Z_WINDOW -/ ⟨0x06C, 1, 0, [⟨31, 0, .ro, .v, 0, none⟩]⟩,
  /- Z_DISCARDS -/ ⟨0x070, 1, 0, [⟨31, 0, .ro, .v, 0, none⟩]⟩,
  /- Z_FREQ -/ ⟨0x080, 8, 32, [⟨31, 0, .ro, .v, 0, none⟩]⟩,
  /- Z_RE -/ ⟨0x084, 8, 32, [⟨31, 0, .ro, .v, 0, none⟩]⟩,
  /- Z_IM -/ ⟨0x088, 8, 32, [⟨31, 0, .ro, .v, 0, none⟩]⟩,
  /- Z_UNC -/ ⟨0x08C, 8, 32, [⟨31, 0, .ro, .v, 0, none⟩]⟩,
  /- Z_IAMP -/ ⟨0x090, 8, 32, [⟨31, 0, .ro, .v, 0, none⟩]⟩,
  /- Z_VAMP -/ ⟨0x094, 8, 32, [⟨31, 0, .ro, .v, 0, none⟩]⟩,
  /- CAP_Q_LO -/ ⟨0x180, 1, 0, [⟨31, 0, .ro, .v, 0, none⟩]⟩,
  /- CAP_Q_HI -/ ⟨0x184, 1, 0, [⟨31, 0, .ro, .v, 0, none⟩]⟩,
  /- CAP_E_LO -/ ⟨0x188, 1, 0, [⟨31, 0, .ro, .v, 0, none⟩]⟩,
  /- CAP_E_HI -/ ⟨0x18C, 1, 0, [⟨31, 0, .ro, .v, 0, none⟩]⟩,
  /- CAP_FRAMES -/ ⟨0x190, 1, 0, [⟨31, 0, .ro, .v, 0, none⟩]⟩,
  /- CAP_FLAGS -/ ⟨0x194, 1, 0, [⟨3, 0, .ro, .v, 0, none⟩]⟩,
  /- CAP_END -/ ⟨0x198, 1, 0, [⟨31, 0, .ro, .v, 0, none⟩]⟩,
  /- DCIR -/ ⟨0x1A0, 3, 4, [⟨31, 0, .ro, .v, 0, none⟩]⟩,
  /- DCIR_DI -/ ⟨0x1AC, 1, 0, [⟨31, 0, .ro, .v, 0, none⟩]⟩,
  /- DCIR_EDGE -/ ⟨0x1B0, 1, 0, [⟨31, 0, .ro, .v, 0, none⟩]⟩,
  /- DCIR_FLAGS -/ ⟨0x1B4, 1, 0, [⟨2, 0, .ro, .v, 0, none⟩]⟩,
  /- OCV_LAST -/ ⟨0x1C0, 1, 0, [⟨31, 0, .ro, .v, 0, none⟩]⟩,
  /- OCV_INF -/ ⟨0x1C4, 1, 0, [⟨31, 0, .ro, .v, 0, none⟩]⟩,
  /- OCV_TAU -/ ⟨0x1C8, 1, 0, [⟨31, 0, .ro, .v, 0, none⟩]⟩,
  /- OCV_SOC -/ ⟨0x1CC, 1, 0, [⟨15, 0, .ro, .v, 0, none⟩]⟩,
  /- OCV_END -/ ⟨0x1D0, 1, 0, [⟨31, 0, .ro, .v, 0, none⟩]⟩,
  /- OCV_FLAGS -/ ⟨0x1D4, 1, 0, [⟨2, 0, .ro, .v, 0, none⟩]⟩,
  /- K_RATE -/ ⟨0x1E0, 1, 0, [⟨31, 0, .ro, .v, 0, none⟩]⟩,
  /- K_SPAN -/ ⟨0x1E4, 1, 0, [⟨31, 0, .ro, .v, 0, none⟩]⟩,
  /- LEAK_I -/ ⟨0x1E8, 1, 0, [⟨31, 0, .ro, .v, 0, none⟩]⟩,
  /- K_END -/ ⟨0x1EC, 1, 0, [⟨31, 0, .ro, .v, 0, none⟩]⟩,
  /- K_FLAGS -/ ⟨0x1F0, 1, 0, [⟨2, 0, .ro, .v, 0, none⟩]⟩]

/-- Reset values that differ along an array of registers: page kind, offset, low bit, value. -/
def indexedResets : List (PageKind × Nat × Nat × Nat) := [
  (.hkseq, 0x054, 24, 2),
  (.hkseq, 0x058, 24, 4),
  (.hkseq, 0x05C, 24, 6),
  (.hkseq, 0x050, 16, 6),
  (.hkseq, 0x054, 16, 4),
  (.hkseq, 0x058, 16, 2),
  (.hkseq, 0x060, 16, 2),
  (.hkseq, 0x064, 16, 15),
  (.hkseq, 0x060, 0, 10),
  (.hkseq, 0x064, 0, 20),
  (.hkrail, 0x044, 0, 5000),
  (.hkrail, 0x064, 0, 3300),
  (.hkrail, 0x084, 0, 850),
  (.hkrail, 0x0A4, 0, 1800),
  (.hkrail, 0x048, 0, 4),
  (.hkrail, 0x068, 0, 4),
  (.hkrail, 0x088, 0, 2),
  (.hkrail, 0x0A8, 0, 2),
  (.hkrail, 0x04C, 0, 360),
  (.hkrail, 0x06C, 0, 240),
  (.hkrail, 0x08C, 0, 300),
  (.hkrail, 0x0AC, 0, 75),
  (.backup, 0x064, 16, 100),
  (.backup, 0x068, 16, 450),
  (.backup, 0x06C, 16, 550),
  (.backup, 0x064, 8, 20),
  (.backup, 0x068, 8, 255),
  (.backup, 0x06C, 8, 255),
  (.backup, 0x080, 0, 4200),
  (.backup, 0x084, 0, 4100),
  (.backup, 0x088, 0, 4200),
  (.backup, 0x08C, 0, 4050),
  (.backup, 0x090, 0, 4200),
  (.gauge, 0x0A0, 0, 3000),
  (.gauge, 0x0A4, 0, 3450),
  (.gauge, 0x0A8, 0, 3580),
  (.gauge, 0x0AC, 0, 3635),
  (.gauge, 0x0B0, 0, 3675),
  (.gauge, 0x0B4, 0, 3730),
  (.gauge, 0x0B8, 0, 3805),
  (.gauge, 0x0BC, 0, 3895),
  (.gauge, 0x0C0, 0, 3985),
  (.gauge, 0x0C4, 0, 4075),
  (.gauge, 0x0C8, 0, 4180),
  (.estim, 0x300, 0, 300000),
  (.estim, 0x304, 0, 330000),
  (.estim, 0x308, 0, 345000),
  (.estim, 0x30C, 0, 353000),
  (.estim, 0x310, 0, 358000),
  (.estim, 0x314, 0, 361000),
  (.estim, 0x318, 0, 363500),
  (.estim, 0x31C, 0, 365500),
  (.estim, 0x320, 0, 367500),
  (.estim, 0x324, 0, 370000),
  (.estim, 0x328, 0, 373000),
  (.estim, 0x32C, 0, 376500),
  (.estim, 0x330, 0, 380500),
  (.estim, 0x334, 0, 385000),
  (.estim, 0x338, 0, 389500),
  (.estim, 0x33C, 0, 394000),
  (.estim, 0x340, 0, 398500),
  (.estim, 0x344, 0, 403000),
  (.estim, 0x348, 0, 407500),
  (.estim, 0x34C, 0, 412500),
  (.estim, 0x350, 0, 418000)]

/-- A recipe memory word: access RWL, class C (R28); zero after cold reset (R63). -/
def recipeRegs : List RegDef := [⟨0x000, 256, 4, [⟨31, 0, .rwl, .c, 0, none⟩]⟩]

/-- The registers of a page of each kind, the common header (R29) included. -/
def regsOf : PageKind → List RegDef
  | .chip => headerRegs ++ chipRegs
  | .clock => headerRegs ++ clockRegs
  | .transit => headerRegs ++ transitRegs
  | .host => headerRegs ++ hostRegs
  | .stream => headerRegs ++ streamRegs
  | .twowire => headerRegs ++ twowireRegs
  | .fault => headerRegs ++ faultRegs
  | .changelog => headerRegs ++ changelogRegs
  | .rtc => headerRegs ++ rtcRegs
  | .timer => headerRegs ++ timerRegs
  | .otp => headerRegs ++ otpRegs
  | .granary => headerRegs ++ granaryRegs
  | .hkseq => headerRegs ++ hkseqRegs
  | .hkrail => headerRegs ++ hkrailRegs
  | .backup => headerRegs ++ backupRegs
  | .gauge => headerRegs ++ gaugeRegs
  | .commons => headerRegs ++ commonsRegs
  | .ledger => headerRegs ++ ledgerRegs
  | .estim => headerRegs ++ estimRegs
  | .engctl => headerRegs ++ engctlRegs
  | .bank => headerRegs ++ bankRegs
  | .chan => headerRegs ++ chanRegs
  | .phase => headerRegs ++ phaseRegs
  | .eng => headerRegs ++ engRegs
  | .result => headerRegs ++ resultRegs
  | .recipe => recipeRegs
  | .header => headerRegs

/-- The block a page belongs to, by *Page map* (R27); none for an absent page (R26). -/
def pageKind (page : Nat) : Option PageKind :=
  if page = 0x000 then some .chip
  else if page = 0x001 then some .clock
  else if page = 0x002 then some .transit
  else if page = 0x003 then some .host
  else if page = 0x004 then some .stream
  else if page = 0x005 then some .twowire
  else if page = 0x006 then some .fault
  else if page = 0x007 then some .changelog
  else if page = 0x008 then some .rtc
  else if page = 0x009 then some .timer
  else if page = 0x00A then some .otp
  else if page = 0x00B then some .granary
  else if page = 0x00C then some .hkseq
  else if page = 0x00D then some .hkrail
  else if page = 0x00E then some .backup
  else if page = 0x00F then some .gauge
  else if page = 0x010 then some .commons
  else if page = 0x011 then some .ledger
  else if page = 0x012 then some .estim
  else if page = 0x013 then some .engctl
  else if 0x020 ≤ page ∧ page ≤ 0x027 then some .bank
  else if 0x040 ≤ page ∧ page ≤ 0x05F then some .chan
  else if 0x080 ≤ page ∧ page ≤ 0x0BF then some .phase
  else if 0x100 ≤ page ∧ page ≤ 0x10B then some .eng
  else if 0x200 ≤ page ∧ page ≤ 0x27F then some .recipe
  else if 0x300 ≤ page ∧ page ≤ 0x31F then some .result
  else none

/-- The first page of a block's range in *Page map*, which is the TYPE code of R29. -/
def firstPage (page : Nat) : Nat :=
  if page < 0x020 then page
  else if page ≤ 0x027 then 0x020
  else if page ≤ 0x05F then 0x040
  else if page ≤ 0x0BF then 0x080
  else if page ≤ 0x10B then 0x100
  else if page ≤ 0x27F then 0x200
  else 0x300

/-- The instance index of a page (R29). -/
def pageInstance (page : Nat) : Nat := page - firstPage page

/-- Pages of the main domain (R27): unavailable outside FULL (R26). -/
def pageIsMain (page : Nat) : Bool :=
  match pageKind page with
  | some .transit | some .stream | some .timer | some .otp | some .granary | some .commons | some .ledger
  | some .estim | some .bank | some .chan | some .phase | some .recipe | some .result => true
  | some .eng => decide (page ≤ 0x109)
  | _ => false

/-- Does a register definition hold the offset? -/
def RegDef.covers (r : RegDef) (off : Nat) : Bool :=
  if r.cnt ≤ 1 then decide (off = r.off)
  else decide (r.off ≤ off) && decide ((off - r.off) % r.stride = 0) && decide ((off - r.off) / r.stride < r.cnt)

/-- The register at an offset of a page kind. -/
def regAt (k : PageKind) (off : Nat) : Option RegDef := (regsOf k).find? (·.covers off)

/-- The fields of the register at an address; the empty list for an address that holds no register. -/
def fieldsAt (page off : Nat) : List FieldDef :=
  match pageKind page with
  | none => []
  | some k => match regAt k off with
    | none => []
    | some r => r.fields

/-- The fault kinds with a slot: slot, page kinds that raise it, default and lowest severity (*Fault kinds*, R340). -/
def faultSlots : List (Nat × List PageKind × Nat × Nat) := [
  (0, [.phase], 2, 1), (1, [.bank], 1, 0), (2, [.ledger], 1, 0), (3, [.phase, .chan], 2, 1), (4, [.eng], 1, 0),
  (5, [.eng], 1, 0), (6, [.eng], 1, 0), (7, [.eng], 0, 0), (8, [.commons], 1, 0), (9, [.commons], 1, 0),
  (10, [.chan], 2, 2), (11, [.chan], 2, 2), (12, [.chan], 2, 2), (13, [.chan], 2, 2), (14, [.chan], 2, 2),
  (15, [.chan], 1, 0), (16, [.chip], 1, 0), (17, [.hkrail], 4, 4), (18, [.hkseq], 4, 4), (19, [.hkseq], 1, 0),
  (20, [.backup], 4, 4), (21, [.backup], 1, 0), (22, [.backup], 1, 0), (23, [.backup], 1, 0),
  (24, [.estim, .gauge], 1, 0), (25, [.stream], 0, 0), (26, [.changelog], 1, 0), (27, [.clock], 1, 0),
  (28, [.clock], 1, 0), (29, [.transit], 1, 0)]

/-- The default and the lowest severity of a slot on a page kind; none where the page does not raise the kind. -/
def slotOf (k : PageKind) (slot : Nat) : Option (Nat × Nat) :=
  match faultSlots.find? (fun e => decide (e.1 = slot)) with
  | none => none
  | some (_, ks, d, l) => if ks.contains k then some (d, l) else none

/-- The reset value of SEVERITY_MAP.n on a page kind: the Default column of *Fault kinds* (R340). -/
def severityReset (k : PageKind) (n : Nat) : Nat :=
  (List.range 10).foldl (fun acc j =>
    match slotOf k (10 * n + j) with
    | none => acc
    | some (d, _) => acc + d * 2 ^ (3 * j)) 0

/-- Reset values that the tables give as a rule ("Per page", "Per kind", 64 × (c mod 4)) in place of a number. -/
def resetSpecial (k : PageKind) (page off : Nat) : Option Nat :=
  if off = 0x000 ∧ k ≠ .recipe then some (firstPage page * 65536 + pageInstance page * 256 + 1)
  else if off = 0x014 ∧ k ≠ .recipe then some (severityReset k 0)
  else if off = 0x018 ∧ k ≠ .recipe then some (severityReset k 1)
  else if off = 0x01C ∧ k ≠ .recipe then some (severityReset k 2)
  else if off = 0x020 ∧ (k = .otp ∨ k = .bank) then some 0x100
  else if k = .chan ∧ off = 0x200 then some (64 * (pageInstance page % 4) + 64 * 256)
  else none

/-- The reset value of the register at an address (the Reset column, R6). -/
def resetNat (page off : Nat) : Nat :=
  match pageKind page with
  | none => 0
  | some k =>
    match resetSpecial k page off with
    | some v => v
    | none =>
      let base := match regAt k off with
        | none => 0
        | some r => r.fields.foldl (fun a f => a + f.reset * 2 ^ f.lo) 0
      indexedResets.foldl (fun a e =>
        if e.1 = k ∧ e.2.1 = off then a + e.2.2.2 * 2 ^ e.2.2.1 else a) base

/-- The reset value of the register at a byte address (R25, R6). -/
def resetWord (addr : Nat) : Word := BitVec.ofNat 32 (resetNat (addr / 0x400) (addr % 0x400))

end Sys2Proof.Machine
end

