-- ==== Sys2Proof/Machine/RegNames.lean ====
section
/-! DEFINITION. Names for the registers and fields of the spec's register tables: offset, high bit, low bit and, for a
register that repeats along an index, the distance in bytes from one to the next. -/

namespace Sys2Proof.Machine


/-! ### HEADER -/
abbrev Reg.HEADER.PAGE_ID : Fld := ⟨0x000, 31, 0, 0⟩
abbrev Reg.HEADER.PAGE_ID_TYPE : Fld := ⟨0x000, 31, 16, 0⟩
abbrev Reg.HEADER.PAGE_ID_INSTANCE : Fld := ⟨0x000, 15, 8, 0⟩
abbrev Reg.HEADER.PAGE_ID_REV : Fld := ⟨0x000, 7, 0, 0⟩
abbrev Reg.HEADER.PAGE_STATUS : Fld := ⟨0x004, 31, 0, 0⟩
abbrev Reg.HEADER.PAGE_STATUS_BUSY : Fld := ⟨0x004, 3, 3, 0⟩
abbrev Reg.HEADER.PAGE_STATUS_LOCKED : Fld := ⟨0x004, 2, 2, 0⟩
abbrev Reg.HEADER.PAGE_STATUS_FAULT_ACTIVE : Fld := ⟨0x004, 1, 1, 0⟩
abbrev Reg.HEADER.PAGE_STATUS_READY : Fld := ⟨0x004, 0, 0, 0⟩
abbrev Reg.HEADER.EVENT : Fld := ⟨0x008, 31, 0, 0⟩
abbrev Reg.HEADER.EVENT_FAULT : Fld := ⟨0x008, 26, 26, 0⟩
abbrev Reg.HEADER.EVENT_RIGHT_REJECT : Fld := ⟨0x008, 25, 25, 0⟩
abbrev Reg.HEADER.EVENT_LOCK_REJECT : Fld := ⟨0x008, 24, 24, 0⟩
abbrev Reg.HEADER.EVENT_PAGE_EVENTS : Fld := ⟨0x008, 23, 0, 0⟩
abbrev Reg.HEADER.EVENT_EN : Fld := ⟨0x00C, 31, 0, 0⟩
abbrev Reg.HEADER.FAULT_LAST : Fld := ⟨0x010, 31, 0, 0⟩
abbrev Reg.HEADER.SEVERITY_MAP : Fld := ⟨0x014, 31, 0, 4⟩
abbrev Reg.HEADER.SEVERITY_MAP_SEV0 : Fld := ⟨0x014, 2, 0, 4⟩
abbrev Reg.HEADER.SEVERITY_MAP_SEV1 : Fld := ⟨0x014, 5, 3, 4⟩
abbrev Reg.HEADER.SEVERITY_MAP_SEV2 : Fld := ⟨0x014, 8, 6, 4⟩
abbrev Reg.HEADER.SEVERITY_MAP_SEV3 : Fld := ⟨0x014, 11, 9, 4⟩
abbrev Reg.HEADER.SEVERITY_MAP_SEV4 : Fld := ⟨0x014, 14, 12, 4⟩
abbrev Reg.HEADER.SEVERITY_MAP_SEV5 : Fld := ⟨0x014, 17, 15, 4⟩
abbrev Reg.HEADER.SEVERITY_MAP_SEV6 : Fld := ⟨0x014, 20, 18, 4⟩
abbrev Reg.HEADER.SEVERITY_MAP_SEV7 : Fld := ⟨0x014, 23, 21, 4⟩
abbrev Reg.HEADER.SEVERITY_MAP_SEV8 : Fld := ⟨0x014, 26, 24, 4⟩
abbrev Reg.HEADER.SEVERITY_MAP_SEV9 : Fld := ⟨0x014, 29, 27, 4⟩
abbrev Reg.HEADER.LOCK : Fld := ⟨0x020, 31, 0, 0⟩
abbrev Reg.HEADER.LOCK_KEY : Fld := ⟨0x020, 31, 16, 0⟩
abbrev Reg.HEADER.LOCK_STATE : Fld := ⟨0x020, 9, 8, 0⟩
abbrev Reg.HEADER.LOCK_CMD : Fld := ⟨0x020, 2, 0, 0⟩
abbrev Reg.HEADER.CHANGE_SEQ : Fld := ⟨0x024, 31, 0, 0⟩
/-! ### CHIP -/
abbrev Reg.CHIP.STATUS : Fld := ⟨0x040, 31, 0, 0⟩
abbrev Reg.CHIP.STATUS_FAULT_N_IN : Fld := ⟨0x040, 23, 23, 0⟩
abbrev Reg.CHIP.STATUS_CHAN_INHIBIT : Fld := ⟨0x040, 22, 22, 0⟩
abbrev Reg.CHIP.STATUS_OTP_FAIL : Fld := ⟨0x040, 21, 17, 0⟩
abbrev Reg.CHIP.STATUS_GO_PENDING : Fld := ⟨0x040, 16, 16, 0⟩
abbrev Reg.CHIP.STATUS_RING_TX : Fld := ⟨0x040, 14, 14, 0⟩
abbrev Reg.CHIP.STATUS_TRANSIT_ALIGNED : Fld := ⟨0x040, 13, 13, 0⟩
abbrev Reg.CHIP.STATUS_ENGINES_UP : Fld := ⟨0x040, 12, 12, 0⟩
abbrev Reg.CHIP.STATUS_OTP_LOADED : Fld := ⟨0x040, 11, 11, 0⟩
abbrev Reg.CHIP.STATUS_PLL_LOCK : Fld := ⟨0x040, 10, 10, 0⟩
abbrev Reg.CHIP.STATUS_REFCLK_OK : Fld := ⟨0x040, 9, 9, 0⟩
abbrev Reg.CHIP.STATUS_HK_UP : Fld := ⟨0x040, 8, 8, 0⟩
abbrev Reg.CHIP.STATUS_SERVICE : Fld := ⟨0x040, 2, 0, 0⟩
abbrev Reg.CHIP.RESET_CAUSE : Fld := ⟨0x044, 31, 0, 0⟩
abbrev Reg.CHIP.RESET_CAUSE_START_CLOCK : Fld := ⟨0x044, 6, 6, 0⟩
abbrev Reg.CHIP.RESET_CAUSE_WARM_REEVE : Fld := ⟨0x044, 5, 5, 0⟩
abbrev Reg.CHIP.RESET_CAUSE_WARM_CLOCK : Fld := ⟨0x044, 4, 4, 0⟩
abbrev Reg.CHIP.RESET_CAUSE_WARM_CMD : Fld := ⟨0x044, 3, 3, 0⟩
abbrev Reg.CHIP.RESET_CAUSE_MAIN_LOSS : Fld := ⟨0x044, 2, 2, 0⟩
abbrev Reg.CHIP.RESET_CAUSE_COLD_CMD : Fld := ⟨0x044, 1, 1, 0⟩
abbrev Reg.CHIP.RESET_CAUSE_POWER_ON : Fld := ⟨0x044, 0, 0, 0⟩
abbrev Reg.CHIP.RESET_CMD : Fld := ⟨0x048, 31, 0, 0⟩
abbrev Reg.CHIP.RESET_CMD_KEY : Fld := ⟨0x048, 31, 16, 0⟩
abbrev Reg.CHIP.RESET_CMD_CMD : Fld := ⟨0x048, 1, 0, 0⟩
abbrev Reg.CHIP.CONTROL : Fld := ⟨0x04C, 31, 0, 0⟩
abbrev Reg.CHIP.CONTROL_GO : Fld := ⟨0x04C, 0, 0, 0⟩
abbrev Reg.CHIP.START_CFG : Fld := ⟨0x050, 31, 0, 0⟩
abbrev Reg.CHIP.START_CFG_TRANSIT_WAIT : Fld := ⟨0x050, 15, 8, 0⟩
abbrev Reg.CHIP.START_CFG_AUTO_FULL : Fld := ⟨0x050, 0, 0, 0⟩
abbrev Reg.CHIP.START_TIME : Fld := ⟨0x054, 31, 0, 0⟩
abbrev Reg.CHIP.WARM_COUNT : Fld := ⟨0x058, 31, 0, 0⟩
abbrev Reg.CHIP.IDENT : Fld := ⟨0x05C, 31, 0, 0⟩
abbrev Reg.CHIP.IDENT_SILICON_REV : Fld := ⟨0x05C, 23, 16, 0⟩
abbrev Reg.CHIP.IDENT_MEMBER : Fld := ⟨0x05C, 15, 8, 0⟩
abbrev Reg.CHIP.IDENT_ID_STRAP : Fld := ⟨0x05C, 2, 0, 0⟩
/-! ### CLOCK -/
abbrev Reg.CLOCK.REFCLK_CFG : Fld := ⟨0x040, 31, 0, 0⟩
abbrev Reg.CLOCK.REFCLK_CFG_FREQ_KHZ : Fld := ⟨0x040, 15, 0, 0⟩
abbrev Reg.CLOCK.HOLDOVER : Fld := ⟨0x044, 31, 0, 0⟩
abbrev Reg.CLOCK.HOLDOVER_LIMIT_MS : Fld := ⟨0x044, 3, 0, 0⟩
abbrev Reg.CLOCK.STATUS : Fld := ⟨0x048, 31, 0, 0⟩
abbrev Reg.CLOCK.STATUS_HOLDOVER : Fld := ⟨0x048, 3, 3, 0⟩
abbrev Reg.CLOCK.STATUS_PLL_LOCK : Fld := ⟨0x048, 2, 2, 0⟩
abbrev Reg.CLOCK.STATUS_REFCLK_QUAL : Fld := ⟨0x048, 1, 1, 0⟩
abbrev Reg.CLOCK.STATUS_REFCLK_PRESENT : Fld := ⟨0x048, 0, 0, 0⟩
abbrev Reg.CLOCK.REFCLK_MEAS : Fld := ⟨0x04C, 31, 0, 0⟩
abbrev Reg.CLOCK.REFCLK_MEAS_KHZ : Fld := ⟨0x04C, 15, 0, 0⟩
abbrev Reg.CLOCK.RC_MEAS : Fld := ⟨0x050, 31, 0, 0⟩
abbrev Reg.CLOCK.RC_MEAS_KHZ : Fld := ⟨0x050, 15, 0, 0⟩
abbrev Reg.CLOCK.HOLD_COUNT : Fld := ⟨0x054, 31, 0, 0⟩
abbrev Reg.CLOCK.HOLD_MAX : Fld := ⟨0x058, 31, 0, 0⟩
/-! ### TRANSIT -/
abbrev Reg.TRANSIT.CTRL : Fld := ⟨0x040, 31, 0, 0⟩
abbrev Reg.TRANSIT.CTRL_PERIOD : Fld := ⟨0x040, 5, 4, 0⟩
abbrev Reg.TRANSIT.CTRL_ROLE : Fld := ⟨0x040, 1, 0, 0⟩
abbrev Reg.TRANSIT.ALIGN_CFG : Fld := ⟨0x044, 31, 0, 0⟩
abbrev Reg.TRANSIT.ALIGN_CFG_SKEW_WIN : Fld := ⟨0x044, 15, 8, 0⟩
abbrev Reg.TRANSIT.ALIGN_CFG_DELAY_COMP : Fld := ⟨0x044, 7, 0, 0⟩
abbrev Reg.TRANSIT.STATUS : Fld := ⟨0x048, 31, 0, 0⟩
abbrev Reg.TRANSIT.STATUS_CONTENTION : Fld := ⟨0x048, 4, 4, 0⟩
abbrev Reg.TRANSIT.STATUS_FREEWHEEL : Fld := ⟨0x048, 3, 3, 0⟩
abbrev Reg.TRANSIT.STATUS_REALIGNING : Fld := ⟨0x048, 2, 2, 0⟩
abbrev Reg.TRANSIT.STATUS_ROLE_ACTIVE : Fld := ⟨0x048, 1, 1, 0⟩
abbrev Reg.TRANSIT.STATUS_ALIGNED : Fld := ⟨0x048, 0, 0, 0⟩
abbrev Reg.TRANSIT.SKEW : Fld := ⟨0x04C, 31, 0, 0⟩
abbrev Reg.TRANSIT.SKEW_ERROR : Fld := ⟨0x04C, 15, 0, 0⟩
abbrev Reg.TRANSIT.SKEW_MAX : Fld := ⟨0x050, 31, 0, 0⟩
abbrev Reg.TRANSIT.SKEW_MAX_ABS : Fld := ⟨0x050, 15, 0, 0⟩
abbrev Reg.TRANSIT.MISSED : Fld := ⟨0x054, 31, 0, 0⟩
abbrev Reg.TRANSIT.OUT_OF_WIN : Fld := ⟨0x058, 31, 0, 0⟩
abbrev Reg.TRANSIT.LAST_LEN : Fld := ⟨0x05C, 31, 0, 0⟩
abbrev Reg.TRANSIT.LAST_LEN_CYCLES : Fld := ⟨0x05C, 15, 0, 0⟩
abbrev Reg.TRANSIT.FRAME_LO : Fld := ⟨0x060, 31, 0, 0⟩
abbrev Reg.TRANSIT.FRAME_HI : Fld := ⟨0x064, 31, 0, 0⟩
abbrev Reg.TRANSIT.MARK : Fld := ⟨0x068, 31, 0, 0⟩
abbrev Reg.TRANSIT.MARK_MARK : Fld := ⟨0x068, 0, 0, 0⟩
abbrev Reg.TRANSIT.MARK_LO : Fld := ⟨0x06C, 31, 0, 0⟩
abbrev Reg.TRANSIT.MARK_HI : Fld := ⟨0x070, 31, 0, 0⟩
abbrev Reg.TRANSIT.PWM_CFG : Fld := ⟨0x080, 31, 0, 0⟩
abbrev Reg.TRANSIT.PWM_CFG_BOARD_STAGGER : Fld := ⟨0x080, 16, 16, 0⟩
abbrev Reg.TRANSIT.PWM_CFG_DIV : Fld := ⟨0x080, 9, 0, 0⟩
abbrev Reg.TRANSIT.SSC_CFG : Fld := ⟨0x084, 31, 0, 0⟩
abbrev Reg.TRANSIT.SSC_CFG_MODE : Fld := ⟨0x084, 16, 16, 0⟩
abbrev Reg.TRANSIT.SSC_CFG_RATE : Fld := ⟨0x084, 14, 8, 0⟩
abbrev Reg.TRANSIT.SSC_CFG_DEPTH : Fld := ⟨0x084, 6, 0, 0⟩
/-! ### HOST -/
abbrev Reg.HOST.CFG : Fld := ⟨0x040, 31, 0, 0⟩
abbrev Reg.HOST.CFG_BCAST_EN : Fld := ⟨0x040, 1, 1, 0⟩
abbrev Reg.HOST.CFG_IRQ_EN : Fld := ⟨0x040, 0, 0, 0⟩
abbrev Reg.HOST.STATUS : Fld := ⟨0x044, 31, 0, 0⟩
abbrev Reg.HOST.STATUS_LAST_FOUR : Fld := ⟨0x044, 1, 1, 0⟩
abbrev Reg.HOST.STATUS_FOUR_LANE : Fld := ⟨0x044, 0, 0, 0⟩
abbrev Reg.HOST.LAST_RESP : Fld := ⟨0x048, 31, 0, 0⟩
abbrev Reg.HOST.LAST_RESP_RESP : Fld := ⟨0x048, 15, 0, 0⟩
abbrev Reg.HOST.LAST_BCAST : Fld := ⟨0x04C, 31, 0, 0⟩
abbrev Reg.HOST.LAST_BCAST_RESP : Fld := ⟨0x04C, 15, 0, 0⟩
abbrev Reg.HOST.FRAMES : Fld := ⟨0x050, 31, 0, 0⟩
abbrev Reg.HOST.BCASTS : Fld := ⟨0x054, 31, 0, 0⟩
abbrev Reg.HOST.CRC_ERR : Fld := ⟨0x058, 31, 0, 0⟩
abbrev Reg.HOST.BAD_FRAME : Fld := ⟨0x05C, 31, 0, 0⟩
abbrev Reg.HOST.ABORTED : Fld := ⟨0x060, 31, 0, 0⟩
abbrev Reg.HOST.DEFERRED : Fld := ⟨0x064, 31, 0, 0⟩
abbrev Reg.HOST.IRQ_INDEX : Fld := ⟨0x068, 31, 0, 0⟩
abbrev Reg.HOST.IRQ_INDEX_PAGE : Fld := ⟨0x068, 9, 0, 0⟩
abbrev Reg.HOST.IRQ_NEXT : Fld := ⟨0x06C, 31, 0, 0⟩
abbrev Reg.HOST.IRQ_NEXT_FOUND : Fld := ⟨0x06C, 31, 31, 0⟩
abbrev Reg.HOST.IRQ_NEXT_PAGE : Fld := ⟨0x06C, 9, 0, 0⟩
abbrev Reg.HOST.IRQ_COUNT : Fld := ⟨0x070, 31, 0, 0⟩
abbrev Reg.HOST.IRQ_COUNT_PAGES : Fld := ⟨0x070, 9, 0, 0⟩
/-! ### STREAM -/
abbrev Reg.STREAM.CTRL : Fld := ⟨0x040, 31, 0, 0⟩
abbrev Reg.STREAM.CTRL_EN : Fld := ⟨0x040, 3, 0, 0⟩
abbrev Reg.STREAM.BUF_CFG : Fld := ⟨0x044, 31, 0, 0⟩
abbrev Reg.STREAM.BUF_CFG_SIZE0 : Fld := ⟨0x044, 4, 0, 0⟩
abbrev Reg.STREAM.BUF_CFG_SIZE1 : Fld := ⟨0x044, 12, 8, 0⟩
abbrev Reg.STREAM.BUF_CFG_SIZE2 : Fld := ⟨0x044, 20, 16, 0⟩
abbrev Reg.STREAM.BUF_CFG_SIZE3 : Fld := ⟨0x044, 28, 24, 0⟩
abbrev Reg.STREAM.ROUTE : Fld := ⟨0x048, 31, 0, 0⟩
abbrev Reg.STREAM.ROUTE_EN0 : Fld := ⟨0x048, 2, 2, 0⟩
abbrev Reg.STREAM.ROUTE_EN1 : Fld := ⟨0x048, 6, 6, 0⟩
abbrev Reg.STREAM.ROUTE_EN2 : Fld := ⟨0x048, 10, 10, 0⟩
abbrev Reg.STREAM.ROUTE_EN3 : Fld := ⟨0x048, 14, 14, 0⟩
abbrev Reg.STREAM.ROUTE_CHAN0 : Fld := ⟨0x048, 1, 0, 0⟩
abbrev Reg.STREAM.ROUTE_CHAN1 : Fld := ⟨0x048, 5, 4, 0⟩
abbrev Reg.STREAM.ROUTE_CHAN2 : Fld := ⟨0x048, 9, 8, 0⟩
abbrev Reg.STREAM.ROUTE_CHAN3 : Fld := ⟨0x048, 13, 12, 0⟩
abbrev Reg.STREAM.TELEM_CFG : Fld := ⟨0x04C, 31, 0, 0⟩
abbrev Reg.STREAM.TELEM_CFG_PERIOD : Fld := ⟨0x04C, 15, 0, 0⟩
abbrev Reg.STREAM.TELEM_MASK : Fld := ⟨0x050, 31, 0, 0⟩
abbrev Reg.STREAM.STATUS : Fld := ⟨0x054, 31, 0, 0⟩
abbrev Reg.STREAM.STATUS_STREAM_N_OUT : Fld := ⟨0x054, 4, 4, 0⟩
abbrev Reg.STREAM.STATUS_HIGH : Fld := ⟨0x054, 3, 0, 0⟩
abbrev Reg.STREAM.DROP_TOTAL : Fld := ⟨0x058, 31, 0, 0⟩
abbrev Reg.STREAM.MARKS : Fld := ⟨0x080, 31, 0, 32⟩
abbrev Reg.STREAM.MARKS_HIGH : Fld := ⟨0x080, 24, 16, 32⟩
abbrev Reg.STREAM.MARKS_LOW : Fld := ⟨0x080, 8, 0, 32⟩
abbrev Reg.STREAM.FILL : Fld := ⟨0x084, 31, 0, 32⟩
abbrev Reg.STREAM.FILL_WORDS : Fld := ⟨0x084, 12, 0, 32⟩
abbrev Reg.STREAM.SEQ : Fld := ⟨0x088, 31, 0, 32⟩
abbrev Reg.STREAM.RETIRED_SEQ : Fld := ⟨0x08C, 31, 0, 32⟩
abbrev Reg.STREAM.RETIRE : Fld := ⟨0x090, 31, 0, 32⟩
abbrev Reg.STREAM.REC_COUNT : Fld := ⟨0x094, 31, 0, 32⟩
abbrev Reg.STREAM.WORD_COUNT : Fld := ⟨0x098, 31, 0, 32⟩
abbrev Reg.STREAM.DATA : Fld := ⟨0x100, 31, 0, 4⟩
abbrev Reg.STREAM.DROP : Fld := ⟨0x200, 31, 0, 4⟩
/-! ### TWOWIRE -/
abbrev Reg.TWOWIRE.CFG : Fld := ⟨0x040, 31, 0, 0⟩
abbrev Reg.TWOWIRE.CFG_PEC_EN : Fld := ⟨0x040, 8, 8, 0⟩
abbrev Reg.TWOWIRE.CFG_ALERT_EN : Fld := ⟨0x040, 2, 0, 0⟩
abbrev Reg.TWOWIRE.TIMING_0 : Fld := ⟨0x044, 31, 0, 0⟩
abbrev Reg.TWOWIRE.TIMING_0_SETUP : Fld := ⟨0x044, 15, 8, 0⟩
abbrev Reg.TWOWIRE.TIMING_0_HOLD : Fld := ⟨0x044, 7, 0, 0⟩
abbrev Reg.TWOWIRE.TIMING_1 : Fld := ⟨0x048, 31, 0, 0⟩
abbrev Reg.TWOWIRE.TIMING_1_LOW : Fld := ⟨0x048, 31, 16, 0⟩
abbrev Reg.TWOWIRE.TIMING_1_HIGH : Fld := ⟨0x048, 15, 0, 0⟩
abbrev Reg.TWOWIRE.STATUS : Fld := ⟨0x04C, 31, 0, 0⟩
abbrev Reg.TWOWIRE.STATUS_WORD : Fld := ⟨0x04C, 15, 4, 0⟩
abbrev Reg.TWOWIRE.STATUS_LATCHED : Fld := ⟨0x04C, 3, 0, 0⟩
abbrev Reg.TWOWIRE.LAST_CMD : Fld := ⟨0x050, 31, 0, 0⟩
abbrev Reg.TWOWIRE.LAST_CMD_RESULT : Fld := ⟨0x050, 31, 30, 0⟩
abbrev Reg.TWOWIRE.LAST_CMD_WORD : Fld := ⟨0x050, 15, 0, 0⟩
abbrev Reg.TWOWIRE.CMDS : Fld := ⟨0x054, 31, 0, 0⟩
abbrev Reg.TWOWIRE.CMD_BAD : Fld := ⟨0x058, 31, 0, 0⟩
abbrev Reg.TWOWIRE.PEC_ERR : Fld := ⟨0x05C, 31, 0, 0⟩
abbrev Reg.TWOWIRE.READS : Fld := ⟨0x060, 31, 0, 0⟩
abbrev Reg.TWOWIRE.ARB_LOST : Fld := ⟨0x064, 31, 0, 0⟩
abbrev Reg.TWOWIRE.BUS_TIMEOUT : Fld := ⟨0x068, 31, 0, 0⟩
/-! ### FAULT -/
abbrev Reg.FAULT.CFG : Fld := ⟨0x040, 31, 0, 0⟩
abbrev Reg.FAULT.CFG_BOARD_AUTOCLR : Fld := ⟨0x040, 10, 10, 0⟩
abbrev Reg.FAULT.CFG_CRIER_EN : Fld := ⟨0x040, 9, 9, 0⟩
abbrev Reg.FAULT.CFG_RECORD_SEV : Fld := ⟨0x040, 6, 4, 0⟩
abbrev Reg.FAULT.CFG_PIN_THRESH : Fld := ⟨0x040, 2, 0, 0⟩
abbrev Reg.FAULT.STATUS : Fld := ⟨0x044, 31, 0, 0⟩
abbrev Reg.FAULT.STATUS_TEST_MODE : Fld := ⟨0x044, 23, 23, 0⟩
abbrev Reg.FAULT.STATUS_REC_BUSY : Fld := ⟨0x044, 22, 22, 0⟩
abbrev Reg.FAULT.STATUS_FAULT_N_OUT : Fld := ⟨0x044, 21, 21, 0⟩
abbrev Reg.FAULT.STATUS_FAULT_N_IN : Fld := ⟨0x044, 20, 20, 0⟩
abbrev Reg.FAULT.STATUS_CHIP_SAFE : Fld := ⟨0x044, 19, 19, 0⟩
abbrev Reg.FAULT.STATUS_HIGHEST : Fld := ⟨0x044, 18, 16, 0⟩
abbrev Reg.FAULT.STATUS_BANK_SAFE : Fld := ⟨0x044, 15, 8, 0⟩
abbrev Reg.FAULT.CLEAR : Fld := ⟨0x048, 31, 0, 0⟩
abbrev Reg.FAULT.CLEAR_ALL : Fld := ⟨0x048, 31, 31, 0⟩
abbrev Reg.FAULT.CLEAR_PAGE : Fld := ⟨0x048, 27, 16, 0⟩
abbrev Reg.FAULT.CLEAR_KIND : Fld := ⟨0x048, 7, 0, 0⟩
abbrev Reg.FAULT.ACT_INDEX : Fld := ⟨0x04C, 31, 0, 0⟩
abbrev Reg.FAULT.ACT_INDEX_PAGE : Fld := ⟨0x04C, 11, 0, 0⟩
abbrev Reg.FAULT.ACT_NEXT : Fld := ⟨0x050, 31, 0, 0⟩
abbrev Reg.FAULT.ACT_NEXT_FOUND : Fld := ⟨0x050, 31, 31, 0⟩
abbrev Reg.FAULT.ACT_NEXT_PAGE : Fld := ⟨0x050, 27, 16, 0⟩
abbrev Reg.FAULT.ACT_NEXT_HIGHEST : Fld := ⟨0x050, 2, 0, 0⟩
abbrev Reg.FAULT.ACT_SLOTS : Fld := ⟨0x054, 31, 0, 0⟩
abbrev Reg.FAULT.ACT_SLOTS_FIXED : Fld := ⟨0x054, 30, 30, 0⟩
abbrev Reg.FAULT.ACT_SLOTS_SLOTS : Fld := ⟨0x054, 29, 0, 0⟩
abbrev Reg.FAULT.ACT_COUNT : Fld := ⟨0x058, 31, 0, 0⟩
abbrev Reg.FAULT.ACT_COUNT_COUNT : Fld := ⟨0x058, 15, 0, 0⟩
abbrev Reg.FAULT.FIFO_FILL : Fld := ⟨0x060, 31, 0, 0⟩
abbrev Reg.FAULT.FIFO_FILL_FILL : Fld := ⟨0x060, 6, 0, 0⟩
abbrev Reg.FAULT.FIFO_MSG : Fld := ⟨0x064, 31, 0, 0⟩
abbrev Reg.FAULT.FIFO_FRAME : Fld := ⟨0x068, 31, 0, 0⟩
abbrev Reg.FAULT.FIFO_SEC : Fld := ⟨0x06C, 31, 0, 0⟩
abbrev Reg.FAULT.FIFO_LOST : Fld := ⟨0x070, 31, 0, 0⟩
abbrev Reg.FAULT.MSG_COUNT : Fld := ⟨0x074, 31, 0, 0⟩
abbrev Reg.FAULT.CRIER_TX : Fld := ⟨0x080, 31, 0, 0⟩
abbrev Reg.FAULT.CRIER_LOST : Fld := ⟨0x084, 31, 0, 0⟩
abbrev Reg.FAULT.CRIER_NOACK : Fld := ⟨0x088, 31, 0, 0⟩
abbrev Reg.FAULT.CRIER_RX : Fld := ⟨0x08C, 31, 0, 0⟩
abbrev Reg.FAULT.CRIER_BAD : Fld := ⟨0x090, 31, 0, 0⟩
abbrev Reg.FAULT.CRIER_LAST_ID : Fld := ⟨0x094, 31, 0, 0⟩
abbrev Reg.FAULT.CRIER_LAST_ID_ID : Fld := ⟨0x094, 2, 0, 0⟩
abbrev Reg.FAULT.CRIER_LAST_MSG : Fld := ⟨0x098, 31, 0, 0⟩
abbrev Reg.FAULT.CRIER_LAST_SEC : Fld := ⟨0x09C, 31, 0, 0⟩
abbrev Reg.FAULT.REC_CTRL : Fld := ⟨0x0A0, 31, 0, 0⟩
abbrev Reg.FAULT.REC_CTRL_SLOT : Fld := ⟨0x0A0, 1, 1, 0⟩
abbrev Reg.FAULT.REC_CTRL_HALF : Fld := ⟨0x0A0, 0, 0, 0⟩
abbrev Reg.FAULT.REC_SEQ : Fld := ⟨0x0A4, 31, 0, 0⟩
abbrev Reg.FAULT.REC_SKIPPED : Fld := ⟨0x0A8, 31, 0, 0⟩
abbrev Reg.FAULT.TEST_KEY : Fld := ⟨0x0C0, 31, 0, 0⟩
abbrev Reg.FAULT.TEST_KEY_KEY : Fld := ⟨0x0C0, 15, 0, 0⟩
abbrev Reg.FAULT.INJECT : Fld := ⟨0x0C4, 31, 0, 0⟩
abbrev Reg.FAULT.INJECT_COUNT : Fld := ⟨0x0C8, 31, 0, 0⟩
abbrev Reg.FAULT.RECORD : Fld := ⟨0x200, 31, 0, 4⟩
/-! ### CHANGELOG -/
abbrev Reg.CHANGELOG.CTRL : Fld := ⟨0x040, 31, 0, 0⟩
abbrev Reg.CHANGELOG.CTRL_PERSIST_ORIGIN : Fld := ⟨0x040, 13, 8, 0⟩
abbrev Reg.CHANGELOG.CTRL_MIRROR : Fld := ⟨0x040, 1, 1, 0⟩
abbrev Reg.CHANGELOG.CTRL_WRAP : Fld := ⟨0x040, 0, 0, 0⟩
abbrev Reg.CHANGELOG.HEAD : Fld := ⟨0x044, 31, 0, 0⟩
abbrev Reg.CHANGELOG.HEAD_HEAD : Fld := ⟨0x044, 9, 0, 0⟩
abbrev Reg.CHANGELOG.TAIL : Fld := ⟨0x048, 31, 0, 0⟩
abbrev Reg.CHANGELOG.TAIL_TAIL : Fld := ⟨0x048, 9, 0, 0⟩
abbrev Reg.CHANGELOG.FILL : Fld := ⟨0x04C, 31, 0, 0⟩
abbrev Reg.CHANGELOG.FILL_FILL : Fld := ⟨0x04C, 10, 0, 0⟩
abbrev Reg.CHANGELOG.TOTAL : Fld := ⟨0x050, 31, 0, 0⟩
abbrev Reg.CHANGELOG.OVERFLOW : Fld := ⟨0x054, 31, 0, 0⟩
abbrev Reg.CHANGELOG.OVERWRITTEN : Fld := ⟨0x058, 31, 0, 0⟩
abbrev Reg.CHANGELOG.PERSIST_DROP : Fld := ⟨0x05C, 31, 0, 0⟩
abbrev Reg.CHANGELOG.RD_INDEX : Fld := ⟨0x060, 31, 0, 0⟩
abbrev Reg.CHANGELOG.RD_INDEX_INDEX : Fld := ⟨0x060, 9, 0, 0⟩
abbrev Reg.CHANGELOG.ENTRY : Fld := ⟨0x064, 31, 0, 4⟩
/-! ### RTC -/
abbrev Reg.RTC.CTRL : Fld := ⟨0x040, 31, 0, 0⟩
abbrev Reg.RTC.CTRL_HALT : Fld := ⟨0x040, 0, 0, 0⟩
abbrev Reg.RTC.STATUS : Fld := ⟨0x044, 31, 0, 0⟩
abbrev Reg.RTC.STATUS_ON_VBK : Fld := ⟨0x044, 4, 4, 0⟩
abbrev Reg.RTC.STATUS_ALARM_SKIPPED : Fld := ⟨0x044, 3, 3, 0⟩
abbrev Reg.RTC.STATUS_ALARM_FIRED : Fld := ⟨0x044, 2, 2, 0⟩
abbrev Reg.RTC.STATUS_WRITE_REJECTED : Fld := ⟨0x044, 1, 1, 0⟩
abbrev Reg.RTC.STATUS_OSF : Fld := ⟨0x044, 0, 0, 0⟩
abbrev Reg.RTC.TIME_SEC : Fld := ⟨0x048, 31, 0, 0⟩
abbrev Reg.RTC.SUBSEC : Fld := ⟨0x04C, 31, 0, 0⟩
abbrev Reg.RTC.SUBSEC_CYCLES : Fld := ⟨0x04C, 14, 0, 0⟩
abbrev Reg.RTC.CAL_TIME : Fld := ⟨0x050, 31, 0, 0⟩
abbrev Reg.RTC.CAL_TIME_HOUR : Fld := ⟨0x050, 20, 16, 0⟩
abbrev Reg.RTC.CAL_TIME_MINUTE : Fld := ⟨0x050, 13, 8, 0⟩
abbrev Reg.RTC.CAL_TIME_SECOND : Fld := ⟨0x050, 5, 0, 0⟩
abbrev Reg.RTC.CAL_DATE : Fld := ⟨0x054, 31, 0, 0⟩
abbrev Reg.RTC.CAL_DATE_YEAR : Fld := ⟨0x054, 31, 24, 0⟩
abbrev Reg.RTC.CAL_DATE_MONTH : Fld := ⟨0x054, 19, 16, 0⟩
abbrev Reg.RTC.CAL_DATE_DAY : Fld := ⟨0x054, 12, 8, 0⟩
abbrev Reg.RTC.CAL_DATE_WEEKDAY : Fld := ⟨0x054, 2, 0, 0⟩
abbrev Reg.RTC.ALARM : Fld := ⟨0x058, 31, 0, 0⟩
abbrev Reg.RTC.ALARM_CTRL : Fld := ⟨0x05C, 31, 0, 0⟩
abbrev Reg.RTC.ALARM_CTRL_ARM : Fld := ⟨0x05C, 0, 0, 0⟩
abbrev Reg.RTC.WAKE_CFG : Fld := ⟨0x060, 31, 0, 0⟩
abbrev Reg.RTC.WAKE_CFG_STATE : Fld := ⟨0x060, 16, 16, 0⟩
abbrev Reg.RTC.WAKE_CFG_WIDTH : Fld := ⟨0x060, 15, 8, 0⟩
abbrev Reg.RTC.WAKE_CFG_RELEASE : Fld := ⟨0x060, 3, 3, 0⟩
abbrev Reg.RTC.WAKE_CFG_FORCE : Fld := ⟨0x060, 2, 2, 0⟩
abbrev Reg.RTC.WAKE_CFG_MODE : Fld := ⟨0x060, 1, 1, 0⟩
abbrev Reg.RTC.WAKE_CFG_EN : Fld := ⟨0x060, 0, 0, 0⟩
abbrev Reg.RTC.TRIM : Fld := ⟨0x064, 31, 0, 0⟩
abbrev Reg.RTC.TRIM_CODE : Fld := ⟨0x064, 10, 0, 0⟩
abbrev Reg.RTC.TRIM_MEAS : Fld := ⟨0x068, 31, 0, 0⟩
abbrev Reg.RTC.TRIM_MEAS_STATE : Fld := ⟨0x068, 17, 16, 0⟩
abbrev Reg.RTC.TRIM_MEAS_WINDOW : Fld := ⟨0x068, 14, 8, 0⟩
abbrev Reg.RTC.TRIM_MEAS_APPLY : Fld := ⟨0x068, 1, 1, 0⟩
abbrev Reg.RTC.TRIM_MEAS_START : Fld := ⟨0x068, 0, 0, 0⟩
abbrev Reg.RTC.MEAS_COUNT_LO : Fld := ⟨0x06C, 31, 0, 0⟩
abbrev Reg.RTC.MEAS_COUNT_HI : Fld := ⟨0x070, 31, 0, 0⟩
abbrev Reg.RTC.MEAS_ERR : Fld := ⟨0x074, 31, 0, 0⟩
abbrev Reg.RTC.MEAS_SUGGEST : Fld := ⟨0x078, 31, 0, 0⟩
abbrev Reg.RTC.MEAS_SUGGEST_CODE : Fld := ⟨0x078, 10, 0, 0⟩
abbrev Reg.RTC.TRICKLE : Fld := ⟨0x07C, 31, 0, 0⟩
abbrev Reg.RTC.TRICKLE_VMAX : Fld := ⟨0x07C, 5, 4, 0⟩
abbrev Reg.RTC.TRICKLE_RES : Fld := ⟨0x07C, 3, 2, 0⟩
abbrev Reg.RTC.TRICKLE_EN : Fld := ⟨0x07C, 0, 0, 0⟩
abbrev Reg.RTC.OSC_STOPS : Fld := ⟨0x080, 31, 0, 0⟩
/-! ### TIMER -/
abbrev Reg.TIMER.TICK_LO : Fld := ⟨0x040, 31, 0, 0⟩
abbrev Reg.TIMER.TICK_HI : Fld := ⟨0x044, 31, 0, 0⟩
abbrev Reg.TIMER.TICK_HI_TICK : Fld := ⟨0x044, 23, 0, 0⟩
abbrev Reg.TIMER.GPIO_CFG : Fld := ⟨0x048, 31, 0, 0⟩
abbrev Reg.TIMER.GPIO_CFG_INIT0 : Fld := ⟨0x048, 2, 2, 0⟩
abbrev Reg.TIMER.GPIO_CFG_INIT1 : Fld := ⟨0x048, 6, 6, 0⟩
abbrev Reg.TIMER.GPIO_CFG_INIT2 : Fld := ⟨0x048, 10, 10, 0⟩
abbrev Reg.TIMER.GPIO_CFG_INIT3 : Fld := ⟨0x048, 14, 14, 0⟩
abbrev Reg.TIMER.GPIO_CFG_MODE0 : Fld := ⟨0x048, 0, 0, 0⟩
abbrev Reg.TIMER.GPIO_CFG_MODE1 : Fld := ⟨0x048, 4, 4, 0⟩
abbrev Reg.TIMER.GPIO_CFG_MODE2 : Fld := ⟨0x048, 8, 8, 0⟩
abbrev Reg.TIMER.GPIO_CFG_MODE3 : Fld := ⟨0x048, 12, 12, 0⟩
abbrev Reg.TIMER.GPIO_LEVEL : Fld := ⟨0x04C, 31, 0, 0⟩
abbrev Reg.TIMER.GPIO_LEVEL_LEVEL : Fld := ⟨0x04C, 3, 0, 0⟩
abbrev Reg.TIMER.CMP_LO : Fld := ⟨0x080, 31, 0, 16⟩
abbrev Reg.TIMER.CMP_HI : Fld := ⟨0x084, 31, 0, 16⟩
abbrev Reg.TIMER.CMP_HI_VALUE : Fld := ⟨0x084, 23, 0, 16⟩
abbrev Reg.TIMER.CMP_CTRL : Fld := ⟨0x088, 31, 0, 16⟩
abbrev Reg.TIMER.CMP_CTRL_ARMED : Fld := ⟨0x088, 31, 31, 16⟩
abbrev Reg.TIMER.CMP_CTRL_LATE : Fld := ⟨0x088, 30, 30, 16⟩
abbrev Reg.TIMER.CMP_CTRL_WIDTH : Fld := ⟨0x088, 23, 8, 16⟩
abbrev Reg.TIMER.CMP_CTRL_PIN : Fld := ⟨0x088, 7, 6, 16⟩
abbrev Reg.TIMER.CMP_CTRL_ACTION : Fld := ⟨0x088, 5, 3, 16⟩
abbrev Reg.TIMER.CMP_CTRL_EN : Fld := ⟨0x088, 0, 0, 16⟩
abbrev Reg.TIMER.CAP_LO : Fld := ⟨0x100, 31, 0, 16⟩
abbrev Reg.TIMER.CAP_HI : Fld := ⟨0x104, 31, 0, 16⟩
abbrev Reg.TIMER.CAP_HI_TICK : Fld := ⟨0x104, 23, 0, 16⟩
abbrev Reg.TIMER.CAP_CTRL : Fld := ⟨0x108, 31, 0, 16⟩
abbrev Reg.TIMER.CAP_CTRL_OVERRUN : Fld := ⟨0x108, 9, 9, 16⟩
abbrev Reg.TIMER.CAP_CTRL_FULL : Fld := ⟨0x108, 8, 8, 16⟩
abbrev Reg.TIMER.CAP_CTRL_SRC : Fld := ⟨0x108, 6, 4, 16⟩
abbrev Reg.TIMER.CAP_CTRL_EDGE : Fld := ⟨0x108, 2, 1, 16⟩
abbrev Reg.TIMER.CAP_CTRL_EN : Fld := ⟨0x108, 0, 0, 16⟩
/-! ### OTP -/
abbrev Reg.OTP.REGION_STATUS : Fld := ⟨0x040, 31, 0, 0⟩
abbrev Reg.OTP.REGION_STATUS_REGION : Fld := ⟨0x040, 9, 0, 0⟩
abbrev Reg.OTP.PROG_ADDR : Fld := ⟨0x044, 31, 0, 0⟩
abbrev Reg.OTP.PROG_ADDR_ADDR : Fld := ⟨0x044, 7, 0, 0⟩
abbrev Reg.OTP.PROG_DATA : Fld := ⟨0x048, 31, 0, 0⟩
abbrev Reg.OTP.PROG_CMD : Fld := ⟨0x04C, 31, 0, 0⟩
abbrev Reg.OTP.PROG_CMD_KEY : Fld := ⟨0x04C, 31, 16, 0⟩
abbrev Reg.OTP.PROG_CMD_REGION : Fld := ⟨0x04C, 6, 4, 0⟩
abbrev Reg.OTP.PROG_CMD_OP : Fld := ⟨0x04C, 1, 0, 0⟩
abbrev Reg.OTP.PROG_STATUS : Fld := ⟨0x050, 31, 0, 0⟩
abbrev Reg.OTP.PROG_STATUS_WEAK : Fld := ⟨0x050, 31, 16, 0⟩
abbrev Reg.OTP.PROG_STATUS_PULSES : Fld := ⟨0x050, 11, 8, 0⟩
abbrev Reg.OTP.PROG_STATUS_BUSY : Fld := ⟨0x050, 4, 4, 0⟩
abbrev Reg.OTP.PROG_STATUS_RESULT : Fld := ⟨0x050, 3, 0, 0⟩
abbrev Reg.OTP.READ_ADDR : Fld := ⟨0x054, 31, 0, 0⟩
abbrev Reg.OTP.READ_ADDR_ADDR : Fld := ⟨0x054, 7, 0, 0⟩
abbrev Reg.OTP.READ_DATA : Fld := ⟨0x058, 31, 0, 0⟩
abbrev Reg.OTP.PROG_COUNT : Fld := ⟨0x05C, 31, 0, 0⟩
abbrev Reg.OTP.CUST_IGNORED : Fld := ⟨0x060, 31, 0, 0⟩
abbrev Reg.OTP.SERIAL_LO : Fld := ⟨0x064, 31, 0, 0⟩
abbrev Reg.OTP.SERIAL_HI : Fld := ⟨0x068, 31, 0, 0⟩
abbrev Reg.OTP.LOT : Fld := ⟨0x06C, 31, 0, 0⟩
abbrev Reg.OTP.WAFER_XY : Fld := ⟨0x070, 31, 0, 0⟩
/-! ### GRANARY -/
abbrev Reg.GRANARY.STATUS : Fld := ⟨0x040, 31, 0, 0⟩
abbrev Reg.GRANARY.STATUS_ERASED : Fld := ⟨0x040, 31, 16, 0⟩
abbrev Reg.GRANARY.STATUS_EMERG_READY : Fld := ⟨0x040, 3, 3, 0⟩
abbrev Reg.GRANARY.STATUS_BUSY : Fld := ⟨0x040, 2, 2, 0⟩
abbrev Reg.GRANARY.STATUS_SCANNED : Fld := ⟨0x040, 1, 1, 0⟩
abbrev Reg.GRANARY.STATUS_LOW_POOL : Fld := ⟨0x040, 0, 0, 0⟩
abbrev Reg.GRANARY.WEAR_MAX : Fld := ⟨0x044, 31, 0, 0⟩
abbrev Reg.GRANARY.WEAR_MIN : Fld := ⟨0x048, 31, 0, 0⟩
abbrev Reg.GRANARY.RETIRED : Fld := ⟨0x04C, 31, 0, 0⟩
abbrev Reg.GRANARY.COMMITS : Fld := ⟨0x050, 31, 0, 0⟩
abbrev Reg.GRANARY.FALLBACKS : Fld := ⟨0x054, 31, 0, 0⟩
abbrev Reg.GRANARY.EMERG_COUNT : Fld := ⟨0x058, 31, 0, 0⟩
abbrev Reg.GRANARY.LOG_FIRST : Fld := ⟨0x05C, 31, 0, 0⟩
abbrev Reg.GRANARY.LOG_LAST : Fld := ⟨0x060, 31, 0, 0⟩
abbrev Reg.GRANARY.WIN_SEL : Fld := ⟨0x064, 31, 0, 0⟩
abbrev Reg.GRANARY.WIN_SEL_SRC : Fld := ⟨0x064, 31, 30, 0⟩
abbrev Reg.GRANARY.WIN_SEL_INDEX : Fld := ⟨0x064, 29, 0, 0⟩
abbrev Reg.GRANARY.CUST_CMD : Fld := ⟨0x068, 31, 0, 0⟩
abbrev Reg.GRANARY.CUST_CMD_COMMIT : Fld := ⟨0x068, 31, 31, 0⟩
abbrev Reg.GRANARY.CUST_CMD_LENGTH : Fld := ⟨0x068, 24, 16, 0⟩
abbrev Reg.GRANARY.CUST_CMD_RECORD : Fld := ⟨0x068, 4, 0, 0⟩
abbrev Reg.GRANARY.CUST_STATUS : Fld := ⟨0x06C, 31, 0, 0⟩
abbrev Reg.GRANARY.CUST_STATUS_SEQ : Fld := ⟨0x06C, 31, 8, 0⟩
abbrev Reg.GRANARY.CUST_STATUS_RESULT : Fld := ⟨0x06C, 3, 0, 0⟩
abbrev Reg.GRANARY.WINDOW : Fld := ⟨0x200, 31, 0, 4⟩
/-! ### HKSEQ -/
abbrev Reg.HKSEQ.CFG : Fld := ⟨0x040, 31, 0, 0⟩
abbrev Reg.HKSEQ.CFG_RETRY : Fld := ⟨0x040, 9, 8, 0⟩
abbrev Reg.HKSEQ.CFG_FILT : Fld := ⟨0x040, 5, 0, 0⟩
abbrev Reg.HKSEQ.CMD : Fld := ⟨0x044, 31, 0, 0⟩
abbrev Reg.HKSEQ.CMD_KEY : Fld := ⟨0x044, 31, 16, 0⟩
abbrev Reg.HKSEQ.CMD_OP : Fld := ⟨0x044, 1, 0, 0⟩
abbrev Reg.HKSEQ.STATUS : Fld := ⟨0x048, 31, 0, 0⟩
abbrev Reg.HKSEQ.STATUS_CONSEC_ABORTS : Fld := ⟨0x048, 29, 28, 0⟩
abbrev Reg.HKSEQ.STATUS_EMERG_OFF : Fld := ⟨0x048, 27, 27, 0⟩
abbrev Reg.HKSEQ.STATUS_STATE : Fld := ⟨0x048, 26, 24, 0⟩
abbrev Reg.HKSEQ.STATUS_ABORT_CAUSE : Fld := ⟨0x048, 23, 20, 0⟩
abbrev Reg.HKSEQ.STATUS_ABORT_RAIL : Fld := ⟨0x048, 17, 16, 0⟩
abbrev Reg.HKSEQ.STATUS_SLOT : Fld := ⟨0x048, 13, 8, 0⟩
abbrev Reg.HKSEQ.STATUS_FAILS : Fld := ⟨0x048, 7, 0, 0⟩
abbrev Reg.HKSEQ.RAIL_SEQ : Fld := ⟨0x050, 31, 0, 4⟩
abbrev Reg.HKSEQ.RAIL_SEQ_IN_SEQ : Fld := ⟨0x050, 30, 30, 4⟩
abbrev Reg.HKSEQ.RAIL_SEQ_OFF_DLY : Fld := ⟨0x050, 29, 24, 4⟩
abbrev Reg.HKSEQ.RAIL_SEQ_ON_DLY : Fld := ⟨0x050, 21, 16, 4⟩
abbrev Reg.HKSEQ.RAIL_SEQ_QUAL : Fld := ⟨0x050, 15, 8, 4⟩
abbrev Reg.HKSEQ.RAIL_SEQ_START_TMO : Fld := ⟨0x050, 7, 0, 4⟩
abbrev Reg.HKSEQ.RST_CFG : Fld := ⟨0x060, 31, 0, 4⟩
abbrev Reg.HKSEQ.RST_CFG_MASK : Fld := ⟨0x060, 19, 16, 4⟩
abbrev Reg.HKSEQ.RST_CFG_STRETCH : Fld := ⟨0x060, 7, 0, 4⟩
abbrev Reg.HKSEQ.OFF_RESULT : Fld := ⟨0x068, 31, 0, 0⟩
abbrev Reg.HKSEQ.OFF_RESULT_RESULT : Fld := ⟨0x068, 7, 0, 0⟩
abbrev Reg.HKSEQ.UP_COUNT : Fld := ⟨0x06C, 31, 0, 0⟩
abbrev Reg.HKSEQ.ABORT_COUNT : Fld := ⟨0x070, 31, 0, 0⟩
abbrev Reg.HKSEQ.LAST_UP_US : Fld := ⟨0x074, 31, 0, 0⟩
/-! ### HKRAIL -/
abbrev Reg.HKRAIL.CTRL : Fld := ⟨0x040, 31, 0, 32⟩
abbrev Reg.HKRAIL.CTRL_DISCH : Fld := ⟨0x040, 1, 1, 32⟩
abbrev Reg.HKRAIL.CTRL_EN : Fld := ⟨0x040, 0, 0, 32⟩
abbrev Reg.HKRAIL.VSET : Fld := ⟨0x044, 31, 0, 32⟩
abbrev Reg.HKRAIL.VSET_VOLTAGE : Fld := ⟨0x044, 15, 0, 32⟩
abbrev Reg.HKRAIL.SS_SLEW : Fld := ⟨0x048, 31, 0, 32⟩
abbrev Reg.HKRAIL.SS_SLEW_SLEW : Fld := ⟨0x048, 31, 16, 32⟩
abbrev Reg.HKRAIL.SS_SLEW_SS : Fld := ⟨0x048, 7, 0, 32⟩
abbrev Reg.HKRAIL.LIMIT : Fld := ⟨0x04C, 31, 0, 32⟩
abbrev Reg.HKRAIL.LIMIT_OFF_TMO : Fld := ⟨0x04C, 31, 24, 32⟩
abbrev Reg.HKRAIL.LIMIT_OFF_TH : Fld := ⟨0x04C, 23, 16, 32⟩
abbrev Reg.HKRAIL.LIMIT_ILIM : Fld := ⟨0x04C, 15, 0, 32⟩
abbrev Reg.HKRAIL.STATUS : Fld := ⟨0x050, 31, 0, 32⟩
abbrev Reg.HKRAIL.STATUS_DERATED : Fld := ⟨0x050, 6, 6, 32⟩
abbrev Reg.HKRAIL.STATUS_DISCHARGING : Fld := ⟨0x050, 5, 5, 32⟩
abbrev Reg.HKRAIL.STATUS_CURLIM : Fld := ⟨0x050, 4, 4, 32⟩
abbrev Reg.HKRAIL.STATUS_SLEW_DONE : Fld := ⟨0x050, 3, 3, 32⟩
abbrev Reg.HKRAIL.STATUS_QUALIFIED : Fld := ⟨0x050, 2, 2, 32⟩
abbrev Reg.HKRAIL.STATUS_PG : Fld := ⟨0x050, 1, 1, 32⟩
abbrev Reg.HKRAIL.STATUS_ON : Fld := ⟨0x050, 0, 0, 32⟩
abbrev Reg.HKRAIL.VREF : Fld := ⟨0x054, 31, 0, 32⟩
abbrev Reg.HKRAIL.VREF_VOLTAGE : Fld := ⟨0x054, 15, 0, 32⟩
abbrev Reg.HKRAIL.VOUT : Fld := ⟨0x058, 31, 0, 32⟩
abbrev Reg.HKRAIL.VOUT_VOLTAGE : Fld := ⟨0x058, 15, 0, 32⟩
abbrev Reg.HKRAIL.SLEW_RETARGET : Fld := ⟨0x05C, 31, 0, 32⟩
abbrev Reg.HKRAIL.VIN : Fld := ⟨0x0C0, 31, 0, 0⟩
abbrev Reg.HKRAIL.VIN_VOLTAGE : Fld := ⟨0x0C0, 15, 0, 0⟩
abbrev Reg.HKRAIL.VSYS : Fld := ⟨0x0C4, 31, 0, 0⟩
abbrev Reg.HKRAIL.VSYS_VOLTAGE : Fld := ⟨0x0C4, 15, 0, 0⟩
abbrev Reg.HKRAIL.VBAK : Fld := ⟨0x0C8, 31, 0, 0⟩
abbrev Reg.HKRAIL.VBAK_VOLTAGE : Fld := ⟨0x0C8, 15, 0, 0⟩
abbrev Reg.HKRAIL.VBK : Fld := ⟨0x0CC, 31, 0, 0⟩
abbrev Reg.HKRAIL.VBK_VOLTAGE : Fld := ⟨0x0CC, 15, 0, 0⟩
abbrev Reg.HKRAIL.DIE : Fld := ⟨0x0D0, 31, 0, 4⟩
abbrev Reg.HKRAIL.DIE_TEMP : Fld := ⟨0x0D0, 15, 0, 4⟩
abbrev Reg.HKRAIL.DERATE : Fld := ⟨0x0E0, 31, 0, 0⟩
abbrev Reg.HKRAIL.DERATE_PERCENT : Fld := ⟨0x0E0, 7, 0, 0⟩
abbrev Reg.HKRAIL.TS_CFG : Fld := ⟨0x0E4, 31, 0, 0⟩
abbrev Reg.HKRAIL.TS_CFG_BETA : Fld := ⟨0x0E4, 31, 16, 0⟩
abbrev Reg.HKRAIL.TS_CFG_R25 : Fld := ⟨0x0E4, 15, 0, 0⟩
abbrev Reg.HKRAIL.CELL_T : Fld := ⟨0x100, 31, 0, 4⟩
abbrev Reg.HKRAIL.CELL_T_VALID : Fld := ⟨0x100, 31, 31, 4⟩
abbrev Reg.HKRAIL.CELL_T_TEMP : Fld := ⟨0x100, 15, 0, 4⟩
/-! ### BACKUP -/
abbrev Reg.BACKUP.VIN_TH : Fld := ⟨0x040, 31, 0, 0⟩
abbrev Reg.BACKUP.VIN_TH_VIN_OK : Fld := ⟨0x040, 31, 16, 0⟩
abbrev Reg.BACKUP.VIN_TH_VIN_UV : Fld := ⟨0x040, 15, 0, 0⟩
abbrev Reg.BACKUP.PATH_CFG : Fld := ⟨0x044, 31, 0, 0⟩
abbrev Reg.BACKUP.PATH_CFG_QUAL : Fld := ⟨0x044, 31, 24, 0⟩
abbrev Reg.BACKUP.PATH_CFG_PACK_START : Fld := ⟨0x044, 16, 16, 0⟩
abbrev Reg.BACKUP.PATH_CFG_VSYS_MIN : Fld := ⟨0x044, 15, 0, 0⟩
abbrev Reg.BACKUP.IIN_LIM : Fld := ⟨0x048, 31, 0, 0⟩
abbrev Reg.BACKUP.IIN_LIM_LIMIT : Fld := ⟨0x048, 15, 0, 0⟩
abbrev Reg.BACKUP.CHG_CFG : Fld := ⟨0x04C, 31, 0, 0⟩
abbrev Reg.BACKUP.CHG_CFG_EN : Fld := ⟨0x04C, 31, 31, 0⟩
abbrev Reg.BACKUP.CHG_CFG_CELLS : Fld := ⟨0x04C, 28, 28, 0⟩
abbrev Reg.BACKUP.CHG_CFG_ITERM : Fld := ⟨0x04C, 23, 16, 0⟩
abbrev Reg.BACKUP.CHG_CFG_ICHG : Fld := ⟨0x04C, 15, 0, 0⟩
abbrev Reg.BACKUP.CHG_TIMER : Fld := ⟨0x050, 31, 0, 0⟩
abbrev Reg.BACKUP.CHG_TIMER_RECHG : Fld := ⟨0x050, 23, 16, 0⟩
abbrev Reg.BACKUP.CHG_TIMER_LIMIT : Fld := ⟨0x050, 15, 0, 0⟩
abbrev Reg.BACKUP.SHUT_CFG : Fld := ⟨0x054, 31, 0, 0⟩
abbrev Reg.BACKUP.SHUT_CFG_CUT_MARGIN : Fld := ⟨0x054, 31, 24, 0⟩
abbrev Reg.BACKUP.SHUT_CFG_START_MARGIN : Fld := ⟨0x054, 23, 16, 0⟩
abbrev Reg.BACKUP.SHUT_CFG_SHUT_V : Fld := ⟨0x054, 15, 0, 0⟩
abbrev Reg.BACKUP.TS_CFG : Fld := ⟨0x058, 31, 0, 0⟩
abbrev Reg.BACKUP.TS_CFG_BETA : Fld := ⟨0x058, 31, 16, 0⟩
abbrev Reg.BACKUP.TS_CFG_R25 : Fld := ⟨0x058, 15, 0, 0⟩
abbrev Reg.BACKUP.ZONE_HYST : Fld := ⟨0x05C, 31, 0, 0⟩
abbrev Reg.BACKUP.ZONE_HYST_HYST : Fld := ⟨0x05C, 7, 0, 0⟩
abbrev Reg.BACKUP.ZONE : Fld := ⟨0x060, 31, 0, 4⟩
abbrev Reg.BACKUP.ZONE_T_HI : Fld := ⟨0x060, 31, 16, 4⟩
abbrev Reg.BACKUP.ZONE_I_CODE : Fld := ⟨0x060, 15, 8, 4⟩
abbrev Reg.BACKUP.ZONE_V : Fld := ⟨0x080, 31, 0, 4⟩
abbrev Reg.BACKUP.ZONE_V_V_CELL : Fld := ⟨0x080, 15, 0, 4⟩
abbrev Reg.BACKUP.PATH_STATUS : Fld := ⟨0x0A0, 31, 0, 0⟩
abbrev Reg.BACKUP.PATH_STATUS_SHUTDOWN : Fld := ⟨0x0A0, 6, 6, 0⟩
abbrev Reg.BACKUP.PATH_STATUS_DPM : Fld := ⟨0x0A0, 5, 5, 0⟩
abbrev Reg.BACKUP.PATH_STATUS_BAT_SW : Fld := ⟨0x0A0, 4, 4, 0⟩
abbrev Reg.BACKUP.PATH_STATUS_VIN_GOOD : Fld := ⟨0x0A0, 3, 3, 0⟩
abbrev Reg.BACKUP.PATH_STATUS_SOURCE : Fld := ⟨0x0A0, 2, 0, 0⟩
abbrev Reg.BACKUP.CHG_STATUS : Fld := ⟨0x0A4, 31, 0, 0⟩
abbrev Reg.BACKUP.CHG_STATUS_TS_VALID : Fld := ⟨0x0A4, 10, 10, 0⟩
abbrev Reg.BACKUP.CHG_STATUS_AUTH_OK : Fld := ⟨0x0A4, 9, 9, 0⟩
abbrev Reg.BACKUP.CHG_STATUS_PRESENT : Fld := ⟨0x0A4, 8, 8, 0⟩
abbrev Reg.BACKUP.CHG_STATUS_ZONE : Fld := ⟨0x0A4, 6, 4, 0⟩
abbrev Reg.BACKUP.CHG_STATUS_STATE : Fld := ⟨0x0A4, 3, 0, 0⟩
abbrev Reg.BACKUP.PACK_T : Fld := ⟨0x0A8, 31, 0, 0⟩
abbrev Reg.BACKUP.PACK_T_VALID : Fld := ⟨0x0A8, 31, 31, 0⟩
abbrev Reg.BACKUP.PACK_T_TEMP : Fld := ⟨0x0A8, 15, 0, 0⟩
abbrev Reg.BACKUP.CHG_TIME : Fld := ⟨0x0AC, 31, 0, 0⟩
abbrev Reg.BACKUP.CHG_TIME_MINUTES : Fld := ⟨0x0AC, 15, 0, 0⟩
abbrev Reg.BACKUP.HANDOVERS : Fld := ⟨0x0B0, 31, 0, 0⟩
abbrev Reg.BACKUP.LAST_OUTAGE : Fld := ⟨0x0B4, 31, 0, 0⟩
abbrev Reg.BACKUP.AUTH_CFG : Fld := ⟨0x0B8, 31, 0, 0⟩
abbrev Reg.BACKUP.AUTH_CFG_EN : Fld := ⟨0x0B8, 31, 31, 0⟩
abbrev Reg.BACKUP.AUTH_CFG_ADDR : Fld := ⟨0x0B8, 6, 0, 0⟩
abbrev Reg.BACKUP.AUTH_CMD : Fld := ⟨0x0BC, 31, 0, 0⟩
abbrev Reg.BACKUP.AUTH_CMD_START : Fld := ⟨0x0BC, 0, 0, 0⟩
/-! ### GAUGE -/
abbrev Reg.GAUGE.DESIGN_CAP : Fld := ⟨0x040, 31, 0, 0⟩
abbrev Reg.GAUGE.DESIGN_CAP_CAP : Fld := ⟨0x040, 23, 0, 0⟩
abbrev Reg.GAUGE.GAUGE_CFG : Fld := ⟨0x044, 31, 0, 0⟩
abbrev Reg.GAUGE.GAUGE_CFG_SHUNT : Fld := ⟨0x044, 31, 16, 0⟩
abbrev Reg.GAUGE.GAUGE_CFG_EMPTY_MARGIN : Fld := ⟨0x044, 15, 8, 0⟩
abbrev Reg.GAUGE.GAUGE_CFG_REST_MIN : Fld := ⟨0x044, 7, 0, 0⟩
abbrev Reg.GAUGE.CMD : Fld := ⟨0x048, 31, 0, 0⟩
abbrev Reg.GAUGE.CMD_KEY : Fld := ⟨0x048, 31, 16, 0⟩
abbrev Reg.GAUGE.CMD_RELEARN : Fld := ⟨0x048, 0, 0, 0⟩
abbrev Reg.GAUGE.SOC : Fld := ⟨0x04C, 31, 0, 0⟩
abbrev Reg.GAUGE.SOC_SOC_RAW : Fld := ⟨0x04C, 31, 16, 0⟩
abbrev Reg.GAUGE.SOC_SOC : Fld := ⟨0x04C, 15, 0, 0⟩
abbrev Reg.GAUGE.STATUS : Fld := ⟨0x050, 31, 0, 0⟩
abbrev Reg.GAUGE.STATUS_FROZEN : Fld := ⟨0x050, 8, 8, 0⟩
abbrev Reg.GAUGE.STATUS_EMPTY_MARK : Fld := ⟨0x050, 7, 7, 0⟩
abbrev Reg.GAUGE.STATUS_LEARN_REJECT : Fld := ⟨0x050, 6, 6, 0⟩
abbrev Reg.GAUGE.STATUS_ROLLBACK : Fld := ⟨0x050, 5, 5, 0⟩
abbrev Reg.GAUGE.STATUS_FORCED_EMPTY : Fld := ⟨0x050, 4, 4, 0⟩
abbrev Reg.GAUGE.STATUS_HELD : Fld := ⟨0x050, 3, 3, 0⟩
abbrev Reg.GAUGE.STATUS_RELEARN_REQ : Fld := ⟨0x050, 2, 2, 0⟩
abbrev Reg.GAUGE.STATUS_CONFIDENCE : Fld := ⟨0x050, 1, 0, 0⟩
abbrev Reg.GAUGE.Q_RAW : Fld := ⟨0x054, 31, 0, 0⟩
abbrev Reg.GAUGE.FCC : Fld := ⟨0x058, 31, 0, 0⟩
abbrev Reg.GAUGE.Q_UNUSABLE : Fld := ⟨0x05C, 31, 0, 0⟩
abbrev Reg.GAUGE.PACK_I : Fld := ⟨0x060, 31, 0, 0⟩
abbrev Reg.GAUGE.LOAD_AVG : Fld := ⟨0x064, 31, 0, 0⟩
abbrev Reg.GAUGE.CYCLES : Fld := ⟨0x068, 31, 0, 0⟩
abbrev Reg.GAUGE.LEARN_COUNT : Fld := ⟨0x06C, 31, 0, 0⟩
abbrev Reg.GAUGE.IMP : Fld := ⟨0x070, 31, 0, 4⟩
abbrev Reg.GAUGE.IMP_VALID : Fld := ⟨0x070, 31, 31, 4⟩
abbrev Reg.GAUGE.IMP_RES : Fld := ⟨0x070, 15, 0, 4⟩
abbrev Reg.GAUGE.OCV : Fld := ⟨0x0A0, 31, 0, 4⟩
abbrev Reg.GAUGE.OCV_VOLTAGE : Fld := ⟨0x0A0, 15, 0, 4⟩
/-! ### COMMONS -/
abbrev Reg.COMMONS.CFG : Fld := ⟨0x040, 31, 0, 0⟩
abbrev Reg.COMMONS.CFG_RETURN_DELAY : Fld := ⟨0x040, 31, 16, 0⟩
abbrev Reg.COMMONS.CFG_BREAK_FRAMES : Fld := ⟨0x040, 11, 8, 0⟩
abbrev Reg.COMMONS.CFG_BORROW_EN : Fld := ⟨0x040, 0, 0, 0⟩
abbrev Reg.COMMONS.STARVE_CFG : Fld := ⟨0x044, 31, 0, 0⟩
abbrev Reg.COMMONS.STARVE_CFG_BORROW_GAP : Fld := ⟨0x044, 23, 16, 0⟩
abbrev Reg.COMMONS.STARVE_CFG_STARVE_FRAMES : Fld := ⟨0x044, 15, 0, 0⟩
abbrev Reg.COMMONS.FLOOR : Fld := ⟨0x048, 31, 0, 0⟩
abbrev Reg.COMMONS.FLOOR_TOKENS : Fld := ⟨0x048, 15, 0, 0⟩
abbrev Reg.COMMONS.STATUS : Fld := ⟨0x04C, 31, 0, 0⟩
abbrev Reg.COMMONS.STATUS_RTAG : Fld := ⟨0x04C, 15, 8, 0⟩
abbrev Reg.COMMONS.STATUS_MISMATCH : Fld := ⟨0x04C, 7, 7, 0⟩
abbrev Reg.COMMONS.STATUS_LOAN : Fld := ⟨0x04C, 6, 6, 0⟩
abbrev Reg.COMMONS.STATUS_RET_PURSE : Fld := ⟨0x04C, 5, 5, 0⟩
abbrev Reg.COMMONS.STATUS_HOT : Fld := ⟨0x04C, 4, 4, 0⟩
abbrev Reg.COMMONS.STATUS_KEEPER : Fld := ⟨0x04C, 3, 3, 0⟩
abbrev Reg.COMMONS.STATUS_FROZEN : Fld := ⟨0x04C, 2, 2, 0⟩
abbrev Reg.COMMONS.STATUS_CLOSED : Fld := ⟨0x04C, 1, 1, 0⟩
abbrev Reg.COMMONS.STATUS_ORIGIN : Fld := ⟨0x04C, 0, 0, 0⟩
abbrev Reg.COMMONS.HELD : Fld := ⟨0x050, 31, 0, 0⟩
abbrev Reg.COMMONS.PURSE : Fld := ⟨0x054, 31, 0, 0⟩
abbrev Reg.COMMONS.NEED : Fld := ⟨0x058, 31, 0, 0⟩
abbrev Reg.COMMONS.DEMAND : Fld := ⟨0x05C, 31, 0, 0⟩
abbrev Reg.COMMONS.DEMAND_TOKENS : Fld := ⟨0x05C, 15, 0, 0⟩
abbrev Reg.COMMONS.BANK : Fld := ⟨0x060, 31, 0, 4⟩
abbrev Reg.COMMONS.BANK_NEED : Fld := ⟨0x060, 31, 16, 4⟩
abbrev Reg.COMMONS.BANK_ALLOC : Fld := ⟨0x060, 15, 0, 4⟩
abbrev Reg.COMMONS.LOAN_LAST : Fld := ⟨0x080, 31, 0, 0⟩
abbrev Reg.COMMONS.LOAN_LAST_OFFER : Fld := ⟨0x080, 31, 16, 0⟩
abbrev Reg.COMMONS.LOAN_LAST_BORROWED : Fld := ⟨0x080, 15, 0, 0⟩
abbrev Reg.COMMONS.GRANTED : Fld := ⟨0x084, 31, 0, 0⟩
abbrev Reg.COMMONS.RETURNED : Fld := ⟨0x088, 31, 0, 0⟩
abbrev Reg.COMMONS.STARVE_COUNT : Fld := ⟨0x08C, 31, 0, 0⟩
abbrev Reg.COMMONS.BREAK_COUNT : Fld := ⟨0x090, 31, 0, 0⟩
abbrev Reg.COMMONS.CRC_ERR : Fld := ⟨0x094, 31, 0, 0⟩
abbrev Reg.COMMONS.BORROW_COUNT : Fld := ⟨0x098, 31, 0, 0⟩
abbrev Reg.COMMONS.OVERDRAW : Fld := ⟨0x09C, 31, 0, 0⟩
abbrev Reg.COMMONS.ISSUE_SEEN : Fld := ⟨0x0A0, 31, 0, 0⟩
abbrev Reg.COMMONS.ISSUE_SEEN_ISSUE : Fld := ⟨0x0A0, 3, 0, 0⟩
abbrev Reg.COMMONS.TOTAL : Fld := ⟨0x100, 31, 0, 0⟩
abbrev Reg.COMMONS.RESERVE : Fld := ⟨0x104, 31, 0, 0⟩
abbrev Reg.COMMONS.ISSUE : Fld := ⟨0x108, 31, 0, 0⟩
abbrev Reg.COMMONS.NEW_TOTAL : Fld := ⟨0x10C, 31, 0, 0⟩
abbrev Reg.COMMONS.REISSUE : Fld := ⟨0x110, 31, 0, 0⟩
abbrev Reg.COMMONS.REISSUE_KEY : Fld := ⟨0x110, 31, 16, 0⟩
abbrev Reg.COMMONS.REISSUE_WRITE_OFF : Fld := ⟨0x110, 15, 8, 0⟩
abbrev Reg.COMMONS.REISSUE_GO : Fld := ⟨0x110, 0, 0, 0⟩
abbrev Reg.COMMONS.LEND_MAX : Fld := ⟨0x114, 31, 0, 0⟩
abbrev Reg.COMMONS.LEND_MAX_TOKENS : Fld := ⟨0x114, 15, 0, 0⟩
abbrev Reg.COMMONS.PRESENT : Fld := ⟨0x118, 31, 0, 0⟩
abbrev Reg.COMMONS.PRESENT_VOID_PENDING : Fld := ⟨0x118, 15, 8, 0⟩
abbrev Reg.COMMONS.PRESENT_PRESENT : Fld := ⟨0x118, 7, 0, 0⟩
abbrev Reg.COMMONS.LAST_SETTLE : Fld := ⟨0x11C, 31, 0, 0⟩
abbrev Reg.COMMONS.START : Fld := ⟨0x120, 31, 0, 0⟩
abbrev Reg.COMMONS.START_ID : Fld := ⟨0x120, 2, 0, 0⟩
abbrev Reg.COMMONS.CLOSURES : Fld := ⟨0x124, 31, 0, 0⟩
abbrev Reg.COMMONS.QUOTA : Fld := ⟨0x140, 31, 0, 4⟩
abbrev Reg.COMMONS.QUOTA_TOKENS : Fld := ⟨0x140, 15, 0, 4⟩
abbrev Reg.COMMONS.VIEW : Fld := ⟨0x160, 31, 0, 4⟩
abbrev Reg.COMMONS.GPURSE : Fld := ⟨0x180, 31, 0, 4⟩
abbrev Reg.COMMONS.GPURSE_OP : Fld := ⟨0x180, 19, 18, 4⟩
abbrev Reg.COMMONS.GPURSE_SEQ : Fld := ⟨0x180, 17, 16, 4⟩
abbrev Reg.COMMONS.GPURSE_TOKENS : Fld := ⟨0x180, 15, 0, 4⟩
/-! ### LEDGER -/
abbrev Reg.LEDGER.CKPT_CFG : Fld := ⟨0x040, 31, 0, 0⟩
abbrev Reg.LEDGER.CKPT_CFG_INTERVAL : Fld := ⟨0x040, 15, 0, 0⟩
abbrev Reg.LEDGER.CMD : Fld := ⟨0x044, 31, 0, 0⟩
abbrev Reg.LEDGER.CMD_CKPT_NOW : Fld := ⟨0x044, 1, 1, 0⟩
abbrev Reg.LEDGER.CMD_SNAP : Fld := ⟨0x044, 0, 0, 0⟩
abbrev Reg.LEDGER.STATUS : Fld := ⟨0x048, 31, 0, 0⟩
abbrev Reg.LEDGER.STATUS_CKPT_LATE : Fld := ⟨0x048, 3, 3, 0⟩
abbrev Reg.LEDGER.STATUS_CKPT_BUSY : Fld := ⟨0x048, 2, 2, 0⟩
abbrev Reg.LEDGER.STATUS_RESTORED : Fld := ⟨0x048, 1, 1, 0⟩
abbrev Reg.LEDGER.STATUS_ACCOUNTS_LOST : Fld := ⟨0x048, 0, 0, 0⟩
abbrev Reg.LEDGER.CKPT_STATUS : Fld := ⟨0x04C, 31, 0, 0⟩
abbrev Reg.LEDGER.CKPT_STATUS_RESTORE_REASON : Fld := ⟨0x04C, 7, 4, 0⟩
abbrev Reg.LEDGER.CKPT_STATUS_LAST_REASON : Fld := ⟨0x04C, 3, 0, 0⟩
abbrev Reg.LEDGER.COVERAGE_LO : Fld := ⟨0x050, 31, 0, 0⟩
abbrev Reg.LEDGER.COVERAGE_HI : Fld := ⟨0x054, 31, 0, 0⟩
abbrev Reg.LEDGER.GAP_LO : Fld := ⟨0x058, 31, 0, 0⟩
abbrev Reg.LEDGER.GAP_HI : Fld := ⟨0x05C, 31, 0, 0⟩
abbrev Reg.LEDGER.EPOCH_LO : Fld := ⟨0x060, 31, 0, 0⟩
abbrev Reg.LEDGER.EPOCH_HI : Fld := ⟨0x064, 31, 0, 0⟩
abbrev Reg.LEDGER.EPOCH_SEC : Fld := ⟨0x068, 31, 0, 0⟩
abbrev Reg.LEDGER.GAP_EVENTS : Fld := ⟨0x06C, 31, 0, 0⟩
abbrev Reg.LEDGER.LAST_GAP_START : Fld := ⟨0x070, 31, 0, 0⟩
abbrev Reg.LEDGER.LAST_GAP_LEN : Fld := ⟨0x074, 31, 0, 0⟩
abbrev Reg.LEDGER.CKPT_FRAME_LO : Fld := ⟨0x078, 31, 0, 0⟩
abbrev Reg.LEDGER.CKPT_FRAME_HI : Fld := ⟨0x07C, 31, 0, 0⟩
abbrev Reg.LEDGER.CKPT_COUNT : Fld := ⟨0x080, 31, 0, 0⟩
abbrev Reg.LEDGER.CKPT_FAIL : Fld := ⟨0x084, 31, 0, 0⟩
abbrev Reg.LEDGER.SNAP_FRAME_LO : Fld := ⟨0x088, 31, 0, 0⟩
abbrev Reg.LEDGER.SNAP_FRAME_HI : Fld := ⟨0x08C, 31, 0, 0⟩
abbrev Reg.LEDGER.SAT_COUNT : Fld := ⟨0x090, 31, 0, 0⟩
abbrev Reg.LEDGER.LOSS_P0 : Fld := ⟨0x100, 31, 0, 64⟩
abbrev Reg.LEDGER.LOSS_P0_POWER : Fld := ⟨0x100, 15, 0, 64⟩
abbrev Reg.LEDGER.LOSS_A : Fld := ⟨0x104, 31, 0, 64⟩
abbrev Reg.LEDGER.LOSS_A_COEFF : Fld := ⟨0x104, 15, 0, 64⟩
abbrev Reg.LEDGER.LOSS_B : Fld := ⟨0x108, 31, 0, 64⟩
abbrev Reg.LEDGER.LOSS_B_RES : Fld := ⟨0x108, 15, 0, 64⟩
abbrev Reg.LEDGER.BAL_CFG : Fld := ⟨0x10C, 31, 0, 64⟩
abbrev Reg.LEDGER.BAL_CFG_EN : Fld := ⟨0x10C, 31, 31, 64⟩
abbrev Reg.LEDGER.BAL_CFG_NUM : Fld := ⟨0x10C, 27, 24, 64⟩
abbrev Reg.LEDGER.BAL_CFG_W : Fld := ⟨0x10C, 19, 16, 64⟩
abbrev Reg.LEDGER.BAL_CFG_REL_TOL : Fld := ⟨0x10C, 15, 8, 64⟩
abbrev Reg.LEDGER.ABS_TOL : Fld := ⟨0x110, 31, 0, 64⟩
abbrev Reg.LEDGER.ABS_TOL_POWER : Fld := ⟨0x110, 15, 0, 64⟩
abbrev Reg.LEDGER.BAL_STATUS : Fld := ⟨0x114, 31, 0, 64⟩
abbrev Reg.LEDGER.BAL_STATUS_INCLUDED : Fld := ⟨0x114, 31, 16, 64⟩
abbrev Reg.LEDGER.BAL_STATUS_FAIL_RUN : Fld := ⟨0x114, 11, 8, 64⟩
abbrev Reg.LEDGER.BAL_STATUS_WINDOW_VALID : Fld := ⟨0x114, 2, 2, 64⟩
abbrev Reg.LEDGER.BAL_STATUS_IMBALANCED : Fld := ⟨0x114, 1, 1, 64⟩
abbrev Reg.LEDGER.BAL_STATUS_FALLBACK : Fld := ⟨0x114, 0, 0, 64⟩
abbrev Reg.LEDGER.BUS_E_LO : Fld := ⟨0x118, 31, 0, 64⟩
abbrev Reg.LEDGER.BUS_E_HI : Fld := ⟨0x11C, 31, 0, 64⟩
abbrev Reg.LEDGER.LAST_RESID : Fld := ⟨0x120, 31, 0, 64⟩
abbrev Reg.LEDGER.LAST_BOUND : Fld := ⟨0x124, 31, 0, 64⟩
abbrev Reg.LEDGER.WINDOWS : Fld := ⟨0x128, 31, 0, 64⟩
abbrev Reg.LEDGER.SKIP_FRAMES : Fld := ⟨0x12C, 31, 0, 64⟩
abbrev Reg.LEDGER.IMBAL_COUNT : Fld := ⟨0x130, 31, 0, 64⟩
abbrev Reg.LEDGER.BANK_CMD : Fld := ⟨0x134, 31, 0, 64⟩
abbrev Reg.LEDGER.BANK_CMD_BUS_CLR : Fld := ⟨0x134, 0, 0, 64⟩
/-! ### ESTIM -/
abbrev Reg.ESTIM.CFG : Fld := ⟨0x040, 31, 0, 0⟩
abbrev Reg.ESTIM.CFG_TONE_MIN_DC : Fld := ⟨0x040, 15, 0, 0⟩
abbrev Reg.ESTIM.CAP_LIMITS : Fld := ⟨0x044, 31, 0, 0⟩
abbrev Reg.ESTIM.CAP_LIMITS_V_HI : Fld := ⟨0x044, 31, 16, 0⟩
abbrev Reg.ESTIM.CAP_LIMITS_V_LO : Fld := ⟨0x044, 15, 0, 0⟩
abbrev Reg.ESTIM.DCIR_CFG : Fld := ⟨0x048, 31, 0, 0⟩
abbrev Reg.ESTIM.DCIR_CFG_START : Fld := ⟨0x048, 31, 16, 0⟩
abbrev Reg.ESTIM.DCIR_CFG_DELTA_I : Fld := ⟨0x048, 15, 0, 0⟩
abbrev Reg.ESTIM.DCIR_D_0 : Fld := ⟨0x04C, 31, 0, 0⟩
abbrev Reg.ESTIM.DCIR_D_0_D2 : Fld := ⟨0x04C, 31, 16, 0⟩
abbrev Reg.ESTIM.DCIR_D_0_D1 : Fld := ⟨0x04C, 15, 0, 0⟩
abbrev Reg.ESTIM.DCIR_D_1 : Fld := ⟨0x050, 31, 0, 0⟩
abbrev Reg.ESTIM.DCIR_D_1_BEXP : Fld := ⟨0x050, 19, 16, 0⟩
abbrev Reg.ESTIM.DCIR_D_1_D3 : Fld := ⟨0x050, 15, 0, 0⟩
abbrev Reg.ESTIM.OCV_CFG : Fld := ⟨0x054, 31, 0, 0⟩
abbrev Reg.ESTIM.OCV_CFG_BLOCK : Fld := ⟨0x054, 31, 16, 0⟩
abbrev Reg.ESTIM.OCV_CFG_SKIP : Fld := ⟨0x054, 15, 0, 0⟩
abbrev Reg.ESTIM.K_CFG : Fld := ⟨0x058, 31, 0, 0⟩
abbrev Reg.ESTIM.K_CFG_KEXP : Fld := ⟨0x058, 20, 16, 0⟩
abbrev Reg.ESTIM.K_CFG_K_START : Fld := ⟨0x058, 15, 0, 0⟩
abbrev Reg.ESTIM.CAP_NOM : Fld := ⟨0x05C, 31, 0, 0⟩
abbrev Reg.ESTIM.CAP_NOM_CAPACITY : Fld := ⟨0x05C, 23, 0, 0⟩
abbrev Reg.ESTIM.OCV_SEL : Fld := ⟨0x060, 31, 0, 4⟩
abbrev Reg.ESTIM.OCV_SEL_SEL0 : Fld := ⟨0x060, 3, 0, 4⟩
abbrev Reg.ESTIM.OCV_SEL_SEL1 : Fld := ⟨0x060, 7, 4, 4⟩
abbrev Reg.ESTIM.OCV_SEL_SEL2 : Fld := ⟨0x060, 11, 8, 4⟩
abbrev Reg.ESTIM.OCV_SEL_SEL3 : Fld := ⟨0x060, 15, 12, 4⟩
abbrev Reg.ESTIM.OCV_SEL_SEL4 : Fld := ⟨0x060, 19, 16, 4⟩
abbrev Reg.ESTIM.OCV_SEL_SEL5 : Fld := ⟨0x060, 23, 20, 4⟩
abbrev Reg.ESTIM.OCV_SEL_SEL6 : Fld := ⟨0x060, 27, 24, 4⟩
abbrev Reg.ESTIM.OCV_SEL_SEL7 : Fld := ⟨0x060, 31, 28, 4⟩
abbrev Reg.ESTIM.LOAD : Fld := ⟨0x070, 31, 0, 0⟩
abbrev Reg.ESTIM.LOAD_USED9 : Fld := ⟨0x070, 23, 16, 0⟩
abbrev Reg.ESTIM.LOAD_USED8 : Fld := ⟨0x070, 15, 8, 0⟩
abbrev Reg.ESTIM.LOAD_QE : Fld := ⟨0x070, 7, 0, 0⟩
abbrev Reg.ESTIM.DEFERRED : Fld := ⟨0x074, 31, 0, 0⟩
abbrev Reg.ESTIM.DISCARDED : Fld := ⟨0x078, 31, 0, 0⟩
abbrev Reg.ESTIM.SET_CFG : Fld := ⟨0x080, 31, 0, 4⟩
abbrev Reg.ESTIM.SET_CFG_SETTLE : Fld := ⟨0x080, 31, 16, 4⟩
abbrev Reg.ESTIM.SET_CFG_CYCLES : Fld := ⟨0x080, 11, 8, 4⟩
abbrev Reg.ESTIM.SET_CFG_FAIL : Fld := ⟨0x080, 7, 4, 4⟩
abbrev Reg.ESTIM.SET_CFG_IN_USE : Fld := ⟨0x080, 2, 2, 4⟩
abbrev Reg.ESTIM.SET_CFG_VALID : Fld := ⟨0x080, 1, 1, 4⟩
abbrev Reg.ESTIM.SET_CFG_COMMIT : Fld := ⟨0x080, 0, 0, 4⟩
abbrev Reg.ESTIM.TONE : Fld := ⟨0x0A0, 31, 0, 4⟩
abbrev Reg.ESTIM.TONE_PHASE : Fld := ⟨0x0A0, 31, 25, 4⟩
abbrev Reg.ESTIM.TONE_AMP : Fld := ⟨0x0A0, 24, 19, 4⟩
abbrev Reg.ESTIM.TONE_PERIOD : Fld := ⟨0x0A0, 18, 0, 4⟩
abbrev Reg.ESTIM.OCV_HDR : Fld := ⟨0x180, 31, 0, 96⟩
abbrev Reg.ESTIM.OCV_HDR_TYPE_TAG : Fld := ⟨0x180, 31, 16, 96⟩
abbrev Reg.ESTIM.OCV_HDR_ROLLBACK : Fld := ⟨0x180, 2, 2, 96⟩
abbrev Reg.ESTIM.OCV_HDR_LEARNED : Fld := ⟨0x180, 1, 1, 96⟩
abbrev Reg.ESTIM.OCV_HDR_COMMIT : Fld := ⟨0x180, 0, 0, 96⟩
abbrev Reg.ESTIM.OCV_PT_1 : Fld := ⟨0x184, 31, 0, 4⟩
abbrev Reg.ESTIM.OCV_PT_1_VOLTAGE : Fld := ⟨0x184, 18, 0, 4⟩
abbrev Reg.ESTIM.OCV_PT_2 : Fld := ⟨0x1E4, 31, 0, 4⟩
abbrev Reg.ESTIM.OCV_PT_2_VOLTAGE : Fld := ⟨0x1E4, 18, 0, 4⟩
abbrev Reg.ESTIM.OCV_PT_3 : Fld := ⟨0x244, 31, 0, 4⟩
abbrev Reg.ESTIM.OCV_PT_3_VOLTAGE : Fld := ⟨0x244, 18, 0, 4⟩
abbrev Reg.ESTIM.OCV_PT_4 : Fld := ⟨0x2A4, 31, 0, 4⟩
abbrev Reg.ESTIM.OCV_PT_4_VOLTAGE : Fld := ⟨0x2A4, 18, 0, 4⟩
abbrev Reg.ESTIM.GENERIC : Fld := ⟨0x300, 31, 0, 4⟩
abbrev Reg.ESTIM.GENERIC_VOLTAGE : Fld := ⟨0x300, 18, 0, 4⟩
/-! ### ENGCTL -/
abbrev Reg.ENGCTL.CFG : Fld := ⟨0x040, 31, 0, 0⟩
abbrev Reg.ENGCTL.CFG_EST_RESTART : Fld := ⟨0x040, 18, 18, 0⟩
abbrev Reg.ENGCTL.CFG_WARM_ON_UNCARRIED : Fld := ⟨0x040, 17, 17, 0⟩
abbrev Reg.ENGCTL.CFG_FAILOVER_EN : Fld := ⟨0x040, 16, 16, 0⟩
abbrev Reg.ENGCTL.CFG_HOLD_LIMIT : Fld := ⟨0x040, 15, 0, 0⟩
abbrev Reg.ENGCTL.RUNNING : Fld := ⟨0x044, 31, 0, 0⟩
abbrev Reg.ENGCTL.RUNNING_ENG : Fld := ⟨0x044, 11, 0, 0⟩
abbrev Reg.ENGCTL.STOPPED : Fld := ⟨0x048, 31, 0, 0⟩
abbrev Reg.ENGCTL.STOPPED_ENG : Fld := ⟨0x048, 11, 0, 0⟩
abbrev Reg.ENGCTL.DEAD : Fld := ⟨0x04C, 31, 0, 0⟩
abbrev Reg.ENGCTL.DEAD_ENG : Fld := ⟨0x04C, 11, 0, 0⟩
abbrev Reg.ENGCTL.CARRY : Fld := ⟨0x050, 31, 0, 0⟩
abbrev Reg.ENGCTL.CARRY_ENG9 : Fld := ⟨0x050, 7, 4, 0⟩
abbrev Reg.ENGCTL.CARRY_ENG8 : Fld := ⟨0x050, 3, 0, 0⟩
abbrev Reg.ENGCTL.CMD : Fld := ⟨0x054, 31, 0, 0⟩
abbrev Reg.ENGCTL.CMD_KEY : Fld := ⟨0x054, 31, 16, 0⟩
abbrev Reg.ENGCTL.CMD_OP : Fld := ⟨0x054, 9, 8, 0⟩
abbrev Reg.ENGCTL.CMD_ENGINE : Fld := ⟨0x054, 3, 0, 0⟩
abbrev Reg.ENGCTL.STALL_COUNT : Fld := ⟨0x058, 31, 0, 0⟩
abbrev Reg.ENGCTL.LAST_STALL : Fld := ⟨0x05C, 31, 0, 0⟩
abbrev Reg.ENGCTL.LAST_STALL_CAUSE : Fld := ⟨0x05C, 7, 4, 0⟩
abbrev Reg.ENGCTL.LAST_STALL_ENGINE : Fld := ⟨0x05C, 3, 0, 0⟩
abbrev Reg.ENGCTL.ROM_ID : Fld := ⟨0x060, 31, 0, 0⟩
abbrev Reg.ENGCTL.ROM_ID_ROM_REV : Fld := ⟨0x060, 31, 16, 0⟩
abbrev Reg.ENGCTL.ROM_ID_PATCHES : Fld := ⟨0x060, 15, 8, 0⟩
abbrev Reg.ENGCTL.ROM_ID_IGNORED : Fld := ⟨0x060, 1, 1, 0⟩
abbrev Reg.ENGCTL.ROM_ID_VERIFIED : Fld := ⟨0x060, 0, 0, 0⟩
abbrev Reg.ENGCTL.PATCH_CRC : Fld := ⟨0x064, 31, 0, 0⟩
/-! ### BANK -/
abbrev Reg.BANK.CAL_CFG : Fld := ⟨0x040, 31, 0, 0⟩
abbrev Reg.BANK.CAL_CFG_XCHECK_I : Fld := ⟨0x040, 23, 16, 0⟩
abbrev Reg.BANK.CAL_CFG_XCHECK_V : Fld := ⟨0x040, 15, 8, 0⟩
abbrev Reg.BANK.CAL_CFG_STEP : Fld := ⟨0x040, 2, 1, 0⟩
abbrev Reg.BANK.CAL_CFG_EN : Fld := ⟨0x040, 0, 0, 0⟩
abbrev Reg.BANK.CAL_STATUS : Fld := ⟨0x044, 31, 0, 0⟩
abbrev Reg.BANK.CAL_STATUS_CALIBRATED : Fld := ⟨0x044, 31, 31, 0⟩
abbrev Reg.BANK.CAL_STATUS_NO_SPARE : Fld := ⟨0x044, 30, 30, 0⟩
abbrev Reg.BANK.CAL_STATUS_ROVER : Fld := ⟨0x044, 27, 24, 0⟩
abbrev Reg.BANK.CAL_STATUS_CAL_DUTY : Fld := ⟨0x044, 23, 20, 0⟩
abbrev Reg.BANK.CAL_STATUS_CAL_PHASE : Fld := ⟨0x044, 19, 17, 0⟩
abbrev Reg.BANK.CAL_STATUS_STEP_FRAME : Fld := ⟨0x044, 10, 0, 0⟩
abbrev Reg.BANK.SLICE_MAP_0 : Fld := ⟨0x048, 31, 0, 0⟩
abbrev Reg.BANK.SLICE_MAP_0_DUTY0 : Fld := ⟨0x048, 3, 0, 0⟩
abbrev Reg.BANK.SLICE_MAP_0_DUTY1 : Fld := ⟨0x048, 7, 4, 0⟩
abbrev Reg.BANK.SLICE_MAP_0_DUTY2 : Fld := ⟨0x048, 11, 8, 0⟩
abbrev Reg.BANK.SLICE_MAP_0_DUTY3 : Fld := ⟨0x048, 15, 12, 0⟩
abbrev Reg.BANK.SLICE_MAP_0_DUTY4 : Fld := ⟨0x048, 19, 16, 0⟩
abbrev Reg.BANK.SLICE_MAP_0_DUTY5 : Fld := ⟨0x048, 23, 20, 0⟩
abbrev Reg.BANK.SLICE_MAP_0_DUTY6 : Fld := ⟨0x048, 27, 24, 0⟩
abbrev Reg.BANK.SLICE_MAP_0_DUTY7 : Fld := ⟨0x048, 31, 28, 0⟩
abbrev Reg.BANK.SLICE_MAP_1 : Fld := ⟨0x04C, 31, 0, 0⟩
abbrev Reg.BANK.SLICE_MAP_1_DUTY_8 : Fld := ⟨0x04C, 3, 0, 0⟩
abbrev Reg.BANK.SLICE_MAP_1_DUTY_9 : Fld := ⟨0x04C, 7, 4, 0⟩
abbrev Reg.BANK.SLICE_HEALTH : Fld := ⟨0x050, 31, 0, 0⟩
abbrev Reg.BANK.SLICE_HEALTH_SUSPECT : Fld := ⟨0x050, 25, 16, 0⟩
abbrev Reg.BANK.SLICE_HEALTH_RETIRED : Fld := ⟨0x050, 9, 0, 0⟩
abbrev Reg.BANK.NEXT_HANDOVER : Fld := ⟨0x054, 31, 0, 0⟩
abbrev Reg.BANK.ROT_COUNT : Fld := ⟨0x058, 31, 0, 0⟩
abbrev Reg.BANK.CYCLE_COUNT : Fld := ⟨0x05C, 31, 0, 0⟩
abbrev Reg.BANK.SUBST_COUNT : Fld := ⟨0x060, 31, 0, 0⟩
abbrev Reg.BANK.XCHECK_LAST : Fld := ⟨0x064, 31, 0, 0⟩
abbrev Reg.BANK.XCHECK_LAST_NEW : Fld := ⟨0x064, 31, 28, 0⟩
abbrev Reg.BANK.XCHECK_LAST_OLD : Fld := ⟨0x064, 27, 24, 0⟩
abbrev Reg.BANK.XCHECK_LAST_DUTY : Fld := ⟨0x064, 23, 20, 0⟩
abbrev Reg.BANK.XCHECK_LAST_DIFF : Fld := ⟨0x064, 19, 0, 0⟩
abbrev Reg.BANK.LAST_CAL : Fld := ⟨0x068, 31, 0, 0⟩
abbrev Reg.BANK.LAST_CAL_SLICE : Fld := ⟨0x068, 15, 12, 0⟩
abbrev Reg.BANK.LAST_CAL_DUTY : Fld := ⟨0x068, 11, 8, 0⟩
abbrev Reg.BANK.LAST_CAL_RESULT : Fld := ⟨0x068, 2, 0, 0⟩
abbrev Reg.BANK.LAST_CAL_OFFSET : Fld := ⟨0x06C, 31, 0, 0⟩
abbrev Reg.BANK.LAST_CAL_GAIN : Fld := ⟨0x070, 31, 0, 0⟩
abbrev Reg.BANK.RP_CFG : Fld := ⟨0x074, 31, 0, 0⟩
abbrev Reg.BANK.RP_CFG_IMIN : Fld := ⟨0x074, 31, 16, 0⟩
abbrev Reg.BANK.RP_CFG_SEED : Fld := ⟨0x074, 15, 0, 0⟩
abbrev Reg.BANK.SHUNT : Fld := ⟨0x080, 31, 0, 64⟩
abbrev Reg.BANK.SHUNT_RES : Fld := ⟨0x080, 15, 0, 64⟩
abbrev Reg.BANK.CFG : Fld := ⟨0x084, 31, 0, 64⟩
abbrev Reg.BANK.CFG_SRC_I : Fld := ⟨0x084, 25, 25, 64⟩
abbrev Reg.BANK.CFG_SRC_V : Fld := ⟨0x084, 24, 24, 64⟩
abbrev Reg.BANK.CFG_EN_F : Fld := ⟨0x084, 18, 18, 64⟩
abbrev Reg.BANK.CFG_EN_I : Fld := ⟨0x084, 17, 17, 64⟩
abbrev Reg.BANK.CFG_EN_V : Fld := ⟨0x084, 16, 16, 64⟩
abbrev Reg.BANK.CFG_N_F : Fld := ⟨0x084, 11, 8, 64⟩
abbrev Reg.BANK.CFG_N_I : Fld := ⟨0x084, 7, 4, 64⟩
abbrev Reg.BANK.CFG_N_V : Fld := ⟨0x084, 3, 0, 64⟩
abbrev Reg.BANK.CMD : Fld := ⟨0x088, 31, 0, 64⟩
abbrev Reg.BANK.CMD_CLR_I : Fld := ⟨0x088, 1, 1, 64⟩
abbrev Reg.BANK.CMD_CLR_V : Fld := ⟨0x088, 0, 0, 64⟩
abbrev Reg.BANK.STATUS : Fld := ⟨0x08C, 31, 0, 64⟩
abbrev Reg.BANK.STATUS_SNAP_FRAME : Fld := ⟨0x08C, 31, 16, 64⟩
abbrev Reg.BANK.STATUS_RP_ACQ : Fld := ⟨0x08C, 9, 9, 64⟩
abbrev Reg.BANK.STATUS_CLIP : Fld := ⟨0x08C, 8, 8, 64⟩
abbrev Reg.BANK.STATUS_EMPTY_I : Fld := ⟨0x08C, 7, 7, 64⟩
abbrev Reg.BANK.STATUS_EMPTY_V : Fld := ⟨0x08C, 6, 6, 64⟩
abbrev Reg.BANK.STATUS_SUBST_F : Fld := ⟨0x08C, 5, 5, 64⟩
abbrev Reg.BANK.STATUS_SUBST_I : Fld := ⟨0x08C, 4, 4, 64⟩
abbrev Reg.BANK.STATUS_SUBST_V : Fld := ⟨0x08C, 3, 3, 64⟩
abbrev Reg.BANK.STATUS_VALID_F : Fld := ⟨0x08C, 2, 2, 64⟩
abbrev Reg.BANK.STATUS_VALID_I : Fld := ⟨0x08C, 1, 1, 64⟩
abbrev Reg.BANK.STATUS_VALID_V : Fld := ⟨0x08C, 0, 0, 64⟩
abbrev Reg.BANK.AVG_V : Fld := ⟨0x090, 31, 0, 64⟩
abbrev Reg.BANK.AVG_I : Fld := ⟨0x094, 31, 0, 64⟩
abbrev Reg.BANK.AVG_F : Fld := ⟨0x098, 31, 0, 64⟩
abbrev Reg.BANK.PROBE_R : Fld := ⟨0x09C, 31, 0, 64⟩
abbrev Reg.BANK.V_MIN : Fld := ⟨0x0A0, 31, 0, 64⟩
abbrev Reg.BANK.V_MIN_FRAME : Fld := ⟨0x0A4, 31, 0, 64⟩
abbrev Reg.BANK.V_MAX : Fld := ⟨0x0A8, 31, 0, 64⟩
abbrev Reg.BANK.V_MAX_FRAME : Fld := ⟨0x0AC, 31, 0, 64⟩
abbrev Reg.BANK.I_MIN : Fld := ⟨0x0B0, 31, 0, 64⟩
abbrev Reg.BANK.I_MIN_FRAME : Fld := ⟨0x0B4, 31, 0, 64⟩
abbrev Reg.BANK.I_MAX : Fld := ⟨0x0B8, 31, 0, 64⟩
abbrev Reg.BANK.I_MAX_FRAME : Fld := ⟨0x0BC, 31, 0, 64⟩
abbrev Reg.BANK.BUS_SHUNT : Fld := ⟨0x180, 31, 0, 0⟩
abbrev Reg.BANK.BUS_SHUNT_RES : Fld := ⟨0x180, 15, 0, 0⟩
abbrev Reg.BANK.BUS_CFG : Fld := ⟨0x184, 31, 0, 0⟩
abbrev Reg.BANK.BUS_CFG_SRC : Fld := ⟨0x184, 24, 24, 0⟩
abbrev Reg.BANK.BUS_CFG_EN_V : Fld := ⟨0x184, 17, 17, 0⟩
abbrev Reg.BANK.BUS_CFG_EN_I : Fld := ⟨0x184, 16, 16, 0⟩
abbrev Reg.BANK.BUS_CFG_N_V : Fld := ⟨0x184, 7, 4, 0⟩
abbrev Reg.BANK.BUS_CFG_N_I : Fld := ⟨0x184, 3, 0, 0⟩
abbrev Reg.BANK.BUS_CMD : Fld := ⟨0x188, 31, 0, 0⟩
abbrev Reg.BANK.BUS_CMD_CLR : Fld := ⟨0x188, 0, 0, 0⟩
abbrev Reg.BANK.BUS_STATUS : Fld := ⟨0x18C, 31, 0, 0⟩
abbrev Reg.BANK.BUS_STATUS_SNAP_FRAME : Fld := ⟨0x18C, 31, 16, 0⟩
abbrev Reg.BANK.BUS_STATUS_CLIP : Fld := ⟨0x18C, 5, 5, 0⟩
abbrev Reg.BANK.BUS_STATUS_EMPTY : Fld := ⟨0x18C, 4, 4, 0⟩
abbrev Reg.BANK.BUS_STATUS_SUBST_V : Fld := ⟨0x18C, 3, 3, 0⟩
abbrev Reg.BANK.BUS_STATUS_SUBST_I : Fld := ⟨0x18C, 2, 2, 0⟩
abbrev Reg.BANK.BUS_STATUS_VALID_V : Fld := ⟨0x18C, 1, 1, 0⟩
abbrev Reg.BANK.BUS_STATUS_VALID_I : Fld := ⟨0x18C, 0, 0, 0⟩
abbrev Reg.BANK.AVG_BUS_I : Fld := ⟨0x190, 31, 0, 0⟩
abbrev Reg.BANK.AVG_BUS_V : Fld := ⟨0x194, 31, 0, 0⟩
abbrev Reg.BANK.BUS_I_MIN : Fld := ⟨0x198, 31, 0, 0⟩
abbrev Reg.BANK.BUS_I_MIN_FRAME : Fld := ⟨0x19C, 31, 0, 0⟩
abbrev Reg.BANK.BUS_I_MAX : Fld := ⟨0x1A0, 31, 0, 0⟩
abbrev Reg.BANK.BUS_I_MAX_FRAME : Fld := ⟨0x1A4, 31, 0, 0⟩
abbrev Reg.BANK.FT_V_OFFSET : Fld := ⟨0x300, 31, 0, 16⟩
abbrev Reg.BANK.FT_V_GAIN : Fld := ⟨0x304, 31, 0, 16⟩
abbrev Reg.BANK.FT_I_OFFSET : Fld := ⟨0x308, 31, 0, 16⟩
abbrev Reg.BANK.FT_I_GAIN : Fld := ⟨0x30C, 31, 0, 16⟩
abbrev Reg.BANK.REF_V : Fld := ⟨0x3A0, 31, 0, 0⟩
abbrev Reg.BANK.REF_VN : Fld := ⟨0x3A4, 31, 0, 0⟩
abbrev Reg.BANK.REF_IP : Fld := ⟨0x3A8, 31, 0, 0⟩
abbrev Reg.BANK.REF_IN : Fld := ⟨0x3AC, 31, 0, 0⟩
abbrev Reg.BANK.REF_CURVE : Fld := ⟨0x3B0, 31, 0, 0⟩
abbrev Reg.BANK.REF_CURVE_LIN : Fld := ⟨0x3B0, 31, 16, 0⟩
abbrev Reg.BANK.REF_CURVE_QUAD : Fld := ⟨0x3B0, 15, 0, 0⟩
abbrev Reg.BANK.SHUNT_TRIM : Fld := ⟨0x3B4, 31, 0, 4⟩
abbrev Reg.BANK.BUS_SHUNT_TRIM : Fld := ⟨0x3C4, 31, 0, 0⟩
abbrev Reg.BANK.RETIRE_CLR : Fld := ⟨0x3F0, 31, 0, 0⟩
abbrev Reg.BANK.RETIRE_CLR_SLICES : Fld := ⟨0x3F0, 9, 0, 0⟩
/-! ### CHAN -/
abbrev Reg.CHAN.CONTROL : Fld := ⟨0x040, 31, 0, 0⟩
abbrev Reg.CHAN.CONTROL_RESUME : Fld := ⟨0x040, 9, 9, 0⟩
abbrev Reg.CHAN.CONTROL_MODE : Fld := ⟨0x040, 7, 4, 0⟩
abbrev Reg.CHAN.CONTROL_AUTO_RESUME : Fld := ⟨0x040, 2, 2, 0⟩
abbrev Reg.CHAN.CONTROL_SOURCE : Fld := ⟨0x040, 1, 1, 0⟩
abbrev Reg.CHAN.CONTROL_ENABLE : Fld := ⟨0x040, 0, 0, 0⟩
abbrev Reg.CHAN.ISET : Fld := ⟨0x044, 31, 0, 0⟩
abbrev Reg.CHAN.VSET : Fld := ⟨0x048, 31, 0, 0⟩
abbrev Reg.CHAN.VSET_VOLTAGE : Fld := ⟨0x048, 18, 0, 0⟩
abbrev Reg.CHAN.PSET : Fld := ⟨0x04C, 31, 0, 0⟩
abbrev Reg.CHAN.SLEW_UP : Fld := ⟨0x050, 31, 0, 0⟩
abbrev Reg.CHAN.SLEW_UP_RATE : Fld := ⟨0x050, 20, 0, 0⟩
abbrev Reg.CHAN.SLEW_DOWN : Fld := ⟨0x054, 31, 0, 0⟩
abbrev Reg.CHAN.SLEW_DOWN_RATE : Fld := ⟨0x054, 20, 0, 0⟩
abbrev Reg.CHAN.SLEW_V : Fld := ⟨0x058, 31, 0, 0⟩
abbrev Reg.CHAN.SLEW_V_RATE : Fld := ⟨0x058, 19, 0, 0⟩
abbrev Reg.CHAN.VGUARD : Fld := ⟨0x05C, 31, 0, 0⟩
abbrev Reg.CHAN.VGUARD_HI : Fld := ⟨0x05C, 31, 16, 0⟩
abbrev Reg.CHAN.VGUARD_LO : Fld := ⟨0x05C, 15, 0, 0⟩
abbrev Reg.CHAN.IGUARD : Fld := ⟨0x060, 31, 0, 0⟩
abbrev Reg.CHAN.IGUARD_CURRENT : Fld := ⟨0x060, 15, 0, 0⟩
abbrev Reg.CHAN.TGUARD : Fld := ⟨0x064, 31, 0, 0⟩
abbrev Reg.CHAN.TGUARD_TEMP : Fld := ⟨0x064, 15, 0, 0⟩
abbrev Reg.CHAN.PULSE_B : Fld := ⟨0x068, 31, 0, 0⟩
abbrev Reg.CHAN.PULSE_TIME : Fld := ⟨0x06C, 31, 0, 0⟩
abbrev Reg.CHAN.PULSE_TIME_TB : Fld := ⟨0x06C, 31, 16, 0⟩
abbrev Reg.CHAN.PULSE_TIME_TA : Fld := ⟨0x06C, 15, 0, 0⟩
abbrev Reg.CHAN.PULSE_COUNT : Fld := ⟨0x070, 31, 0, 0⟩
abbrev Reg.CHAN.PULSE_COUNT_COUNT : Fld := ⟨0x070, 15, 0, 0⟩
abbrev Reg.CHAN.ZV_CFG : Fld := ⟨0x074, 31, 0, 0⟩
abbrev Reg.CHAN.ZV_CFG_ENTRY : Fld := ⟨0x074, 31, 16, 0⟩
abbrev Reg.CHAN.ZV_CFG_ILIM : Fld := ⟨0x074, 15, 0, 0⟩
abbrev Reg.CHAN.CONTACT_CFG : Fld := ⟨0x078, 31, 0, 0⟩
abbrev Reg.CHAN.CONTACT_CFG_VDIFF : Fld := ⟨0x078, 31, 24, 0⟩
abbrev Reg.CHAN.CONTACT_CFG_VRISE : Fld := ⟨0x078, 23, 16, 0⟩
abbrev Reg.CHAN.CONTACT_CFG_IMIN : Fld := ⟨0x078, 15, 0, 0⟩
abbrev Reg.CHAN.PRIORITY : Fld := ⟨0x07C, 31, 0, 0⟩
abbrev Reg.CHAN.PRIORITY_LEVEL : Fld := ⟨0x07C, 3, 0, 0⟩
abbrev Reg.CHAN.GANG : Fld := ⟨0x080, 31, 0, 0⟩
abbrev Reg.CHAN.GANG_SIZE : Fld := ⟨0x080, 1, 0, 0⟩
abbrev Reg.CHAN.STATUS : Fld := ⟨0x084, 31, 0, 0⟩
abbrev Reg.CHAN.STATUS_LAST_END : Fld := ⟨0x084, 31, 30, 0⟩
abbrev Reg.CHAN.STATUS_END_CAUSE : Fld := ⟨0x084, 29, 26, 0⟩
abbrev Reg.CHAN.STATUS_HELD_MODE : Fld := ⟨0x084, 25, 22, 0⟩
abbrev Reg.CHAN.STATUS_WAITING : Fld := ⟨0x084, 21, 21, 0⟩
abbrev Reg.CHAN.STATUS_PULSE_LEVEL : Fld := ⟨0x084, 20, 20, 0⟩
abbrev Reg.CHAN.STATUS_PULSE_DONE : Fld := ⟨0x084, 19, 19, 0⟩
abbrev Reg.CHAN.STATUS_ZV_DONE : Fld := ⟨0x084, 18, 18, 0⟩
abbrev Reg.CHAN.STATUS_RAMP_HELD : Fld := ⟨0x084, 17, 17, 0⟩
abbrev Reg.CHAN.STATUS_TOKEN_LIMITED : Fld := ⟨0x084, 16, 16, 0⟩
abbrev Reg.CHAN.STATUS_CAP_LIMITED : Fld := ⟨0x084, 15, 15, 0⟩
abbrev Reg.CHAN.STATUS_CV_ACTIVE : Fld := ⟨0x084, 14, 14, 0⟩
abbrev Reg.CHAN.STATUS_SLEW_DONE : Fld := ⟨0x084, 13, 13, 0⟩
abbrev Reg.CHAN.STATUS_ROLE : Fld := ⟨0x084, 10, 9, 0⟩
abbrev Reg.CHAN.STATUS_MODE : Fld := ⟨0x084, 7, 4, 0⟩
abbrev Reg.CHAN.STATUS_STATE : Fld := ⟨0x084, 2, 0, 0⟩
abbrev Reg.CHAN.IREF : Fld := ⟨0x088, 31, 0, 0⟩
abbrev Reg.CHAN.VREF : Fld := ⟨0x08C, 31, 0, 0⟩
abbrev Reg.CHAN.VREF_VOLTAGE : Fld := ⟨0x08C, 18, 0, 0⟩
abbrev Reg.CHAN.SLEW_RETARGET : Fld := ⟨0x090, 31, 0, 0⟩
abbrev Reg.CHAN.CELL_ID : Fld := ⟨0x0A0, 31, 0, 4⟩
abbrev Reg.CHAN.CELL_CMD : Fld := ⟨0x0B0, 31, 0, 0⟩
abbrev Reg.CHAN.CELL_CMD_KEY : Fld := ⟨0x0B0, 31, 16, 0⟩
abbrev Reg.CHAN.CELL_CMD_MATE_RESET : Fld := ⟨0x0B0, 1, 1, 0⟩
abbrev Reg.CHAN.CELL_CMD_COMMIT : Fld := ⟨0x0B0, 0, 0, 0⟩
abbrev Reg.CHAN.MATE_COUNT : Fld := ⟨0x0B4, 31, 0, 0⟩
abbrev Reg.CHAN.MATE_LIMIT : Fld := ⟨0x0B8, 31, 0, 0⟩
abbrev Reg.CHAN.MATE_LIMIT_WARN : Fld := ⟨0x0B8, 31, 16, 0⟩
abbrev Reg.CHAN.MATE_LIMIT_LIMIT : Fld := ⟨0x0B8, 15, 0, 0⟩
abbrev Reg.CHAN.PROBE_R_LIM : Fld := ⟨0x0BC, 31, 0, 0⟩
abbrev Reg.CHAN.PROBE_R_LIM_RES : Fld := ⟨0x0BC, 15, 0, 0⟩
abbrev Reg.CHAN.MATE_STATUS : Fld := ⟨0x0C0, 31, 0, 0⟩
abbrev Reg.CHAN.MATE_STATUS_PENDING : Fld := ⟨0x0C0, 31, 31, 0⟩
abbrev Reg.CHAN.MATE_STATUS_FAIL : Fld := ⟨0x0C0, 15, 0, 0⟩
abbrev Reg.CHAN.ACC_SNAP : Fld := ⟨0x100, 31, 0, 0⟩
abbrev Reg.CHAN.ACC_FLAGS : Fld := ⟨0x104, 31, 0, 0⟩
abbrev Reg.CHAN.ACC_FLAGS_RESTORED : Fld := ⟨0x104, 6, 6, 0⟩
abbrev Reg.CHAN.ACC_FLAGS_SAT : Fld := ⟨0x104, 5, 5, 0⟩
abbrev Reg.CHAN.ACC_FLAGS_RUN_GAP : Fld := ⟨0x104, 4, 4, 0⟩
abbrev Reg.CHAN.ACC_FLAGS_RUN_SUBST : Fld := ⟨0x104, 3, 3, 0⟩
abbrev Reg.CHAN.ACC_FLAGS_STEP_GAP : Fld := ⟨0x104, 2, 2, 0⟩
abbrev Reg.CHAN.ACC_FLAGS_STEP_SUBST : Fld := ⟨0x104, 1, 1, 0⟩
abbrev Reg.CHAN.ACC_FLAGS_STEP_ACTIVE : Fld := ⟨0x104, 0, 0, 0⟩
abbrev Reg.CHAN.STEP_Q_LO : Fld := ⟨0x108, 31, 0, 0⟩
abbrev Reg.CHAN.STEP_Q_HI : Fld := ⟨0x10C, 31, 0, 0⟩
abbrev Reg.CHAN.STEP_E_LO : Fld := ⟨0x110, 31, 0, 0⟩
abbrev Reg.CHAN.STEP_E_HI : Fld := ⟨0x114, 31, 0, 0⟩
abbrev Reg.CHAN.RUN_Q_LO : Fld := ⟨0x118, 31, 0, 0⟩
abbrev Reg.CHAN.RUN_Q_HI : Fld := ⟨0x11C, 31, 0, 0⟩
abbrev Reg.CHAN.RUN_E_LO : Fld := ⟨0x120, 31, 0, 0⟩
abbrev Reg.CHAN.RUN_E_HI : Fld := ⟨0x124, 31, 0, 0⟩
abbrev Reg.CHAN.LIFE_IN_LO : Fld := ⟨0x128, 31, 0, 0⟩
abbrev Reg.CHAN.LIFE_IN_HI : Fld := ⟨0x12C, 31, 0, 0⟩
abbrev Reg.CHAN.LIFE_OUT_LO : Fld := ⟨0x130, 31, 0, 0⟩
abbrev Reg.CHAN.LIFE_OUT_HI : Fld := ⟨0x134, 31, 0, 0⟩
abbrev Reg.CHAN.STEP_FRAMES_LO : Fld := ⟨0x138, 31, 0, 0⟩
abbrev Reg.CHAN.STEP_FRAMES_HI : Fld := ⟨0x13C, 31, 0, 0⟩
abbrev Reg.CHAN.RUN_FRAMES_LO : Fld := ⟨0x140, 31, 0, 0⟩
abbrev Reg.CHAN.RUN_FRAMES_HI : Fld := ⟨0x144, 31, 0, 0⟩
abbrev Reg.CHAN.SUBST_FRAMES : Fld := ⟨0x148, 31, 0, 0⟩
abbrev Reg.CHAN.GAP_FRAMES : Fld := ⟨0x14C, 31, 0, 0⟩
abbrev Reg.CHAN.RUN_START : Fld := ⟨0x150, 31, 0, 0⟩
abbrev Reg.CHAN.ACC_CMD : Fld := ⟨0x154, 31, 0, 0⟩
abbrev Reg.CHAN.ACC_CMD_CLR_RUN : Fld := ⟨0x154, 0, 0, 0⟩
abbrev Reg.CHAN.ACC_RESERVED : Fld := ⟨0x180, 31, 0, 4⟩
abbrev Reg.CHAN.RCP_CFG : Fld := ⟨0x200, 31, 0, 0⟩
abbrev Reg.CHAN.RCP_CFG_ENTRY : Fld := ⟨0x200, 21, 16, 0⟩
abbrev Reg.CHAN.RCP_CFG_LEN : Fld := ⟨0x200, 14, 8, 0⟩
abbrev Reg.CHAN.RCP_CFG_BASE : Fld := ⟨0x200, 7, 0, 0⟩
abbrev Reg.CHAN.DERIV_CFG : Fld := ⟨0x204, 31, 0, 0⟩
abbrev Reg.CHAN.DERIV_CFG_WEXP : Fld := ⟨0x204, 3, 0, 0⟩
abbrev Reg.CHAN.RCP_CMD : Fld := ⟨0x208, 31, 0, 0⟩
abbrev Reg.CHAN.RCP_CMD_JUMP_STEP : Fld := ⟨0x208, 13, 8, 0⟩
abbrev Reg.CHAN.RCP_CMD_JUMP : Fld := ⟨0x208, 2, 2, 0⟩
abbrev Reg.CHAN.RCP_CMD_CONTINUE : Fld := ⟨0x208, 1, 1, 0⟩
abbrev Reg.CHAN.RCP_CMD_START : Fld := ⟨0x208, 0, 0, 0⟩
abbrev Reg.CHAN.RCP_STATUS : Fld := ⟨0x20C, 31, 0, 0⟩
abbrev Reg.CHAN.RCP_STATUS_RSTATE : Fld := ⟨0x20C, 31, 28, 0⟩
abbrev Reg.CHAN.RCP_STATUS_STEP : Fld := ⟨0x20C, 25, 20, 0⟩
abbrev Reg.CHAN.RCP_STATUS_ZONE : Fld := ⟨0x20C, 18, 16, 0⟩
abbrev Reg.CHAN.RCP_STATUS_BAD_STEP : Fld := ⟨0x20C, 15, 8, 0⟩
abbrev Reg.CHAN.RCP_STATUS_BAD_CODE : Fld := ⟨0x20C, 7, 4, 0⟩
abbrev Reg.CHAN.RCP_STATUS_RESUME_MISMATCH : Fld := ⟨0x20C, 3, 3, 0⟩
abbrev Reg.CHAN.RCP_STATUS_QV_RAISED : Fld := ⟨0x20C, 2, 2, 0⟩
abbrev Reg.CHAN.RCP_STATUS_AVG_WAIT : Fld := ⟨0x20C, 1, 1, 0⟩
abbrev Reg.CHAN.STEP_TAG : Fld := ⟨0x210, 31, 0, 0⟩
abbrev Reg.CHAN.STEP_TAG_TAG : Fld := ⟨0x210, 15, 0, 0⟩
abbrev Reg.CHAN.LOOP_CNT : Fld := ⟨0x214, 31, 0, 0⟩
abbrev Reg.CHAN.LOOP_CNT_CNT0 : Fld := ⟨0x214, 7, 0, 0⟩
abbrev Reg.CHAN.LOOP_CNT_CNT1 : Fld := ⟨0x214, 15, 8, 0⟩
abbrev Reg.CHAN.LOOP_CNT_CNT2 : Fld := ⟨0x214, 23, 16, 0⟩
abbrev Reg.CHAN.LOOP_CNT_CNT3 : Fld := ⟨0x214, 31, 24, 0⟩
abbrev Reg.CHAN.CV_FRAMES : Fld := ⟨0x218, 31, 0, 0⟩
abbrev Reg.CHAN.DVDT : Fld := ⟨0x21C, 31, 0, 0⟩
abbrev Reg.CHAN.DIDT : Fld := ⟨0x220, 31, 0, 0⟩
abbrev Reg.CHAN.TRANSITIONS : Fld := ⟨0x224, 31, 0, 0⟩
abbrev Reg.CHAN.ZONE_CHANGES : Fld := ⟨0x228, 31, 0, 0⟩
abbrev Reg.CHAN.QV_Q : Fld := ⟨0x22C, 31, 0, 0⟩
abbrev Reg.CHAN.QV_V : Fld := ⟨0x230, 31, 0, 0⟩
abbrev Reg.CHAN.LIST_CRC : Fld := ⟨0x234, 31, 0, 0⟩
abbrev Reg.CHAN.LIST_CRC_ECC_COUNT : Fld := ⟨0x234, 31, 16, 0⟩
abbrev Reg.CHAN.LIST_CRC_CRC : Fld := ⟨0x234, 15, 0, 0⟩
abbrev Reg.CHAN.END_INFO : Fld := ⟨0x240, 31, 0, 0⟩
abbrev Reg.CHAN.END_INFO_RESULT : Fld := ⟨0x240, 31, 30, 0⟩
abbrev Reg.CHAN.END_INFO_ACTION : Fld := ⟨0x240, 29, 27, 0⟩
abbrev Reg.CHAN.END_INFO_ZONE : Fld := ⟨0x240, 26, 26, 0⟩
abbrev Reg.CHAN.END_INFO_SLOT : Fld := ⟨0x240, 25, 24, 0⟩
abbrev Reg.CHAN.END_INFO_QTY : Fld := ⟨0x240, 23, 20, 0⟩
abbrev Reg.CHAN.END_INFO_FLAGS : Fld := ⟨0x240, 19, 16, 0⟩
abbrev Reg.CHAN.END_INFO_NEXT : Fld := ⟨0x240, 15, 8, 0⟩
abbrev Reg.CHAN.END_INFO_STEP : Fld := ⟨0x240, 7, 0, 0⟩
abbrev Reg.CHAN.END_FRAME : Fld := ⟨0x244, 31, 0, 0⟩
abbrev Reg.CHAN.END_Q_LO : Fld := ⟨0x248, 31, 0, 0⟩
abbrev Reg.CHAN.END_Q_HI : Fld := ⟨0x24C, 31, 0, 0⟩
abbrev Reg.CHAN.END_E_LO : Fld := ⟨0x250, 31, 0, 0⟩
abbrev Reg.CHAN.END_E_HI : Fld := ⟨0x254, 31, 0, 0⟩
abbrev Reg.CHAN.END_FRAMES_LO : Fld := ⟨0x258, 31, 0, 0⟩
abbrev Reg.CHAN.END_FRAMES_HI : Fld := ⟨0x25C, 31, 0, 0⟩
abbrev Reg.CHAN.END_VALUE : Fld := ⟨0x260, 31, 0, 0⟩
abbrev Reg.CHAN.END_TAG : Fld := ⟨0x264, 31, 0, 0⟩
abbrev Reg.CHAN.END_TAG_TAG : Fld := ⟨0x264, 15, 0, 0⟩
/-! ### PHASE -/
abbrev Reg.PHASE.CTRL : Fld := ⟨0x040, 31, 0, 0⟩
abbrev Reg.PHASE.CTRL_PAIR_MODE : Fld := ⟨0x040, 1, 1, 0⟩
abbrev Reg.PHASE.CTRL_EN : Fld := ⟨0x040, 0, 0, 0⟩
abbrev Reg.PHASE.STAGE : Fld := ⟨0x044, 31, 0, 0⟩
abbrev Reg.PHASE.STAGE_RATING : Fld := ⟨0x044, 31, 24, 0⟩
abbrev Reg.PHASE.STAGE_L_NH : Fld := ⟨0x044, 15, 0, 0⟩
abbrev Reg.PHASE.TIMING : Fld := ⟨0x048, 31, 0, 0⟩
abbrev Reg.PHASE.TIMING_BLANK : Fld := ⟨0x048, 23, 16, 0⟩
abbrev Reg.PHASE.TIMING_MIN_OFF : Fld := ⟨0x048, 15, 8, 0⟩
abbrev Reg.PHASE.TIMING_MIN_ON : Fld := ⟨0x048, 7, 0, 0⟩
abbrev Reg.PHASE.IMON_CFG : Fld := ⟨0x04C, 31, 0, 0⟩
abbrev Reg.PHASE.IMON_CFG_GAIN : Fld := ⟨0x04C, 15, 0, 0⟩
abbrev Reg.PHASE.IMON_ZERO : Fld := ⟨0x050, 31, 0, 0⟩
abbrev Reg.PHASE.IMON_ZERO_OFFSET : Fld := ⟨0x050, 15, 0, 0⟩
abbrev Reg.PHASE.FAST_LIM : Fld := ⟨0x054, 31, 0, 0⟩
abbrev Reg.PHASE.FAST_LIM_RUN : Fld := ⟨0x054, 23, 16, 0⟩
abbrev Reg.PHASE.FAST_LIM_NEG : Fld := ⟨0x054, 15, 8, 0⟩
abbrev Reg.PHASE.FAST_LIM_POS : Fld := ⟨0x054, 7, 0, 0⟩
abbrev Reg.PHASE.SLOW_LIM : Fld := ⟨0x058, 31, 0, 0⟩
abbrev Reg.PHASE.SLOW_LIM_TAU : Fld := ⟨0x058, 31, 16, 0⟩
abbrev Reg.PHASE.SLOW_LIM_WARN : Fld := ⟨0x058, 15, 9, 0⟩
abbrev Reg.PHASE.SLOW_LIM_LEVEL_SQ : Fld := ⟨0x058, 8, 0, 0⟩
abbrev Reg.PHASE.BAL_CFG : Fld := ⟨0x05C, 31, 0, 0⟩
abbrev Reg.PHASE.BAL_CFG_EN : Fld := ⟨0x05C, 31, 31, 0⟩
abbrev Reg.PHASE.BAL_CFG_STEP : Fld := ⟨0x05C, 27, 24, 0⟩
abbrev Reg.PHASE.BAL_CFG_TRIM_MAX : Fld := ⟨0x05C, 21, 16, 0⟩
abbrev Reg.PHASE.BAL_CFG_DB_MIN : Fld := ⟨0x05C, 15, 8, 0⟩
abbrev Reg.PHASE.BAL_CFG_DEADBAND : Fld := ⟨0x05C, 7, 0, 0⟩
abbrev Reg.PHASE.ISO_CFG : Fld := ⟨0x060, 31, 0, 0⟩
abbrev Reg.PHASE.ISO_CFG_DRIVE : Fld := ⟨0x060, 9, 8, 0⟩
abbrev Reg.PHASE.ISO_CFG_SETTLE : Fld := ⟨0x060, 7, 0, 0⟩
abbrev Reg.PHASE.STATUS : Fld := ⟨0x064, 31, 0, 0⟩
abbrev Reg.PHASE.STATUS_ISO_LEVEL : Fld := ⟨0x064, 11, 11, 0⟩
abbrev Reg.PHASE.STATUS_ISO_CMD : Fld := ⟨0x064, 10, 10, 0⟩
abbrev Reg.PHASE.STATUS_DROP_CAUSE : Fld := ⟨0x064, 9, 7, 0⟩
abbrev Reg.PHASE.STATUS_IMON_RANGE : Fld := ⟨0x064, 6, 6, 0⟩
abbrev Reg.PHASE.STATUS_SLOW_WARN : Fld := ⟨0x064, 5, 5, 0⟩
abbrev Reg.PHASE.STATUS_TRIM_LIMIT : Fld := ⟨0x064, 4, 4, 0⟩
abbrev Reg.PHASE.STATUS_BAL_ACTIVE : Fld := ⟨0x064, 3, 3, 0⟩
abbrev Reg.PHASE.STATUS_TRIPPING : Fld := ⟨0x064, 2, 2, 0⟩
abbrev Reg.PHASE.STATUS_DROPPED : Fld := ⟨0x064, 1, 1, 0⟩
abbrev Reg.PHASE.STATUS_ACTIVE : Fld := ⟨0x064, 0, 0, 0⟩
abbrev Reg.PHASE.IAVG : Fld := ⟨0x068, 31, 0, 0⟩
abbrev Reg.PHASE.IAVG_VALID : Fld := ⟨0x068, 31, 31, 0⟩
abbrev Reg.PHASE.IAVG_CURRENT : Fld := ⟨0x068, 23, 0, 0⟩
abbrev Reg.PHASE.TRIM : Fld := ⟨0x06C, 31, 0, 0⟩
abbrev Reg.PHASE.TRIM_FINE : Fld := ⟨0x06C, 15, 0, 0⟩
abbrev Reg.PHASE.DUTY : Fld := ⟨0x070, 31, 0, 0⟩
abbrev Reg.PHASE.DUTY_FINE : Fld := ⟨0x070, 15, 0, 0⟩
abbrev Reg.PHASE.SLOW_ACC : Fld := ⟨0x074, 31, 0, 0⟩
abbrev Reg.PHASE.TRIP_COUNT : Fld := ⟨0x078, 31, 0, 0⟩
abbrev Reg.PHASE.DROP_FRAME : Fld := ⟨0x07C, 31, 0, 0⟩
/-! ### ENG -/
abbrev Reg.ENG.STATE : Fld := ⟨0x040, 31, 0, 0⟩
abbrev Reg.ENG.STATE_EST_SUSPENDED : Fld := ⟨0x040, 12, 12, 0⟩
abbrev Reg.ENG.STATE_CARRIED : Fld := ⟨0x040, 11, 8, 0⟩
abbrev Reg.ENG.STATE_STATE : Fld := ⟨0x040, 2, 0, 0⟩
abbrev Reg.ENG.HEARTBEAT : Fld := ⟨0x044, 31, 0, 0⟩
abbrev Reg.ENG.CYCLES_LAST : Fld := ⟨0x048, 31, 0, 0⟩
abbrev Reg.ENG.CYCLES_LAST_CYCLES : Fld := ⟨0x048, 15, 0, 0⟩
abbrev Reg.ENG.CYCLES_MAX : Fld := ⟨0x04C, 31, 0, 0⟩
abbrev Reg.ENG.CYCLES_MAX_CYCLES : Fld := ⟨0x04C, 15, 0, 0⟩
abbrev Reg.ENG.MISSED : Fld := ⟨0x050, 31, 0, 0⟩
abbrev Reg.ENG.RAM_ECC : Fld := ⟨0x054, 31, 0, 0⟩
abbrev Reg.ENG.STOP_FRAME : Fld := ⟨0x058, 31, 0, 0⟩
abbrev Reg.ENG.STOP_CAUSE : Fld := ⟨0x05C, 31, 0, 0⟩
abbrev Reg.ENG.STOP_CAUSE_CAUSE : Fld := ⟨0x05C, 3, 0, 0⟩
/-! ### RESULT -/
abbrev Reg.RESULT.RES_SNAP : Fld := ⟨0x040, 31, 0, 0⟩
abbrev Reg.RESULT.RES_STATUS : Fld := ⟨0x044, 31, 0, 0⟩
abbrev Reg.RESULT.RES_STATUS_DISCARD_FN : Fld := ⟨0x044, 26, 24, 0⟩
abbrev Reg.RESULT.RES_STATUS_DISCARD_CODE : Fld := ⟨0x044, 23, 20, 0⟩
abbrev Reg.RESULT.RES_STATUS_TONE_STATE : Fld := ⟨0x044, 19, 17, 0⟩
abbrev Reg.RESULT.RES_STATUS_UNLEARNED : Fld := ⟨0x044, 16, 16, 0⟩
abbrev Reg.RESULT.RES_STATUS_STALE : Fld := ⟨0x044, 12, 8, 0⟩
abbrev Reg.RESULT.RES_STATUS_VALID : Fld := ⟨0x044, 4, 0, 0⟩
abbrev Reg.RESULT.CELL_ID : Fld := ⟨0x048, 31, 0, 4⟩
abbrev Reg.RESULT.PUB_FRAME : Fld := ⟨0x058, 31, 0, 0⟩
abbrev Reg.RESULT.Z_END : Fld := ⟨0x060, 31, 0, 0⟩
abbrev Reg.RESULT.Z_INFO : Fld := ⟨0x064, 31, 0, 0⟩
abbrev Reg.RESULT.Z_INFO_TAG : Fld := ⟨0x064, 31, 16, 0⟩
abbrev Reg.RESULT.Z_INFO_STEP : Fld := ⟨0x064, 15, 8, 0⟩
abbrev Reg.RESULT.Z_INFO_TONES : Fld := ⟨0x064, 3, 0, 0⟩
abbrev Reg.RESULT.Z_DC : Fld := ⟨0x068, 31, 0, 0⟩
abbrev Reg.RESULT.Z_WINDOW : Fld := ⟨0x06C, 31, 0, 0⟩
abbrev Reg.RESULT.Z_DISCARDS : Fld := ⟨0x070, 31, 0, 0⟩
abbrev Reg.RESULT.Z_FREQ : Fld := ⟨0x080, 31, 0, 32⟩
abbrev Reg.RESULT.Z_RE : Fld := ⟨0x084, 31, 0, 32⟩
abbrev Reg.RESULT.Z_IM : Fld := ⟨0x088, 31, 0, 32⟩
abbrev Reg.RESULT.Z_UNC : Fld := ⟨0x08C, 31, 0, 32⟩
abbrev Reg.RESULT.Z_IAMP : Fld := ⟨0x090, 31, 0, 32⟩
abbrev Reg.RESULT.Z_VAMP : Fld := ⟨0x094, 31, 0, 32⟩
abbrev Reg.RESULT.CAP_Q_LO : Fld := ⟨0x180, 31, 0, 0⟩
abbrev Reg.RESULT.CAP_Q_HI : Fld := ⟨0x184, 31, 0, 0⟩
abbrev Reg.RESULT.CAP_E_LO : Fld := ⟨0x188, 31, 0, 0⟩
abbrev Reg.RESULT.CAP_E_HI : Fld := ⟨0x18C, 31, 0, 0⟩
abbrev Reg.RESULT.CAP_FRAMES : Fld := ⟨0x190, 31, 0, 0⟩
abbrev Reg.RESULT.CAP_FLAGS : Fld := ⟨0x194, 31, 0, 0⟩
abbrev Reg.RESULT.CAP_FLAGS_FLAGS : Fld := ⟨0x194, 3, 0, 0⟩
abbrev Reg.RESULT.CAP_END : Fld := ⟨0x198, 31, 0, 0⟩
abbrev Reg.RESULT.DCIR : Fld := ⟨0x1A0, 31, 0, 4⟩
abbrev Reg.RESULT.DCIR_DI : Fld := ⟨0x1AC, 31, 0, 0⟩
abbrev Reg.RESULT.DCIR_EDGE : Fld := ⟨0x1B0, 31, 0, 0⟩
abbrev Reg.RESULT.DCIR_FLAGS : Fld := ⟨0x1B4, 31, 0, 0⟩
abbrev Reg.RESULT.DCIR_FLAGS_FLAGS : Fld := ⟨0x1B4, 2, 0, 0⟩
abbrev Reg.RESULT.OCV_LAST : Fld := ⟨0x1C0, 31, 0, 0⟩
abbrev Reg.RESULT.OCV_INF : Fld := ⟨0x1C4, 31, 0, 0⟩
abbrev Reg.RESULT.OCV_TAU : Fld := ⟨0x1C8, 31, 0, 0⟩
abbrev Reg.RESULT.OCV_SOC : Fld := ⟨0x1CC, 31, 0, 0⟩
abbrev Reg.RESULT.OCV_SOC_SOC : Fld := ⟨0x1CC, 15, 0, 0⟩
abbrev Reg.RESULT.OCV_END : Fld := ⟨0x1D0, 31, 0, 0⟩
abbrev Reg.RESULT.OCV_FLAGS : Fld := ⟨0x1D4, 31, 0, 0⟩
abbrev Reg.RESULT.OCV_FLAGS_FLAGS : Fld := ⟨0x1D4, 2, 0, 0⟩
abbrev Reg.RESULT.K_RATE : Fld := ⟨0x1E0, 31, 0, 0⟩
abbrev Reg.RESULT.K_SPAN : Fld := ⟨0x1E4, 31, 0, 0⟩
abbrev Reg.RESULT.LEAK_I : Fld := ⟨0x1E8, 31, 0, 0⟩
abbrev Reg.RESULT.K_END : Fld := ⟨0x1EC, 31, 0, 0⟩
abbrev Reg.RESULT.K_FLAGS : Fld := ⟨0x1F0, 31, 0, 0⟩
abbrev Reg.RESULT.K_FLAGS_FLAGS : Fld := ⟨0x1F0, 2, 0, 0⟩

end Sys2Proof.Machine
end

