-- ==== Sys2Proof/Machine/State.lean ====
section
/-! DEFINITION. The state of the device as plain data, the reasons a step can stop, and the state right after the cold
reset of a power-on. Registers of the spec's register tables live in `State.regs` under their byte address (R25); what
the spec gives the device beside its registers lives in the named structures below. -/

namespace Sys2Proof.Machine

/-- Faults. `noSuchState` is the model's own name for a stop that no command reaches: every command of the table either
takes its effect or, where its condition does not hold in the state, is no event and leaves the state as it is (log
entry 2). Safe: nothing can be proved of a state after it. -/
inductive Fault where
  | noSuchState
  deriving DecidableEq, Repr

/-- Refusals. `notModelled` is raised only by an arm of `exec` that has no meaning yet. Safe: the run stops there. -/
inductive Refusal where
  | notModelled (mnemonic : String)
  deriving DecidableEq, Repr

/-- PWM ball levels (R99). -/
inductive Pwm where
  | low | mid | high
  deriving DecidableEq, Repr

/-! ### Register access, locks, change log (chapter 2) -/

/-- A key sequence in progress on a page (R30, R31, R355): `kind` 1 unlock, 2 factory unlock, 3 test-mode key; the
frame and the RC time of its first write, and whether it is timed on the RC oscillator (R31). -/
structure KeySeq where
  kind : Nat
  frame : Nat
  rcUs : Nat
  onRc : Bool
  deriving DecidableEq, Repr

/-- One change-log entry: its six words (R41). -/
structure LogEntry where
  w0 : Nat
  w1 : Nat
  w2 : Nat
  w3 : Nat
  w4 : Nat
  w5 : Nat
  deriving DecidableEq, Repr

/-- The change log beside its registers: the ring by index, the number of unconsumed entries (R42), whether a loss has
been raised since the ring last had room (R43), the persistent entries collected in the RAM page that fills, the RAM page
that waits for its commit, whether a drop has been raised since a page was last committed or emptied, and the RC times of the
first entries of the page that fills and of the one after it (R44, R445). -/
structure LogState where
  ring : Table LogEntry
  fill : Nat
  lossOpen : Bool
  persist : List LogEntry
  waiting : Option (List LogEntry)
  dropOpen : Bool
  firstUs : Nat
  nextUs : Nat
  deriving DecidableEq, Repr

/-! ### Clocks and transit (chapters 3 and 4) -/

/-- Clock state beside the CLOCK page: when holdover began, and the running episodes of R500, and the RC time of
REFCLK's last excursion, from which its qualification window runs (R52, R79). -/
structure ClockState where
  holdStartUs : Nat
  refEpisode : Bool
  pllEpisode : Bool
  refUs : Nat
  deriving DecidableEq, Repr

/-- Spread spectrum (R97): the modulation moves linearly from `src` to `goal`, and has come `pos` of `len` fine steps. -/
structure Spread where
  src : Rat
  goal : Rat
  pos : Rat
  len : Rat
  deriving DecidableEq, Repr

/-- The transit follower and source (R85 to R90) beside the TRANSIT page. `high`: a source drives TRANSIT high (R85);
`spread` modulates the switching period (R97). `edge` is the error of the edge matched to
the present boundary, `nextEdge` that of one matched to the coming boundary, `closed` says that the present boundary's window has
closed; `adjust` is the correction of the frame in progress and `nextAdjust` that of the next one;
`alignRun` counts the consecutive edges of R56; `quietUntilUs` is the end of the time in which TRANSIT_SKEW is not raised (R82). -/
structure TransitState where
  edge : Option Int
  nextEdge : Option Int
  closed : Bool
  adjust : Int
  nextAdjust : Int
  inWindowRun : Nat
  episode : Bool
  missedRun : Nat
  alignRun : Nat
  contention : Nat
  waitRaised : Bool
  quietUntilUs : Nat
  markPending : Bool
  high : Bool
  spread : Spread
  deriving DecidableEq, Repr

/-! ### Phases and channels (chapters 5 and 6) -/

/-- A phase beside its PHASE page: the slow-limit accumulator in 1/200 of its unit (R111), the run of tripped cycles and
its last polarity (R110), whether the present cycle has tripped, the run of out-of-range cycles (R101), whether the present frame held a tripped cycle
or any switching cycle, the present ball level, whether it switches, the IMON frame means of the last 64 frames, newest last,
the on-time and the carrier offset of the present cycle in fine steps, the drop-out causes met in the present frame,
and whether the drop-out of the present frame is masked (R119). -/
structure PhaseState where
  acc : Nat
  run : Nat
  runPos : Bool
  rangeRun : Nat
  cycTrip : Bool
  tripped : Bool
  cycled : Bool
  pwm : Pwm
  switching : Bool
  imons : List Int
  duty : Nat
  offset : Int
  causes : List Nat
  maskedDrop : Bool
  deriving DecidableEq, Repr

/-- A channel beside its CHAN page. References are held exactly (R139), currents in 10 µA and voltages in 10 µV:
`iref` and `vref` the slewed references, `itarget` and `vtarget` their newest targets, `cand` the current reference
before the token limit, `limit` what the bank permits it where it limits the channel, `grant` what it permits with the
perturbation (R151, R293), `out` the perturbed reference of the frame after every
limiter (R293), `irefPrev` the reference before the last boundary,
`rampRate` the ramp-down rate in 10 µA/ms (R156). `isoAll`, `isoAny`: ISO commanded high throughout, or at any time in,
the present frame. `loopOn`: the current loop has run a cycle since the channel began to switch (R124). `connCyc` counts core cycles since the boundary of entry to CONNECT and `isoCyc` is their value when
ISO went high (R124). `modeIn` is the mode applied at the last boundary. `vk`, `ik`, `vf` are the samples of the last
completed frame, with their substitute and clip marks, `iprev` and `vfprev` those of the frame before. `endPending` is
the result and cause of a step that ends at the next boundary; `rampEnd` that of a step that ends with the ramp. -/
structure ChanState where
  iref : Rat
  vref : Rat
  itarget : Rat
  vtarget : Rat
  cand : Rat
  irefPrev : Rat
  rampRate : Rat
  growing : Bool
  seedRef : Bool
  tripRun : Nat
  cycTrip : Bool
  duty : Int
  loopOn : Bool
  iso : Bool
  isoAll : Bool
  isoAny : Bool
  isoCyc : Option Nat
  zeroDone : Bool
  connCyc : Nat
  framesSwitching : Nat
  balStarted : Bool
  zvRun : Nat
  pulseCount : Nat
  pulseTimer : Nat
  pulseStarted : Bool
  resume : Bool
  modeIn : Nat
  isetIn : Int
  psetIn : Int
  probeRun : Nat
  probeRaised : Bool
  epOv : Bool
  epUv : Bool
  epOi : Bool
  epOt : Bool
  iprev : Int
  vfprev : Int
  vk : Int
  ik : Int
  vf : Int
  rp : Rat
  rpAcq : Nat
  vkLast : Int
  substV : Bool
  substI : Bool
  clip : Bool
  clrRun : Bool
  limit : Option Rat
  grant : Rat
  out : Rat
  cellId : List Nat
  endPending : Option (Nat × Nat)
  rampEnd : Option (Nat × Nat)
  deriving DecidableEq, Repr

/-! ### Measurement (chapter 7) -/

/-- Passed trims of one slice for one range (R187): zero in 0.01 µV, positive and negative gain, exact. -/
structure SliceTrim where
  z : Rat
  gp : Rat
  gn : Rat
  deriving DecidableEq, Repr

/-- One slice beside the BANK page: passed trims per range, whether it passed since entry to FULL and how often, and
whether it has calibrated since the first mismatch of a SUSPECT episode (R189). -/
structure SliceState where
  trimV : Option SliceTrim
  trimI : Option SliceTrim
  passes : Nat
  sinceMismatch : Bool
  deriving DecidableEq, Repr

/-- One averager (R196): its window of samples with their substitute marks, newest last. -/
structure Averager where
  window : List (Int × Bool)
  restart : Bool
  deriving DecidableEq, Repr

/-- A bank's measurement beside its BANK page: its slices; per duty the frames still to be substituted (R191); the
rover; the duty the rover takes next (R181); the present step's length; whether the rover calibrates and has passed; the
overlap frame and the hand-over it leaves due (R180); a SUSPECT episode (R189); a rotation start that waits for the next
boundary (R184); the averagers, 3k + 0, 1, 2 for V_K, I and V_F of channel k, 12 and 13 for bus current and voltage;
tracker clears waiting for the next boundary, 2k and 2k + 1 for V_K and I of channel k, 8 for the bus (R199); the
retirement map as committed (R192); the slices flagged in the present frame (R190); the raw readings of the last frame; and the bus samples of the last frame. -/
structure BankState where
  slices : Table SliceState
  subst : Table Nat
  rover : Option Nat
  nextDuty : Nat
  stepFrame : Nat
  stepLen : Nat
  calRunning : Bool
  roverPassed : Bool
  overlap : Bool
  handoverDue : Bool
  mismatch : Bool
  startPending : Bool
  avgs : Table Averager
  clears : List Nat
  retireMap : Nat
  flagged : List Nat
  last : List (Int × Int)
  busV : Int
  busI : Int
  busSubst : Bool
  busClip : Bool
  deriving DecidableEq, Repr

/-! ### Recipes (chapter 9) -/

/-- A channel's recipe engine context beside its step-execution registers: host requests of the present frame (R251,
R252), whether a list has passed validation and waits for the boundary (R262), the slots marked in the step, the samples
(V_K, I) of its derivative windows, newest last (R245), whether an interrupted step was HELD, the CRC field of the
step's record as loaded (R268), and whether its engine stopped while the list was validated or waited: it is validated again (R281). -/
structure RecipeState where
  jump : Option Nat
  cont : Bool
  validated : Bool
  marked : Nat
  deriv : List (Int × Int)
  held : Bool
  stepCrc : Nat
  redo : Bool
  deriving DecidableEq, Repr

/-! ### Ledger (chapter 8) -/

/-- A channel's exact accumulators (R209): charge in 0.05 pC, energy in 5 × 10⁻¹¹ nJ, frames. -/
structure ChanAcc where
  stepQ : Int
  stepE : Int
  runQ : Int
  runE : Int
  lifeIn : Int
  lifeOut : Int
  stepFrames : Nat
  runFrames : Nat
  deriving DecidableEq, Repr

/-- A bank's exact bus energy and balance sums, in 1/100,000 of 5 × 10⁻¹¹ nJ, and its balance window with a
restart of it, a clear of BUS_E and an EN that was set, which wait for the next boundary (R226, R227, R230, R234). -/
structure BankAcc where
  busE : Int
  winR : Int
  winG : Int
  winT : Nat
  restart : Bool
  busClr : Bool
  enSet : Bool
  deriving DecidableEq, Repr

/-- A channel's entry of the resume record (*Channel resume state*): step index, RSTATE at the boundary, zone, marked slots
and QV raised, the four loop counters as LOOP_CNT holds them, LIST_CRC, the CRC field of the step's record, CV_FRAMES, TAG.
`held` keeps for an INTERRUPTED step that it was HELD, which R268 asks for and the table has no byte for (DEDUCED, log
entry 82). -/
structure ResumeRec where
  step : Nat
  rstate : Nat
  zone : Nat
  marked : Nat
  qv : Bool
  loops : Nat
  listCrc : Nat
  stepCrc : Nat
  cvFrames : Nat
  tag : Nat
  held : Bool
  deriving DecidableEq, Repr

/-- A ledger checkpoint with its resume record (R220, R223, R267): its header, with the INTERVAL in force and the frame
period; the exact accounts, and the ledger and accumulator registers at its boundary; each channel's committed CELL_ID, and
the channels whose last step ended INTERRUPTED (R65). -/
structure Ckpt where
  reason : Nat
  boundary : Nat
  nextFrame : Nat
  lossStart : Nat
  lossLen : Nat
  interval : Nat
  period : Nat
  accs : Table ChanAcc
  bankAccs : Table BankAcc
  resume : Table ResumeRec
  cells : Table (List Nat)
  intr : List Nat
  regs : Table Word
  deriving DecidableEq, Repr

/-- The ledger beside its page: the shadow of R219, the shadow before it and when its copy began, the reasons of checkpoints
to be made at the next boundary, the frame number the accounts were restored or begun with, and whether the OPEN header of
R222 is outstanding. -/
structure LedgerState where
  shadow : Option Ckpt
  prevShadow : Option Ckpt
  copyUs : Nat
  pendingReasons : List Nat
  startFrame : Nat
  late : Bool
  openNeeded : Bool
  openSlotErased : Bool
  snapPending : Bool
  deriving DecidableEq, Repr

/-! ### Grading (chapter 11) -/

/-- A tone run (R297): its first boundary, the tone set, the amplitudes in 10 µA in TONE order, and TONE_MIN_DC as latched. -/
structure ToneRun where
  n0 : Nat
  set : Nat
  amps : List Int
  minDc : Nat
  deriving DecidableEq, Repr

/-- The sums of one series of a window (R300): Σx, Σjx, Σx², and Σx·cos, Σx·sin of each used tone in 40 fraction bits. -/
structure FitSum where
  x : Int
  jx : Int
  xx : Int
  c : List Int
  s : List Int
  deriving DecidableEq, Repr

/-- An impedance window (R298): its tone set, the first boundary of its tone run, admission frame, length m, quanta, frames taken, the sums of V_K and of current,
and the sum of the unperturbed reference. -/
structure ImpWindow where
  set : Nat
  n0 : Nat
  minDc : Nat
  start : Nat
  m : Nat
  quanta : Nat
  j : Nat
  v : FitSum
  i : FitSum
  dc : Rat
  deriving DecidableEq, Repr

/-- A capacity measurement (R302): stage 1 before the start mark, 2 before the end mark; its limits in µV as latched,
start then end; the direction; the accounts at the start mark; those after the last frame; PARTIAL; the last frame. -/
structure CapRun where
  stage : Nat
  startV : Int
  endV : Int
  up : Bool
  q0 : Int
  e0 : Int
  f0 : Nat
  q : Int
  e : Int
  f : Nat
  part : Bool
  last : Nat
  flags : Nat
  deriving DecidableEq, Repr

/-- A DCIR measurement (R303, R304): stage 1 before the edge, 2 pulse on; the configuration as latched; frames with
SLEW_DONE, and clean frames in a row; the last baseline frames, each with its substitute and clip marks; the edge, the
baseline means, the samples at each delay, and whether a substituted one was used. -/
structure DcirRun where
  stage : Nat
  start : Nat
  bexp : Nat
  delta : Int
  delays : List Nat
  slewRun : Nat
  cleanRun : Nat
  hist : List (Int × Int × Bool × Bool)
  edge : Nat
  vb : Rat
  ib : Rat
  got : List (Option (Int × Int))
  subst : Bool
  deriving DecidableEq, Repr

/-- An OCV relaxation fit (R305): first resting frame, frames taken from it, the configuration as latched with OCV_SEL, block
sums. -/
structure OcvRun where
  t0 : Option Nat
  n : Nat
  skip : Nat
  block : Nat
  sums : List Int
  subst : Bool
  last : Nat
  sel : Nat
  deriving DecidableEq, Repr

/-- A K-value measurement (R306): first resting frame, frames taken from it, the frames before V_start's window, the
window exponent, the sum and count of V_start, the last frames for V_end, newest last, each with its substitute mark, and
OCV_SEL and CAP_NOM as latched. -/
structure KRun where
  t0 : Option Nat
  n : Nat
  wait : Nat
  kexp : Nat
  vs : Int
  tail : List (Int × Bool)
  subst : Bool
  last : Nat
  sel : Nat
  nom : Nat
  deriving DecidableEq, Repr

/-- A computed result block that waits for its publication (R292): block 0 Z, 1 CAP, 2 DCIR, 3 OCV, 4 K; its words by
offset; whether it used the generic OCV table; the step's TAG and index; whether its step is still the channel's last one. -/
structure GradeResult where
  block : Nat
  words : List (Nat × Nat)
  unlearned : Option Bool
  tag : Nat
  step : Nat
  live : Bool
  deriving DecidableEq, Repr

/-- A channel's grading beside its RESULT page: the functions that run in the present step with its TAG and index, the first
boundary at which the next window may start, a complete window that waits for its close, the DCIR offset on with the
boundary that ends it (R303), the CELL_ID of the last capacity result (R307), results to publish, whether the step's tone set was
VALID as it opened (R296), and whether a HOLD has stopped tones that run on under the carrier (R284, R311). -/
structure GradeState where
  tag : Nat
  step : Nat
  capCell : List Nat
  pulse : Option (Nat × Int)
  closing : Option ImpWindow
  tone : Option ToneRun
  nextWin : Nat
  win : Option ImpWindow
  cap : Option CapRun
  dcir : Option DcirRun
  ocv : Option OcvRun
  k : Option KRun
  results : List GradeResult
  toneOk : Option Bool
  toneHeld : Bool
  deriving DecidableEq, Repr

/-! ### The Commons (chapter 12) -/

/-- The Commons of a device beside the COMMONS page. Device side: the train received in the present frame and the one on
COM_OUT, whether SYNC has been seen in the frame, frames without a keeper header, whether the last header carried
FREEZE, whether the ring has closed since entry to FULL, the sequences of the last grant taken and of the last return,
the open lend offer with its loans per bank, the refusal being sent (sequence, amount), boundaries with a surplus, the
frame of each bank's last loan, the present uplink word, limited frames and starve episodes per channel, and what R319 asks
of the present frame: each running channel's share of its bank's net power and what each bank has left of its budget, in
10⁻¹¹ W. -/
structure CommonsState where
  rx : Option (Nat × List Nat)
  tx : Option (Nat × List Nat)
  sync : Bool
  origin : Bool
  noHdr : Nat
  freezeHdr : Bool
  closedOnce : Bool
  gack : Nat
  rseq : Nat
  offer : Nat
  loanOpen : Bool
  loans : Table Nat
  refusal : Option (Nat × Nat)
  surplus : Nat
  lastLoan : Table Nat
  uplink : Nat
  limRun : Table Nat
  starving : List Nat
  shares : List (Nat × Rat)
  room : List Rat
  deriving DecidableEq, Repr

/-- The keeper of the Commons beside the COMMONS page (R322 to R334): credited return sequences and amounts, wants and
HOT per device, the count of trains and the RTAG of the train in flight, trains not intact in a row, whether it is
frozen, the devices present at the last closure, the RTAG of the train that carried VOID, the devices to be sent VOID in
the next train, and the reissues (new total, written-off mask) that wait for the boundary after their commits, in order. -/
structure KeeperState where
  rseq : Table Nat
  lastRet : Table Nat
  want : Table Nat
  hot : Nat
  rtag : Nat
  sent : Option Nat
  bad : Nat
  frozen : Bool
  members : Nat
  voidTag : Option Nat
  voidNow : Nat
  issueDue : List (Nat × Nat)
  deriving DecidableEq, Repr

/-! ### Engines (chapter 10) -/

/-- An engine beside its ENG page: the frame number of the heartbeat posted in the present frame, the frame for which a bank's
engine that has stopped since had posted its heartbeat (R269, by bank), sequencer slots without
a heartbeat (ENG.10), whether a restart is in progress, a host STOP waiting for the boundary (R283),
whether it was stopped while carrying no bank (R282), and, for a recipe engine, its bank: stopped since the last
boundary and waiting for HOLD, the boundary of HOLD with the limit taken there, the carrier chosen there, and a hand-back due. Then
whether it has booted in the present frame, for which no heartbeat is due, and the bank an estimator carried in the frame in
which it stopped: what it staged for that bank before it stopped keeps its rights (R275). -/
structure EngState where
  beat : Option Nat
  posted : Option Nat
  slotMiss : Nat
  restarting : Bool
  stopReq : Bool
  idleStop : Bool
  stoppedNow : Bool
  holdAt : Option Nat
  holdLimit : Nat
  takeover : Option Nat
  handback : Bool
  booted : Bool
  ranBank : Option Nat
  deriving DecidableEq, Repr

/-! ### Faults (chapter 13) -/

/-- A last-fault record started and waiting for its snapshot (R352): message, frame, RTC second, injected, Crier queued. -/
structure RecStart where
  msg : Nat
  frame : Nat
  sec : Nat
  injected : Bool
  crier : Bool
  deriving DecidableEq, Repr

/-- An active entry: the highest severity raised and the addresses it was raised with (R353). -/
structure ActiveEntry where
  sev : Nat
  addrs : List Nat
  deriving DecidableEq, Repr

/-- No entry. -/
def ActiveEntry.none : ActiveEntry := ⟨0, []⟩

/-- The fault collector beside the FAULT page: active entries by page × 256 + kind with their highest severity (R353),
the message queue with its stamps (R339), the Crier queue (R351), clears waiting for a boundary with their origin
(R353), the record being made (R352), the level other devices give FAULT_N and since when it is high (R349), the
TESTMODE ball, the chip safe state that the sequencer holds (R368), LOG_OVERFLOW messages to send, and whether the collector
gathers the messages of a boundary (R339). -/
structure FaultState where
  active : Table ActiveEntry
  fifo : List (Nat × Nat × Nat)
  crier : List (Nat × Nat)
  clears : List (Nat × Nat)
  recStart : Option RecStart
  recSnap : Option (List Nat)
  peerLow : Bool
  testPin : Bool
  seqHold : Bool
  logPending : List Nat
  cycle : Bool
  deriving DecidableEq, Repr


/-- One event for the stream (R264): a step end, or a mark, with the values its record carries. -/
structure StepEvent where
  chan : Nat
  mark : Bool
  info : Nat
  frame : Nat
  tag : Nat
  value : Int
  sums : List Nat
  cellId : List Nat
  deriving DecidableEq, Repr

/-! ### Housekeeping (chapter 14) -/

/-- A rail beside its HKRAIL block: failed windows in the present sequence (R364), slots since its enable, whether PG has
been 1 since then (R365), whether VSET was retargeted since then, VREF in 10 µV and the target in mV that it moves to
(R374), whether it waits for OFF_TMO and for how many slots (R369), whether its output is below OFF_TH, whether it has
raised OFF_TIMEOUT since its switch-off, whether its output is below 10 % of VSET, and whether R367 discharges it whatever DISCH
holds. RC times: `onUs` of its enable (R359), `winUs` at which its present qualification
window opened (R363), `qualUs` at which it was qualified (R371). -/
structure RailState where
  fails : Nat
  slots : Nat
  onUs : Nat
  winUs : Nat
  qualUs : Nat
  seen : Bool
  retarget : Bool
  vref : Nat
  target : Nat
  offWait : Bool
  offSlots : Nat
  low : Bool
  timedOut : Bool
  drained : Bool
  forced : Bool
  deriving DecidableEq, Repr

/-- The sequencer and the housekeeping converter: the rails, whether a common start is due at the next slot boundary
(R360), the slots since the common start, the RC times of the last common start, of the last abort or emergency commit, and of
the last result of a die sensor at or above 110 °C (R360), the converter's next slot (R204), the die-temperature warning (R494),
whether the pack zone is chosen afresh at the next result and whether the pack thermistor reads shorted (R391), the levels of RST1_N and RST2_N (R371), and an accepted CMD DOWN before its common start: its origin and OFF_RESULT before it,
which a fault in the same slot brings back (R7, R360). -/
structure HkState where
  rails : Table RailState
  start : Bool
  slot : Nat
  startUs : Nat
  abortUs : Nat
  warmUs : Nat
  conv : Nat
  dieWarn : Bool
  zoneFresh : Bool
  packShort : Bool
  rst1 : Bool
  rst2 : Bool
  downReq : Option (Nat × Nat)
  deriving DecidableEq, Repr

/-! ### Backup pack, power path and gauge (chapter 15) -/

/-- The power path and charger beside the BACKUP page: whether the path converter runs, the start latch (R382), the RC
time of the hand-over's start (R384), whether the frame has been closed by a shutdown or an emergency commit, so that the
main-domain loss that follows makes no checkpoint (R388, R504), an emergency commit in progress, authentication attempts
left, the seconds of CHG_TIME below a minute, whether the charge timer has expired (R393), and whether authentication has
failed (R396), whether charging has ended at DONE and has not restarted (R392). RC times: `winUs` at which the hand-back window opened (R386), `authUs` from which the next authentication
attempt may begin (R396). -/
structure BackupState where
  path : Bool
  latch : Bool
  handUs : Nat
  closed : Bool
  emerg : Bool
  tries : Nat
  chgSec : Nat
  expired : Bool
  authFail : Bool
  winUs : Nat
  authUs : Nat
  done : Bool
  deriving DecidableEq, Repr

/-- The gauge beside the GAUGE page: the pack currents of the last 64 s, newest last (R398), whether the pack has stayed
present since EMPTY_MARK (R400), the charge discharged since CYCLES last advanced, in mC, the seconds in a row with a pack
current below 20 mA (R401), and whether CONFIDENCE is to drop to 0 once ENG.10 publishes again (R398, R401). -/
structure GaugeState where
  loads : List Int
  markOk : Bool
  discharged : Nat
  restSec : Nat
  reseeded : Bool
  deriving DecidableEq, Repr

/-! ### Real-time clock and timers (chapter 16) -/

/-- The backup domain beside the RTC page: whether it has a supply, the RC time at the start of the present second, the
SUBSEC at which the time stands, while it stands (R409, R410), the TRIM code in force, the untrimmed crystal cycles of its period
that had passed at the start of the present second, and the code that came into force within the second, where TRIM has been
written since (R411), the RC time of WAKE_OUT's last assertion (R415), the WINDOW of the trim measurement and whether a holdover or an
exit from FULL has spoilt it (R412), whether the time has been written since OSF was last set (R410), and the code of the resistor through which
VBK is charged, where it is (R406), and whether the crystal has stopped and no second has come since (R410). -/
structure RtcState where
  alive : Bool
  secUs : Nat
  stood : Option Nat
  trim : Nat
  cycle : Nat
  nextTrim : Option Nat
  wakeUs : Nat
  measWindow : Nat
  measLost : Bool
  written : Bool
  trickle : Option Nat
  crystalStopped : Bool
  deriving DecidableEq, Repr

/-- The timer block beside the TIMER page: TICK, TICK at the last frame boundary, the values armed (R418), the level each
GPIO is driven to, the compare whose pulse runs on each GPIO and the TICK at which it ends, and the levels on the GPIO
balls from outside. -/
structure TimerState where
  tick : Nat
  base : Nat
  armed : Table Nat
  out : Nat
  pulse : Table (Option Nat)
  pulseEnd : Table Nat
  ext : Nat
  deriving DecidableEq, Repr

/-! ### OTP and the Granary (chapter 17) -/

/-- An OTP operation in progress (R430 to R432): operation, word address or region, and the data to program. -/
structure OtpOp where
  op : Nat
  addr : Nat
  data : Nat
  deriving DecidableEq, Repr

/-- What a slot of a Granary record holds (*Granary records*). An OPEN header alone is a written slot that fails its CRC
(R222). -/
inductive Payload where
  | openHeader
  | torn
  | ckpt (c : Ckpt)
  | words (l : List Nat)
  | bytes (l : List Nat)
  deriving DecidableEq, Repr

/-- A written slot: its sequence, whether its CRC passes (for a checkpoint, that of the ledger part), its payload, the physical
pages it lies on, the RTC second of its write, and the sequence in the header of a checkpoint's resume part, where that part's
own CRC passes (R267, R436). -/
structure GSlot where
  seq : Nat
  valid : Bool
  payload : Payload
  pages : List Nat
  sec : Nat
  resumeSeq : Option Nat
  deriving DecidableEq, Repr

/-- A physical page of the Granary (R434): 0 erased, 1 written, 2 waiting for its erase, 3 retired, 4 held for the OPEN
header (R437), with its erase count. -/
structure GPage where
  kind : Nat
  count : Nat
  deriving DecidableEq, Repr

/-- A pending commit: the record ID, its payload, and for a log page its sequence. -/
structure GReq where
  id : Nat
  payload : Payload
  deriving DecidableEq, Repr

/-- A committed page of the persistent log tail, with the RTC second of its write (R438, R445). -/
structure LogPage where
  seq : Nat
  entries : List LogEntry
  drop : Nat
  page : Nat
  sec : Nat
  deriving DecidableEq, Repr

/-- The Granary beside its page: slots by 2 × ID + slot, physical pages, log pages newest last, the commit in progress
with the pages it programs, commits waiting, pages waiting for their erase, the customer staging buffer by word, whether
records are to be loaded at the next engine boot (R444), since when the first commit in order waits for erased pages (R439),
and when the MATE record was last refused (R171). Then the physical pages that fail their program verify (R440), and the emergency
commit's buffer: the BROWNOUT checkpoint, the persistent log entries and PERSIST_DROP (R442). -/
structure GranaryState where
  slots : Table (Option GSlot)
  pages : Table GPage
  logs : List LogPage
  busy : Option (GReq × List Nat)
  pend : List GReq
  erase : List Nat
  held : List Nat
  stage : Table Nat
  loadNeeded : Bool
  waitUs : Option Nat
  mateUs : Nat
  failing : List Nat
  emergCkpt : Option Ckpt
  emergLog : List LogEntry
  emergDrop : Nat
  deriving DecidableEq, Repr

/-! ### Host port, stream and two-wire bus (chapters 18 and 19) -/

/-- A stream record before it has a SEQ (R460, R461): creation frame, source, TYPE and the words after the header. -/
structure SRec where
  frame : Nat
  src : Nat
  typ : Nat
  body : List Nat
  deriving DecidableEq, Repr

/-- The stream engine beside the STREAM page: queues by source, the records in each channel's region with their SEQ,
their words header included, losses of each source since it last delivered a record, sources that have raised
STREAM_DROP since, channels that start at the next boundary (R466), and the words fetched from each channel in the
present host read frame (R463). -/
structure StreamState where
  queues : Table (List SRec)
  regions : Table (List (Nat × List Nat))
  lost : Table Nat
  raised : List Nat
  starts : List Nat
  fetched : Table Nat
  deriving DecidableEq, Repr

/-- A host write frame held until the next boundary has passed (R455): its frame of arrival, start address, whether the
address increments, the words, whether it was a broadcast, and whether it came on four lanes. -/
structure HeldFrame where
  frame : Nat
  addr : Nat
  fixed : Bool
  data : List Nat
  bcast : Bool
  four : Bool
  deriving DecidableEq, Repr

/-- What the device last sent: on the host port the response word, the data words and the CRC, or nothing, and whether on four
lanes (R450, R454); the bytes it last sent on the two-wire bus (R350, R396, R473, R477). -/
structure Reply where
  resp : Option Nat
  data : List Nat
  crc : Nat
  four : Bool
  wire : List Nat
  deriving DecidableEq, Repr

/-- Bring-up state beside the CHIP page: the RC time of entry to SAFETY_START, a failed self-test, a warm trigger that
waits for a page write (R66) with its RESET_CAUSE bit, a cold command that waits for its checkpoint (R67), whether a warm
reset has been made since FULL, whether customer defaults and Granary loads belong to this start (R63, R64), whether a
main-domain restart has been made since the OTP was last read (R55), and REGION_STATUS as each region's last read left it
(R425, R433), the levels on the balls ID0 to ID2, which a cold reset samples (R72), and key words 0x96 to
0x9A as the last read of the IDENTITY region left them (R428, R433). -/
structure SvcState where
  startUs : Nat
  selftestFail : Bool
  warmPend : Option Nat
  coldPend : Bool
  warmDone : Bool
  freshStart : Bool
  restarted : Bool
  regions : Nat
  straps : Nat
  keys : List Nat
  deriving DecidableEq, Repr

/-! ### First-use values -/

/-- No key sequence. -/
def KeySeq.none : KeySeq := ⟨0, 0, 0, false⟩
/-- No change-log entry. -/
def LogEntry.empty : LogEntry := ⟨0, 0, 0, 0, 0, 0⟩
/-- A phase at rest. -/
def PhaseState.init : PhaseState := ⟨0, 0, false, 0, false, false, false, .low, false, [], 0, 0, [], false⟩
/-- A channel at rest: references 0, R_P at RP_CFG.SEED's reset value of 20,000 µΩ. -/
def ChanState.init : ChanState :=
  { iref := 0, vref := 0, itarget := 0, vtarget := 0, cand := 0, irefPrev := 0, rampRate := 0, growing := false, seedRef := false, tripRun := 0, cycTrip := false, duty := 0, loopOn := false, iso := false, isoAll := false, isoAny := false, isoCyc := none, zeroDone := false, connCyc := 0, framesSwitching := 0, balStarted := false, zvRun := 0, pulseCount := 0, pulseTimer := 0, pulseStarted := false, resume := false, modeIn := 0, isetIn := 0, psetIn := 0, probeRun := 0, probeRaised := false, epOv := false, epUv := false, epOi := false, epOt := false, iprev := 0, vfprev := 0, vk := 0, ik := 0, vf := 0, rp := 20000, rpAcq := 16, vkLast := 0, substV := false, substI := false, clip := false, clrRun := false, limit := none, grant := 0, out := 0, cellId := [0, 0, 0, 0], endPending := none, rampEnd := none }
/-- A slice with its factory trims. -/
def SliceState.init : SliceState := ⟨none, none, 0, false⟩
/-- An averager with nothing collected. -/
def Averager.init : Averager := ⟨[], false⟩
/-- A bank before its entry to FULL. -/
def BankState.init : BankState :=
  { slices := [], subst := [], rover := none, nextDuty := 0, stepFrame := 0, stepLen := 0, calRunning := false, roverPassed := false, overlap := false, handoverDue := false, mismatch := false, startPending := false, avgs := [], clears := [], retireMap := 0, flagged := [], last := [], busV := 0, busI := 0, busSubst := false, busClip := false }
/-- No step context. -/
def RecipeState.init : RecipeState := ⟨none, false, false, 0, [], false, 0, false⟩
/-- Empty accumulators. -/
def ChanAcc.init : ChanAcc := ⟨0, 0, 0, 0, 0, 0, 0, 0⟩
/-- An empty bus account. -/
def BankAcc.init : BankAcc := ⟨0, 0, 0, 0, false, false, false⟩
/-- No grading function runs. -/
def GradeState.init : GradeState := ⟨0, 0, [], none, none, none, 0, none, none, none, none, none, [], none, false⟩
/-- An engine that runs with nothing pending. -/
def EngState.init : EngState := ⟨none, none, 0, false, false, false, false, none, 0, none, false, false, none⟩
/-- A Commons device that holds nothing. -/
def CommonsState.init : CommonsState :=
  { rx := none, tx := none, sync := false, origin := false, noHdr := 0, freezeHdr := false, closedOnce := false, gack := 0, rseq := 0, offer := 0, loanOpen := false, loans := [], refusal := none, surplus := 0, lastLoan := [], uplink := 0, limRun := [], starving := [], shares := [], room := [] }
/-- A keeper with no transfer open. -/
def KeeperState.init : KeeperState :=
  { rseq := [], lastRet := [], want := [], hot := 0, rtag := 1, sent := none, bad := 0, frozen := false, members := 0, voidTag := none, voidNow := 0, issueDue := [] }
/-- A rail that is off and discharged. -/
def RailState.init : RailState := ⟨0, 0, 0, 0, 0, false, false, 0, 0, false, 0, true, false, true, false⟩
/-- The sequencer in OFF, both reset outputs low. -/
def HkState.init : HkState := ⟨[], false, 0, 0, 0, 0, 0, false, true, false, false, false, none⟩
/-- The path converter off, no hand-over. -/
def BackupState.init : BackupState := ⟨false, false, 0, false, false, 0, 0, false, false, 0, 0, false⟩
/-- A gauge without history. -/
def GaugeState.init : GaugeState := ⟨[], false, 0, 0, false⟩
/-- The backup domain powered. -/
def RtcState.init : RtcState := ⟨true, 0, none, 0, 0, none, 0, 0, false, false, none, false⟩
/-- The timers after a reset. -/
def TimerState.init : TimerState := ⟨0, 0, [], 0, [], [], 0⟩
/-- An erased page that has never been erased before. -/
def GPage.init : GPage := ⟨0, 0⟩
/-- A Granary whose every page is erased (R69: a new device). -/
def GranaryState.init : GranaryState :=
  { slots := [], pages := [], logs := [], busy := none, pend := [], erase := [], held := [], stage := [], loadNeeded := true, waitUs := none, mateUs := 0, failing := [], emergCkpt := none, emergLog := [], emergDrop := 0 }
/-- The stream engine after a reset. -/
def StreamState.init : StreamState := ⟨[], [], [], [], [], []⟩
/-- Nothing sent. -/
def Reply.init : Reply := ⟨none, [], 0, false, []⟩
/-- Bring-up state at a cold reset. -/
def SvcState.init : SvcState := ⟨0, false, none, false, false, true, false, 0, 0, []⟩
/-- Clocks before REFCLK has been seen. -/
def ClockState.init : ClockState := ⟨0, false, false, 0⟩
/-- The modulation at rest at its lower end. The spec names no start (DESIGN CHOICE, log entry 75). -/
def Spread.init : Spread := ⟨-1 / 2, -1 / 2, 0, 0⟩
/-- The transit before a join. -/
def TransitState.init : TransitState :=
  { edge := none, nextEdge := none, closed := false, adjust := 0, nextAdjust := 0, inWindowRun := 0, episode := false, missedRun := 0, alignRun := 0, contention := 0, waitRaised := false, quietUntilUs := 0, markPending := false, high := false, spread := Spread.init }
/-- An empty change log. -/
def LogState.init : LogState := ⟨[], 0, false, [], none, false, 0, 0⟩
/-- The ledger of a device that has made no checkpoint. -/
def LedgerState.init : LedgerState := ⟨none, none, 0, [], 0, false, false, false, false⟩
/-- The fault collector with no entry. -/
def FaultState.init : FaultState := ⟨[], [], [], [], none, none, false, false, false, [], false⟩

/-! ### The state -/

/-- Everything the spec gives the device, and the queue of commands that wait, first in, first out. `regs` holds the
registers by byte address, unlisted ones at their reset value; `held` the words in force before the boundary at which an
accepted write takes effect (R92); `frame` the frame number (R83); `rcUs` the RC oscillator's µs (R46), `free` the
model's own index of free values; `commits` the committed marks of recipe records (R237), `recOld` one more than the
CRC-32 that a record changed since its last change-log entry had at that entry (R39); `memErr` the
recipe memory words that hold a bit error, 1 corrected at a read, 2 uncorrectable (R238); `staged` the writes of the main
engines (R275); `snaps` the latched reads by origin (R499); `keys` the key sequences by page (R31, R355); `opened` and `ended` the steps of the boundary in progress. -/
structure State where
  regs : Table Word
  held : Table Word
  powered : Bool
  frame : Nat
  free : Nat
  rcUs : Nat
  svc : SvcState
  log : LogState
  fault : FaultState
  clock : ClockState
  transit : TransitState
  phases : Table PhaseState
  chans : Table ChanState
  banks : Table BankState
  accs : Table ChanAcc
  bankAccs : Table BankAcc
  ledger : LedgerState
  recipes : Table RecipeState
  commits : Table Bool
  recOld : Table Nat
  memErr : Table Nat
  opened : List Nat
  ended : List (Nat × Nat)
  events : List StepEvent
  engs : Table EngState
  grades : Table GradeState
  commons : CommonsState
  keeper : KeeperState
  hk : HkState
  backup : BackupState
  gauge : GaugeState
  rtc : RtcState
  timer : TimerState
  otpA : Table Nat
  otpB : Table Nat
  otpWeakA : Table Nat
  otpWeakB : Table Nat
  otpOp : Option OtpOp
  gran : GranaryState
  stream : StreamState
  alert : Bool
  reply : Reply
  hostHeld : List HeldFrame
  staged : List (Nat × Nat × Nat)
  snaps : Table Nat
  keys : Table KeySeq
  pending : List Instr
  deriving DecidableEq, Repr

/-- The OTP of a sealed part (R423 to R425): SAFETY holds the register tables' own reset values, TRIM zero codes and
IDENTITY the member code and zeros, each sealed by its C0; PATCH and CUSTOMER are blank. The spec gives no content of a
part's OTP (DESIGN CHOICE, log entry 20). -/
def otpFactory : Table Nat := [
  (0x00, 0x4), (0x01, 0x40060A05), (0x02, 0x42040A05), (0x03, 0x44020A05), (0x04, 0x46000A05), (0x05, 0x2000A), (0x06,
  0xF0014), (0x07, 0x140A0168), (0x08, 0x140A00F0), (0x09, 0x140A012C), (0x0A, 0x140A004B), (0x0B, 0x1388), (0x0C,
  0x352), (0x0D, 0x46), (0x0E, 0x1F401B58), (0x0F, 0x5012710), (0x10, 0x190), (0x11, 0x900A03E8), (0x12, 0xA0258),
  (0x13, 0x140A0BB8), (0x14, 0xD6B03E8), (0x15, 0x14), (0x16, 0x36), (0x18, 0x641400), (0x19, 0x1C2FF00), (0x1A,
  0x226FF00), (0x1C, 0x1068), (0x1D, 0x1004), (0x1E, 0x1068), (0x1F, 0xFD2), (0x20, 0x1068), (0x21, 0x1E0C), (0x22,
  0x44002C), (0x23, 0xA01), (0x26, 0xFDFC8403), (0x90, 0x86F51892), (0x9B, 0x800), (0x9C, 0xE7FF6C09)
]

/-- The device right after the cold reset of a power-on (R46, R63): entry to SAFETY_START, every register at its reset
value, FAULT_N driven low with the chip safe state held (R60), ID strap 0. -/
def State.reset : State :=
  { regs := [(0x1844, 0x0028FF00#32), (0x3C58, 10800000#32)]
    held := []
    powered := true
    frame := 0
    free := 0
    rcUs := 0
    svc := SvcState.init
    log := LogState.init
    fault := FaultState.init
    clock := ClockState.init
    transit := TransitState.init
    phases := []
    chans := []
    banks := []
    accs := []
    bankAccs := []
    ledger := LedgerState.init
    recipes := []
    commits := []
    recOld := []
    memErr := []
    opened := []
    ended := []
    events := []
    engs := []
    grades := []
    commons := CommonsState.init
    keeper := KeeperState.init
    hk := HkState.init
    backup := { BackupState.init with path := true }
    gauge := GaugeState.init
    rtc := RtcState.init
    timer := TimerState.init
    otpA := otpFactory
    otpB := otpFactory
    otpWeakA := []
    otpWeakB := []
    otpOp := none
    gran := GranaryState.init
    stream := StreamState.init
    alert := false
    reply := Reply.init
    hostHeld := []
    staged := []
    snaps := []
    keys := []
    pending := [] }

end Sys2Proof.Machine
end

