-- ==== Sys2Proof/Machine/Ops.lean ====
section
/-! DEFINITION. The named operations on registers: reading and writing a field, counters that saturate, event bits,
64-bit pairs, and the tests of the service state that every block uses. -/

namespace Sys2Proof.Machine

/-! ### Pages (R27) -/

abbrev Pg.CHIP : Nat := 0x000
abbrev Pg.CLOCK : Nat := 0x001
abbrev Pg.TRANSIT : Nat := 0x002
abbrev Pg.HOST : Nat := 0x003
abbrev Pg.STREAM : Nat := 0x004
abbrev Pg.TWOWIRE : Nat := 0x005
abbrev Pg.FAULT : Nat := 0x006
abbrev Pg.CHANGELOG : Nat := 0x007
abbrev Pg.RTC : Nat := 0x008
abbrev Pg.TIMER : Nat := 0x009
abbrev Pg.OTP : Nat := 0x00A
abbrev Pg.GRANARY : Nat := 0x00B
abbrev Pg.HKSEQ : Nat := 0x00C
abbrev Pg.HKRAIL : Nat := 0x00D
abbrev Pg.BACKUP : Nat := 0x00E
abbrev Pg.GAUGE : Nat := 0x00F
abbrev Pg.COMMONS : Nat := 0x010
abbrev Pg.LEDGER : Nat := 0x011
abbrev Pg.ESTIM : Nat := 0x012
abbrev Pg.ENGCTL : Nat := 0x013
abbrev Pg.BANK (b : Nat) : Nat := 0x020 + b
abbrev Pg.CHAN (c : Nat) : Nat := 0x040 + c
abbrev Pg.PHASE (p : Nat) : Nat := 0x080 + p
abbrev Pg.ENG (n : Nat) : Nat := 0x100 + n
abbrev Pg.RECIPE (w : Nat) : Nat := 0x200 + w
abbrev Pg.RESULT (c : Nat) : Nat := 0x300 + c

/-! ### Registers -/

/-- The byte address of a field's register on a page (R25). -/
def addrOf (page : Nat) (f : Fld) : Nat := page * 0x400 + f.off

/-- What a register holds: its listed value, else its reset value (R6). -/
def State.rd (s : State) (addr : Nat) : Word := Table.get (resetWord addr) s.regs addr

/-- The state with one register changed. -/
def State.wr (s : State) (addr : Nat) (w : Word) : State :=
  { s with regs := Table.set (resetWord addr) s.regs addr w }

/-- A field of a register, unsigned. -/
def State.get (s : State) (page : Nat) (f : Fld) : Nat := bitsOf (s.rd (addrOf page f)).toNat f.hi f.lo

/-- A field of a register, two's complement (R2). -/
def State.geti (s : State) (page : Nat) (f : Fld) : Int := signed f.width (s.get page f)

/-- Is a one-bit field set? -/
def State.flag (s : State) (page : Nat) (f : Fld) : Bool := decide (s.get page f = 1)

/-- The state with one field changed; the field takes the low bits of the value. -/
def State.put (s : State) (page : Nat) (f : Fld) (v : Nat) : State :=
  s.wr (addrOf page f) (BitVec.ofNat 32 (withBits (s.rd (addrOf page f)).toNat f.hi f.lo v))

/-- The state with one field changed to the two's complement of an integer. -/
def State.puti (s : State) (page : Nat) (f : Fld) (v : Int) : State := s.put page f (unsigned f.width v)

/-- A field changed to an integer saturated to the field's signed range. -/
def State.putSat (s : State) (page : Nat) (f : Fld) (v : Int) : State := s.puti page f (satSigned f.width v)

/-- A one-bit field set or cleared. -/
def State.putb (s : State) (page : Nat) (f : Fld) (b : Bool) : State := s.put page f (b2n b)

/-- A counter advanced by `n` and held at its full code ("saturates"). -/
def State.addCount (s : State) (page : Nat) (f : Fld) (n : Nat) : State :=
  s.put page f (satNat f.width (s.get page f + n))

/-- A counter advanced by one and held at its full code. -/
def State.bump (s : State) (page : Nat) (f : Fld) : State := s.addCount page f 1

/-- A counter advanced by one that wraps at its width. -/
def State.bumpWrap (s : State) (page : Nat) (f : Fld) : State := s.put page f (s.get page f + 1)

/-- An unsigned 64-bit pair from its LO and HI registers. -/
def State.get64 (s : State) (page : Nat) (lo hi : Fld) : Nat := s.get page lo + 2 ^ 32 * s.get page hi

/-- An unsigned 64-bit pair written to its LO and HI registers. -/
def State.put64 (s : State) (page : Nat) (lo hi : Fld) (v : Nat) : State :=
  (s.put page lo (v % 2 ^ 32)).put page hi (v / 2 ^ 32)

/-- Set a bit of the page's EVENT register (R29). -/
def State.event (s : State) (page k : Nat) : State := s.put page ⟨0x008, k, k, 0⟩ 1

/-- Set or clear one bit of a field that holds one bit per instance. -/
def State.putBit (s : State) (page : Nat) (f : Fld) (k : Nat) (b : Bool) : State :=
  s.put page ⟨f.off, f.lo + k, f.lo + k, 0⟩ (b2n b)

/-- One bit of a field that holds one bit per instance. -/
def State.getBit (s : State) (page : Nat) (f : Fld) (k : Nat) : Bool :=
  decide (s.get page ⟨f.off, f.lo + k, f.lo + k, 0⟩ = 1)

/-- Every field of a register set back to its reset value. -/
def State.resetReg (s : State) (page off : Nat) : State := s.wr (page * 0x400 + off) (resetWord (page * 0x400 + off))

/-! ### Words that a write or a load stores -/

/-- The word a register would store (R4): RW and RWL fields take the value, W1C bits clear, others keep. -/
def storedWord (fs : List FieldDef) (old v : Nat) : Nat :=
  fs.foldl (fun a f =>
    if f.acc = .rw ∨ f.acc = .rwl then withBits a f.hi f.lo (bitsOf v f.hi f.lo)
    else if f.acc = .w1c then withBits a f.hi f.lo (bitsOf old f.hi f.lo &&& (bitsOf v f.hi f.lo ^^^ (2 ^ (f.hi - f.lo + 1) - 1)))
    else a) old

/-- A SEVERITY_MAP word with the slots that the page does not raise at 0 (R341). -/
def severityWord (k : PageKind) (n new : Nat) : Nat :=
  (List.range 10).foldl (fun a j => match slotOf k (10 * n + j) with
    | none => a
    | some _ => a + bitsOf new (3 * j + 2) (3 * j) * 2 ^ (3 * j)) 0

/-- Field values that read back as another: START_CFG.TRANSIT_WAIT 0 as 1 (R57), SKEW_WIN below 4 as 4 (R90), FAST_LIM.RUN 0
as 1 (R110); the pair fields of an odd phase keep their word (R128); SEVERITY_MAP keeps 0 for slots not raised (R341). -/
def settled (k : PageKind) (page off old new : Nat) : Nat :=
  if 0x014 ≤ off ∧ off ≤ 0x01C then severityWord k ((off - 0x014) / 4) new
  else match k with
  | .chip => if off = 0x050 ∧ bitsOf new 15 8 = 0 then withBits new 15 8 1 else new
  | .transit => if off = 0x044 ∧ bitsOf new 15 8 < 4 then withBits new 15 8 4 else new
  | .phase =>
    if page % 2 = 1 ∧ off = 0x040 then withBits new 1 1 (bitsOf old 1 1)
    else if page % 2 = 1 ∧ (off = 0x05C ∨ off = 0x060) then old
    else if off = 0x054 ∧ bitsOf new 23 16 = 0 then withBits new 23 16 1
    else new
  | _ => new

/-! ### Named structures by instance -/

def State.phase (s : State) (p : Nat) : PhaseState := Table.get PhaseState.init s.phases p
def State.setPhase (s : State) (p : Nat) (x : PhaseState) : State :=
  { s with phases := Table.set PhaseState.init s.phases p x }
def State.chan (s : State) (c : Nat) : ChanState := Table.get ChanState.init s.chans c
def State.setChan (s : State) (c : Nat) (x : ChanState) : State :=
  { s with chans := Table.set ChanState.init s.chans c x }
def State.bank (s : State) (b : Nat) : BankState := Table.get BankState.init s.banks b
def State.setBank (s : State) (b : Nat) (x : BankState) : State :=
  { s with banks := Table.set BankState.init s.banks b x }
def State.acc (s : State) (c : Nat) : ChanAcc := Table.get ChanAcc.init s.accs c
def State.setAcc (s : State) (c : Nat) (x : ChanAcc) : State :=
  { s with accs := Table.set ChanAcc.init s.accs c x }
def State.bankAcc (s : State) (b : Nat) : BankAcc := Table.get BankAcc.init s.bankAccs b
def State.setBankAcc (s : State) (b : Nat) (x : BankAcc) : State :=
  { s with bankAccs := Table.set BankAcc.init s.bankAccs b x }
def State.recipe (s : State) (c : Nat) : RecipeState := Table.get RecipeState.init s.recipes c
def State.setRecipe (s : State) (c : Nat) (x : RecipeState) : State :=
  { s with recipes := Table.set RecipeState.init s.recipes c x }
def State.grade (s : State) (c : Nat) : GradeState := Table.get GradeState.init s.grades c
def State.setGrade (s : State) (c : Nat) (x : GradeState) : State :=
  { s with grades := Table.set GradeState.init s.grades c x }
def State.eng (s : State) (e : Nat) : EngState := Table.get EngState.init s.engs e
def State.setEng (s : State) (e : Nat) (x : EngState) : State :=
  { s with engs := Table.set EngState.init s.engs e x }

/-! ### Service (R46) -/

abbrev Svc.SAFETY_START : Nat := 0
abbrev Svc.REDUCED : Nat := 1
abbrev Svc.MAIN_START : Nat := 2
abbrev Svc.JOINING : Nat := 3
abbrev Svc.FULL : Nat := 4
abbrev Svc.WARM_RESET : Nat := 5

/-- CHIP:STATUS.SERVICE. -/
def State.service (s : State) : Nat := s.get Pg.CHIP Reg.CHIP.STATUS_SERVICE

/-- Is the device powered and in the given service state? -/
def State.inService (s : State) (v : Nat) : Bool := s.powered && decide (s.service = v)

/-- Is the device in full service (R18)? -/
def State.full (s : State) : Bool := s.inService Svc.FULL

/-- Is the safety domain past its self-test: REDUCED or later (R50)? -/
def State.reducedOrLater (s : State) : Bool := s.powered && decide (s.service ≠ Svc.SAFETY_START)

/-- Set latched bit `k` of the two-wire status word (R473); an alert becomes pending when a bit selected in ALERT_EN
changes from 0 to 1 (R477). -/
def State.latch (s : State) (k : Nat) : State :=
  if s.getBit Pg.TWOWIRE Reg.TWOWIRE.STATUS_LATCHED k then s
  else
    let s := s.putBit Pg.TWOWIRE Reg.TWOWIRE.STATUS_LATCHED k true
    if decide (k < 3) && s.getBit Pg.TWOWIRE Reg.TWOWIRE.CFG_ALERT_EN k then { s with alert := true } else s

/-- Enter a service state. SERVICE_CHANGE is set at every change (R70). -/
def State.enter (s : State) (v : Nat) : State :=
  if s.service = v then s else ((s.put Pg.CHIP Reg.CHIP.STATUS_SERVICE v).event Pg.CHIP 0).latch 0

/-- Low 32 bits of the frame number (R83). -/
def State.frame32 (s : State) : Nat := s.frame % 2 ^ 32

/-- The RTC binary second (R407). -/
def State.rtcSec (s : State) : Nat := s.get Pg.RTC Reg.RTC.TIME_SEC

/-! ### Gangs (R12, R13) -/

/-- A register as its block uses it before the boundary at which an accepted write takes effect (R92, R341). -/
def State.inForce (s : State) (addr : Nat) : Word := Table.get (s.rd addr) s.held addr

/-- A field of a register as its block uses it. -/
def State.getf (s : State) (page : Nat) (f : Fld) : Nat := bitsOf (s.inForce (addrOf page f)).toNat f.hi f.lo

/-- The lead of the gang a channel belongs to; the channel itself when single. -/
def State.lead (s : State) (c : Nat) : Nat :=
  if s.getf (Pg.CHAN (c / 4 * 4)) Reg.CHAN.GANG_SIZE = 2 then c / 4 * 4
  else if s.getf (Pg.CHAN (c / 2 * 2)) Reg.CHAN.GANG_SIZE = 1 then c / 2 * 2
  else c

/-- The number of channels in a channel's gang. -/
def State.gangSize (s : State) (c : Nat) : Nat :=
  if s.getf (Pg.CHAN (c / 4 * 4)) Reg.CHAN.GANG_SIZE = 2 then 4
  else if s.getf (Pg.CHAN (c / 2 * 2)) Reg.CHAN.GANG_SIZE = 1 then 2
  else 1

/-- The channels of a channel's gang, lead first. -/
def State.gang (s : State) (c : Nat) : List Nat := (List.range (s.gangSize c)).map (fun k => s.lead c + k)

/-- Is a channel a follower? -/
def State.follower (s : State) (c : Nat) : Bool := decide (s.lead c ≠ c)

/-! ### Channel state (R131) -/

abbrev Ch.OFF : Nat := 0
abbrev Ch.CONNECT : Nat := 1
abbrev Ch.RUN : Nat := 2
abbrev Ch.HOLD : Nat := 3
abbrev Ch.RAMPDOWN : Nat := 4
abbrev Ch.SAFE : Nat := 5

/-- CHAN:STATUS.STATE; a follower reads its lead's (R164). -/
def State.cstate (s : State) (c : Nat) : Nat := s.get (Pg.CHAN (s.lead c)) Reg.CHAN.STATUS_STATE

/-- CHAN:STATUS.MODE; a follower reads its lead's (R164). -/
def State.cmode (s : State) (c : Nat) : Nat := s.get (Pg.CHAN (s.lead c)) Reg.CHAN.STATUS_MODE

/-- A channel is in mode OFF while its state is OFF or SAFE (R131). -/
def State.modeOff (s : State) (c : Nat) : Bool := decide (s.cstate c = Ch.OFF ∨ s.cstate c = Ch.SAFE)

/-- The banks of the family member (R1, R19): 1, 4 or 8, which is CHIP:IDENT.MEMBER. -/
def State.bankCount (s : State) : Nat :=
  let m := s.get Pg.CHIP Reg.CHIP.IDENT_MEMBER
  if m = 1 ∨ m = 4 then m else 8

/-- Is engine `e` present on the member (R19)? -/
def State.engPresent (s : State) (e : Nat) : Bool :=
  if e < 8 then decide (e < s.bankCount) else decide (e < 12) && (decide (e ≠ 9) || decide (s.bankCount = 8))

/-- Is every channel of the device in mode OFF? -/
def State.allOff (s : State) : Bool := (List.range 32).all (fun c => s.modeOff c)

/-- A state change of a channel, with its event (CHAN page event 0). -/
def State.setCstate (s : State) (c v : Nat) : State :=
  if s.cstate c = v then s
  else (s.put (Pg.CHAN (s.lead c)) Reg.CHAN.STATUS_STATE v).event (Pg.CHAN (s.lead c)) 0

/-! ### Time -/

/-- The nominal core cycles of a frame: 5,000 × 2^PERIOD (R15, R81). -/
def State.nominal (s : State) : Nat := 5000 * 2 ^ s.get Pg.TRANSIT Reg.TRANSIT.CTRL_PERIOD

/-- The nominal frame period in µs (R81). -/
def State.periodUs (s : State) : Nat := 25 * 2 ^ s.get Pg.TRANSIT Reg.TRANSIT.CTRL_PERIOD

/-- The device's ID strap as sampled (R46, R72). -/
def State.strap (s : State) : Nat := s.get Pg.CHIP Reg.CHIP.IDENT_ID_STRAP

/-- A fresh index for a free value: the counter, and the state with the counter advanced. -/
def State.fresh (s : State) : Nat × State := (s.free, { s with free := s.free + 1 })

/-! ### Granary slots (R435, R436) -/

/-- Slot `k` of a record, if written. -/
def State.gslot (s : State) (id k : Nat) : Option GSlot := Table.get none s.gran.slots (2 * id + k)

/-- The written slots of a record. -/
def State.gwritten (s : State) (id : Nat) : List GSlot := [s.gslot id 0, s.gslot id 1].filterMap (fun x => x)

/-- The newest of a list of slots. -/
def newestOf (l : List GSlot) : Option GSlot :=
  l.foldl (fun a x => match a with
    | none => some x
    | some y => if y.seq < x.seq then some x else some y) none

/-- The newest valid slot of a record, the one a load uses (R436). -/
def State.gvalid (s : State) (id : Nat) : Option GSlot := newestOf ((s.gwritten id).filter (·.valid))

/-- The words of a record's newest valid slot. -/
def State.gwords (s : State) (id : Nat) : Option (List Nat) :=
  match s.gvalid id with
  | some x => (match x.payload with
    | .words l => some l
    | _ => none)
  | none => none

end Sys2Proof.Machine
end

