-- ==== Sys2Proof/Machine/Log.lean ====
section
/-! DEFINITION. The change log (R37 to R45, R497): making an entry, the ring, and the helpers by which a block's own
change of a logged field is recorded. -/

namespace Sys2Proof.Machine

/-- Origin codes of *Write rights by origin* (R34). -/
abbrev Org.HOST : Nat := 0x00
abbrev Org.TWOWIRE : Nat := 0x01
abbrev Org.ENG (n : Nat) : Nat := 0x10 + n
abbrev Org.HW : Nat := 0x20
abbrev Org.REACT : Nat := 0x21
abbrev Org.FACTORY : Nat := 0x30

/-- The PERSIST_ORIGIN bit of an origin, counted from bit 8 of CHANGELOG:CTRL. -/
def persistBit (origin : Nat) : Nat :=
  if origin = Org.HOST then 0
  else if origin = Org.TWOWIRE then 1
  else if origin < Org.HW then 2
  else if origin = Org.HW then 3
  else if origin = Org.REACT then 4
  else 5

/-- The kinds of entry beside a plain change: flags of word 2 (R41) and a PERSIST that a rule sets (R44). -/
structure LogFlags where
  step : Bool
  record : Bool
  rejected : Bool
  persist : Bool
  deriving DecidableEq, Repr

/-- A plain accepted change. -/
def LogFlags.plain : LogFlags := ⟨false, false, false, false⟩

/-- The entry an event makes (R41); word 3 carries TOTAL as it stood when the entry was made. -/
def logEntry (s : State) (origin page off old new : Nat) (f : LogFlags) (persist : Bool) : LogEntry :=
  { w0 := s.rtcSec
    w1 := s.frame32
    w2 := origin * 2 ^ 24 + b2n f.step * 2 ^ 19 + b2n f.record * 2 ^ 18 + b2n f.rejected * 2 ^ 17 +
      b2n persist * 2 ^ 16 + page % 1024
    w3 := s.get Pg.CHANGELOG Reg.CHANGELOG.TOTAL % 65536 * 65536 + off % 1024
    w4 := old % 2 ^ 32
    w5 := new % 2 ^ 32 }

/-- A loss in the RAM ring: the first since the ring last had room sets LOSS and raises LOG_OVERFLOW with address 0x00
(R43). The message is sent when the command's own work is done. -/
def logLoss (s : State) : State :=
  if s.log.lossOpen then s
  else
    { (s.event Pg.CHANGELOG 0) with
      log := { s.log with lossOpen := true }
      fault := { s.fault with logPending := s.fault.logPending ++ [0] } }

/-- Store an entry at HEAD and advance HEAD. -/
def logStore (s : State) (e : LogEntry) : State :=
  let h := s.get Pg.CHANGELOG Reg.CHANGELOG.HEAD_HEAD
  let s := { s with log := { s.log with ring := Table.set LogEntry.empty s.log.ring h e } }
  s.put Pg.CHANGELOG Reg.CHANGELOG.HEAD_HEAD ((h + 1) % 1024)

/-- The RAM ring of 1,024 entries (R42). -/
def logRing (s : State) (e : LogEntry) : State :=
  if s.log.fill < 1024 then
    let s := logStore s e
    let fill := s.log.fill + 1
    let s := { s with log := { s.log with fill := fill, lossOpen := false } }
    if fill = 512 then s.event Pg.CHANGELOG 2 else s
  else if s.flag Pg.CHANGELOG Reg.CHANGELOG.CTRL_WRAP then
    let s := logStore s e
    let s := s.put Pg.CHANGELOG Reg.CHANGELOG.TAIL_TAIL
      ((s.get Pg.CHANGELOG Reg.CHANGELOG.TAIL_TAIL + 1) % 1024)
    logLoss (s.bump Pg.CHANGELOG Reg.CHANGELOG.OVERWRITTEN)
  else logLoss (s.bump Pg.CHANGELOG Reg.CHANGELOG.OVERFLOW)

/-- Collect a persistent entry (R44, R445): the two RAM pages hold 20 entries each; an entry that finds both full is
dropped, counted, and raises LOG_OVERFLOW with address 0x01 for the first drop since a page was last committed or emptied. -/
def collect (s : State) (e : LogEntry) : State :=
  if s.log.persist.length + (if s.log.waiting.isSome then 20 else 0) < 40 then
    let n := s.log.persist.length
    { s with log := { s.log with
      persist := s.log.persist ++ [e]
      firstUs := if n = 0 then s.rcUs else s.log.firstUs
      nextUs := if n = 20 then s.rcUs else s.log.nextUs } }
  else
    let s := (s.bump Pg.CHANGELOG Reg.CHANGELOG.PERSIST_DROP).event Pg.CHANGELOG 1
    if s.log.dropOpen then s
    else
      { (s.event Pg.CHANGELOG 0) with
        log := { s.log with dropOpen := true }
        fault := { s.fault with logPending := s.fault.logPending ++ [1] } }

/-- Make one change-log entry (R37, R41, R42, R44): TOTAL advances, stored or not (R45). -/
def addEntry (s : State) (origin page off old new : Nat) (f : LogFlags) : State :=
  let persist := f.persist || s.getBit Pg.CHANGELOG Reg.CHANGELOG.CTRL_PERSIST_ORIGIN (persistBit origin)
  let e := logEntry s origin page off old new f persist
  let s := logRing s e
  let s := s.bumpWrap Pg.CHANGELOG Reg.CHANGELOG.TOTAL
  if persist then collect s e else s

/-- An accepted, logged change: one entry and CHANGE_SEQ of the page (R29, R37). -/
def logChange (s : State) (origin page off old new : Nat) : State :=
  (addEntry s origin page off old new LogFlags.plain).bumpWrap page Reg.HEADER.CHANGE_SEQ

/-- As `logChange`, with PERSIST set whatever PERSIST_ORIGIN holds (R44). -/
def logPersist (s : State) (origin page off old new : Nat) : State :=
  (addEntry s origin page off old new { LogFlags.plain with persist := true }).bumpWrap page Reg.HEADER.CHANGE_SEQ

/-- A refused write: an entry with REJECTED, OLD the present value and NEW the value attempted (R34, R41). -/
def logReject (s : State) (origin page off old new : Nat) : State :=
  addEntry s origin page off old new { LogFlags.plain with rejected := true }

/-- A refused write with an event bit of its page: no effect on the register (R34). -/
def refuse (s : State) (origin page off v ev : Nat) : State :=
  logReject (s.event page ev) origin page off (s.rd (page * 0x400 + off)).toNat v

/-- EVENT bit of a write refused for lack of write right (R29). -/
abbrev Ev.RIGHT_REJECT : Nat := 25
/-- EVENT bit of a write refused by the lock (R29). -/
abbrev Ev.LOCK_REJECT : Nat := 24
/-- EVENT bit of a new message in FAULT_LAST (R29). -/
abbrev Ev.FAULT : Nat := 26

/-- A C-class field changed by a block's own hardware, engine or safe-state reaction: the change is applied and, where
it changes the register, logged with its origin (R37). -/
def putLogged (s : State) (origin page : Nat) (f : Fld) (v : Nat) : State :=
  let a := addrOf page f
  let old := (s.rd a).toNat
  let s' := s.put page f v
  let new := (s'.rd a).toNat
  if old = new then s else logChange s' origin page f.off old new

/-- A STEP entry of a channel's page: offset 0x3FF, OLD and NEW the step indices, 0xFF for no step (R38, R263). -/
def logStep (s : State) (origin c old new : Nat) : State :=
  (addEntry s origin (Pg.CHAN c) 0x3FF old new { LogFlags.plain with step := true })

end Sys2Proof.Machine
end

