-- ==== Sys2Proof/Machine/Faults.lean ====
section
/-! DEFINITION. Fault messages, their reactions and the safe states (R337 to R354). A message is raised by ONE shared
operation, `raise`; every block that finds a criterion calls it. -/

namespace Sys2Proof.Machine

/-! ### Kinds (R340) -/

abbrev Kind.OC_FAST : Nat := 0x01
abbrev Kind.SLICE_FAIL : Nat := 0x02
abbrev Kind.LEDGER_IMBALANCE : Nat := 0x03
abbrev Kind.OC_SLOW : Nat := 0x04
abbrev Kind.FRAME_OVERRUN : Nat := 0x05
abbrev Kind.ENGINE_STALL : Nat := 0x06
abbrev Kind.FAILOVER : Nat := 0x07
abbrev Kind.QV_MISMATCH : Nat := 0x08
abbrev Kind.TOKEN_STARVE : Nat := 0x09
abbrev Kind.RING_BREAK : Nat := 0x0A
abbrev Kind.OV_CELL : Nat := 0x0B
abbrev Kind.UV_CELL : Nat := 0x0C
abbrev Kind.OT_CELL : Nat := 0x0D
abbrev Kind.CHANNEL_SHORT : Nat := 0x0E
abbrev Kind.CONTACT_LOSS : Nat := 0x0F
abbrev Kind.PROBE_WEAR : Nat := 0x10
abbrev Kind.OT_DIE : Nat := 0x11
abbrev Kind.RAIL_FAULT : Nat := 0x12
abbrev Kind.PG_CHATTER : Nat := 0x13
abbrev Kind.OFF_TIMEOUT : Nat := 0x14
abbrev Kind.VIN_UV : Nat := 0x15
abbrev Kind.PACK_ABSENT : Nat := 0x16
abbrev Kind.PACK_TEMP : Nat := 0x17
abbrev Kind.PACK_AUTH : Nat := 0x18
abbrev Kind.LEARN_ROLLBACK : Nat := 0x19
abbrev Kind.STREAM_DROP : Nat := 0x1A
abbrev Kind.LOG_OVERFLOW : Nat := 0x1B
abbrev Kind.REFCLK_LOSS : Nat := 0x1C
abbrev Kind.PLL_UNLOCK : Nat := 0x1D
abbrev Kind.TRANSIT_SKEW : Nat := 0x1E
abbrev Kind.OTP_INTEGRITY : Nat := 0x20
abbrev Kind.GRANARY_CRC : Nat := 0x21
abbrev Kind.BOARD_FAULT_IN : Nat := 0x22
abbrev Kind.KEY_FAIL : Nat := 0x23

/-! ### Messages (R337, R338) -/

/-- The fault message word (R337). -/
def faultMsg (page kind addr sev : Nat) : Nat :=
  page % 1024 * 2 ^ 20 + kind % 256 * 2 ^ 12 + addr % 256 * 2 ^ 4 + sev % 8 * 2 + 1

/-- The severity that the raising page's map in force holds for a kind with a slot (R340, R341). -/
def mapSeverity (s : State) (page kind : Nat) : Nat :=
  let slot := kind - 1
  let w := (s.inForce (page * 0x400 + 0x014 + 4 * (slot / 10))).toNat
  bitsOf w (3 * (slot % 10) + 2) (3 * (slot % 10))

/-- The effective severity of a message: the map's value, unless a rule fixes it or sets a floor on it (R338). -/
def effSeverity (s : State) (page kind addr : Nat) : Nat :=
  if kind = Kind.OTP_INTEGRITY ∨ kind = Kind.GRANARY_CRC ∨ kind = Kind.KEY_FAIL then 1
  else if kind = Kind.BOARD_FAULT_IN then 4
  else if (kind = Kind.OC_FAST ∨ kind = Kind.OC_SLOW) ∧ 0x080 ≤ page ∧ page ≤ 0x0BF ∧ 0x80 ≤ addr then 1
  else if kind = Kind.CONTACT_LOSS then max 2 (mapSeverity s page kind)
  else if kind = Kind.SLICE_FAIL ∧ addr % 16 = 2 then max 3 (mapSeverity s page kind)
  else if kind = Kind.LEDGER_IMBALANCE ∧ addr = 0x40 then 4
  else if kind = Kind.ENGINE_STALL ∧ addr = 0x08 then 4
  else if kind = Kind.OT_DIE ∧ addr = 0x01 then 5
  else mapSeverity s page kind

/-! ### Scopes (R342) -/

/-- What a reaction reaches. -/
inductive Scope where
  | chan (c : Nat)
  | bank (b : Nat)
  | chip
  deriving DecidableEq, Repr

/-- The S2 scope of a message (*Scope of a reaction*, R342). -/
def scopeS2 (page kind addr : Nat) : Scope :=
  if 0x080 ≤ page ∧ page ≤ 0x0BF then .chan ((page - 0x080) / 2)
  else if 0x040 ≤ page ∧ page ≤ 0x05F then .chan (page - 0x040)
  else if 0x020 ≤ page ∧ page ≤ 0x027 then .bank (page - 0x020)
  else if 0x100 ≤ page ∧ page ≤ 0x107 then
    (if kind = Kind.QV_MISMATCH then .chan (4 * (page - 0x100) + addr % 4) else .bank (page - 0x100))
  else if page = 0x108 ∨ page = 0x109 then
    (if kind = Kind.FAILOVER then .bank (addr % 8) else .chip)
  else if page = Pg.LEDGER then (if addr = 0x40 then .chip else .bank (addr % 8))
  else if page = Pg.COMMONS then (if kind = Kind.TOKEN_STARVE then .chan (addr % 32) else .chip)
  else .chip

/-- The S3 scope of a message (R342). -/
def scopeS3 (page kind addr : Nat) : Scope :=
  if 0x100 ≤ page ∧ page ≤ 0x107 then .bank (page - 0x100)
  else match scopeS2 page kind addr with
    | .chan c => .bank (c / 4)
    | x => x

/-- The scope of an entry at its severity: none below S2 (R342). -/
def scopeOf (page kind addr sev : Nat) : Option Scope :=
  if sev < 2 then none
  else if sev = 2 then some (scopeS2 page kind addr)
  else if sev = 3 then some (scopeS3 page kind addr)
  else some .chip

/-! ### The channel safe state (R125, R158) -/

/-- A phase is in service while it is enabled and has not dropped out (R105, R118). -/
def phaseInService (s : State) (p : Nat) : Bool :=
  s.flag (Pg.PHASE p) Reg.PHASE.CTRL_EN && !s.flag (Pg.PHASE p) Reg.PHASE.STATUS_DROPPED

/-- A phase's PWM goes LOW and it stops switching. Its runs stand: a further cause of the same frame still sends its own
message (R118). -/
def phaseLow (s : State) (p : Nat) : State :=
  let x := s.phase p
  (s.setPhase p { x with pwm := .low, switching := false }).putb (Pg.PHASE p)
    Reg.PHASE.STATUS_ACTIVE false

/-- Drop-out cause 0b110: the channel entered a safe state with this phase in service (R118). -/
def phaseSafe (s : State) (p : Nat) : State :=
  if phaseInService s p then
    let s := s.putb (Pg.PHASE p) Reg.PHASE.STATUS_DROPPED true
    let s := s.put (Pg.PHASE p) Reg.PHASE.STATUS_DROP_CAUSE 6
    let s := s.event (Pg.PHASE p) 2
    phaseLow (s.put (Pg.PHASE p) Reg.PHASE.DROP_FRAME s.frame32) p
  else phaseLow s p

/-- ISO of a channel goes low at full strength (R125). -/
def isoLow (s : State) (c : Nat) : State :=
  let x := s.chan c
  (s.setChan c { x with iso := false, isoAll := false, isoCyc := none, zeroDone := false }).putb
    (Pg.PHASE (2 * c)) Reg.PHASE.STATUS_ISO_CMD false

/-- Both PWM LOW and ISO low on one channel of a gang; tones and DCIR offset 0 (R345). -/
def stageOff (s : State) (c : Nat) : State :=
  let s := isoLow (phaseLow (phaseLow s (2 * c)) (2 * c + 1)) c
  s.setChan c { s.chan c with out := (s.chan c).iref, loopOn := false }

/-- The step in force on a channel, if any (R213). -/
def stepActive (s : State) (c : Nat) : Bool := s.flag (Pg.CHAN c) Reg.CHAN.ACC_FLAGS_STEP_ACTIVE

/-- How a step ends: STATUS.LAST_END (1 ABORTED, 2 INTERRUPTED, 3 DONE) and END_CAUSE on every channel of the gang, at
once; the step stops being in force at the boundary that closes the frame (R158, R213, R266). -/
def markEnd (s : State) (c result cause : Nat) : State :=
  let l := s.lead c
  let s := (s.gang c).foldl (fun s m =>
    (s.put (Pg.CHAN m) Reg.CHAN.STATUS_LAST_END result).put (Pg.CHAN m) Reg.CHAN.STATUS_END_CAUSE cause) s
  s.setChan l { s.chan l with endPending := some (result, cause) }

/-- STATUS flags that describe a running channel, cleared when it leaves the running states. Whether its ramp ran stays until the
boundary, for the causes of the same frame (R110, R118). -/
def clearRunFlags (s : State) (c : Nat) : State :=
  let p := Pg.CHAN c
  let s := s.put p Reg.CHAN.STATUS_MODE 0
  let s := s.putb p Reg.CHAN.STATUS_CV_ACTIVE false
  let s := s.putb p Reg.CHAN.STATUS_CAP_LIMITED false
  let s := s.putb p Reg.CHAN.STATUS_TOKEN_LIMITED false
  let s := s.putb p Reg.CHAN.STATUS_RAMP_HELD false
  let s := s.putb p Reg.CHAN.STATUS_WAITING false
  let s := s.putb p Reg.CHAN.STATUS_SLEW_DONE false
  let s := s.put p Reg.CHAN.IREF 0
  s.setChan c { s.chan c with iref := 0, itarget := 0, cand := 0, limit := none, resume := false, rampEnd := none }

/-- The channel safe state of a channel and its gang (R125, R158, R166): both PWM LOW, ISO low, each phase in service
dropped with cause 0b110, ENABLE cleared by the fault-reaction origin, and the step in force ended with `result` and
`cause`. A channel already in SAFE is not changed. -/
def chanSafe (s : State) (c result cause : Nat) : State :=
  let l := s.lead c
  let old := s.cstate c
  if old = Ch.SAFE then s
  else
    let g := s.gang c
    let s := g.foldl (fun s m => stageOff (phaseSafe (phaseSafe s (2 * m)) (2 * m + 1)) m) s
    let s := putLogged s Org.REACT (Pg.CHAN l) Reg.CHAN.CONTROL_ENABLE 0
    let s := if stepActive s l && (s.chan l).endPending.isNone then markEnd s l result cause
      else if old = Ch.RAMPDOWN ∧ cause = 3 then
        g.foldl (fun s m => s.put (Pg.CHAN m) Reg.CHAN.STATUS_END_CAUSE 3) s
      else s
    (clearRunFlags s l).setCstate l Ch.SAFE

/-! ### Reactions (R342 to R348) -/

/-- Does a message name a channel, one of its phases or its gang (R158)? -/
def msgNames (s : State) (page kind addr c : Nat) : Bool :=
  match scopeS2 page kind addr with
  | .chan c' => decide (s.lead c' = s.lead c)
  | _ => false

/-- Step result and END_CAUSE of a channel that a message takes to SAFE (R158): ABORTED with cause 2, 3 or 4 where the
message names it; otherwise INTERRUPTED with cause 7 for the power-path hand-over, else 5. -/
def endOf (s : State) (page kind addr c : Nat) : Nat × Nat :=
  if msgNames s page kind addr c then
    (1, if kind = Kind.CONTACT_LOSS then 3 else if kind = Kind.CHANNEL_SHORT then 4 else 2)
  else (2, if kind = Kind.VIN_UV then 7 else 5)

/-- The channel safe state of a list of channels, caused by a message. -/
def safeChans (s : State) (page kind addr : Nat) (l : List Nat) : State :=
  l.foldl (fun s c => let e := endOf s page kind addr c; chanSafe s c e.1 e.2) s

/-- The channels of bank `b` (R10). -/
def bankChans (b : Nat) : List Nat := (List.range 4).map (fun k => 4 * b + k)

/-- The chip safe state with a stated result and cause for every running step (R11, R345). -/
def chipSafeWith (s : State) (result cause : Nat) : State :=
  let s := s.putb Pg.FAULT Reg.FAULT.STATUS_CHIP_SAFE true
  let s := s.put Pg.FAULT Reg.FAULT.STATUS_BANK_SAFE 0xFF
  if s.full then (List.range (4 * s.bankCount)).foldl (fun s c => chanSafe s c result cause) s else s

/-- The reaction of a message over its scope (R342, R345). -/
def takeScope (s : State) (page kind addr : Nat) : Scope → State
  | .chan c => if s.full then safeChans s page kind addr [c] else s
  | .bank b =>
    let s := s.putBit Pg.FAULT Reg.FAULT.STATUS_BANK_SAFE b true
    if s.full then safeChans s page kind addr (bankChans b) else s
  | .chip =>
    let s := s.putb Pg.FAULT Reg.FAULT.STATUS_CHIP_SAFE true
    let s := s.put Pg.FAULT Reg.FAULT.STATUS_BANK_SAFE 0xFF
    if s.full then safeChans s page kind addr (List.range (4 * s.bankCount)) else s

/-- The level of FAULT_N at the input: high only while neither this device nor another drives it low (R347). -/
def faultNIn (s : State) : Bool := !s.flag Pg.FAULT Reg.FAULT.STATUS_FAULT_N_OUT && !s.fault.peerLow

/-- Capture `k` stores TICK (R420): an edge while FULL is set overwrites and sets OVERRUN. -/
def capStore (s : State) (k : Nat) : State :=
  let p := Pg.TIMER
  let s := if s.flag p (Reg.TIMER.CAP_CTRL_FULL.ix k) then (s.putb p (Reg.TIMER.CAP_CTRL_OVERRUN.ix k) true).event p (12 + k) else s
  let s := (s.put p (Reg.TIMER.CAP_LO.ix k) (s.timer.tick % 2 ^ 32)).put p (Reg.TIMER.CAP_HI_TICK.ix k) (s.timer.tick / 2 ^ 32)
  (s.putb p (Reg.TIMER.CAP_CTRL_FULL.ix k) true).event p (8 + k)

/-- Every enabled capture with source `src` stores TICK, in FULL (R420): 4 frame boundary, 5 falling edge of FAULT_N. -/
def captureSource (s : State) (src : Nat) : State :=
  if s.full then
    (List.range 4).foldl (fun s k =>
      if s.flag Pg.TIMER (Reg.TIMER.CAP_CTRL_EN.ix k) ∧ s.get Pg.TIMER (Reg.TIMER.CAP_CTRL_SRC.ix k) = src then capStore s k else s) s
  else s

/-- Publish the level at the input in CHIP:STATUS and FAULT:STATUS; a falling edge is a capture source (R420). -/
def publishFaultN (s : State) : State :=
  let up := faultNIn s
  let was := s.flag Pg.FAULT Reg.FAULT.STATUS_FAULT_N_IN
  let s := s.putb Pg.FAULT Reg.FAULT.STATUS_FAULT_N_IN up
  let s := s.putb Pg.CHIP Reg.CHIP.STATUS_FAULT_N_IN up
  if was && !up then captureSource s 5 else s

/-- Drive FAULT_N low. The low reaches the device's own input, so the chip safe state follows (R347, R348). -/
def driveFaultN (s : State) : State :=
  if s.flag Pg.FAULT Reg.FAULT.STATUS_FAULT_N_OUT then s
  else chipSafeWith (publishFaultN (s.putb Pg.FAULT Reg.FAULT.STATUS_FAULT_N_OUT true)) 2 5

/-! ### The collector (R339, R350 to R353) -/

/-- The key of an active entry: page and kind (R353). -/
def actKey (page kind : Nat) : Nat := page * 256 + kind

/-- The queue of the FAULT page (R339). Messages of a boundary are all taken first: which of them the queue holds is decided in
SOURCE order at its end. -/
def enqueueMsg (s : State) (msg : Nat) : State :=
  if s.fault.fifo.length < 64 ∨ s.fault.cycle then
    { s with fault := { s.fault with fifo := s.fault.fifo ++ [(msg, s.frame32, s.rtcSec)] } }
  else (s.bump Pg.FAULT Reg.FAULT.FIFO_LOST).event Pg.FAULT 2

/-- The active entry of a message at S1 or above: the highest severity raised (R353). -/
def makeEntry (s : State) (page kind addr sev : Nat) : State :=
  if sev = 0 then s
  else
    let k := actKey page kind
    let old := Table.get ActiveEntry.none s.fault.active k
    let v : ActiveEntry := ⟨max old.sev sev, if old.addrs.contains addr then old.addrs else old.addrs ++ [addr]⟩
    let s := { s with fault := { s.fault with active := Table.set ActiveEntry.none s.fault.active k v } }
    let s := if old.sev = 0 then s.latch 1 else s
    if 2 ≤ sev then s.event Pg.FAULT 1 else s

/-- The Crier broadcast of an S5 message: queued when the Crier is enabled and HK2 is qualified (R350, R351). -/
def queueCrier (s : State) (msg : Nat) : State :=
  if decide (s.getf Pg.FAULT Reg.FAULT.CFG_CRIER_EN = 1) && s.flag Pg.HKRAIL (Reg.HKRAIL.STATUS_QUALIFIED.ix 1) then
    (if s.fault.crier.length < 4 then
      { s with fault := { s.fault with crier := s.fault.crier ++ [(msg, s.rtcSec)] } }
    else s.bump Pg.FAULT Reg.FAULT.CRIER_LOST)
  else s

/-- The 24 bytes of a channel in the last-fault record (R352); `steps` are the channels with a step in force in its frame. -/
def recordChan (s : State) (steps : List Nat) (c : Nat) : List Nat :=
  let b := Pg.BANK (c / 4)
  let k := c % 4
  let t := s.get Pg.HKRAIL (Reg.HKRAIL.CELL_T.ix c)
  bytesLE 4 (s.get b (Reg.BANK.AVG_V.ix k)) ++ bytesLE 4 (s.get b (Reg.BANK.AVG_I.ix k)) ++
  bytesLE 4 (s.get (Pg.CHAN c) Reg.CHAN.IREF) ++ bytesLE 4 (s.get (Pg.CHAN c) Reg.CHAN.VREF) ++
  bytesLE 2 (t % 65536) ++
  [if steps.contains c then s.get (Pg.CHAN c) Reg.CHAN.RCP_STATUS_STEP else 0xFF,
   s.cstate c + 16 * s.cmode c] ++
  bytesLE 2 (s.get (Pg.CHAN c) Reg.CHAN.STEP_TAG_TAG) ++
  [s.get b (Reg.BANK.STATUS_VALID_V.ix k) + 2 * s.get b (Reg.BANK.STATUS_VALID_I.ix k) + 4 * (t / 2 ^ 31), 0]

/-- The 8 bytes of a bank in the last-fault record (R352). -/
def recordBank (s : State) (b : Nat) : List Nat :=
  bytesLE 4 (s.get (Pg.BANK b) Reg.BANK.SLICE_MAP_0) ++
  [s.get (Pg.BANK b) Reg.BANK.SLICE_MAP_1 % 256, 0] ++
  bytesLE 2 (s.get (Pg.BANK b) Reg.BANK.SLICE_HEALTH_RETIRED)

/-- The last-fault record of a message (R352): in FULL the device's state at the boundary with the steps that were in force in
the frame of the message, else the main-domain fields 0 with MAIN_ABSENT set. -/
def recordBytes (s : State) (r : RecStart) (seq : Nat) (main : Bool) (steps : List Nat) : List Nat :=
  let head := bytesLE 4 r.msg ++ bytesLE 8 r.frame ++ bytesLE 4 r.sec ++ bytesLE 4 seq ++
    [b2n r.injected + 2 * b2n (!main) + 4 * b2n r.crier, s.service, 0, 0]
  let body :=
    if main then
      bytesLE 4 (s.get Pg.COMMONS Reg.COMMONS.HELD) ++ bytesLE 4 (s.get Pg.COMMONS Reg.COMMONS.PURSE) ++
      (List.range 8).flatMap (fun b => bytesLE 2 (s.get Pg.COMMONS (Reg.COMMONS.BANK_ALLOC.ix b))) ++
      List.replicate 16 0 ++ (List.range 32).flatMap (recordChan s steps) ++ (List.range 8).flatMap (recordBank s) ++
      List.replicate 124 0
    else List.replicate 996 0
  let l := head ++ body
  l ++ bytesLE 4 (crc32 l)

/-- Start a last-fault record for a message at or above RECORD_SEV (R352). Outside FULL it is snapshotted at once. -/
def startRecord (s : State) (msg : Nat) (injected crier : Bool) : State :=
  if s.fault.recStart.isSome || s.fault.recSnap.isSome then s.bump Pg.FAULT Reg.FAULT.REC_SKIPPED
  else
    let r : RecStart := ⟨msg, s.frame, s.rtcSec, injected, crier⟩
    let s := s.putb Pg.FAULT Reg.FAULT.STATUS_REC_BUSY true
    if s.full then { s with fault := { s.fault with recStart := some r } }
    else
      let seq := s.get Pg.FAULT Reg.FAULT.REC_SEQ + 1
      { s with fault := { s.fault with recSnap := some (recordBytes s r seq false []) } }

/-- A fault message with a given effective severity and the scope it acts on (R337 to R353): FAULT_LAST and EVENT.FAULT of
the raising page, the queue, the active entry, the reaction, FAULT_N, the Crier and the last-fault record. -/
def raiseScoped (s : State) (page kind addr sev : Nat) (injected : Bool) (scope : Option Scope) : State :=
  let msg := faultMsg page kind addr sev
  let s := (s.put page Reg.HEADER.FAULT_LAST msg).event page Ev.FAULT
  let s := (s.bump Pg.FAULT Reg.FAULT.MSG_COUNT).event Pg.FAULT 0
  let s := if kind = Kind.BOARD_FAULT_IN then s.event Pg.FAULT 8 else s
  let s := makeEntry (enqueueMsg s msg) page kind addr sev
  let n := s.fault.crier.length
  let s := if sev = 5 then queueCrier s msg else s
  let cr := decide (n < s.fault.crier.length)
  let s := if s.getf Pg.FAULT Reg.FAULT.CFG_RECORD_SEV ≤ sev ∧ sev ≠ 0 then startRecord s msg injected cr else s
  let s := match scope with
    | none => s
    | some sc => takeScope s page kind addr sc
  if kind ≠ Kind.BOARD_FAULT_IN ∧ sev ≠ 0 ∧ (sev = 5 ∨ s.getf Pg.FAULT Reg.FAULT.CFG_PIN_THRESH ≤ sev) then
    driveFaultN s
  else s

/-- A fault message with a given effective severity, acting on the scope that goes with it (R342). -/
def raiseWith (s : State) (page kind addr sev : Nat) (injected : Bool) : State :=
  raiseScoped s page kind addr sev injected (scopeOf page kind addr sev)

/-- A fault message whose cause has already left its channel in OFF: no channel reaction (R344). -/
def raiseIdle (s : State) (page kind addr : Nat) : State :=
  let sev := effSeverity s page kind addr
  raiseScoped s page kind addr sev false (match scopeOf page kind addr sev with
    | some (.chan _) => none
    | sc => sc)

/-- Raise a fault message (R338). -/
def raise (s : State) (page kind addr : Nat) : State :=
  raiseWith s page kind addr (effSeverity s page kind addr) false

/-- Send the LOG_OVERFLOW messages that the change log has raised while a command did its work (R43, R44). -/
def flushLog (s : State) : State :=
  s.fault.logPending.foldl (fun s a => raise s Pg.CHANGELOG Kind.LOG_OVERFLOW a)
    { s with fault := { s.fault with logPending := [] } }

/-! ### Held safe states (R346, R347) -/

/-- Does an active entry have a scope at its severity? One entry stands for every address its kind was raised with. -/
def entryScope (k : Nat) (v : ActiveEntry) (sc : Scope) : Bool :=
  v.addrs.any (fun a => decide (scopeOf (k / 256) (k % 256) a v.sev = some sc))

/-- Does an active entry hold the chip safe state? -/
def entryHoldsChip (k : Nat) (v : ActiveEntry) : Bool := decide (4 ≤ v.sev) || entryScope k v .chip

/-- The chip safe state holds (R346, R368). -/
def chipHeld (s : State) : Bool :=
  s.fault.active.any (fun e => entryHoldsChip e.1 e.2) || !faultNIn s || s.fault.seqHold

/-- The safe state of bank `b` holds (R346). -/
def bankHeld (s : State) (b : Nat) : Bool :=
  chipHeld s || s.fault.active.any (fun e => entryScope e.1 e.2 (.bank b))

/-- Recompute the held safe states (R346). -/
def refreshSafe (s : State) : State :=
  let s := s.putb Pg.FAULT Reg.FAULT.STATUS_CHIP_SAFE (chipHeld s)
  (List.range 8).foldl (fun s b => s.putBit Pg.FAULT Reg.FAULT.STATUS_BANK_SAFE b (bankHeld s b)) s

/-- Does an active entry hold FAULT_N low (R347)? -/
def entryHoldsPin (thr k : Nat) (v : ActiveEntry) : Bool :=
  decide (k % 256 ≠ Kind.BOARD_FAULT_IN) && (decide (v.sev = 5) || decide (thr ≤ v.sev))

/-- FAULT_N as this device drives it (R347): low outside FULL and while an entry holds it. A low that begins in FULL reaches the
device's own input, and the chip safe state follows (R348). -/
def refreshFaultN (s : State) : State :=
  let was := s.flag Pg.FAULT Reg.FAULT.STATUS_FAULT_N_OUT
  let low := !s.full || s.fault.active.any (fun e => entryHoldsPin (s.get Pg.FAULT Reg.FAULT.CFG_PIN_THRESH) e.1 e.2)
  let s := publishFaultN (s.putb Pg.FAULT Reg.FAULT.STATUS_FAULT_N_OUT low)
  if s.full && low && !was then chipSafeWith s 2 5 else s

end Sys2Proof.Machine
end

