-- ==== Sys2Proof/Machine/Measure.lean ====
section
/-! DEFINITION. Measurement (chapter 7): from the raw readings of the ten slices of a bank to the frame samples of its
duties, substitutes, averagers, minimum-maximum trackers and the probe resistance. -/

namespace Sys2Proof.Machine

/-! ### Slice roles (R174, R181) -/

/-- The register field that holds a slice's role. -/
def roleFld (k : Nat) : Fld :=
  if k < 8 then ⟨0x048, 4 * k + 3, 4 * k, 0⟩ else ⟨0x04C, 4 * (k - 8) + 3, 4 * (k - 8), 0⟩

/-- The role of a slice: a duty code, 0x9 roving, 0xF retired. -/
def roleOf (s : State) (b k : Nat) : Nat := s.get (Pg.BANK b) (roleFld k)

/-- Give a slice a role. -/
def setRole (s : State) (b k r : Nat) : State := s.put (Pg.BANK b) (roleFld k) r

/-- The slice that owns a duty. -/
def ownerOf (s : State) (b d : Nat) : Option Nat := (List.range 10).find? (fun k => decide (roleOf s b k = d))

/-- A slice's own record. -/
def sliceOf (s : State) (b k : Nat) : SliceState := Table.get SliceState.init (s.bank b).slices k

/-- Write a slice's own record. -/
def setSlice (s : State) (b k : Nat) (x : SliceState) : State :=
  let bs := s.bank b
  s.setBank b { bs with slices := Table.set SliceState.init bs.slices k x }

/-! ### Samples (R175, R187, R208) -/

/-- The factory trims of a slice for the voltage range or the current range, from the Almanac fields (R185, R208). -/
def factoryTrim (s : State) (b k : Nat) (volt : Bool) : SliceTrim :=
  let off := s.geti (Pg.BANK b) ((if volt then Reg.BANK.FT_V_OFFSET else Reg.BANK.FT_I_OFFSET).ix k)
  let gain := s.geti (Pg.BANK b) ((if volt then Reg.BANK.FT_V_GAIN else Reg.BANK.FT_I_GAIN).ix k)
  let g := 1 + ratI gain / 100000000
  ⟨ratI off, g, g⟩

/-- The trims a slice measures with: its last passed trims for the range, else the factory trims (R191). -/
def trimOf (s : State) (b k : Nat) (volt : Bool) : SliceTrim :=
  match (if volt then (sliceOf s b k).trimV else (sliceOf s b k).trimI) with
  | some t => t
  | none => factoryTrim s b k volt

/-- A raw primary reading (0.01 µV at the slice input) corrected by trims (R187). -/
def correct (t : SliceTrim) (raw : Int) : Rat :=
  let d := ratI raw - t.z
  if 0 ≤ d then d / t.gp else d / t.gn

/-- The range of a duty's primary input in 0.01 µV: −0.25 to 5.75 V, or ±75 mV (*Measurement duties*). -/
def dutyRange (d : Nat) : Rat × Rat := if d < 4 then (-25000000, 575000000) else (-7500000, 7500000)

/-- A corrected primary input held at its range ends, and whether it was clipped (R175). -/
def clipDuty (d : Nat) (u : Rat) : Rat × Bool :=
  let r := dutyRange d
  if u < r.1 then (r.1, true) else if r.2 < u then (r.2, true) else (u, false)

/-- The sample of a duty in its LSB from the corrected, clipped primary input (R174, R175): 1 µV, 10 µA through SHUNT
and its trim, or 100 µA through BUS_SHUNT and its trim. -/
def sampleOf (s : State) (b d : Nat) (u : Rat) : Int :=
  if d < 4 then quant (u / 100)
  else if d < 8 then
    let r := ratN (s.get (Pg.BANK b) (Reg.BANK.SHUNT_RES.ix (d - 4)))
    let t := 1 + ratI (s.geti (Pg.BANK b) (Reg.BANK.SHUNT_TRIM.ix (d - 4))) / 10000000
    quant (u * 10000 / r * t)
  else
    let r := ratN (s.get (Pg.BANK b) Reg.BANK.BUS_SHUNT_RES)
    let t := 1 + ratI (s.geti (Pg.BANK b) Reg.BANK.BUS_SHUNT_TRIM) / 10000000
    quant (u * 1000 / r * t)

/-- The sample a slice delivers for a duty, with its clip mark. -/
def sliceSample (s : State) (b k d : Nat) (raw : Int) : Int × Bool :=
  let u := clipDuty d (correct (trimOf s b k (decide (d < 4))) raw)
  (sampleOf s b d u.1, u.2)

/-- The slice whose sample a duty uses in the frame that ends: its owner; where the owner is flagged in an overlap frame, the
roving slice (R191); none where a flagged slice delivers no sample (R190). -/
def sourceOf (s : State) (b d : Nat) : Option Nat :=
  let bs := s.bank b
  match ownerOf s b d with
  | none => none
  | some k =>
    if !bs.flagged.contains k then some k
    else match bs.rover with
      | some r => if bs.overlap && decide (d = bs.nextDuty) && !bs.flagged.contains r then some r else none
      | none => none

/-- What one duty delivered in a frame: primary sample, secondary sample, clip mark; none where it is to be substituted or
the slice has delivered no reading. -/
def dutySample (s : State) (b d : Nat) (inp : List SliceIn) : Option (Int × Int × Bool) :=
  match sourceOf s b d with
  | none => none
  | some k =>
    if Table.get 0 (s.bank b).subst d ≠ 0 then none
    else match inp[k]? with
      | none => none
      | some x =>
        let y := sliceSample s b k d x.prim
        some (y.1, x.sec, y.2)

/-! ### Substitutes (R194, R195) -/

/-- I × R_P in µV. -/
def dropUv (i : Int) (rp : Rat) : Rat := ratI i * rp / 100000

/-- The frame's V_K (1 µV), I (10 µA), V_F (10 µV) and the substitute marks of V_K and of I of channel `c` (*Substitute
samples*, R502). A follower's own Kelvin voltage enters no other sample: its lead's does (R165). -/
def chanSamples (s : State) (c : Nat) (v i : Option (Int × Int × Bool)) (fast : Int) :
    Int × Int × Int × Bool × Bool :=
  let x := s.chan c
  let force := fun (vk : Int) => quant ((ratI (if s.follower c then (s.chan (s.lead c)).vk else vk) + dropUv fast x.rp) / 10)
  match v, i with
  | some (vk, _, _), some (ik, vf, _) => (vk, ik, vf, false, false)
  | none, some (ik, vf, _) =>
    let vk := if x.isoAll then quant (ratI vf * 10 - dropUv ik x.rp) else x.vkLast
    (vk, ik, vf, true, false)
  | some (vk, _, _), none => (vk, fast, force vk, false, true)
  | none, none => (x.vkLast, fast, force x.vkLast, true, true)

/-- The bank loss model in 10⁻¹¹ W (R226): P0 × s + A × Σ|I| + B × ΣI² over channels with ISO commanded high. -/
def lossPower (s : State) (b : Nat) : Rat :=
  let on := (bankChans b).filter (fun c => (s.chan c).isoAny)
  let sw := (List.range 8).any (fun p => (s.phase (8 * b + p)).cycled)
  let p0 := ratN (s.getf Pg.LEDGER (Reg.LEDGER.LOSS_P0_POWER.ix b)) * 100000000
  let a := ratN (s.getf Pg.LEDGER (Reg.LEDGER.LOSS_A_COEFF.ix b)) * 1000
  let bb := ratN (s.getf Pg.LEDGER (Reg.LEDGER.LOSS_B_RES.ix b)) / 100000
  (if sw then p0 else 0) + a * ratI (sumInt (on.map (fun c => absI (s.chan c).ik))) +
    bb * ratI (sumInt (on.map (fun c => (s.chan c).ik * (s.chan c).ik)))

/-- The substitute of the bank bus current in 100 µA (*Substitute samples*): Σ V_K × I and the loss model over the
frame's bus voltage. With a bus voltage of 0 the spec states no value: a free value. -/
def busSubstitute (s : State) (b : Nat) (busV : Int) : Int :=
  let p := ratI (sumInt ((bankChans b).map (fun c => (s.chan (s.lead c)).vk * (s.chan c).ik))) + lossPower s b
  if busV = 0 then Config.busSubstZero s.free else quant (p / ratI busV / 1000)

/-! ### Latching a frame (R176, R195) -/

/-- Count the duties substituted in a frame (R195): one for each. -/
def countSubst (s : State) (b n : Nat) : State :=
  if n = 0 then s else (s.addCount (Pg.BANK b) Reg.BANK.SUBST_COUNT n).event (Pg.BANK b) 4

/-- Latch the samples of the frame just ended for channel `c`. -/
def latchChan (s : State) (b k : Nat) (inp : BankIn) : State :=
  let c := 4 * b + k
  let v := dutySample s b k inp.slices
  let i := dutySample s b (4 + k) inp.slices
  let r := chanSamples s c v i (inp.fast[k]?.getD (Config.fastReading s.free c))
  let x := s.chan c
  let clipV := (v.map (·.2.2)).getD false
  let clipI := (i.map (·.2.2)).getD false
  let clip := clipV || clipI
  let s := s.setChan c { x with
    iprev := x.ik, vfprev := x.vf, vk := r.1, ik := r.2.1, vf := r.2.2.1, substV := r.2.2.2.1, substI := r.2.2.2.2,
    clip := clipI || (clipV && !s.follower c), vkLast := if v.isSome then r.1 else x.vkLast }
  let s := s.putb (Pg.BANK b) (Reg.BANK.STATUS_CLIP.ix k) clip
  let s := if clip then s.event (Pg.BANK b) 5 else s
  countSubst s b (b2n r.2.2.2.1 + b2n r.2.2.2.2)

/-- Latch the bus samples of the frame just ended. -/
def latchBus (s : State) (b : Nat) (inp : BankIn) : State :=
  let y := dutySample s b 8 inp.slices
  let busV := match y with
    | some (_, v, _) => v
    | none => (s.get Pg.HKRAIL Reg.HKRAIL.VIN_VOLTAGE : Int) * 10
  let busI := match y with
    | some (i, _, _) => i
    | none => busSubstitute s b busV
  let clip := (y.map (·.2.2)).getD false
  let bs := s.bank b
  let s := { s with free := if y.isSome then s.free else s.free + 1 }
  let s := s.setBank b { bs with busV := busV, busI := busI, busSubst := y.isNone, busClip := clip }
  let s := s.putb (Pg.BANK b) Reg.BANK.BUS_STATUS_CLIP clip
  let s := if clip then s.event (Pg.BANK b) 5 else s
  countSubst s b (b2n y.isNone)

/-- Latch every duty of a bank, and count down the frames to substitute (R191). -/
def latchBank (s : State) (b : Nat) (inp : BankIn) : State :=
  let s := forIdx 4 s (fun s k => latchChan s b k inp)
  let s := { s with free := s.free + 1 }
  let s := latchBus s b inp
  let bs := s.bank b
  let sub := (List.range 9).foldl (fun t d => Table.set 0 t d (Table.get 0 bs.subst d - 1)) bs.subst
  s.setBank b { bs with subst := sub, last := inp.slices.map (fun x => (x.prim, x.sec)) }

/-! ### Averagers (R196, R197) -/

/-- The enable, exponent, output, VALID and SUBST fields of averager `a` of a bank. -/
def avgFlds (a : Nat) : Fld × Fld × Fld × Fld × Fld :=
  let k := a / 3
  if a = 12 then (Reg.BANK.BUS_CFG_EN_I, Reg.BANK.BUS_CFG_N_I, Reg.BANK.AVG_BUS_I, Reg.BANK.BUS_STATUS_VALID_I,
    Reg.BANK.BUS_STATUS_SUBST_I)
  else if a = 13 then (Reg.BANK.BUS_CFG_EN_V, Reg.BANK.BUS_CFG_N_V, Reg.BANK.AVG_BUS_V, Reg.BANK.BUS_STATUS_VALID_V,
    Reg.BANK.BUS_STATUS_SUBST_V)
  else if a % 3 = 0 then (Reg.BANK.CFG_EN_V.ix k, Reg.BANK.CFG_N_V.ix k, Reg.BANK.AVG_V.ix k,
    Reg.BANK.STATUS_VALID_V.ix k, Reg.BANK.STATUS_SUBST_V.ix k)
  else if a % 3 = 1 then (Reg.BANK.CFG_EN_I.ix k, Reg.BANK.CFG_N_I.ix k, Reg.BANK.AVG_I.ix k,
    Reg.BANK.STATUS_VALID_I.ix k, Reg.BANK.STATUS_SUBST_I.ix k)
  else (Reg.BANK.CFG_EN_F.ix k, Reg.BANK.CFG_N_F.ix k, Reg.BANK.AVG_F.ix k,
    Reg.BANK.STATUS_VALID_F.ix k, Reg.BANK.STATUS_SUBST_F.ix k)

/-- The mean an averager publishes: sum + 2^(N−1), shifted right arithmetically by N (R196). -/
def avgMean (n : Nat) (l : List Int) : Int := Int.fdiv (sumInt l + 2 ^ (n - 1)) (2 ^ n)

/-- One boundary of an averager (R196, R197). -/
def avgStep (s : State) (b a : Nat) (x : Int) (sub : Bool) : State :=
  let f := avgFlds a
  let p := Pg.BANK b
  let bs := s.bank b
  let old := Table.get Averager.init bs.avgs a
  if s.flag p f.1 then
    let n := s.get p f.2.1
    let w := lastN (2 ^ n) ((if old.restart then [] else old.window) ++ [(x, sub)])
    let valid := decide (w.length = 2 ^ n)
    let s := s.setBank b { bs with avgs := Table.set Averager.init bs.avgs a ⟨w, false⟩ }
    let s := s.puti p f.2.2.1 (if valid then avgMean n (w.map (·.1)) else 0)
    (s.putb p f.2.2.2.1 valid).putb p f.2.2.2.2 (w.any (·.2))
  else
    let s := s.setBank b { bs with avgs := Table.set Averager.init bs.avgs a Averager.init }
    ((s.put p f.2.2.1 0).putb p f.2.2.2.1 false).putb p f.2.2.2.2 false

/-- Restart an averager's window at the next boundary (R197). -/
def avgRestart (s : State) (b a : Nat) : State :=
  let bs := s.bank b
  s.setBank b { bs with avgs := Table.set Averager.init bs.avgs a ⟨(Table.get Averager.init bs.avgs a).window, true⟩ }

/-! ### Minimum-maximum trackers (R198, R199) -/

/-- The MIN, MIN stamp, MAX, MAX stamp and EMPTY fields of tracker `t`. -/
def trackFlds (t : Nat) : Fld × Fld × Fld × Fld × Fld :=
  let k := t / 2
  if t = 8 then (Reg.BANK.BUS_I_MIN, Reg.BANK.BUS_I_MIN_FRAME, Reg.BANK.BUS_I_MAX, Reg.BANK.BUS_I_MAX_FRAME,
    Reg.BANK.BUS_STATUS_EMPTY)
  else if t % 2 = 0 then (Reg.BANK.V_MIN.ix k, Reg.BANK.V_MIN_FRAME.ix k, Reg.BANK.V_MAX.ix k,
    Reg.BANK.V_MAX_FRAME.ix k, Reg.BANK.STATUS_EMPTY_V.ix k)
  else (Reg.BANK.I_MIN.ix k, Reg.BANK.I_MIN_FRAME.ix k, Reg.BANK.I_MAX.ix k, Reg.BANK.I_MAX_FRAME.ix k,
    Reg.BANK.STATUS_EMPTY_I.ix k)

/-- An empty tracker (R198). -/
def trackEmpty (s : State) (b t : Nat) : State :=
  let f := trackFlds t
  let p := Pg.BANK b
  ((((s.put p f.1 0x7FFFFFFF).put p f.2.1 0).put p f.2.2.1 0x80000000).put p f.2.2.2.1 0).putb p f.2.2.2.2 true

/-- Enter a value with the number of its frame (R198): the first entry sets both extremes; later ones replace an extreme
only when strictly beyond it. -/
def trackEnter (s : State) (b t : Nat) (x : Int) (frame : Nat) : State :=
  let f := trackFlds t
  let p := Pg.BANK b
  if s.flag p f.2.2.2.2 then
    ((((s.puti p f.1 x).put p f.2.1 frame).puti p f.2.2.1 x).put p f.2.2.2.1 frame).putb p f.2.2.2.2 false
  else
    let s := if x < s.geti p f.1 then (s.puti p f.1 x).put p f.2.1 frame else s
    if s.geti p f.2.2.1 < x then (s.puti p f.2.2.1 x).put p f.2.2.2.1 frame else s

/-- One boundary of a tracker: a waiting clear, then the frame's sample or the valid averager output (R198, R199). -/
def trackStep (s : State) (b t : Nat) (src : Bool) (x : Int) (avg : Nat) (frame : Nat) : State :=
  let s := if (s.bank b).clears.contains t then trackEmpty s b t else s
  let f := avgFlds avg
  if src then (if s.flag (Pg.BANK b) f.2.2.2.1 then trackEnter s b t (s.geti (Pg.BANK b) f.2.2.1) frame else s)
  else trackEnter s b t x frame

/-! ### Probe resistance (R202, R203) -/

/-- R_P of a bank's channels takes RP_CFG.SEED, in 10 µΩ (R203). -/
def seedBank (s : State) (b : Nat) : State :=
  let seed := s.get (Pg.BANK b) Reg.BANK.RP_CFG_SEED * 10
  forIdx 4 s (fun s k =>
    (s.setChan (4 * b + k) { s.chan (4 * b + k) with rp := ratN seed }).put (Pg.BANK b) (Reg.BANK.PROBE_R.ix k) seed)

/-- Track R_P of a channel on the frame just ended, with the Kelvin voltage of its lead (R165); `crit`: a contact criterion
was met. -/
def trackRp (s : State) (c : Nat) (crit : Bool) : State :=
  let x := s.chan c
  let k := s.chan (s.lead c)
  let b := Pg.BANK (c / 4)
  let st := s.cstate c
  let run := decide (st = Ch.RUN ∨ st = Ch.HOLD ∨ st = Ch.RAMPDOWN)
  let s :=
    if !run || crit || k.substV || x.substI then s
    else if (s.get b Reg.BANK.RP_CFG_IMIN : Int) * 100 ≤ absI x.ik ∧ x.ik ≠ 0 then
      let r0 := (ratI x.vf * 10 - ratI k.vk) / ratI x.ik * 100000
      let r := if r0 < 0 then 0 else r0
      let w : Rat := if x.rpAcq < 16 then 4 else 256
      s.setChan c { x with rp := x.rp + (r - x.rp) / w, rpAcq := if x.rpAcq < 16 then x.rpAcq + 1 else x.rpAcq }
    else s
  let x := s.chan c
  let s := s.putSat b (Reg.BANK.PROBE_R.ix (c % 4)) (quant x.rp)
  s.putb b (Reg.BANK.STATUS_RP_ACQ.ix (c % 4)) (decide (x.rpAcq < 16))

/-- Averagers, trackers and snapshot frame of a bank at a boundary, on the samples of frame `n`. -/
def measureBank (s : State) (b n : Nat) : State :=
  let f := n % 2 ^ 32
  let s := forIdx 4 s (fun s k =>
    let x := s.chan (4 * b + k)
    let s := avgStep s b (3 * k) x.vk x.substV
    let s := avgStep s b (3 * k + 1) x.ik x.substI
    let s := avgStep s b (3 * k + 2) x.vf x.substI
    let s := trackStep s b (2 * k) (s.flag (Pg.BANK b) (Reg.BANK.CFG_SRC_V.ix k)) x.vk (3 * k) f
    let s := trackStep s b (2 * k + 1) (s.flag (Pg.BANK b) (Reg.BANK.CFG_SRC_I.ix k)) x.ik (3 * k + 1) f
    s.put (Pg.BANK b) (Reg.BANK.STATUS_SNAP_FRAME.ix k) (n % 65536))
  let bs := s.bank b
  let s := avgStep s b 12 bs.busI bs.busSubst
  let s := avgStep s b 13 bs.busV bs.busSubst
  let s := trackStep s b 8 (s.flag (Pg.BANK b) Reg.BANK.BUS_CFG_SRC) bs.busI 12 f
  let s := s.put (Pg.BANK b) Reg.BANK.BUS_STATUS_SNAP_FRAME (n % 65536)
  let bs := s.bank b
  s.setBank b { bs with clears := [] }

end Sys2Proof.Machine
end

