-- ==== Sys2Proof/Machine/Ledger.lean ====
section
/-! DEFINITION. The charge ledger (chapter 8): what a frame adds, coverage, the bank balance, board snapshots and the
checkpoint's content. Commits of checkpoints are in Granary.lean. -/

namespace Sys2Proof.Machine

/-! ### Accumulators (R209, R210) -/

/-- The exact range of a charge accumulator: 64-bit full code in 1 pC, held in 0.05 pC. -/
def qFull : Int := (2 ^ 63 - 1) * 20
/-- The exact range of an energy accumulator: 64-bit full code in 1 nJ, held in 5 × 10⁻¹¹ nJ. -/
def eFull : Int := (2 ^ 63 - 1) * 20000000000
/-- The exact full code of a lifetime counter: unsigned 64-bit in 1 µC, held in 0.05 pC. -/
def lifeFull : Int := (2 ^ 64 - 1) * 20000000

/-- A sum held at its full code in either direction, and whether this addition brought it there (R210). The negative
full code is the negative of the positive one (DESIGN CHOICE, log entry 107). -/
def satAdd (full a x : Int) : Int × Bool :=
  if full ≤ a + x then (full, decide (a ≠ full))
  else if a + x ≤ -full then (-full, decide (a ≠ -full))
  else (a + x, false)

/-- The full code of the frame counters STEP_FRAMES and RUN_FRAMES. -/
def framesFull : Int := 2 ^ 64 - 1

/-- Count a saturation: ACC_FLAGS.SAT and LEDGER:SAT_COUNT (R210). SAT stays set (DESIGN CHOICE, log entry 108). -/
def countSat (s : State) (c n : Nat) : State :=
  if n = 0 then s
  else (s.putb (Pg.CHAN c) Reg.CHAN.ACC_FLAGS_SAT true).addCount Pg.LEDGER Reg.LEDGER.SAT_COUNT n

/-- The charge (0.05 pC) and energy (5 × 10⁻¹¹ nJ) of a frame of `t` core cycles for channel `c` (R211, R212). A follower
uses its lead's V. -/
def frameCharge (s : State) (c t : Nat) : Int × Int :=
  let x := s.chan c
  if x.isoAny then
    let q := x.ik * t
    (q, (s.chan (s.lead c)).vk * q)
  else (0, 0)

/-- Clear the run of a channel: the run accumulators, its subst and gap counters, the run flags; RUN_START (R214). -/
def clearRun (s : State) (c start : Nat) : State :=
  let p := Pg.CHAN c
  let a := s.acc c
  let s := s.setAcc c { a with runQ := 0, runE := 0, runFrames := 0 }
  let s := (s.put p Reg.CHAN.SUBST_FRAMES 0).put p Reg.CHAN.GAP_FRAMES 0
  let s := (s.putb p Reg.CHAN.ACC_FLAGS_RUN_GAP false).putb p Reg.CHAN.ACC_FLAGS_RUN_SUBST false
  s.put p Reg.CHAN.RUN_START (start % 2 ^ 32)

/-- Add frame `n` of `t` cycles to a channel (R211 to R216). -/
def addFrame (s : State) (c n t : Nat) : State :=
  let p := Pg.CHAN c
  let x := s.chan c
  let s := if x.clrRun then clearRun (s.setChan c { x with clrRun := false }) c n else s
  let qe := frameCharge s c t
  let a := s.acc c
  let step := stepActive s (s.lead c)
  let rq := satAdd qFull a.runQ qe.1
  let re := satAdd eFull a.runE qe.2
  let sq := if step then satAdd qFull a.stepQ qe.1 else (a.stepQ, false)
  let se := if step then satAdd eFull a.stepE qe.2 else (a.stepE, false)
  let li := satAdd lifeFull a.lifeIn (if 0 < qe.1 then qe.1 else 0)
  let lo := satAdd lifeFull a.lifeOut (if qe.1 < 0 then -qe.1 else 0)
  let sf := satAdd framesFull a.stepFrames (b2n step)
  let rf := satAdd framesFull a.runFrames 1
  let s := s.setAcc c { stepQ := sq.1, stepE := se.1, runQ := rq.1, runE := re.1, lifeIn := li.1, lifeOut := lo.1, stepFrames := sf.1.toNat, runFrames := rf.1.toNat }
  let s := countSat s c (b2n rq.2 + b2n re.2 + b2n sq.2 + b2n se.2 + b2n li.2 + b2n lo.2 + b2n sf.2 + b2n rf.2)
  let sub := (s.chan (s.lead c)).substV || x.substI
  let s := if sub then
      let s := (s.bump p Reg.CHAN.SUBST_FRAMES).putb p Reg.CHAN.ACC_FLAGS_RUN_SUBST true
      if step then s.putb p Reg.CHAN.ACC_FLAGS_STEP_SUBST true else s
    else s
  s.put p Reg.CHAN.ACC_SNAP (n % 2 ^ 32)

/-- Start the step accumulators of a channel (R213): they start at zero, the step flags and RESTORED clear. -/
def startStepAcc (s : State) (c : Nat) : State :=
  let p := Pg.CHAN c
  let a := s.acc c
  let s := s.setAcc c { a with stepQ := 0, stepE := 0, stepFrames := 0 }
  let s := (s.putb p Reg.CHAN.ACC_FLAGS_STEP_ACTIVE true).putb p Reg.CHAN.ACC_FLAGS_STEP_SUBST false
  (s.putb p Reg.CHAN.ACC_FLAGS_STEP_GAP false).putb p Reg.CHAN.ACC_FLAGS_RESTORED false

/-! ### Bank balance (R226 to R230) -/

/-- The exact balance unit: 5 × 10⁻¹¹ nJ divided by 100,000, in which every term of R226 is an integer. -/
def balUnit : Int := 100000

/-- Close the balance window of a bank (R227, R228). -/
def closeWindow (s : State) (b : Nat) : State :=
  let a := s.bankAcc b
  let p := Pg.LEDGER
  -- ABS_TOL mW × T and REL_TOL 0.01 % × G, in the balance unit
  let tol := (s.getf p (Reg.LEDGER.ABS_TOL_POWER.ix b) : Int) * 100000000 * a.winT * balUnit
  let bound : Rat := ratI tol + ratN (s.getf p (Reg.LEDGER.BAL_CFG_REL_TOL.ix b)) * ratI a.winG / 10000
  let fails := decide (bound < ratI (absI a.winR))
  -- one µJ is 2 × 10¹³ of 5 × 10⁻¹¹ nJ
  let uj : Rat := 20000000000000 * 100000
  let s := s.putSat p (Reg.LEDGER.LAST_RESID.ix b) (truncR (ratI a.winR / uj))
  let s := s.put p (Reg.LEDGER.LAST_BOUND.ix b) (satNat 32 (truncR (bound / uj)).toNat)
  let s := s.bump p (Reg.LEDGER.WINDOWS.ix b)
  let s := s.putb p (Reg.LEDGER.BAL_STATUS_WINDOW_VALID.ix b) true
  let neg := decide (a.winR < 0)
  let s := s.setBankAcc b { a with winR := 0, winG := 0, winT := 0 }
  let s := s.put p (Reg.LEDGER.BAL_STATUS_INCLUDED.ix b) 0
  if fails then
    let s := s.bump p (Reg.LEDGER.IMBAL_COUNT.ix b)
    let s := s.bump p (Reg.LEDGER.BAL_STATUS_FAIL_RUN.ix b)
    if s.getf p (Reg.LEDGER.BAL_CFG_NUM.ix b) ≤ s.get p (Reg.LEDGER.BAL_STATUS_FAIL_RUN.ix b) ∧
        s.flag p (Reg.LEDGER.BAL_STATUS_IMBALANCED.ix b) = false then
      let s := (s.putb p (Reg.LEDGER.BAL_STATUS_IMBALANCED.ix b) true).event p 3
      raise s p Kind.LEDGER_IMBALANCE (b + 8 * b2n neg)
    else s
  else (s.putb p (Reg.LEDGER.BAL_STATUS_IMBALANCED.ix b) false).put p (Reg.LEDGER.BAL_STATUS_FAIL_RUN.ix b) 0

/-- Restart the balance window (R230); an EN that has been set begins WINDOW_VALID anew (*LEDGER function registers*). -/
def restartWindow (s : State) (b : Nat) : State :=
  let a := s.bankAcc b
  let s := if a.enSet then s.putb Pg.LEDGER (Reg.LEDGER.BAL_STATUS_WINDOW_VALID.ix b) false else s
  (s.setBankAcc b { a with winR := 0, winG := 0, winT := 0, restart := false, enSet := false }).put Pg.LEDGER
    (Reg.LEDGER.BAL_STATUS_INCLUDED.ix b) 0

/-- The frame's E_bus, E_cells, E_loss and gross throughput of a bank in the balance unit (R226). -/
def frameEnergies (s : State) (b t : Nat) : Int × Int × Int × Int :=
  let bs := s.bank b
  let es := (bankChans b).map (fun c => (frameCharge s c t).2)
  let ebus := bs.busV * bs.busI * t * 1000 * balUnit
  let ecells := sumInt es * balUnit
  let eloss := truncR (lossPower s b * ratN t * ratI balUnit)
  (ebus, ecells, eloss, absI ebus + sumInt (es.map absI) * balUnit)

/-- Is the frame excluded from the balance: a bus or channel sample is a substitute or clipped (R227)? -/
def frameExcluded (s : State) (b : Nat) : Bool :=
  (s.bank b).busSubst || (s.bank b).busClip ||
    (bankChans b).any (fun c => (s.chan (s.lead c)).substV || (s.chan c).substI || (s.chan c).clip)

/-- Add the frame just ended to a bank's bus account and its balance window (R226, R227, R229).  While the bus-current
duty has no slice no window is formed: the one in progress is cleared (DEDUCED, log entry 42). -/
def addBankFrame (s : State) (b t : Nat) : State :=
  let p := Pg.LEDGER
  let e := frameEnergies s b t
  let fallback := (ownerOf s b 8).isNone
  let s := s.putb p (Reg.LEDGER.BAL_STATUS_FALLBACK.ix b) fallback
  let s := if (s.bankAcc b).restart || fallback then restartWindow s b else s
  let a := s.bankAcc b
  let a := if a.busClr then { a with busE := 0, busClr := false } else a
  let s := s.setBankAcc b { a with busE := a.busE + (if fallback then e.2.1 + e.2.2.1 else e.1) }
  if fallback || decide (s.getf p (Reg.LEDGER.BAL_CFG_EN.ix b) = 0) then s
  else if frameExcluded s b then s.bump p (Reg.LEDGER.SKIP_FRAMES.ix b)
  else
    let a := s.bankAcc b
    let s := s.setBankAcc b { a with
      winR := a.winR + (e.1 - e.2.1 - e.2.2.1), winG := a.winG + e.2.2.2, winT := a.winT + t }
    s.bump p (Reg.LEDGER.BAL_STATUS_INCLUDED.ix b)

/-- Has the balance window of a bank its 2^W included frames (R227)? -/
def windowFull (s : State) (b : Nat) : Bool :=
  decide (s.getf Pg.LEDGER (Reg.LEDGER.BAL_CFG_EN.ix b) = 1) &&
    decide (2 ^ s.getf Pg.LEDGER (Reg.LEDGER.BAL_CFG_W.ix b) ≤ s.get Pg.LEDGER (Reg.LEDGER.BAL_STATUS_INCLUDED.ix b))

/-! ### The frame's update (R211, R215) -/

/-- Add frame `n` of `t` cycles to every channel and bank; COVERAGE advances by exactly one (R215). -/
def ledgerFrame (s : State) (n t : Nat) : State :=
  let s := forIdx (4 * s.bankCount) s (fun s c => addFrame s c n t)
  let s := forIdx s.bankCount s (fun s b => addBankFrame s b t)
  s.put64 Pg.LEDGER Reg.LEDGER.COVERAGE_LO Reg.LEDGER.COVERAGE_HI
    ((s.get64 Pg.LEDGER Reg.LEDGER.COVERAGE_LO Reg.LEDGER.COVERAGE_HI + 1) % 2 ^ 64)

/-! ### Published accumulators (R209) -/

/-- The 64-bit pattern of an exact sum truncated toward zero to its LSB. -/
def pub (exact lsb : Int) : Nat := unsigned 64 (Int.tdiv exact lsb)

/-- Offsets 0x108 to 0x144 of a channel's accumulator block: the LO and HI words of the eight accumulators. -/
def accWord (a : ChanAcc) (off : Nat) : Option Nat :=
  let v :=
    if off < 0x108 ∨ 0x144 < off then none
    else if off / 8 = 0x108 / 8 then some (pub a.stepQ 20)
    else if off / 8 = 0x110 / 8 then some (pub a.stepE 20000000000)
    else if off / 8 = 0x118 / 8 then some (pub a.runQ 20)
    else if off / 8 = 0x120 / 8 then some (pub a.runE 20000000000)
    else if off / 8 = 0x128 / 8 then some (pub a.lifeIn 20000000)
    else if off / 8 = 0x130 / 8 then some (pub a.lifeOut 20000000)
    else if off / 8 = 0x138 / 8 then some (a.stepFrames % 2 ^ 64)
    else some (a.runFrames % 2 ^ 64)
  v.map (fun x => if off % 8 = 0 then x % 2 ^ 32 else x / 2 ^ 32)

/-- A word of a channel's accumulator block, 0x100 to 0x150. -/
def accRead (s : State) (c off : Nat) : Nat :=
  match accWord (s.acc c) off with
  | some v => v
  | none => (s.rd (Pg.CHAN c * 0x400 + off)).toNat

/-- The BUS_E word of a bank, at 0x118 or 0x11C of its block (1 nJ). -/
def busERead (s : State) (b : Nat) (hi : Bool) : Nat :=
  let v := unsigned 64 (Int.tdiv (s.bankAcc b).busE (20000000000 * balUnit))
  if hi then v / 2 ^ 32 else v % 2 ^ 32

/-- The board snapshot of R232: 0x100 to 0x150 of every channel into 0x180 to 0x1D0, SNAP_FRAME and SNAP_DONE. -/
def boardSnap (s : State) (n : Nat) : State :=
  let s := forIdx 32 s (fun s c => forIdx 21 s (fun s i =>
    s.wr (Pg.CHAN c * 0x400 + 0x180 + 4 * i) (BitVec.ofNat 32 (accRead s c (0x100 + 4 * i)))))
  (s.put64 Pg.LEDGER Reg.LEDGER.SNAP_FRAME_LO Reg.LEDGER.SNAP_FRAME_HI (n % 2 ^ 64)).event Pg.LEDGER 0

/-! ### Checkpoints (R220, R223, R267) -/

/-- A register whose word the ledger part of a checkpoint carries (*Ledger checkpoint contents*): the account and checkpoint
counters of the LEDGER page, a bank's balance status and counters, and a channel's accumulator block. -/
def inCkpt (addr : Nat) : Bool :=
  let page := addr / 0x400
  let off := addr % 0x400
  (decide (page = Pg.LEDGER) && (decide (0x050 ≤ off ∧ off < 0x088) || decide (off = 0x090) ||
    decide (0x100 ≤ off ∧ off < 0x300 ∧ (off % 0x40 = 0x14 ∨ 0x28 ≤ off % 0x40)))) ||
  (decide (0x040 ≤ page ∧ page ≤ 0x05F) && decide (0x100 ≤ off ∧ off ≤ 0x150))

/-- The RSTATE that a channel's resume state carries (R267): RUNNING, HELD, PAUSED and INTERRUPTED are kept, and a step
whose resume has not begun yet is INTERRUPTED; a channel with another RSTATE has no step to resume (log entry 82). -/
def resumeCode (s : State) (c : Nat) : Option Nat :=
  let r := s.get (Pg.CHAN c) Reg.CHAN.RCP_STATUS_RSTATE
  if r = 3 ∨ r = 4 ∨ r = 5 ∨ r = 7 then some r
  else if (r = 1 ∨ r = 2) ∧ (s.chan c).resume then some 7
  else none

/-- The resume state of a channel (*Channel resume state*). -/
def resumeRec (s : State) (c : Nat) : Option ResumeRec :=
  let p := Pg.CHAN c
  (resumeCode s c).map (fun r =>
    { step := s.get p Reg.CHAN.RCP_STATUS_STEP
      rstate := r
      zone := s.get p Reg.CHAN.RCP_STATUS_ZONE
      marked := (s.recipe c).marked
      qv := s.flag p Reg.CHAN.RCP_STATUS_QV_RAISED
      loops := (s.rd (p * 0x400 + 0x214)).toNat
      listCrc := s.get p Reg.CHAN.LIST_CRC_CRC
      stepCrc := (s.recipe c).stepCrc
      cvFrames := s.get p Reg.CHAN.CV_FRAMES
      tag := s.get p Reg.CHAN.STEP_TAG_TAG
      held := (s.recipe c).held })

/-- Load a channel's resume state into its step execution registers and its recipe context (R267, R270). -/
def loadResume (s : State) (c : Nat) (x : ResumeRec) : State :=
  let p := Pg.CHAN c
  let s := (s.put p Reg.CHAN.RCP_STATUS_STEP x.step).put p Reg.CHAN.RCP_STATUS_RSTATE x.rstate
  let s := (s.put p Reg.CHAN.RCP_STATUS_ZONE x.zone).putb p Reg.CHAN.RCP_STATUS_QV_RAISED x.qv
  let s := (s.wr (p * 0x400 + 0x214) (BitVec.ofNat 32 x.loops)).put p Reg.CHAN.LIST_CRC_CRC x.listCrc
  let s := (s.put p Reg.CHAN.CV_FRAMES x.cvFrames).put p Reg.CHAN.STEP_TAG_TAG x.tag
  s.setRecipe c { RecipeState.init with marked := x.marked, held := x.held, stepCrc := x.stepCrc }

/-- The ledger state at boundary `s.frame` as a checkpoint with a reason (R223). -/
def makeCkpt (s : State) (reason next : Nat) : Ckpt :=
  { reason := reason
    boundary := s.frame
    nextFrame := next
    lossStart := 0
    lossLen := 0
    interval := s.getf Pg.LEDGER Reg.LEDGER.CKPT_CFG_INTERVAL
    period := s.getf Pg.TRANSIT Reg.TRANSIT.CTRL_PERIOD
    accs := s.accs
    bankAccs := s.bankAccs
    resume := (List.range 32).filterMap (fun c => (resumeRec s c).map (fun x => (c, x)))
    cells := (List.range 32).filterMap (fun c =>
      if (s.chan c).cellId = [0, 0, 0, 0] then none else some (c, (s.chan c).cellId))
    intr := (List.range 32).filter (fun c => decide (s.get (Pg.CHAN c) Reg.CHAN.STATUS_LAST_END = 2))
    regs := s.regs.filter (fun e => inCkpt e.1) }

/-- Checkpoint reasons that are closing (*Checkpoint reasons*). -/
def ckptClosing (r : Nat) : Bool := decide (4 ≤ r ∧ r ≤ 7)

/-- The levels of the ID straps and of the GPIO balls that a frame's readings show (R72, R422). -/
def readBalls (s : State) (f : FrameIn) : State :=
  { s with
    svc := { s.svc with straps := (f.straps.map (· % 8)).getD s.svc.straps }
    timer := { s.timer with ext := (f.gpio.map (· % 16)).getD s.timer.ext } }

/-- Close the frame in progress with its measured length `t` and its samples (R218): the ledger adds it once; the frame
number on the next entry to FULL is F + 1. A frame that a shutdown has closed is not closed again (R388). -/
def closeFrame (s : State) (inp : FrameIn) (t : Nat) : State :=
  if s.full && !s.backup.closed then
    let s := readBalls s inp
    let s := forIdx s.bankCount s (fun s b => latchBank s b (nth BankIn.none inp.banks b))
    let s := ledgerFrame s s.frame t
    { s with frame := (s.frame + 1) % 2 ^ 64 }
  else s

end Sys2Proof.Machine
end

