-- ==== Sys2Proof/Machine/Records.lean ====
section
/-! DEFINITION. The records of recipe memory and the step in force of a channel's list (R235 to R241, R256). -/

namespace Sys2Proof.Machine

/-! ### Records (R235 to R241, R256) -/

/-- The byte address of a record's first word (R28, R235). -/
def recAddr (b r : Nat) : Nat := (0x200 + 16 * b + r / 16) * 0x400 + 64 * (r % 16)

/-- Byte `k` of a record (R236). -/
def recByte (s : State) (b r k : Nat) : Nat :=
  (s.rd (recAddr b r + k / 4 * 4)).toNat / 256 ^ (k % 4) % 256

/-- An unsigned little-endian field of `n` bytes. -/
def recU (s : State) (b r off n : Nat) : Nat := natOfLE ((List.range n).map (fun k => recByte s b r (off + k)))

/-- A signed little-endian field of `n` bytes. -/
def recI (s : State) (b r off n : Nat) : Int := signed (8 * n) (recU s b r off n)

/-- The 64 bytes of a record. -/
def recBytes (s : State) (b r : Nat) : List Nat := (List.range 64).map (recByte s b r)

/-- Does the record's CRC field match its bytes (R237)? -/
def recCrcOk (s : State) (b r : Nat) : Bool :=
  decide (crc16 ((recBytes s b r).take 62) = recU s b r 0x3E 2)

/-- Is the record marked committed (R237)? -/
def committed (s : State) (b r : Nat) : Bool := Table.get false s.commits (b * 256 + r)

/-- Set or clear a record's committed mark. -/
def setCommitted (s : State) (b r : Nat) (v : Bool) : State :=
  { s with commits := Table.set false s.commits (b * 256 + r) v }

/-- The words of a record that hold a corrected error (1) or an uncorrectable one (2) (R238). -/
def recErrs (s : State) (b r kind : Nat) : Nat :=
  ((List.range 16).filter (fun i => decide (Table.get 0 s.memErr (recAddr b r + 4 * i) = kind))).length

/-- Does a record hold an uncorrectable error? -/
def recBad (s : State) (b r : Nat) : Bool := decide (recErrs s b r 2 ≠ 0)

/-- The corrected errors of records that a channel's engine reads are counted in ECC_COUNT (R238). -/
def countEcc (s : State) (c : Nat) (rs : List Nat) : State :=
  rs.foldl (fun s r => s.addCount (Pg.CHAN c) Reg.CHAN.LIST_CRC_ECC_COUNT (recErrs s (c / 4) r 1)) s

/-- A memory error that a frame brings to a recipe memory word. -/
def memFlip (s : State) (e : Nat × Bool) : State :=
  { s with memErr := Table.set 0 s.memErr e.1 (if e.2 then 2 else max 1 (Table.get 0 s.memErr e.1)) }

/-- One termination slot (*Termination slot*). -/
structure Term where
  qty : Nat
  cmp : Nat
  act : Nat
  target : Nat
  thresh : Int
  deriving DecidableEq, Repr

/-- Termination slot `k` of a record. -/
def termOf (s : State) (b r k : Nat) : Term :=
  let code := recU s b r (0x24 + 6 * k) 2
  ⟨bitsOf code 15 12, bitsOf code 11 9, bitsOf code 8 6, bitsOf code 5 0, recI s b r (0x26 + 6 * k) 4⟩

/-- The record of step `n` of a channel's list (R239). -/
def stepRec (s : State) (c n : Nat) : Nat := s.get (Pg.CHAN c) Reg.CHAN.RCP_CFG_BASE + n

/-- The record of the step in force. -/
def curRec (s : State) (c : Nat) : Nat := stepRec s c (s.get (Pg.CHAN c) Reg.CHAN.RCP_STATUS_STEP)

/-- The steps of a channel's list. -/
def listLen (s : State) (c : Nat) : Nat := s.get (Pg.CHAN c) Reg.CHAN.RCP_CFG_LEN

/-- RCP_STATUS.RSTATE codes. -/
abbrev Rs.IDLE : Nat := 0
abbrev Rs.VALIDATING : Nat := 1
abbrev Rs.WAITING : Nat := 2
abbrev Rs.RUNNING : Nat := 3
abbrev Rs.HELD : Nat := 4
abbrev Rs.PAUSED : Nat := 5
abbrev Rs.ENDED : Nat := 6
abbrev Rs.INTERRUPTED : Nat := 7
abbrev Rs.REJECTED : Nat := 8

/-- RCP_STATUS.RSTATE of a channel. -/
def rstate (s : State) (c : Nat) : Nat := s.get (Pg.CHAN c) Reg.CHAN.RCP_STATUS_RSTATE

/-- Set RCP_STATUS.RSTATE. -/
def setRstate (s : State) (c v : Nat) : State := s.put (Pg.CHAN c) Reg.CHAN.RCP_STATUS_RSTATE v

/-- ACTION of zone `z`: 0 RUN, 1 PAUSE, 2 ABORT. -/
def zoneAction (s : State) (b zt z : Nat) : Nat := recByte s b zt (7 + 8 * z)

/-- The zone table of a record; none for 0xFF. -/
def zoneTable (s : State) (b r : Nat) : Option Nat :=
  let z := recByte s b r 0x20
  if z = 0xFF then none else some z

/-- Does the zone of the step in force pause the channel (R258)? -/
def zonePauses (s : State) (c : Nat) : Bool :=
  let z := s.get (Pg.CHAN c) Reg.CHAN.RCP_STATUS_ZONE
  match zoneTable s (c / 4) (curRec s c) with
  | none => false
  | some zt => decide (z ≠ 7) && decide (zoneAction s (c / 4) zt z = 1)

end Sys2Proof.Machine
end

