-- ==== Sys2Proof/Machine/Channel.lean ====
section
/-! DEFINITION. Channel regulation (chapter 6): modes, reference, slew, connection, ramp-down, hold, guards, contact
loss and gangs, as the operations that a frame boundary and the channel commands perform. -/

namespace Sys2Proof.Machine

abbrev Mode.OFF : Nat := 0
abbrev Mode.CC : Nat := 1
abbrev Mode.CV : Nat := 2
abbrev Mode.CCCV : Nat := 3
abbrev Mode.CP : Nat := 4
abbrev Mode.REST : Nat := 5
abbrev Mode.PULSE : Nat := 6
abbrev Mode.ZV : Nat := 7
abbrev Mode.HOLD : Nat := 8

/-! ### Capacity and shares (R105, R165) -/

/-- Channel capacity C in 10 µA (*Channel capacity*, R105). -/
def capacityOf (s : State) (c : Nat) : Nat :=
  let r0 := s.get (Pg.PHASE (2 * c)) Reg.PHASE.STAGE_RATING * 50000
  let r1 := s.get (Pg.PHASE (2 * c + 1)) Reg.PHASE.STAGE_RATING * 50000
  let a := phaseInService s (2 * c)
  let b := phaseInService s (2 * c + 1)
  if a && b then
    (if s.flag (Pg.PHASE (2 * c)) Reg.PHASE.CTRL_PAIR_MODE then min r0 r1 else min 6000000 (r0 + r1))
  else if a then r0
  else if b then r1
  else 0

/-- The capacity of a channel's gang: the sum over its channels. -/
def gangCapacity (s : State) (c : Nat) : Nat := sumNat ((s.gang c).map (capacityOf s))

/-- The share of the gang reference that channel `c` carries (R165): a follower's share is truncated toward zero to
10 µA; the lead takes the rest. -/
def shareOf (s : State) (c : Nat) (total : Int) : Int :=
  let cap : Int := gangCapacity s c
  let part := fun (m : Nat) => if cap = 0 then 0 else Int.tdiv (total * capacityOf s m) cap
  if s.follower c then part c
  else total - sumInt (((s.gang c).drop 1).map part)

/-! ### Slew (R139, R140) -/

/-- The step of a current reference in one frame of `len` core cycles at `rate` mA/ms, in 10 µA. -/
def slewStep (rate len : Nat) : Rat := ratN (rate * len) / 2000

/-- Move toward a target by at most a step. -/
def moveTo (x target step : Rat) : Rat :=
  if x < target then (if x + step < target then x + step else target)
  else if target < x - step then x - step
  else target

/-- One boundary of the current slew (R139): SLEW_UP while the magnitude grows, SLEW_DOWN while it shrinks; a move that
crosses zero uses SLEW_DOWN down to zero and SLEW_UP beyond it, for the part of the frame that is left. -/
def slewCurrent (x target up down : Rat) : Rat :=
  if x = target then x
  else if x = 0 ∨ (0 < x * target ∧ absR x < absR target) then moveTo x target up
  else
    let stop : Rat := if 0 < x * target then target else 0
    let y := moveTo x stop down
    if y = stop ∧ stop ≠ target ∧ 0 < down then moveTo 0 target (up * (1 - absR x / down)) else y

/-! ### Start conditions (R143) -/

/-- The mating limit is reached (R168). -/
def mateAtLimit (s : State) (c : Nat) : Bool :=
  decide (s.get (Pg.CHAN c) Reg.CHAN.MATE_LIMIT_LIMIT * 1000 ≤ s.get (Pg.CHAN c) Reg.CHAN.MATE_COUNT)

/-- May channel `m` leave OFF at all: a phase with EN = 1 (R123), its mating limit not reached (R168), no mating count
pending (R171)? -/
def chanReady (s : State) (m : Nat) : Bool :=
  (s.flag (Pg.PHASE (2 * m)) Reg.PHASE.CTRL_EN || s.flag (Pg.PHASE (2 * m + 1)) Reg.PHASE.CTRL_EN) &&
  !mateAtLimit s m && !s.flag (Pg.CHAN m) Reg.CHAN.MATE_STATUS_PENDING

/-- The conditions of R143 beyond ENABLE and MODE, but for the bank's token. A gang leaves OFF as one, so each of its
channels has to be ready. -/
def startReady (s : State) (c : Nat) : Bool :=
  s.full && faultNIn s && !s.flag Pg.CHIP Reg.CHIP.STATUS_CHAN_INHIBIT && (s.gang c).all (chanReady s) &&
  !s.follower c && !bankHeld s (c / 4) && !s.ledger.openNeeded

/-- The conditions of R143 beyond ENABLE and MODE. -/
def startConditions (s : State) (c mode : Nat) : Bool :=
  startReady s c && (decide (mode = Mode.REST) || decide (0 < s.get Pg.COMMONS (Reg.COMMONS.BANK_ALLOC.ix (c / 4))))

/-- The emergency-stop latch (R476). -/
def estop (s : State) : Bool := s.getBit Pg.TWOWIRE Reg.TWOWIRE.STATUS_LATCHED 3

/-- Is a write that would take a channel out of mode OFF refused: CHAN_INHIBIT, or a channel of the gang with EN = 0 on
both phases (R55, R123)? -/
def startBarred (s : State) (c : Nat) : Bool :=
  s.flag Pg.CHIP Reg.CHIP.STATUS_CHAN_INHIBIT ||
    (s.gang c).any (fun m => !s.flag (Pg.PHASE (2 * m)) Reg.PHASE.CTRL_EN && !s.flag (Pg.PHASE (2 * m + 1)) Reg.PHASE.CTRL_EN)

/-- Is ENABLE = 1 refused from every origin: also ESTOP (R476) and a channel in SAFE (R159)? -/
def enableBarred (s : State) (c : Nat) : Bool := estop s || decide (s.cstate c = Ch.SAFE) || startBarred s c

/-! ### Step ends (R158, R213, R250, R264, R266) -/

/-- What a step-end or mark record carries of the cause (R264). -/
structure EndInfo where
  result : Nat
  cause : Nat
  action : Nat
  zone : Bool
  slot : Nat
  qty : Nat
  value : Int
  next : Nat
  rstate : Nat
  deriving DecidableEq, Repr

/-- The END_INFO flags: QV, RESTORED, GAP, SUBST (R264). -/
def endFlags (s : State) (c : Nat) : Nat :=
  let p := Pg.CHAN c
  s.get p Reg.CHAN.ACC_FLAGS_STEP_SUBST + 2 * s.get p Reg.CHAN.ACC_FLAGS_STEP_GAP +
    4 * s.get p Reg.CHAN.ACC_FLAGS_RESTORED + 8 * s.get p Reg.CHAN.RCP_STATUS_QV_RAISED

/-- The END_INFO word of a step end or mark. -/
def endInfoWord (s : State) (c : Nat) (e : EndInfo) : Nat :=
  e.result % 4 * 2 ^ 30 + e.action % 8 * 2 ^ 27 + b2n e.zone * 2 ^ 26 + e.slot % 4 * 2 ^ 24 + e.qty % 16 * 2 ^ 20 +
    endFlags s c * 2 ^ 16 + e.next % 256 * 2 ^ 8 + s.get (Pg.CHAN c) Reg.CHAN.RCP_STATUS_STEP

/-- The step's accumulators as the step-end and mark records carry them: STEP_Q, STEP_E, STEP_FRAMES, low word first. -/
def stepSums (s : State) (c : Nat) : List Nat :=
  let a := s.acc c
  let q := pub a.stepQ 20
  let e := pub a.stepE 20000000000
  let f := a.stepFrames % 2 ^ 64
  [q % 2 ^ 32, q / 2 ^ 32, e % 2 ^ 32, e / 2 ^ 32, f % 2 ^ 32, f / 2 ^ 32]

/-- The committed CELL_ID of a channel, four words (R167). -/
def cellIdOf (s : State) (c : Nat) : List Nat := (s.chan c).cellId

/-- The engine whose code a bank's recipe work carries: the carrier once it has taken over, or the bank's own recipe
engine (R280). -/
def bankEngine (s : State) (b : Nat) : Nat :=
  if (s.eng b).takeover.isSome then b
  else if s.get Pg.ENGCTL Reg.ENGCTL.CARRY_ENG8 = b then 8
  else if s.get Pg.ENGCTL Reg.ENGCTL.CARRY_ENG9 = b then 9
  else b

/-- Write the END registers and make the step-end event (R264). -/
def endRegs (s : State) (c : Nat) (e : EndInfo) (last : Nat) : State :=
  let p := Pg.CHAN c
  let w := endInfoWord s c e
  let l := stepSums s c
  let tag := s.get p Reg.CHAN.STEP_TAG_TAG
  let s := s.put p Reg.CHAN.END_INFO w
  let s := s.put p Reg.CHAN.END_FRAME (last % 2 ^ 32)
  let s := forIdx 6 s (fun s i => s.wr (p * 0x400 + 0x248 + 4 * i) (BitVec.ofNat 32 (nth 0 l i)))
  let s := s.puti p Reg.CHAN.END_VALUE (satSigned 32 e.value)
  let s := s.put p Reg.CHAN.END_TAG_TAG tag
  { s with events := s.events ++ [⟨c, false, w, last, tag, e.value, l, cellIdOf s c⟩] }

/-- A step stops being in force on a channel and its gang (R213, R266); with SOURCE = 1 its END registers, its STEP
change-log entry and its step-end event are made (R263, R264). -/
def closeStep (s : State) (c : Nat) (e : EndInfo) (last : Nat) : State :=
  let l := s.lead c
  let p := Pg.CHAN l
  if stepActive s l then
    let src := s.flag p Reg.CHAN.CONTROL_SOURCE
    let s := (s.gang l).foldl (fun s m => s.putb (Pg.CHAN m) Reg.CHAN.ACC_FLAGS_STEP_ACTIVE false) s
    let s := if e.result = 0 then s else
      (s.gang l).foldl (fun s m =>
        (s.put (Pg.CHAN m) Reg.CHAN.STATUS_LAST_END e.result).put (Pg.CHAN m) Reg.CHAN.STATUS_END_CAUSE e.cause) s
    let s := s.setChan l { s.chan l with endPending := none }
    let s := { s with ended := s.ended ++ [(l, e.result)] }
    let s := s.setRecipe l { s.recipe l with held := decide (e.result = 2 ∧ s.get p Reg.CHAN.RCP_STATUS_RSTATE = 4) }
    if src then
      let s := endRegs s l e last
      let s := s.bump p Reg.CHAN.TRANSITIONS
      let s := if e.rstate = 15 then s else s.put p Reg.CHAN.RCP_STATUS_RSTATE e.rstate
      if e.next = 0xFF then
        logStep s (Org.ENG (bankEngine s (l / 4))) l (s.get p Reg.CHAN.RCP_STATUS_STEP) 0xFF
      else s
    else s
  else s.setChan l { s.chan l with endPending := none }

/-- RSTATE after a step that ended with a result: INTERRUPTED (R266), else ENDED. -/
def rstateOf (result : Nat) : Nat := if result = 2 then 7 else 6

/-- Close the step of a channel with a marked end; `last` is the last frame it holds. -/
def closeEnded (s : State) (c last : Nat) (e : Nat × Nat) : State :=
  closeStep s c ⟨e.1, e.2, 7, false, 0, 0, 0, 0xFF, rstateOf e.1⟩ last

/-- Close the steps whose end was marked before this boundary. -/
def closePending (s : State) (last : Nat) : State :=
  forIdx 32 s (fun s c =>
    match (s.chan c).endPending with
    | none => s
    | some e => closeEnded s c last e)

/-- The steps that an event of the boundary itself has ended, from `s` to `t`, close there (R213). -/
def closeAtBoundary (s t : State) : State :=
  forIdx 32 t (fun t c =>
    match (s.chan c).endPending, (t.chan c).endPending with
    | none, some e => closeEnded t c (t.frame - 1) e
    | _, _ => t)

/-! ### Leaving the running states (R155, R156) -/

/-- Enter RAMPDOWN (R156): the rate is the larger of SLEW_DOWN and |IREF| / 1 ms, taken at entry. `fin` is the result
and cause of a step that ends with the ramp. -/
def enterRampdown (s : State) (c : Nat) (fin : Option (Nat × Nat)) : State :=
  let l := s.lead c
  let x := s.chan l
  let r : Rat := max (ratN (s.get (Pg.CHAN l) Reg.CHAN.SLEW_DOWN_RATE) * 100) (absR x.iref)
  let s := s.setChan l { x with rampRate := r, rampEnd := fin, itarget := 0, growing := false }
  s.setCstate l Ch.RAMPDOWN

/-- The channel enters OFF: both PWM LOW, ISO low, mode OFF; a step still in force ends (R156). -/
def enterOff (s : State) (c : Nat) (fin : Option (Nat × Nat)) (last : Nat) : State :=
  let l := s.lead c
  let s := (s.gang l).foldl stageOff s
  let s := match fin with
    | some (r, cause) => closeStep s l ⟨r, cause, 7, false, 0, 0, 0, 0xFF, rstateOf r⟩ last
    | none => s
  (clearRunFlags s l).setCstate l Ch.OFF

/-- A disable acted on at a boundary (R155): ENABLE written 0, or MODE written OFF. -/
def actDisable (s : State) (c last : Nat) : State :=
  let p := Pg.CHAN c
  let st := s.cstate c
  let off := !s.flag p Reg.CHAN.CONTROL_ENABLE || decide (s.get p Reg.CHAN.CONTROL_MODE = 0)
  if s.follower c || !off then s
  else if st = Ch.RUN ∨ st = Ch.HOLD then enterRampdown s c (some (1, 1))
  else if st = Ch.CONNECT then enterOff s c (some (1, 1)) last
  else s

/-! ### Connecting (R143 to R145) -/

/-- The runs of a phase start afresh as it begins to switch, and while it does not switch. -/
def clearRuns (s : State) (p : Nat) : State :=
  s.setPhase p { s.phase p with run := 0, rangeRun := 0, cycTrip := false }

/-- The phases of a channel as it leaves OFF: DROPPED and DROP_CAUSE clear (R118). -/
def phaseFresh (s : State) (p : Nat) : State :=
  let s := s.setPhase p { s.phase p with causes := [] }
  (s.putb (Pg.PHASE p) Reg.PHASE.STATUS_DROPPED false).put (Pg.PHASE p) Reg.PHASE.STATUS_DROP_CAUSE 0

/-- Every factory-unlocked page returns to locked, logged with origin hardware (R30). -/
def revertFactoryLocks (s : State) : State :=
  let pages := (List.range 0x320).filter (fun p => decide ((pageKind p).isSome) && decide (pageKind p ≠ some .recipe) &&
    decide (s.get p Reg.HEADER.LOCK_STATE = 3))
  pages.foldl (fun s p => putLogged s Org.HW p Reg.HEADER.LOCK_STATE 1) s

/-- The refusal of R144: back to OFF, the hardware origin clears ENABLE; the row's fault is raised without a channel
reaction (R344) once every channel has been judged (`connectAll`). A recipe ends ABORTED (R262). -/
def preCheckFail (s : State) (c : Nat) : State :=
  let p := Pg.CHAN c
  let s := putLogged s Org.HW p Reg.CHAN.CONTROL_ENABLE 0
  let s := if s.flag p Reg.CHAN.CONTROL_SOURCE then
      ((s.put p Reg.CHAN.STATUS_LAST_END 1).put p Reg.CHAN.STATUS_END_CAUSE 2).put p Reg.CHAN.RCP_STATUS_RSTATE 6
    else s
  s.setChan c { s.chan c with resume := false }

/-- The check of *Connection pre-check* (R144): the fault of the first row that refuses. -/
def preCheck (s : State) (c mode : Nat) : Option (Nat × Nat) :=
  let vk := (s.chan c).vk
  let p := Pg.CHAN c
  if vk < -100000 then some (Kind.UV_CELL, 1)
  else if vk < (s.get p Reg.CHAN.ZV_CFG_ENTRY : Int) * 1000 ∧ mode ≠ Mode.ZV ∧ mode ≠ Mode.REST then some (Kind.UV_CELL, 2)
  else if (s.get p Reg.CHAN.VGUARD_HI : Int) * 1000 < vk then some (Kind.OV_CELL, 1)
  else none

/-- Enter CONNECT (R143, R144): the pre-check, then the stage's start begins; the step is in force from this boundary
(R213). A resumed step keeps its accumulators (R160). VREF starts at VSET in the modes for which R141 names no start (DESIGN
CHOICE, log entry 104). -/
def enterConnect (s : State) (c : Nat) : State :=
  let p := Pg.CHAN c
  let mode := s.get p Reg.CHAN.CONTROL_MODE
  let s := revertFactoryLocks (s.putb p Reg.CHAN.STATUS_WAITING false)
  match preCheck s c mode with
  | some _ => preCheckFail s c
  | none =>
    let res := (s.chan c).resume
    let g := s.gang c
    let s := g.foldl (fun s m => phaseFresh (phaseFresh s (2 * m)) (2 * m + 1)) s
    let s := g.foldl (fun s m =>
      (s.setChan m { s.chan m with
        connCyc := 0, isoCyc := none, zeroDone := false, rpAcq := 0, framesSwitching := 0, balStarted := false
        probeRun := 0, probeRaised := false }).putb
        (Pg.BANK (m / 4)) (Reg.BANK.STATUS_RP_ACQ.ix (m % 4)) true) s
    let s := if res then g.foldl (fun s m => s.putb (Pg.CHAN m) Reg.CHAN.ACC_FLAGS_STEP_ACTIVE true) s
      else g.foldl startStepAcc s
    let x := s.chan c
    let v0 : Rat := if mode = Mode.CV then ratI x.vk / 10 else ratN (s.get p Reg.CHAN.VSET_VOLTAGE)
    let s := s.setChan c { x with
      iref := 0, itarget := 0, cand := 0, irefPrev := 0, vref := v0, vtarget := ratN (s.get p Reg.CHAN.VSET_VOLTAGE), modeIn := mode, tripRun := 0,
      zvRun := 0, pulseCount := 0, pulseTimer := 0, pulseStarted := false, resume := false, rampEnd := none,
      endPending := none, growing := false }
    let s := s.put p Reg.CHAN.STATUS_MODE mode
    let s := s.putb p Reg.CHAN.STATUS_CV_ACTIVE false
    let s := if res then s else (s.put p Reg.CHAN.CV_FRAMES 0).putb p Reg.CHAN.STATUS_ZV_DONE false
    let s := (s.putb p Reg.CHAN.STATUS_PULSE_DONE false).put p Reg.CHAN.STATUS_PULSE_LEVEL 0
    let s := s.put p Reg.CHAN.VREF_VOLTAGE (quant v0).toNat
    s.setCstate c Ch.CONNECT

/-- A channel in OFF with ENABLE = 1 and a mode waits from the boundary on, before the needs of R317 are formed: with
tokens to spare its bank holds one at once, and it connects at the same boundary (worked example of chapter 6). -/
def markWaiting (s : State) (c : Nat) : State :=
  let p := Pg.CHAN c
  if s.follower c || decide (s.cstate c ≠ Ch.OFF) then s
  else s.putb p Reg.CHAN.STATUS_WAITING (s.flag p Reg.CHAN.CONTROL_ENABLE && decide (s.get p Reg.CHAN.CONTROL_MODE ≠ 0))

/-- Is a channel due to enter CONNECT at this boundary (R143)? Not while its list is validated again (R281). -/
def startsNow (s : State) (c : Nat) : Bool :=
  let mode := s.get (Pg.CHAN c) Reg.CHAN.CONTROL_MODE
  !s.follower c && decide (s.cstate c = Ch.OFF) && s.flag (Pg.CHAN c) Reg.CHAN.CONTROL_ENABLE && decide (mode ≠ 0) &&
    decide (rstate s c ≠ Rs.VALIDATING) && !((s.recipe c).redo && decide (rstate s c = Rs.WAITING)) && startConditions s c mode

/-- A channel in OFF at a boundary: CONNECT where it starts, else WAITING while ENABLE and a mode are set (R143). -/
def tryConnect (s : State) (starts : Bool) (c : Nat) : State :=
  let p := Pg.CHAN c
  if s.follower c || decide (s.cstate c ≠ Ch.OFF) then s
  else if starts then enterConnect s c
  else s.putb p Reg.CHAN.STATUS_WAITING (s.flag p Reg.CHAN.CONTROL_ENABLE && decide (s.get p Reg.CHAN.CONTROL_MODE ≠ 0))

/-- Has SETTLE × 10 µs passed since ISO of channel `m` went high (R124)? -/
def isoSettled (s : State) (m : Nat) : Bool :=
  match (s.chan m).isoCyc with
  | none => false
  | some iso => decide (iso + s.get (Pg.PHASE (2 * m)) Reg.PHASE.ISO_CFG_SETTLE * 2000 ≤ (s.chan m).connCyc)

/-! ### Guards and contact loss (R150, R161) -/

/-- A guard with its once-per-episode rule (R150): the new episode flag, and whether to raise. -/
def episode (was breach : Bool) : Bool × Bool := (breach, breach && !was)

/-- The mode a channel acts in: HELD_MODE in HOLD, and in a ramp-down from it (R153). -/
def actingMode (s : State) (c : Nat) : Nat :=
  if s.cmode c = Mode.HOLD then s.get (Pg.CHAN (s.lead c)) Reg.CHAN.STATUS_HELD_MODE else s.cmode c

/-- The criteria of *Contact-loss criteria* on the frame just completed for one channel; lowest address first (R161). A
reference of 0 counts as a charging one in criterion (b) (DESIGN CHOICE, log entry 105). -/
def contactCriterion (s : State) (c : Nat) : Option Nat :=
  let l := s.lead c
  let p := Pg.CHAN l
  let x := s.chan c
  let st := s.cstate c
  let vk := (s.chan l).vk
  let subst := (s.chan l).substV || x.substI
  let diff := absR (ratI x.vf * 10 - ratI vk - dropUv x.ik x.rp)
  let a := x.isoAll && !subst && decide (ratN (s.get p Reg.CHAN.CONTACT_CFG_VDIFF) * 1000 < diff)
  let run := decide (st = Ch.RUN ∨ st = Ch.HOLD ∨ st = Ch.RAMPDOWN)
  let lx := s.chan l
  let jump := decide (absR lx.irefPrev < 2 * absR (lx.iref - lx.irefPrev))
  let dv := ratI (x.vf - x.vfprev) * 10 * (if 0 ≤ lx.iref then 1 else -1)
  let b := run && decide (actingMode s l ≠ Mode.ZV) && !jump &&
    decide (absI x.ik * 10 < absI x.iprev) &&
    decide ((s.get p Reg.CHAN.CONTACT_CFG_IMIN : Int) * 100 ≤ absI x.iprev) &&
    decide (ratN (s.get p Reg.CHAN.CONTACT_CFG_VRISE) * 1000 < dv)
  let cc := decide (vk < -200000) || decide (5500000 < vk)
  if a then some 0 else if b then some 1 else if cc then some 2 else none

/-- The contact criterion of a channel in the frame just completed; none outside the states of R161. -/
def contactOf (s : State) (c : Nat) : Option Nat :=
  let l := s.lead c
  let st := s.cstate l
  if st = Ch.RUN ∨ st = Ch.HOLD ∨ st = Ch.RAMPDOWN ∨ (st = Ch.CONNECT ∧ (s.chan l).zeroDone) then contactCriterion s c
  else none

/-- Contact loss (R161): one message with the lowest address; the channel enters SAFE whatever its severity map gives. -/
def actContact (s : State) (c a : Nat) : State :=
  let s := s.event (Pg.CHAN c) 6
  let s := chanSafe s (s.lead c) 1 3
  raise s (Pg.CHAN c) Kind.CONTACT_LOSS a

/-- The V and I guards of a lead or single channel at a boundary, in force while the channel runs (R150): which are
breached, V high, V low and I. -/
def guardBreaches (s : State) (l : Nat) : Bool × Bool × Bool :=
  let p := Pg.CHAN l
  let v := (s.chan l).vk
  let st := s.cstate l
  let on := decide (st = Ch.CONNECT ∨ st = Ch.RUN ∨ st = Ch.HOLD ∨ st = Ch.RAMPDOWN)
  let i := sumInt ((s.gang l).map (fun m => (s.chan m).ik))
  (on && decide ((s.get p Reg.CHAN.VGUARD_HI : Int) * 1000 < v),
    on && decide (actingMode s l ≠ Mode.ZV) && decide (v < (s.get p Reg.CHAN.VGUARD_LO : Int) * 1000),
    on && decide ((s.get p Reg.CHAN.IGUARD_CURRENT : Int) * 1000 < absI i))

/-- A breach raises its fault once per episode (R150). -/
def actGuards (s : State) (l : Nat) (b : Bool × Bool × Bool) : State :=
  let p := Pg.CHAN l
  let x := s.chan l
  let ov := episode x.epOv b.1
  let uv := episode x.epUv b.2.1
  let oi := episode x.epOi b.2.2
  let s := s.setChan l { x with epOv := ov.1, epUv := uv.1, epOi := oi.1 }
  let s := if ov.2 then raise s p Kind.OV_CELL 0 else s
  let s := if uv.2 then raise s p Kind.UV_CELL 0 else s
  if oi.2 then raise s p Kind.OC_SLOW 0x10 else s

/-- Is the tracked R_P above PROBE_R_LIM (R169)? -/
def probeHigh (s : State) (c : Nat) : Bool :=
  decide (ratN (s.get (Pg.CHAN c) Reg.CHAN.PROBE_R_LIM_RES) * 100 < (s.chan c).rp)

/-- Count the consecutive frames with R_P above PROBE_R_LIM (R169). -/
def countProbe (s : State) (c : Nat) : State :=
  let x := s.chan c
  s.setChan c { x with probeRun := if probeHigh s c then x.probeRun + 1 else 0 }

/-- PROBE_WEAR 0x02, once per step, after 256 consecutive frames (R169). -/
def probeWear (s : State) (c : Nat) : State :=
  let x := s.chan c
  if 256 ≤ x.probeRun ∧ stepActive s (s.lead c) ∧ x.probeRaised = false then
    let s := s.setChan c { x with probeRaised := true }
    raise (s.event (Pg.CHAN c) 7) (Pg.CHAN c) Kind.PROBE_WEAR 2
  else s

/-! ### Mode and targets (R134 to R142) -/

/-- Apply the mode written for a running channel (R138, R141): the reference continues from its present value; VREF
takes its start for CV or CCCV. -/
def applyMode (s : State) (c : Nat) : State :=
  let p := Pg.CHAN c
  let x := s.chan c
  let mode := s.get p Reg.CHAN.CONTROL_MODE
  if s.cstate c ≠ Ch.RUN ∨ s.follower c ∨ mode = 0 then s
  else if mode = x.modeIn then s
  else
    let vset := ratN (s.get p Reg.CHAN.VSET_VOLTAGE)
    let v : Rat := if mode = Mode.CCCV then vset else if mode = Mode.CV then ratI x.vk / 10 else x.vref
    let s := s.setChan c { x with
      modeIn := mode, vref := v, vtarget := vset, zvRun := 0, pulseCount := 0, pulseTimer := 0, pulseStarted := false }
    let s := s.put p Reg.CHAN.STATUS_MODE mode
    let s := ((s.put p Reg.CHAN.CV_FRAMES 0).putb p Reg.CHAN.STATUS_CV_ACTIVE false).putb p Reg.CHAN.STATUS_ZV_DONE false
    (s.putb p Reg.CHAN.STATUS_PULSE_DONE false).put p Reg.CHAN.STATUS_PULSE_LEVEL 0

/-- ZV_DONE at the first frame whose Kelvin voltage reaches ZV_CFG.ENTRY (R149). -/
def actZv (s : State) (c : Nat) : State :=
  let p := Pg.CHAN c
  if s.cmode c = Mode.ZV ∧ s.cstate c = Ch.RUN ∧ s.flag p Reg.CHAN.STATUS_ZV_DONE = false ∧
      (s.get p Reg.CHAN.ZV_CFG_ENTRY : Int) * 1000 ≤ (s.chan c).vk then
    (s.putb p Reg.CHAN.STATUS_ZV_DONE true).event p 4
  else s

/-- One boundary of VREF (R139, R140). -/
def stepVref (s : State) (c len : Nat) : State :=
  let p := Pg.CHAN c
  let x := s.chan c
  let m := s.cmode c
  if m = Mode.CV ∨ m = Mode.CCCV then
    let t := ratN (s.get p Reg.CHAN.VSET_VOLTAGE)
    let st := ratN (s.get p Reg.CHAN.SLEW_V_RATE * len) / 2000000
    let v := moveTo x.vref t st
    let s := s.setChan c { x with vref := v, vtarget := t }
    s.put p Reg.CHAN.VREF_VOLTAGE (quant v).toNat
  else s

/-- The pulse level of the frame that begins at this boundary (R142): TA counts from the boundary at which SLEW_DONE is
first 1 (`commitRef`); after the last pair, level A holds. -/
def stepPulse (s : State) (c : Nat) : State :=
  let p := Pg.CHAN c
  let x := s.chan c
  if s.cmode c ≠ Mode.PULSE ∨ s.flag p Reg.CHAN.STATUS_PULSE_DONE ∨ x.pulseStarted = false then s
  else
    let lvl := s.get p Reg.CHAN.STATUS_PULSE_LEVEL
    let dur := if lvl = 1 then s.get p Reg.CHAN.PULSE_TIME_TB else s.get p Reg.CHAN.PULSE_TIME_TA
    if x.pulseTimer < dur then s.setChan c { x with pulseTimer := x.pulseTimer + 1 }
    else
      let pairs := x.pulseCount + lvl
      let n := s.get p Reg.CHAN.PULSE_COUNT_COUNT
      let s := s.setChan c { x with pulseTimer := 1, pulseCount := pairs }
      let s := s.put p Reg.CHAN.STATUS_PULSE_LEVEL (1 - lvl)
      if lvl = 1 ∧ n ≠ 0 ∧ n ≤ pairs then (s.putb p Reg.CHAN.STATUS_PULSE_DONE true).event p 5 else s

/-- Is the recipe's zone pausing the channel, in a held step too (R258)? -/
def paused (s : State) (c : Nat) : Bool :=
  s.flag (Pg.CHAN c) Reg.CHAN.CONTROL_SOURCE &&
    (decide (rstate s c = Rs.PAUSED) || (decide (rstate s c = Rs.HELD) && zonePauses s c))

/-- The voltage loop's output for this boundary: a free value (R134). -/
def voltageLoop (s : State) : Int × State := let f := s.fresh; (Config.voltageLoop f.1, f.2)

/-- The current reference target of a running channel (*Channel modes*, R134, R135), and whether the voltage loop holds
the reference below |ISET|. An engine that takes a bank over seeds its loops, so that the first reference it computes is the
present one (R280, R282). -/
def targetOf (s : State) (c : Nat) : Rat × Bool × State :=
  let p := Pg.CHAN c
  let m := s.cmode c
  let x := s.chan c
  let iset := s.geti p Reg.CHAN.ISET
  let mag := absI iset
  if paused s c then (0, false, s)
  else if x.seedRef = true ∧ (m = Mode.CV ∨ m = Mode.CCCV ∨ m = Mode.CP) then
    (x.iref, decide (m = Mode.CCCV) && decide (absR x.iref < ratI mag), s)
  else if m = Mode.CC then (ratI iset, false, s)
  else if m = Mode.CV then
    let u := voltageLoop s
    (ratI (clampInt (-mag) mag u.1), false, u.2)
  else if m = Mode.CCCV then
    let u := voltageLoop s
    let y := clampInt 0 mag (if iset < 0 then -u.1 else u.1)
    (ratI (signI iset * y), decide (y < mag), u.2)
  else if m = Mode.CP then
    let v := max x.vk 100000
    let i := (ratI (s.geti p Reg.CHAN.PSET) * 100000000) / ratI v
    (if ratI mag < i then ratI mag else if i < -ratI mag then -ratI mag else ratI (quant i), false, s)
  else if m = Mode.PULSE then
    (ratI (if s.get p Reg.CHAN.STATUS_PULSE_LEVEL = 1 then s.geti p Reg.CHAN.PULSE_B else iset), false, s)
  else if m = Mode.ZV then (ratN (s.get p Reg.CHAN.ZV_CFG_ILIM * 100), false, s)
  else (0, false, s)

/-- The first boundary at least SETTLE × 10 µs after ISO of each channel of the gang went high: RUN with the reference at 0
and its first target taken (R124, R145). -/
def tryRun (s : State) (c : Nat) : State :=
  if s.cstate c = Ch.CONNECT ∧ s.follower c = false ∧ (s.gang c).all (isoSettled s) then
    let t := targetOf (s.setCstate c Ch.RUN) c
    t.2.2.setChan c { t.2.2.chan c with itarget := t.1 }
  else s

/-- The hold clamp (R153): in CV, CCCV and CP, when the frame's Kelvin voltage lies beyond the last VREF in the
direction of the current, the magnitude falls by one eighth, rounded up to the next 10 µA. -/
def holdClamp (s : State) (c : Nat) : Rat :=
  let x := s.chan c
  let m := s.get (Pg.CHAN c) Reg.CHAN.STATUS_HELD_MODE
  let i := quant x.iref
  let beyond := (decide (0 < i) && decide (x.vref * 10 < ratI x.vk)) || (decide (i < 0) && decide (ratI x.vk < x.vref * 10))
  if (m = Mode.CV ∨ m = Mode.CCCV ∨ m = Mode.CP) ∧ beyond then
    ratI (signI i * (absI i - ceilDiv (absI i) 8))
  else x.iref

/-- Does a reference of the channel differ from its newest target (R140)? VREF is one in CV and CCCV. -/
def moving (s : State) (c : Nat) : Bool :=
  let x := s.chan c
  decide (x.iref ≠ x.itarget) || (decide (s.cmode c = Mode.CV ∨ s.cmode c = Mode.CCCV) && decide (x.vref ≠ x.vtarget))

/-- Has a running channel taken a new setpoint at a boundary, from `old` to `s`: another target, in CP another PSET or ISET? Its
tones stop there (R297). -/
def retargeted (old s : State) (c : Nat) : Bool :=
  let a := old.chan c
  let x := s.chan c
  if s.cmode c = Mode.CP then decide (a.psetIn ≠ x.psetIn ∨ a.isetIn ≠ x.isetIn)
  else decide (a.itarget ≠ x.itarget ∨ a.vtarget ≠ x.vtarget)

/-- Each new target of a running channel that a boundary takes from `old` to `s` while the reference moves counts as a retarget
(R140); a new setpoint stops its tones (R297). -/
def countRetargets (old s : State) (c : Nat) : State :=
  let a := old.chan c
  let x := s.chan c
  let s := if s.cstate c = Ch.RUN ∧ retargeted old s c then s.setGrade c { s.grade c with tone := none } else s
  if s.cstate c = Ch.RUN ∧ moving old c then
    s.addCount (Pg.CHAN c) Reg.CHAN.SLEW_RETARGET
      ((if a.itarget = x.itarget then 0 else 1) + (if a.vtarget = x.vtarget then 0 else 1))
  else s

/-- The target in a frame for which the bank's engine has posted no heartbeat (R275): what its loops gave stands; a target taken
from the host's or the record's fields alone is taken (R136). -/
def standingTarget (s : State) (c : Nat) : Rat × Bool × State :=
  let m := s.cmode c
  if paused s c = false ∧ (m = Mode.CV ∨ m = Mode.CCCV ∨ m = Mode.CP) then
    ((s.chan c).itarget, s.flag (Pg.CHAN c) Reg.CHAN.STATUS_CV_ACTIVE, s)
  else targetOf s c

/-- The reference of a lead or single channel after limiters 1 and 2 (R136, R139, R142, R146, R153, R156), before
capacity and tokens: `cand`. `ok`: the bank's engine has posted its heartbeat; `edge`: a pulse edge falls on this boundary. The ramp still runs in a frame that a tripped
cycle holds (DEDUCED from R110 and R147: log entry 79). -/
def stepRef (s : State) (c len : Nat) (ok edge : Bool) : State :=
  let p := Pg.CHAN c
  let st := s.cstate c
  let x := s.chan c
  let s := (s.setChan c { x with irefPrev := x.iref }).putb p Reg.CHAN.STATUS_RAMP_HELD false
  if st = Ch.RUN then
    let t := if ok then targetOf s c else standingTarget s c
    let s := t.2.2
    let s := s.setChan c { s.chan c with itarget := t.1 }
    let m := s.cmode c
    let iset := s.geti p Reg.CHAN.ISET
    let kept := s.flag p Reg.CHAN.STATUS_CV_ACTIVE && decide (m = Mode.CCCV) && decide ((s.chan c).isetIn = iset)
    let cv := t.2.1 || kept
    let s := s.setChan c { s.chan c with isetIn := iset, psetIn := s.geti p Reg.CHAN.PSET, seedRef := (s.chan c).seedRef && !ok }
    let s := if s.flag p Reg.CHAN.STATUS_CV_ACTIVE && !cv then s.put p Reg.CHAN.CV_FRAMES 0 else s
    let s := s.putb p Reg.CHAN.STATUS_CV_ACTIVE cv
    let up := slewStep (s.get p Reg.CHAN.SLEW_UP_RATE) len
    let down := slewStep (s.get p Reg.CHAN.SLEW_DOWN_RATE) len
    let edge := edge && !paused s c
    let y := if edge then t.1 else slewCurrent x.iref t.1 up down
    let grow := decide (absR x.iref < absR y) && !edge
    let tripped := (s.gang c).any (fun g => (s.phase (2 * g)).tripped || (s.phase (2 * g + 1)).tripped)
    let held := grow && x.growing && tripped
    let s := s.putb p Reg.CHAN.STATUS_RAMP_HELD held
    let y := if held then x.iref else y
    s.setChan c { s.chan c with cand := y, growing := grow }
  else if st = Ch.HOLD then
    let y := holdClamp s c
    s.setChan c { s.chan c with cand := y, itarget := y, growing := false }
  else if st = Ch.RAMPDOWN then
    s.setChan c { s.chan c with cand := moveTo x.iref 0 (x.rampRate * ratN len / 200000), itarget := 0, growing := false }
  else s.setChan c { s.chan c with cand := 0, itarget := 0, growing := false }

/-- The reference a limited channel takes when `l` is permitted, `x` its present reference and `y` what it asked (R151): a growing
reference stays; one above what is permitted moves toward it, in the sense of what it asked, at SLEW_DOWN. -/
def limitRef (x y l down : Rat) : Rat :=
  if l < absR x then
    let z := moveTo x (if 0 < y ∨ (y = 0 ∧ 0 ≤ x) then l else -l) down
    if x * y < 0 ∨ absR z < absR y then z else y
  else if absR x < absR y then x else y

/-- Limiters 3 and 4 and publication (R105, R136, R151, R152): the capacity clamp, then what the bank permits. -/
def commitRef (s : State) (c len : Nat) : State :=
  let p := Pg.CHAN c
  let x := s.chan c
  let st := s.cstate c
  let cap := ratN (gangCapacity s c)
  let y := x.cand
  let capped := decide (cap < absR y)
  let y := if cap < y then cap else if y < -cap then -cap else y
  let was := s.flag p Reg.CHAN.STATUS_CAP_LIMITED
  let s := s.putb p Reg.CHAN.STATUS_CAP_LIMITED capped
  let s := if capped && !was then s.event p 2 else s
  let down := slewStep (s.get p Reg.CHAN.SLEW_DOWN_RATE) len
  let y := match x.limit with
    | none => y
    | some l =>
      if st = Ch.RAMPDOWN then y
      else limitRef x.iref y l down
  let lim := x.limit.isSome && decide (st ≠ Ch.RAMPDOWN)
  let wasT := s.flag p Reg.CHAN.STATUS_TOKEN_LIMITED
  let s := s.putb p Reg.CHAN.STATUS_TOKEN_LIMITED lim
  let s := if lim && !wasT then s.event p 3 else s
  let done := decide (y = x.itarget) && (decide (s.cmode c ≠ Mode.CV ∧ s.cmode c ≠ Mode.CCCV) || decide (x.vref = x.vtarget))
  let wasD := s.flag p Reg.CHAN.STATUS_SLEW_DONE
  let s := s.putb p Reg.CHAN.STATUS_SLEW_DONE done
  let s := if done && !wasD then s.event p 1 else s
  let starts := done && decide (st = Ch.RUN ∧ s.cmode c = Mode.PULSE) && !x.pulseStarted && !paused s c
  let grows := s.flag p Reg.CHAN.STATUS_RAMP_HELD || decide (absR x.iref < absR y)
  let s := s.setChan c { x with
    iref := y, out := y, growing := x.growing && grows && !done
    pulseStarted := x.pulseStarted || starts, pulseTimer := if starts then 1 else x.pulseTimer }
  s.puti p Reg.CHAN.IREF (quant y)

/-! ### Switching (R131, R106) -/

/-- Does a channel switch in the frame that begins: RUN, HOLD or RAMPDOWN, but REST or a pausing zone only while the
reference is not 0 (R131, R258)? -/
def chanSwitches (s : State) (c : Nat) : Bool :=
  let l := s.lead c
  let st := s.cstate l
  let still := (decide (s.cmode l = Mode.REST) || paused s l) && decide ((s.chan l).iref = 0)
  decide (st = Ch.HOLD ∨ st = Ch.RAMPDOWN) || (decide (st = Ch.RUN) && !still)

/-- Set the phases of a channel switching or LOW for the frame that begins. -/
def setSwitching (s : State) (c : Nat) : State :=
  let on := chanSwitches s c
  let s := if on then s else s.setChan c { s.chan c with loopOn := false }
  [2 * c, 2 * c + 1].foldl (fun s p =>
    if on && phaseInService s p then
      let x := s.phase p
      let s := if x.switching then s
        else (clearRuns (s.setPhase p { x with switching := true, imons := [] }) p).putb (Pg.PHASE p) Reg.PHASE.IAVG_VALID false
      s.putb (Pg.PHASE p) Reg.PHASE.STATUS_ACTIVE true
    else if s.flag (Pg.PHASE p) Reg.PHASE.STATUS_DROPPED then phaseLow s p
    else clearRuns (phaseLow s p) p) s

/-- The end of a ramp-down: OFF at the first boundary at which IREF is 0 (R156). -/
def tryRampEnd (s : State) (c last : Nat) : State :=
  let x := s.chan c
  if s.cstate c = Ch.RAMPDOWN ∧ x.iref = 0 ∧ s.follower c = false then enterOff s c x.rampEnd last else s

/-! ### Leaving SAFE (R159) and resuming (R160) -/

/-- Does an active entry at S2 or above hold channel `c` in SAFE: raised by it, its phases or its gang, or with this
channel or its gang as its S2 scope (R159)? -/
def entryHoldsChan (s : State) (c k : Nat) (v : ActiveEntry) : Bool :=
  let page := k / 256
  let own := decide (0x040 ≤ page ∧ page ≤ 0x05F ∧ s.lead (page - 0x040) = s.lead c) ||
    decide (0x080 ≤ page ∧ page ≤ 0x0BF ∧ s.lead ((page - 0x080) / 2) = s.lead c)
  let inScope := v.addrs.any (fun a => match scopeS2 page (k % 256) a with
    | .chan c' => decide (s.lead c' = s.lead c)
    | _ => false)
  decide (2 ≤ v.sev) && (own || (inScope && decide (v.sev ≤ 3)))

/-- May a channel in SAFE leave it (R159)? -/
def safeReleased (s : State) (c : Nat) : Bool :=
  !(s.fault.active.any (fun e => entryHoldsChan s c e.1 e.2)) && faultNIn s && !bankHeld s (c / 4)

/-- SAFE to OFF at the first boundary at which R159 holds. -/
def trySafeExit (s : State) (c : Nat) : State :=
  if s.cstate c = Ch.SAFE ∧ s.follower c = false ∧ safeReleased s c then s.setCstate c Ch.OFF else s

/-- At a boundary: the safe states that nothing holds end, channels leave SAFE, and FAULT_N follows the entries (R346, R347,
R159). -/
def leaveSafe (s : State) : State :=
  let s := refreshSafe s
  refreshFaultN (forIdx (4 * s.bankCount) s trySafeExit)

end Sys2Proof.Machine
end

