-- ==== Sys2Proof/Machine/Phase.lean ====
section
/-! DEFINITION. Phases (chapter 5): interleave slots, arbitration within a switching cycle, the fast limit, drop-outs
and their masking, zero capture, and what a frame boundary does to a phase: slow limit, balancing, averages. -/

namespace Sys2Proof.Machine

/-! ### Carriers (R96) -/

/-- The five bits of a channel index reversed. -/
def rev5 (n : Nat) : Nat := n % 2 * 16 + n / 2 % 2 * 8 + n / 4 % 2 * 4 + n / 8 % 2 * 2 + n / 16 % 2

/-- The interleave slot of a phase (R96). -/
def phaseSlot (p : Nat) : Nat := 32 * (p % 2) + rev5 (p / 2)

/-! ### Spread spectrum (R97) -/

/-- The modulation m, from −½ to +½. -/
def spreadM (x : Spread) : Rat := if x.len = 0 then x.src else x.src + (x.goal - x.src) * x.pos / x.len

/-- The nominal switching period in fine steps (R94, R95). -/
def nominalPeriod (s : State) : Nat := 32 * s.get Pg.TRANSIT Reg.TRANSIT.PWM_CFG_DIV

/-- The instantaneous switching period DIV × (1 + DEPTH × m), in fine steps (R95, R97). -/
def period (s : State) : Int :=
  quant (ratN (nominalPeriod s) * (1 + ratN (s.getf Pg.TRANSIT Reg.TRANSIT.SSC_CFG_DEPTH) / 1000 * spreadM s.transit.spread))

/-- The next value that the modulation moves to: the other end in triangular mode, a draw of the LFSR over the range of m in
pseudo-random mode (R97). -/
def spreadGoal (s : State) : Rat × State :=
  if s.getf Pg.TRANSIT Reg.TRANSIT.SSC_CFG_MODE = 0 then (if s.transit.spread.goal < 0 then 1 / 2 else -1 / 2, s)
  else
    let f := s.fresh
    (ratN (Config.spreadDraw f.1).toNat / 32767 - 1 / 2, f.2)

/-- The modulation moves on by one switching period (R97). A sweep from one end to the other takes half a period of RATE, and
targets are drawn at twice RATE: either way 6,400,000 / RATE fine steps, with RATE in units of 0.5 kHz. -/
def spreadStep (s : State) : State :=
  if s.getf Pg.TRANSIT Reg.TRANSIT.SSC_CFG_DEPTH = 0 then s
  else
    let x := s.transit.spread
    let at' := x.pos + ratI (period s)
    if at' < x.len then { s with transit := { s.transit with spread := { x with pos := at' } } }
    else
      let g := spreadGoal s
      let len : Rat := 6400000 / ratN (s.getf Pg.TRANSIT Reg.TRANSIT.SSC_CFG_RATE)
      { g.2 with transit := { s.transit with spread := ⟨x.goal, g.1, at' - x.len, len⟩ } }

/-- The carrier offset of a phase in fine steps of 156.25 ps (R96): slot × DIV / 2 and the stagger
of the board, as a fraction of the instantaneous period (R97), placed on a fine step by a free value where it falls between two (log
entry 12). -/
def carrierOffset (s : State) (p : Nat) : Int :=
  let div := s.get Pg.TRANSIT Reg.TRANSIT.PWM_CFG_DIV
  let stagger := if s.flag Pg.TRANSIT Reg.TRANSIT.PWM_CFG_BOARD_STAGGER then div / 16 * s.strap else 0
  quant ((ratN (phaseSlot p * div) / 2 + ratN stagger) * ratI (period s) / ratN (nominalPeriod s))

/-! ### The switching cycle (R102, R106, R114, R115) -/

/-- The feed-forward term in fine steps (R102, R178): the Kelvin voltage of the last frame (1 µV) over the bank's bus voltage
of the last frame (100 µV), as a fraction of the period. At a bus voltage of 0 the spec states no quotient: a free value (log entry
17). -/
def feedForward (s : State) (c : Nat) : Int × State :=
  let v := (s.bank (c / 4)).busV
  if v = 0 then (Config.openQuotient s.fresh.1, s.fresh.2)
  else (quant (ratI (s.chan (s.lead c)).vk * ratI (period s) / (ratI v * 100)), s)

/-- The common duty request of a channel in fine steps (R102): the feed-forward term plus the proportional-integral term on
the channel's share of the perturbed reference (R165, R293), a free value (log entry 14). In the first switching cycle the
integrator is cleared and D is the feed-forward term (R124). -/
def dutyRequest (s : State) (c : Nat) : Int × State :=
  let d := feedForward s c
  if (s.chan c).loopOn then
    let f := d.2.fresh
    (d.1 + Config.currentLoop f.1 (shareOf s c (quant (s.chan (s.lead c)).out)), f.2)
  else d

/-- The on-time of a phase in fine steps: D plus its trim, which scales with the instantaneous period (R115), clamped to
MIN_ON at least and the period less MIN_OFF at most (*Phase arbitration*, row 3). -/
def onTime (s : State) (p : Nat) (d : Int) : Nat :=
  let pg := Pg.PHASE p
  let lo : Int := s.get pg Reg.PHASE.TIMING_MIN_ON * 32
  let hi : Int := period s - s.get pg Reg.PHASE.TIMING_MIN_OFF * 32
  let trim := quant (ratI (s.geti pg Reg.PHASE.TRIM_FINE) * ratI (period s) / ratN (nominalPeriod s))
  (clampInt lo hi (d + trim)).toNat

/-- The carrier start of a channel's even phase (R102): the loop computes D, and the channel's cycle begins. -/
def loopCycle (s : State) (c : Nat) : State :=
  let x := s.chan c
  let d := dutyRequest s c
  let on := (s.phase (2 * c)).switching || (s.phase (2 * c + 1)).switching
  d.2.setChan c { x with duty := d.1, loopOn := on, cycTrip := false, tripRun := if x.cycTrip then x.tripRun else 0 }

/-- A switching period of phase `p` starts (R102, R106). The cycle that ends resets the run if it held no trip (R110), and
its IMON range is counted (R101). An even phase's carrier start also begins the channel's cycle and computes D; that of
phase 0, in slot 0, takes the modulation on. -/
def switchCycle (s : State) (p : Nat) (imonOut : Bool) : State :=
  let c := p / 2
  let s := if p = 0 then spreadStep s else s
  let s := if p % 2 = 0 then loopCycle s c else s
  let x := { s.phase p with offset := carrierOffset s p }
  if x.switching then
    let s := s.putb (Pg.PHASE p) Reg.PHASE.STATUS_IMON_RANGE imonOut
    s.setPhase p { x with
      run := if x.cycTrip then x.run else 0, cycTrip := false, cycled := true, pwm := .high,
      duty := onTime s p (s.chan c).duty, rangeRun := if imonOut then x.rangeRun + 1 else 0 }
  else s.setPhase p { x with pwm := .low, cycTrip := false }

/-- A trip of the fast limit in the present cycle (R107, R108, R110): PWM changes level for the rest of the cycle. The
first trip of a cycle makes it a tripped cycle: TRIP_COUNT, EVENT.TRIP and the runs advance. A later trip of the other sign
in the same cycle acts again, and sets the polarity of the run (DESIGN CHOICE: log entry 80). -/
def noteTrip (s : State) (p : Nat) (pos : Bool) : State :=
  let x := s.phase p
  let c := p / 2
  let l := s.lead c
  let s := s.setPhase p { x with
    pwm := if pos then .mid else .high, runPos := pos, cycTrip := true, tripped := true,
    run := if x.cycTrip then x.run else x.run + 1 }
  let s := if x.cycTrip then s else (s.bump (Pg.PHASE p) Reg.PHASE.TRIP_COUNT).event (Pg.PHASE p) 0
  let y := s.chan c
  if y.cycTrip then s
  else s.setChan c { y with cycTrip := true, tripRun := if (s.chan l).growing then y.tripRun + 1 else 0 }

/-! ### Drop-outs (R118 to R122) -/

/-- The other phase of a phase's channel. -/
def sibling (p : Nat) : Nat := if p % 2 = 0 then p + 1 else p - 1

/-- Did a phase drop out in the present frame (R118)? -/
def droppedNow (s : State) (p : Nat) : Bool :=
  s.flag (Pg.PHASE p) Reg.PHASE.STATUS_DROPPED && decide (s.get (Pg.PHASE p) Reg.PHASE.DROP_FRAME = s.frame32)

/-- Does the fast limit's run make a cause now (R110): RUN tripped cycles, and no current ramp? -/
def runCause (s : State) (p : Nat) : Bool :=
  ((s.phase p).switching || droppedNow s p) && !(s.chan (s.lead (p / 2))).growing &&
    decide (max 1 (s.getf (Pg.PHASE p) Reg.PHASE.FAST_LIM_RUN) ≤ (s.phase p).run)

/-- Four consecutive cycles with IMON out of range while switching (R101). -/
def rangeCause (s : State) (p : Nat) : Bool :=
  ((s.phase p).switching || droppedNow s p) && decide (4 ≤ (s.phase p).rangeRun)

/-- The IMON zero captured at this start lies outside 1.15 to 1.25 V, which is 50 mV from its nominal value (R124). -/
def zeroCause (s : State) (p : Nat) : Bool :=
  (s.chan (p / 2)).zeroDone && decide (s.cstate (p / 2) = Ch.CONNECT) &&
    decide (5000 < absI (s.geti (Pg.PHASE p) Reg.PHASE.IMON_ZERO_OFFSET))

/-- The slow accumulator has reached its trip level (R113), in 1/200 of its unit. -/
def slowCause (s : State) (p : Nat) : Bool :=
  ((phaseInService s p && !s.modeOff (p / 2)) || droppedNow s p) &&
    decide (s.getf (Pg.PHASE p) Reg.PHASE.SLOW_LIM_TAU * 20000000 ≤ (s.phase p).acc)

/-- Does a phase meet a drop-out cause now? -/
def anyCause (s : State) (p : Nat) : Bool := runCause s p || rangeCause s p || zeroCause s p || slowCause s p

/-- Is a drop-out of phase `p` masked (R119, R121)? -/
def masked (s : State) (p : Nat) : Bool :=
  let q := sibling p
  let c := p / 2
  phaseInService s q && !anyCause s q &&
    (s.flag (Pg.PHASE (2 * c)) Reg.PHASE.CTRL_PAIR_MODE ||
      decide (absI (shareOf s c (quant (s.chan (s.lead c)).iref)) ≤
        (s.get (Pg.PHASE q) Reg.PHASE.STAGE_RATING : Int) * 50000))

/-- Capacity re-evaluated at a drop-out: the reference is clamped at once, the perturbed one too (R105). -/
def clampNow (s : State) (l : Nat) : State :=
  let x := s.chan l
  let cap := ratN (gangCapacity s l)
  if cap < absR x.iref then
    let y := if x.iref < 0 then -cap else cap
    let was := s.flag (Pg.CHAN l) Reg.CHAN.STATUS_CAP_LIMITED
    let s := s.putb (Pg.CHAN l) Reg.CHAN.STATUS_CAP_LIMITED true
    let s := if was then s else s.event (Pg.CHAN l) 2
    (s.setChan l { x with iref := y, out := clampRat (-cap) cap x.out }).puti (Pg.CHAN l) Reg.CHAN.IREF (quant y)
  else s

/-- A phase drops out (R118 to R120): PWM LOW, the status of the lowest cause of the frame, one message per cause (`mayDrop`),
masked or not as at its first cause (R119);
a channel left without a phase in service enters its safe state whatever the severity maps. -/
def dropOut (s : State) (p cause kind addr : Nat) : State :=
  let pg := Pg.PHASE p
  let c := p / 2
  let l := s.lead c
  let m := if droppedNow s p then (s.phase p).maskedDrop else masked s p
  let again := s.flag pg Reg.PHASE.STATUS_DROPPED
  let s := if again ∧ s.get pg Reg.PHASE.STATUS_DROP_CAUSE ≤ cause then s
    else s.put pg Reg.PHASE.STATUS_DROP_CAUSE cause
  let s := (s.putb pg Reg.PHASE.STATUS_DROPPED true).event pg 2
  let s := phaseLow (s.put pg Reg.PHASE.DROP_FRAME s.frame32) p
  let s := s.setPhase p { s.phase p with causes := cause :: (s.phase p).causes, maskedDrop := m }
  let s := raise s pg kind (addr + 128 * b2n m)
  clampNow (if capacityOf s c = 0 then chanSafe s l 1 2 else s) l

/-- May a cause take effect on a phase: in service, or dropped out in this same frame and not yet for this cause (R118)? -/
def mayDrop (s : State) (p cause : Nat) : Bool :=
  phaseInService s p || (droppedNow s p && !(s.phase p).causes.contains cause)

/-- A slow-limit trip that is due (R113, R118): cause 5. -/
def slowTrip (s : State) (p : Nat) : State :=
  if slowCause s p && mayDrop s p 5 then dropOut s p 5 Kind.OC_SLOW 0 else s

/-! ### Zero capture and the isolation switch (R124) -/

/-- Capture the IMON zero of a phase, `raw` in 10 µV at the ball. -/
def captureZero (s : State) (p : Nat) (raw : Int) : State := s.putSat (Pg.PHASE p) Reg.PHASE.IMON_ZERO_OFFSET (raw - 120000)

/-- A phase whose captured zero is outside its range drops out (R124). Where the drop-out of its sibling at the same capture has
taken it out of service, its own cause still counts (R118). -/
def dropZeros (s : State) (c : Nat) : State :=
  let out := [2 * c, 2 * c + 1].filter (fun p => phaseInService s p && zeroCause s p)
  out.foldl (fun s p => if mayDrop s p 4 then dropOut s p 4 Kind.OC_FAST 3 else s) s

/-! ### The frame boundary (R111 to R116) -/

/-- The slow-limit accumulator of a phase at a boundary (R111, R113). `imon` is the mean IMON current of the frame just ended in
mA, `len` its length in core cycles. -/
def slowFrame (s : State) (p : Nat) (imon : Int) (len : Nat) : State :=
  let pg := Pg.PHASE p
  let x := s.phase p
  let rated : Int := s.get pg Reg.PHASE.STAGE_RATING * 500
  let q : Int := if x.switching then roundDiv (100 * imon * imon) (rated * rated) else 0
  let a : Int := (x.acc : Int) + (q - s.get pg Reg.PHASE.SLOW_LIM_LEVEL_SQ) * len
  let a := a.toNat
  let s := s.setPhase p { x with acc := a }
  let s := s.put pg Reg.PHASE.SLOW_ACC (satNat 32 (a / 200))
  let warn := decide (s.get pg Reg.PHASE.SLOW_LIM_WARN * s.get pg Reg.PHASE.SLOW_LIM_TAU * 200000 ≤ a)
  let s := if warn && !s.flag pg Reg.PHASE.STATUS_SLOW_WARN then s.event pg 1 else s
  s.putb pg Reg.PHASE.STATUS_SLOW_WARN warn

/-- The rest of one boundary of a phase: 64-frame mean, TRIPPING and DUTY; the causes of the frame that has ended are past. -/
def phaseFrame (s : State) (p : Nat) (imon : Int) : State :=
  let pg := Pg.PHASE p
  let x := s.phase p
  let im := if x.switching then lastN 64 (x.imons ++ [imon]) else x.imons
  let s := s.setPhase p { x with imons := im, tripped := false, cycled := false, causes := [], maskedDrop := false }
  let s := s.putb pg Reg.PHASE.STATUS_TRIPPING x.tripped
  let s := if x.cycled then s.put pg Reg.PHASE.DUTY_FINE (min x.duty 65535) else s
  let full := decide (im.length = 64)
  let s := s.putb pg Reg.PHASE.IAVG_VALID full
  if full then s.putSat pg Reg.PHASE.IAVG_CURRENT (quant (ratI (sumInt im) / 64)) else s

/-- Count a frame in which both phases of a channel switched, before the frame that begins; the count starts afresh when the
channel connects (R68, R114). -/
def countSwitching (s : State) (c : Nat) : State :=
  let x := s.chan c
  if (s.phase (2 * c)).switching && (s.phase (2 * c + 1)).switching then
    s.setChan c { x with framesSwitching := x.framesSwitching + 1 }
  else s

/-- Set both trims of a channel: −t on the even phase, +t on the odd one (R114, R115). -/
def setTrims (s : State) (c : Nat) (t : Int) : State :=
  (s.putSat (Pg.PHASE (2 * c)) Reg.PHASE.TRIM_FINE (-t)).putSat (Pg.PHASE (2 * c + 1)) Reg.PHASE.TRIM_FINE t

/-- TRIM_LIMIT of both phases, with its event on the change from 0 to 1 (R116). -/
def setTrimLimit (s : State) (c : Nat) (b : Bool) : State :=
  [2 * c, 2 * c + 1].foldl (fun s p =>
    let was := s.flag (Pg.PHASE p) Reg.PHASE.STATUS_TRIM_LIMIT
    let s := s.putb (Pg.PHASE p) Reg.PHASE.STATUS_TRIM_LIMIT b
    if b && !was then s.event (Pg.PHASE p) 3 else s) s

/-- The deadband in µA from the two mean currents in mA (R114). -/
def balDeadband (s : State) (c : Nat) (ia ib : Int) : Int :=
  max ((s.getf (Pg.PHASE (2 * c)) Reg.PHASE.BAL_CFG_DEADBAND : Int) * absI (ia + ib))
    ((s.getf (Pg.PHASE (2 * c)) Reg.PHASE.BAL_CFG_DB_MIN : Int) * 50000)

/-- One balancing step past observation (R114). -/
def balanceStep (s : State) (c : Nat) (ia ib : Int) : State :=
  let e := Pg.PHASE (2 * c)
  let db := balDeadband s c ia ib
  let d := (ia - ib) * 1000
  let t := s.geti (Pg.PHASE (2 * c + 1)) Reg.PHASE.TRIM_FINE
  let st : Int := s.getf e Reg.PHASE.BAL_CFG_STEP
  let t := if db < d then t + st else if d < -db then t - st else t
  let lim : Int := s.getf e Reg.PHASE.BAL_CFG_TRIM_MAX * s.get Pg.TRANSIT Reg.TRANSIT.PWM_CFG_DIV * 32 / 1000
  let atLim := decide (lim ≤ absI t)
  setTrimLimit (setTrims s c (if atLim then signI t * lim else t)) c atLim

/-- Does balancing act on a channel: both phases in service and BAL_CFG.EN (R114)? -/
def balances (s : State) (c : Nat) : Bool :=
  phaseInService s (2 * c) && phaseInService s (2 * c + 1) && decide (s.getf (Pg.PHASE (2 * c)) Reg.PHASE.BAL_CFG_EN = 1)

/-- BAL_ACTIVE of both phases. -/
def setBalActive (s : State) (c : Nat) (b : Bool) : State :=
  [2 * c, 2 * c + 1].foldl (fun s p => s.putb (Pg.PHASE p) Reg.PHASE.STATUS_BAL_ACTIVE b) s

/-- The procedure passes observation (R114, R116): BAL_ACTIVE, EVENT.BAL_START the first time since the channel connected,
and a balancing step. -/
def balancePass (s : State) (c : Nat) (ia ib : Int) : State :=
  let x := s.chan c
  let s := if x.balStarted then s else (s.event (Pg.PHASE (2 * c)) 4).event (Pg.PHASE (2 * c + 1)) 4
  balanceStep (setBalActive (s.setChan c { x with balStarted := true }) c true) c ia ib

/-- Balancing at a boundary (R114): the step once observation is complete, otherwise trims of 0. At the boundary that
completes the observation itself, BALANCING_OBSERVATION_DONE takes the step. -/
def balanceFrame (s : State) (c : Nat) (ia ib : Int) : State :=
  let x := s.chan c
  if balances s c ∧ 64 ≤ x.framesSwitching then
    (if x.balStarted ∨ 64 < x.framesSwitching then balancePass s c ia ib else s)
  else setTrimLimit (setBalActive (setTrims s c 0) c false) c false

/-- Has the ZV rule found a channel short: 200 ms of frames with the cell at 0 V and the ZV current (R148)? -/
def zvShort (s : State) (l : Nat) : Bool :=
  decide (s.cstate l = Ch.RUN ∧ actingMode s l = Mode.ZV ∧ 200000 ≤ (s.chan l).zvRun * s.periodUs)

/-- CHANNEL_SHORT by the ZV rule (R148). -/
def shortChan (s : State) (l : Nat) : State := chanSafe (raise s (Pg.CHAN l) Kind.CHANNEL_SHORT 1) l 1 4

/-- One boundary of the ZV short rule (R148): frames with V_K below 5 mV and at least 90 % of ZV_CFG.ILIM. -/
def countZv (s : State) (l : Nat) : State :=
  let x := s.chan l
  let i := sumInt ((s.gang l).map (fun m => (s.chan m).ik))
  let hit := decide (s.cstate l = Ch.RUN ∧ actingMode s l = Mode.ZV ∧ x.vk < 5000 ∧
    (s.get (Pg.CHAN l) Reg.CHAN.ZV_CFG_ILIM : Int) * 90 ≤ i)
  s.setChan l { x with zvRun := if hit then x.zvRun + 1 else 0 }

end Sys2Proof.Machine
end

