-- ==== Sys2Proof/Machine/Recipe.lean ====
section
/-! DEFINITION. Recipes and step tables (chapter 9): records in recipe memory, validation, terminations, the choice of
one action in a frame and its taking at the boundary, temperature zones, hold and resume. -/

namespace Sys2Proof.Machine

/-! ### Validation (R260, R261) -/

/-- Is a zone table record well formed (*Zone table*)? -/
def zoneOk (s : State) (b r : Nat) : Bool :=
  let n := recByte s b r 1
  let used := fun z =>
    decide (recByte s b r (0x06 + 8 * z) ≤ 100) && decide (recByte s b r (0x07 + 8 * z) ≤ 2) &&
    decide (absI (recI s b r (0x08 + 8 * z) 2) ≤ 20000) && decide (recU s b r (0x0A + 8 * z) 2 = 0) &&
    (decide (n ≤ z + 2) || decide (recI s b r (0x04 + 8 * z) 2 < recI s b r (0x0C + 8 * z) 2))
  committed s b r && decide (recByte s b r 0 = 2) && decide (1 ≤ n ∧ n ≤ 7) && decide (recByte s b r 2 ≤ 100) &&
    decide (recByte s b r 3 = 0) &&
    (List.range 7).all (fun z => if z < n then used z else decide (recU s b r (0x04 + 8 * z) 8 = 0))

/-- Is SET2 as the mode requires it (*Step record*), for a gang of `n`? -/
def set2Ok (s : State) (b r n : Nat) : Bool :=
  let m := recByte s b r 1
  let v := recI s b r 8 4
  if m = Mode.CV ∨ m = Mode.CCCV then decide (0 ≤ v ∧ v ≤ 500000)
  else if m = Mode.CP then decide (absI v ≤ 300000 * n)
  else if m = Mode.PULSE then true
  else decide (v = 0)

/-- Are the pulse fields as the mode requires them? -/
def pulseOk (s : State) (b r : Nat) : Bool :=
  if recByte s b r 1 = Mode.PULSE then decide (1 ≤ recU s b r 0x1A 2 ∧ 1 ≤ recU s b r 0x1C 2)
  else decide (recU s b r 0x1A 2 = 0 ∧ recU s b r 0x1C 2 = 0 ∧ recU s b r 0x1E 2 = 0)

/-- Is an unused slot all zero, and TARGET 0 unless GOTO? -/
def slotZero (t : Term) : Bool :=
  if t.qty = 0 then decide (t.cmp = 0 ∧ t.act = 0 ∧ t.target = 0 ∧ t.thresh = 0)
  else decide (t.act = 1 ∨ t.target = 0)

/-- The field checks of BAD_CODE 0x4 for a step record on a gang of `n`. -/
def fieldsOk (s : State) (b r n : Nat) : Bool :=
  decide (recByte s b r 1 < 16) && decide (recByte s b r 2 < 4) && decide (recByte s b r 3 < 16) &&
  decide (absI (recI s b r 4 4) ≤ 6000000 * n) && set2Ok s b r n &&
  decide (1 ≤ recU s b r 0x0C 2 ∧ recU s b r 0x0C 2 ≤ 20000) &&
  decide (1 ≤ recU s b r 0x0E 2 ∧ recU s b r 0x0E 2 ≤ 20000) &&
  decide (1 ≤ recU s b r 0x10 2 ∧ recU s b r 0x10 2 ≤ 10000) &&
  decide (recU s b r 0x12 2 ≤ 5500 ∧ recU s b r 0x14 2 ≤ recU s b r 0x12 2) &&
  decide (1 ≤ recU s b r 0x16 2 ∧ recU s b r 0x16 2 ≤ 6300 * n) && pulseOk s b r &&
  decide (recByte s b r 0x22 ≤ 4) && decide (recByte s b r 0x23 < 16) &&
  (List.range 4).all (fun k => slotZero (termOf s b r k))

/-- Is a slot's QTY, CMP, ACT and GOTO TARGET valid (BAD_CODE 0x5)? -/
def slotOk (len : Nat) (t : Term) : Bool :=
  decide (t.qty = 0) || (decide (t.qty ≤ 0xC ∧ t.cmp ≤ 5 ∧ t.act ≤ 5) && (decide (t.act ≠ 1) || decide (t.target < len)))

/-- Has a record both a V and a Q condition (R254)? -/
def hasVQ (s : State) (b r : Nat) : Bool :=
  let ts := (List.range 4).map (termOf s b r)
  ts.any (fun t => decide (t.qty = 2)) && ts.any (fun t => decide (t.qty = 4))

/-- The failure of one record of a list, lowest code first; `loops` counts the LOOP steps up to and with this one. -/
def recFailure (s : State) (b r len n loops : Nat) : Option Nat :=
  let m := recByte s b r 1 % 16
  let z := recByte s b r 0x20
  if !committed s b r then some 1
  else if recBad s b r || (decide (z ≠ 0xFF) && recBad s b z) then some 0xA
  else if recByte s b r 0 ≠ 1 then some 2
  else if m = 0 ∨ 7 < m then some 3
  else if !fieldsOk s b r n then some 4
  else if !(List.range 4).all (fun k => slotOk len (termOf s b r k)) then some 5
  else if z ≠ 0xFF ∧ zoneOk s b z = false then some 6
  else if 4 < loops ∧ recByte s b r 0x21 ≠ 0 then some 7
  else if bitOf (recByte s b r 2) 1 && !hasVQ s b r then some 9
  else none

/-- The record that a failure names: the record of the step, or its zone table where that holds the memory error. -/
def badRecord (s : State) (b r code : Nat) : Nat := if code = 0xA && !recBad s b r then recByte s b r 0x20 else r

/-- The first failure of a channel's list in list order: BAD_CODE and BAD_STEP (*Validation failures*). -/
def validate (s : State) (c : Nat) : Option (Nat × Nat) :=
  let p := Pg.CHAN c
  let base := s.get p Reg.CHAN.RCP_CFG_BASE
  let len := listLen s c
  let b := c / 4
  if 256 < base + len ∨ len ≤ s.get p Reg.CHAN.RCP_CFG_ENTRY then some (8, base)
  else
    ((List.range len).foldl (fun (a : Option (Nat × Nat) × Nat) n =>
      let loops := a.2 + b2n (decide (recByte s b (base + n) 0x21 ≠ 0))
      match a.1 with
      | some f => (some f, loops)
      | none => ((recFailure s b (base + n) len (s.gangSize c) loops).map (fun k => (k, badRecord s b (base + n) k)), loops)) (none, 0)).1

/-- The zone tables that the steps of a channel's list name, ascending, each once (R262). -/
def listZones (s : State) (c : Nat) : List Nat :=
  let steps := ((List.range (listLen s c)).map (stepRec s c)).filter (fun r => decide (recByte s (c / 4) r 0 = 1))
  let zs := steps.map (fun r => recByte s (c / 4) r 0x20)
  (List.range 255).filter (fun z => zs.contains z)

/-- LIST_CRC over present memory (R262). -/
def listCrc (s : State) (c : Nat) : Nat :=
  let rs := (List.range (listLen s c)).map (stepRec s c) ++ listZones s c
  crc16 (rs.flatMap (fun r => [recByte s (c / 4) r 0x3E, recByte s (c / 4) r 0x3F]))

/-- Is a record in the list of a channel of its bank whose STATE is neither OFF nor SAFE, a follower's reading its lead's
(R164), or a zone table that a step of such a list references (R240)? -/
def recRunning (s : State) (b r : Nat) : Bool :=
  (bankChans b).any (fun c =>
    !s.modeOff c &&
      ((List.range (listLen s c)).any (fun n => decide (stepRec s c n = r)) || (listZones s c).contains r))

/-! ### Zones (R257, R258) -/

/-- The latest temperature of a channel's cell in 0.1 °C (HKRAIL:CELL_T). -/
def cellTemp (s : State) (c : Nat) : Int := s.geti Pg.HKRAIL (Reg.HKRAIL.CELL_T_TEMP.ix c)

/-- T_HI of zone `z` of a table. -/
def zoneHi (s : State) (b zt z : Nat) : Int := recI s b zt (4 + 8 * z) 2

/-- The zone at a step start (R257). -/
def zoneStart (s : State) (b zt : Nat) (temp : Int) : Nat :=
  let n := recByte s b zt 1
  match (List.range (n - 1)).find? (fun z => decide (temp < zoneHi s b zt z)) with
  | some z => z
  | none => n - 1

/-- The zone of the next frame: at most one up or down (R257). -/
def zoneMove (s : State) (b zt z : Nat) (temp : Int) : Nat :=
  let n := recByte s b zt 1
  if z + 1 < n ∧ zoneHi s b zt z ≤ temp then z + 1
  else if 0 < z ∧ temp < zoneHi s b zt (z - 1) - recByte s b zt 2 then z - 1
  else z

/-- The zone table by which setpoints are scaled: that of a zone with ACTION RUN (R258). -/
def scaleTable (s : State) (b r z : Nat) : Option Nat :=
  (zoneTable s b r).filter (fun zt => decide (zoneAction s b zt z = 0))

/-- A setpoint in a zone: × I_SCALE / 100, truncated toward zero, where the zone's ACTION is RUN (R258). -/
def zoneScale (s : State) (b r z : Nat) (v : Int) : Int :=
  match scaleTable s b r z with
  | none => v
  | some zt => Int.tdiv (v * recByte s b zt (6 + 8 * z)) 100

/-- Write a record's mode, target setpoints and zone into the CHAN page (R241, R258); a step that opens in a PAUSE zone keeps
its record's setpoints (DEDUCED, log entry 110). -/
def writeTargets (s : State) (c r z : Nat) : State :=
  let b := c / 4
  let p := Pg.CHAN c
  let m := recByte s b r 1
  let set2 := recI s b r 8 4
  let cur := recI s b r 4 4
  let scale := decide (m ≠ Mode.REST ∧ m ≠ Mode.ZV)
  let s := s.put p Reg.CHAN.CONTROL_MODE m
  let s := s.puti p Reg.CHAN.ISET (if scale then zoneScale s b r z cur else cur)
  if m = Mode.CV ∨ m = Mode.CCCV then
    let off := match scaleTable s b r z with
      | none => 0
      | some zt => recI s b zt (8 + 8 * z) 2
    s.put p Reg.CHAN.VSET_VOLTAGE (clampInt 0 500000 (set2 + off)).toNat
  else if m = Mode.CP then s.puti p Reg.CHAN.PSET (zoneScale s b r z set2)
  else if m = Mode.PULSE then s.puti p Reg.CHAN.PULSE_B (zoneScale s b r z set2)
  else s

/-- Write the fields of a record into the CHAN page (*Step record*). The zeros that stand for PULSE_TIME outside PULSE lie
outside its range: they carry no setting, and it keeps its value (R242; DEDUCED, log entry 43). -/
def writeStep (s : State) (c r z : Nat) : State :=
  let b := c / 4
  let p := Pg.CHAN c
  let s := writeTargets s c r z
  let s := s.put p Reg.CHAN.PRIORITY_LEVEL (recByte s b r 3)
  let s := s.put p Reg.CHAN.SLEW_UP_RATE (recU s b r 0x0C 2 * 100)
  let s := s.put p Reg.CHAN.SLEW_DOWN_RATE (recU s b r 0x0E 2 * 100)
  let s := s.put p Reg.CHAN.SLEW_V_RATE (recU s b r 0x10 2 * 100)
  let s := s.put p Reg.CHAN.VGUARD_HI (recU s b r 0x12 2)
  let s := s.put p Reg.CHAN.VGUARD_LO (recU s b r 0x14 2)
  let s := s.put p Reg.CHAN.IGUARD_CURRENT (recU s b r 0x16 2)
  let s := s.put p Reg.CHAN.TGUARD_TEMP (recU s b r 0x18 2)
  let s := if recByte s b r 1 % 16 = Mode.PULSE then
    (s.put p Reg.CHAN.PULSE_TIME_TA (recU s b r 0x1A 2)).put p Reg.CHAN.PULSE_TIME_TB (recU s b r 0x1C 2) else s
  s.put p Reg.CHAN.PULSE_COUNT_COUNT (recU s b r 0x1E 2)

/-- The zone of a record at a step start, 7 where it has none. -/
def startZone (s : State) (c r : Nat) : Nat :=
  match zoneTable s (c / 4) r with
  | none => 7
  | some zt => zoneStart s (c / 4) zt (cellTemp s c)

/-- RUNNING, or PAUSED in a zone with ACTION PAUSE. -/
def runOrPause (s : State) (c r z : Nat) : Nat :=
  match zoneTable s (c / 4) r with
  | none => Rs.RUNNING
  | some zt => if zoneAction s (c / 4) zt z = 1 then Rs.PAUSED else Rs.RUNNING

/-- Is the zone in force, or a zone it moves to, one with ACTION ABORT? -/
def zoneAborts (s : State) (c z : Nat) : Bool :=
  match zoneTable s (c / 4) (curRec s c) with
  | none => false
  | some zt => decide (z ≠ 7) && decide (zoneAction s (c / 4) zt z = 2)

/-! ### Quantities (R243 to R245) -/

/-- DVDT (`cur` false, µV/s) or DIDT (µA/s) over the derivative windows; none until 2W frames of the step (R245). -/
def derivative (s : State) (c : Nat) (cur : Bool) : Option Rat :=
  let w := 2 ^ s.get (Pg.CHAN c) Reg.CHAN.DERIV_CFG_WEXP
  let l := (s.recipe c).deriv.map (fun x => if cur then x.2 * 10 else x.1)
  if l.length < 2 * w then none
  else
    let new := sumInt (lastN w l)
    let old := sumInt (lastN w (l.take (l.length - w)))
    some (ratI ((new - old) * 1000000) / ratN (w * w * s.periodUs))

/-- The gang sum of an accumulator as the register shows it. -/
def gangAcc (s : State) (c : Nat) (f : ChanAcc → Int) (lsb : Int) : Int :=
  sumInt ((s.gang c).map (fun m => Int.tdiv (f (s.acc m)) lsb))

/-- The value of a quantity in its threshold's unit (*Termination quantities*); none where it is not available (R244). -/
def quantity (s : State) (c : Nat) (useAvg : Bool) (q : Nat) : Option Rat :=
  let p := Pg.CHAN c
  let bk := Pg.BANK (c / 4)
  let k := c % 4
  if q = 1 then some (ratN (((s.acc c).stepFrames + 1) * s.periodUs) / 1000)
  else if q = 2 then
    (if useAvg then
      (if s.flag bk (Reg.BANK.STATUS_VALID_V.ix k) then some (ratI (s.geti bk (Reg.BANK.AVG_V.ix k)) / 10) else none)
    else some (ratI (s.chan c).vk / 10))
  else if q = 3 then
    (if useAvg then
      (if (s.gang c).all (fun m => s.flag bk (Reg.BANK.STATUS_VALID_I.ix (m % 4))) then
        some (ratI (sumInt ((s.gang c).map (fun m => s.geti bk (Reg.BANK.AVG_I.ix (m % 4)))))) else none)
    else some (ratI (sumInt ((s.gang c).map (fun m => (s.chan m).ik)))))
  else if q = 4 then some (ratI (gangAcc s c (·.stepQ) 20) / 1000000000)
  else if q = 5 then some (ratI (gangAcc s c (·.stepE) 20000000000) / 1000000)
  else if q = 6 then derivative s c false
  else if q = 7 then derivative s c true
  else if q = 8 then
    (if s.flag Pg.HKRAIL (Reg.HKRAIL.CELL_T_VALID.ix c) then some (ratI (cellTemp s c)) else none)
  else if q = 9 then some (ratN (s.get bk (Reg.BANK.PROBE_R.ix k)))
  else if q = 0xA then
    some (if s.flag p Reg.CHAN.STATUS_CV_ACTIVE then ratN ((s.get p Reg.CHAN.CV_FRAMES + 1) * s.periodUs) / 1000 else 0)
  else if q = 0xB then some (ratN (s.get p Reg.CHAN.STATUS_ZV_DONE))
  else some (ratN (s.get p Reg.CHAN.STATUS_PULSE_DONE))

/-- A comparison (*Termination slot*, CMP). -/
def compare (cmp : Nat) (x : Rat) (t : Int) : Bool :=
  if cmp = 0 then decide (ratI t ≤ x)
  else if cmp = 1 then decide (x ≤ ratI t)
  else if cmp = 2 then decide (ratI t < x)
  else if cmp = 3 then decide (x < ratI t)
  else if cmp = 4 then decide (ratI t ≤ absR x)
  else decide (absR x ≤ ratI t)

/-! ### Evaluation (R246, R247) -/

/-- A met condition: its slot, its slot fields and x. -/
structure Met where
  slot : Nat
  term : Term
  x : Rat
  deriving DecidableEq, Repr

/-- The conditions met in a frame, and whether one was not available (R246). -/
def metTerms (s : State) (c : Nat) : List Met × Bool :=
  let b := c / 4
  let r := curRec s c
  let avg := bitOf (recByte s b r 2) 0
  (List.range 4).foldl (fun (a : List Met × Bool) k =>
    let t := termOf s b r k
    if t.qty = 0 then a
    else if rstate s c = Rs.PAUSED ∧ t.act ≠ 3 ∧ t.qty ≠ 8 then a
    else match quantity s c avg t.qty with
      | none => (a.1, true)
      | some x => if compare t.cmp x t.thresh then (a.1 ++ [⟨k, t, x⟩], a.2) else a) ([], false)

/-- The action chosen in a frame (R247): its code, 6 for a host JUMP, with the condition that chose it. -/
structure Choice where
  act : Nat
  zone : Bool
  slot : Nat
  qty : Nat
  value : Int
  target : Nat
  deriving DecidableEq, Repr

/-- The choice that a met condition makes. -/
def Met.choice (m : Met) : Choice := ⟨m.term.act, false, m.slot, m.term.qty, truncR m.x, m.term.target⟩

/-- The one action of a frame by the precedence of R247. -/
def choose (zoneAbort : Bool) (met : List Met) (jump : Option Nat) : Option Choice :=
  if zoneAbort then some ⟨3, true, 0, 0, 0, 0⟩
  else match met.find? (fun m => decide (m.term.act = 3)) with
    | some m => some m.choice
    | none => match jump with
      | some j => some ⟨6, false, 0, 0, 0, j⟩
      | none =>
        match met.find? (fun m => decide (m.term.act ≠ 5 ∧ m.term.qty ≠ 4 ∧ m.term.qty ≠ 5)) with
        | some m => some m.choice
        | none => (met.find? (fun m => decide (m.term.act ≠ 5))).map Met.choice

/-- A mark event (R264). -/
def markEvent (s : State) (c : Nat) (m : Met) : State :=
  let r := s.recipe c
  if bitOf r.marked m.slot then s
  else
    let w := endInfoWord s c ⟨0, 0, 5, false, m.slot, m.term.qty, 0, 0xFF, 15⟩
    let s := s.setRecipe c { r with marked := r.marked + 2 ^ m.slot }
    { s with events := s.events ++ [⟨c, true, w, s.frame, s.get (Pg.CHAN c) Reg.CHAN.STEP_TAG_TAG, truncR m.x, stepSums s c, cellIdOf s c⟩] }

/-- Voltage against charge (R254). -/
def qvCheck (s : State) (c : Nat) (met : List Met) : State :=
  let p := Pg.CHAN c
  let on := bitOf (recByte s (c / 4) (curRec s c) 2) 1
  match met.find? (fun m => decide (m.term.qty = 4)) with
  | none => s
  | some m =>
    if on && !(met.any (fun m => decide (m.term.qty = 2))) && !s.flag p Reg.CHAN.RCP_STATUS_QV_RAISED then
      let s := s.putb p Reg.CHAN.RCP_STATUS_QV_RAISED true
      let s := s.putSat p Reg.CHAN.QV_Q (truncR m.x)
      let v := match quantity s c (bitOf (recByte s (c / 4) (curRec s c) 2) 0) 2 with
        | some x => truncR x
        | none => Int.tdiv (s.chan c).vk 10
      let s := s.putSat p Reg.CHAN.QV_V v
      raise s (Pg.ENG (c / 4)) Kind.QV_MISMATCH (c % 4)
    else s

/-- Is a channel's step under evaluation: a single or lead channel with SOURCE = 1 and a step in force, in CONNECT, RUN or
RAMPDOWN, with RSTATE RUNNING, PAUSED or HELD (R246, R265)? -/
def inRecipe (s : State) (c : Nat) : Bool :=
  !s.follower c && s.flag (Pg.CHAN c) Reg.CHAN.CONTROL_SOURCE && stepActive s c &&
    decide (s.cstate c = Ch.CONNECT ∨ s.cstate c = Ch.RUN ∨ s.cstate c = Ch.RAMPDOWN) &&
    decide (rstate s c = Rs.RUNNING ∨ rstate s c = Rs.PAUSED ∨ rstate s c = Rs.HELD)

/-- What the bank's engine decides in a frame for one channel (R246, R251, R257): the state with the frame's marks, QV
and derivative registers, the action, and the zone of the next frame. It uses the samples of the frame before and the
accumulators after the last boundary. -/
def decideFrame (s : State) (c : Nat) : State × Option Choice × Option Nat :=
  let p := Pg.CHAN c
  let rc := s.recipe c
  if !inRecipe s c then (s, none, none)
  else
    let s := match derivative s c false with
      | some x => s.putSat p Reg.CHAN.DVDT (truncR x)
      | none => s
    let s := match derivative s c true with
      | some x => s.putSat p Reg.CHAN.DIDT (truncR x)
      | none => s
    if rstate s c = Rs.HELD then
      (s, (match rc.jump with
        | some j => some ⟨6, false, 0, 0, 0, j⟩
        | none => if rc.cont then some ⟨0, false, 0, 0, 0, 0⟩ else none), none)
    else
      let met := metTerms s c
      let s := s.putb p Reg.CHAN.RCP_STATUS_AVG_WAIT met.2
      let s := (met.1.filter (fun m => decide (m.term.act = 5))).foldl (fun s m => markEvent s c m) s
      let s := qvCheck s c met.1
      let z := s.get p Reg.CHAN.RCP_STATUS_ZONE
      let z' := match zoneTable s (c / 4) (curRec s c) with
        | none => z
        | some zt => if s.flag Pg.HKRAIL (Reg.HKRAIL.CELL_T_VALID.ix c) then
            zoneMove s (c / 4) zt z (cellTemp s c) else z
      (s, choose (zoneAborts s c z') met.1 rc.jump, if z' = z then none else some z')

/-! ### Taking an action at the boundary (R248 to R253) -/

/-- The counter of a step with LOOP other than 0: such steps are numbered in list order (R248). -/
def loopIndex (s : State) (c step : Nat) : Nat :=
  ((List.range step).filter (fun n => decide (recByte s (c / 4) (stepRec s c n) 0x21 ≠ 0))).length % 4

/-- Loop counter `k` of LOOP_CNT. -/
def loopFld (k : Nat) : Fld := ⟨0x214, 8 * k + 7, 8 * k, 0⟩

/-- The restart of a step's own context: derivative windows, CV_FRAMES, marked slots, QV flag, pulse and ZV state (R249). -/
def freshContext (s : State) (c : Nat) : State :=
  let p := Pg.CHAN c
  let s := s.setRecipe c { s.recipe c with deriv := [], marked := 0 }
  let s := (s.put p Reg.CHAN.CV_FRAMES 0).putb p Reg.CHAN.RCP_STATUS_QV_RAISED false
  let s := (s.putb p Reg.CHAN.STATUS_ZV_DONE false).putb p Reg.CHAN.STATUS_PULSE_DONE false
  let s := s.put p Reg.CHAN.STATUS_PULSE_LEVEL 0
  let s := s.setChan c { s.chan c with pulseCount := 0, pulseTimer := 0, pulseStarted := false, zvRun := 0 }
  (s.gang c).foldl (fun s m => s.setChan m { s.chan m with probeRaised := false }) s

/-- The records that a step load reads: the step's and its zone table. -/
def stepReads (s : State) (c r : Nat) : List Nat :=
  let z := recByte s (c / 4) r 0x20
  if z = 0xFF then [r] else [r, z]

/-- BAD_CODE and BAD_STEP of a step load that fails (R253). -/
def loadFailure (s : State) (c r : Nat) : Option (Nat × Nat) :=
  match (stepReads s c r).find? (fun x => !committed s (c / 4) x) with
  | some x => some (1, x)
  | none => match (stepReads s c r).find? (fun x => recBad s (c / 4) x) with
    | some x => some (0xA, x)
    | none => if recByte s (c / 4) r 0 = 1 then none else some (2, r)

/-- RCP_STATUS names a record and the reason (R253, R261). -/
def showBad (s : State) (c : Nat) (e : Nat × Nat) : State :=
  (s.put (Pg.CHAN c) Reg.CHAN.RCP_STATUS_BAD_STEP e.2).put (Pg.CHAN c) Reg.CHAN.RCP_STATUS_BAD_CODE e.1

/-- Load a step's record: STEP, TAG, zone and every field it carries (R249). -/
def loadStep (s : State) (c n : Nat) : State :=
  let p := Pg.CHAN c
  let r := stepRec s c n
  let z := startZone s c r
  let s := s.put p Reg.CHAN.RCP_STATUS_STEP n
  let s := s.put p Reg.CHAN.STEP_TAG_TAG (recU s (c / 4) r 0x3C 2)
  let s := s.put p Reg.CHAN.RCP_STATUS_ZONE z
  let s := s.setRecipe c { s.recipe c with stepCrc := recU s (c / 4) r 0x3E 2 }
  countEcc (writeStep s c r z) c (stepReads s c r)

/-- The end of the list, an END or an ABORT (R250): the step closes, the engine clears ENABLE and the channel ramps down. -/
def endRecipe (s : State) (c : Nat) (a : Choice) (act result last : Nat) : State :=
  let s := closeStep s c ⟨result, 9, act, a.zone, a.slot, a.qty, a.value, 0xFF, Rs.ENDED⟩ last
  let s := putLogged s (Org.ENG (bankEngine s (c / 4))) (Pg.CHAN c) Reg.CHAN.CONTROL_ENABLE 0
  if s.cstate c = Ch.CONNECT then enterOff s c none last else enterRampdown s c none

/-- Close the step in force and open step `t` at this boundary (R248, R249); a load that fails acts as ABORT (R253). -/
def openNext (s : State) (c t : Nat) (a : Choice) (last : Nat) : State :=
  let p := Pg.CHAN c
  let b := c / 4
  let r := stepRec s c t
  match loadFailure s c r with
  | some e => endRecipe (showBad s c e) c { a with slot := 0, qty := 0, value := 0 } 7 1 last
  | none =>
    let old := s.get p Reg.CHAN.RCP_STATUS_STEP
    let s := closeStep s c ⟨0, 0, a.act, false, a.slot, a.qty, a.value, t, 15⟩ last
    let s := (s.gang c).foldl startStepAcc s
    let s := loadStep (freshContext s c) c t
    let s := setRstate s c (runOrPause s c r (s.get p Reg.CHAN.RCP_STATUS_ZONE))
    let s := logStep s (Org.ENG (bankEngine s b)) c old t
    let s := s.bump p Reg.CHAN.TRANSITIONS
    { s with opened := s.opened ++ [c] }

/-- Take the action of the step in force (R248). -/
def takeAction (s : State) (c : Nat) (a : Choice) (last : Nat) : State :=
  let p := Pg.CHAN c
  let st := s.get p Reg.CHAN.RCP_STATUS_STEP
  let len := listLen s c
  let go := fun (s : State) (t : Nat) => if t < len then openNext s c t a last else endRecipe s c a a.act 3 last
  if a.act = 0 then go s (st + 1)
  else if a.act = 1 then
    let loop := recByte s (c / 4) (curRec s c) 0x21
    let f := loopFld (loopIndex s c st)
    let cnt := s.get p f
    if loop = 0 then go s a.target
    else if cnt < loop then go (s.put p f (cnt + 1)) a.target
    else go (s.put p f 0) (st + 1)
  else if a.act = 6 then go s a.target
  else if a.act = 3 then endRecipe s c a 3 1 last
  else if a.act = 2 then endRecipe s c a 2 3 last
  else setRstate s c Rs.HELD

/-- The step in force moves to zone `z` (R257, R258): ZONE, ZONE_CHANGES, and the setpoints rescaled; a zone with ACTION PAUSE
writes none. -/
def moveZone (s : State) (c z : Nat) : State :=
  let p := Pg.CHAN c
  let s := (s.put p Reg.CHAN.RCP_STATUS_ZONE z).bump p Reg.CHAN.ZONE_CHANGES
  if zonePauses s c then s else writeTargets s c (curRec s c) z

/-- A zone change takes effect (R257, R258): the step pauses or runs again. -/
def applyZone (s : State) (c z : Nat) : State :=
  setRstate (moveZone s c z) c (runOrPause s c (curRec s c) z)

/-- The decision of a frame takes effect at the boundary (R246, R269): not for a channel that a reaction or a disable has
taken out of its step. A HOLD action leaves the step in force, so its zone still moves. -/
def applyDecision (s : State) (c : Nat) (a : Option Choice) (z : Option Nat) (last : Nat) : State :=
  let rc := s.recipe c
  let s := s.setRecipe c { rc with jump := none, cont := false }
  if !inRecipe s c || !s.flag (Pg.CHAN c) Reg.CHAN.CONTROL_ENABLE || (s.chan c).endPending.isSome ||
      decide (s.cstate c = Ch.RAMPDOWN) then s
  else match a with
    | some a =>
      let s := takeAction s c a last
      (match a.act, z with
        | 4, some z => moveZone s c z
        | _, _ => s)
    | none => match z with
      | some z => applyZone s c z
      | none => s

/-! ### Starting, connecting and frame counts (R262, R245) -/

/-- The run of a recipe that starts at this boundary is cleared before the frame that has ended is added (R214, R262). -/
def startRun (s : State) (c : Nat) : State :=
  if (s.recipe c).validated && decide (rstate s c = Rs.VALIDATING) && !(s.chan c).resume then
    (s.gang c).foldl (fun s m => s.setChan m { s.chan m with clrRun := true }) s
  else s

/-- A list fails (R261): REJECTED with the record and the reason, EVENT.RANGE_REJECT; the channel does not start. -/
def rejectList (s : State) (c : Nat) (e : Nat × Nat) : State :=
  let s := putLogged s (Org.ENG (bankEngine s (c / 4))) (Pg.CHAN c) Reg.CHAN.CONTROL_ENABLE 0
  let s := s.setChan c { s.chan c with resume := false }
  (setRstate (showBad s c e) c Rs.REJECTED).event (Pg.CHAN c) 8

/-- A validated recipe starts at a boundary (R262). A channel whose interrupted step was waiting to continue, and whose list
the carrier has validated again (R281), waits on. -/
def startRecipe (s : State) (c : Nat) : State :=
  let p := Pg.CHAN c
  let s := s.setRecipe c { s.recipe c with validated := false }
  if rstate s c ≠ Rs.VALIDATING then s
  else if (s.chan c).resume then setRstate s c Rs.WAITING
  else match loadFailure s c (stepRec s c (s.get p Reg.CHAN.RCP_CFG_ENTRY)) with
  | some e => rejectList s c e
  | none =>
    let s := s.put p Reg.CHAN.LIST_CRC_CRC (listCrc s c)
    let s := s.put p Reg.CHAN.LOOP_CNT 0
    let s := loadStep (freshContext s c) c (s.get p Reg.CHAN.RCP_CFG_ENTRY)
    let o := Org.ENG (bankEngine s (c / 4))
    let v := withBits (s.rd (addrOf p Reg.CHAN.CONTROL)).toNat 0 0 1
    let s := if enableBarred s c then refuse s o p 0x040 v Ev.RIGHT_REJECT else putLogged s o p Reg.CHAN.CONTROL_ENABLE 1
    setRstate s c Rs.WAITING

/-- A channel's step comes into force as it enters CONNECT, seen from the recipe engine (R262, R263, R268). `resumed`: an
interrupted step continues, and no step opens (R160). -/
def recipeConnected (s : State) (c : Nat) (resumed : Bool) : State :=
  let p := Pg.CHAN c
  if s.flag p Reg.CHAN.CONTROL_SOURCE && decide (s.cstate c = Ch.CONNECT) then
    let rc := s.recipe c
    let s := s.setRecipe c { rc with deriv := [] }
    let n := s.get p Reg.CHAN.RCP_STATUS_STEP
    let s := setRstate s c (if resumed && rc.held then Rs.HELD
      else runOrPause s c (curRec s c) (s.get p Reg.CHAN.RCP_STATUS_ZONE))
    let s := s.setRecipe c { s.recipe c with held := false }
    let s := (logStep s (Org.ENG (bankEngine s (c / 4))) c 0xFF n).bump p Reg.CHAN.TRANSITIONS
    if resumed then s else { s with opened := s.opened ++ [c] }
  else if s.cstate c = Ch.CONNECT ∧ resumed = false then { s with opened := s.opened ++ [c] }
  else s

/-- The zone of a step is chosen at the step start, which is the entry to CONNECT (R257, R262). -/
def zoneConnect (s : State) (c : Nat) : State :=
  let p := Pg.CHAN c
  let z := startZone s c (curRec s c)
  if s.flag p Reg.CHAN.CONTROL_SOURCE && decide (z ≠ s.get p Reg.CHAN.RCP_STATUS_ZONE) then
    writeTargets (s.put p Reg.CHAN.RCP_STATUS_ZONE z) c (curRec s c) z
  else s

/-- `tryConnect` with the recipe engine's part. -/
def connectChan (s : State) (starts : Bool) (c : Nat) : State :=
  let was := s.cstate c
  let res := (s.chan c).resume
  let s := if starts then zoneConnect s c else s
  let s := tryConnect s starts c
  if was = Ch.OFF ∧ s.cstate c = Ch.CONNECT ∧ s.follower c = false then recipeConnected s c res else s

/-- The channels that start at this boundary, all judged before any enters CONNECT, and then the faults of those that the
pre-check refuses (R143, R144). -/
def connectAll (s : State) : State :=
  let starts := (List.range (4 * s.bankCount)).filter (startsNow s)
  let bad := starts.filterMap (fun c => (preCheck s c (s.get (Pg.CHAN c) Reg.CHAN.CONTROL_MODE)).map (fun e => (c, e)))
  let s := forIdx (4 * s.bankCount) s (fun s c => connectChan s (starts.contains c) c)
  bad.foldl (fun (s : State) (e : Nat × (Nat × Nat)) => raiseIdle s (Pg.CHAN e.1) e.2.1 e.2.2) s

/-- A disable while the recipe waits for its start conditions ends it (log entry 33). -/
def endWaiting (s : State) (c : Nat) : State :=
  if rstate s c = Rs.WAITING ∧ s.flag (Pg.CHAN c) Reg.CHAN.CONTROL_ENABLE = false then setRstate s c Rs.ENDED else s

/-- One frame of a step in force: the derivative windows take the frame just ended, and CV_FRAMES counts it where CV_ACTIVE
is set (R243). A step starts it at 0, a mode or ISET that ends CV_ACTIVE too (R134); an interrupted step keeps it (R268). -/
def recipeFrame (s : State) (c : Nat) : State :=
  let p := Pg.CHAN c
  if stepActive s c && !s.follower c then
    let rc := s.recipe c
    let w := 2 ^ s.get p Reg.CHAN.DERIV_CFG_WEXP
    let i := sumInt ((s.gang c).map (fun m => (s.chan m).ik))
    let s := s.setRecipe c { rc with deriv := lastN (2 * w) (rc.deriv ++ [((s.chan c).vk, i)]) }
    if s.flag p Reg.CHAN.STATUS_CV_ACTIVE then s.bump p Reg.CHAN.CV_FRAMES else s
  else s

/-- Does the list and step record of an interrupted step still agree with the stored CRCs (R268)? With SOURCE = 0 there
is no list to check. -/
def resumeMatches (s : State) (c : Nat) : Bool :=
  let p := Pg.CHAN c
  !s.flag p Reg.CHAN.CONTROL_SOURCE ||
    (!(stepReads s c (curRec s c)).any (recBad s (c / 4)) && decide (listCrc s c = s.get p Reg.CHAN.LIST_CRC_CRC) &&
      decide (recU s (c / 4) (curRec s c) 0x3E 2 = (s.recipe c).stepCrc))

/-- An accepted resume (R160, R268): the record's setpoints written again, the zone selected afresh. ENABLE is set, and
logged, by the one who resumes. -/
def resumeStep (s : State) (c : Nat) : State :=
  let p := Pg.CHAN c
  let s := s.setChan c { s.chan c with resume := true }
  if s.flag p Reg.CHAN.CONTROL_SOURCE then
    let r := curRec s c
    let z := startZone s c r
    setRstate (countEcc (writeStep (s.put p Reg.CHAN.RCP_STATUS_ZONE z) c r z) c (stepReads s c r)) c Rs.WAITING
  else s

end Sys2Proof.Machine
end

