-- ==== Sys2Proof/Machine/Engines.lean ====
section
/-! DEFINITION. Engines, supervision and failover (chapter 10): stops, HOLD, the choice of a carrier, take-over and
hand-back, the hold limit, and restarts. -/

namespace Sys2Proof.Machine

/-- ENG:STATE.STATE codes. -/
abbrev Es.BOOTING : Nat := 1
abbrev Es.RUNNING : Nat := 2
abbrev Es.STOPPED : Nat := 3
abbrev Es.CARRYING : Nat := 4
abbrev Es.DEAD : Nat := 5

/-- ENG:STATE.STATE of an engine. -/
def estate (s : State) (e : Nat) : Nat := s.get (Pg.ENG e) Reg.ENG.STATE_STATE

/-- Does an engine execute? -/
def engRuns (s : State) (e : Nat) : Bool := decide (estate s e = Es.RUNNING ∨ estate s e = Es.CARRYING)

/-- Set an engine's state with the mirrors of ENGCTL: RUNNING, STOPPED, DEAD; for ENG.10, GAUGE:STATUS.FROZEN (R398). -/
def setEstate (s : State) (e v : Nat) : State :=
  let s := s.put (Pg.ENG e) Reg.ENG.STATE_STATE v
  let s := s.putBit Pg.ENGCTL Reg.ENGCTL.RUNNING_ENG e (decide (v = Es.RUNNING ∨ v = Es.CARRYING))
  let s := s.putBit Pg.ENGCTL Reg.ENGCTL.STOPPED_ENG e (decide (v = Es.STOPPED ∨ v = Es.BOOTING))
  let s := s.putBit Pg.ENGCTL Reg.ENGCTL.DEAD_ENG e (decide (v = Es.DEAD))
  if e = 10 then s.putb Pg.GAUGE Reg.GAUGE.STATUS_FROZEN (decide (v ≠ Es.RUNNING)) else s

/-- The bank an estimator carries, 0xF none (ENGCTL:CARRY, ENG:STATE.CARRIED). -/
def carried (s : State) (e : Nat) : Nat := s.get (Pg.ENG e) Reg.ENG.STATE_CARRIED

/-- Set the bank an estimator carries. -/
def setCarried (s : State) (e b : Nat) : State :=
  let s := s.put (Pg.ENG e) Reg.ENG.STATE_CARRIED b
  s.put Pg.ENGCTL (if e = 8 then Reg.ENGCTL.CARRY_ENG8 else Reg.ENGCTL.CARRY_ENG9) b

/-- The estimator assigned to a bank: ENG.8 serves banks 0 to 3, ENG.9 banks 4 to 7 (*Engines and their roles*). -/
def estimatorOf (b : Nat) : Nat := if b < 4 then 8 else 9

/-- An estimator: ENG.8 or ENG.9. -/
def isEstimator (e : Nat) : Bool := decide (e = 8 ∨ e = 9)

/-- The published results of the channels that an estimator serves become stale (R16, R311): the STALE bit of every VALID
block. -/
def staleResults (s : State) (e : Nat) : State :=
  forIdx 32 s (fun s c =>
    if estimatorOf (c / 4) = e then
      s.put (Pg.RESULT c) Reg.RESULT.RES_STATUS_STALE (s.get (Pg.RESULT c) Reg.RESULT.RES_STATUS_STALE ||| s.get (Pg.RESULT c) Reg.RESULT.RES_STATUS_VALID)
    else s)

/-- EST_SUSPENDED follows the estimator's state; at a suspension its published results become stale (R284). -/
def refreshSuspended (s : State) (e : Nat) : State :=
  let now := decide (estate s e ≠ Es.RUNNING)
  let was := s.flag (Pg.ENG e) Reg.ENG.STATE_EST_SUSPENDED
  if isEstimator e then (if now && !was then staleResults s e else s).putb (Pg.ENG e) Reg.ENG.STATE_EST_SUSPENDED now else s

/-- The bank whose tasks an engine ran until now: its own, or the one it carries; none for others. -/
def bankOfEngine (s : State) (e : Nat) : Option Nat :=
  if e < 8 then (if bankEngine s e = e then some e else none)
  else if isEstimator e ∧ carried s e < 8 then some (carried s e)
  else none

/-- The engine of a channel in VALIDATING or WAITING has stopped: its list is to be validated again (R281). -/
def askRedo (s : State) (c : Nat) : State :=
  if s.follower c = false ∧ (rstate s c = Rs.VALIDATING ∨ rstate s c = Rs.WAITING) then
    s.setRecipe c { s.recipe c with redo := true, validated := false }
  else s

/-- The Reeve stops an engine (R276, R277, R290): its page, ENGCTL, ENGINE_STALL with the cause as address. Its bank goes
to HOLD at the next boundary (R278). What it did in a frame whose heartbeat it had posted stands (R269, R275). The safety
engines restart by themselves (R285, R286). -/
def stopEngine (s : State) (e cause : Nat) : State :=
  let bank := bankOfEngine s e
  let sent := (s.eng e).beat
  let s := setEstate s e (if cause = 6 then Es.DEAD else Es.STOPPED)
  let s := s.put (Pg.ENG e) Reg.ENG.STOP_FRAME s.frame32
  let s := (s.put (Pg.ENG e) Reg.ENG.STOP_CAUSE_CAUSE cause).event (Pg.ENG e) 0
  let s := (s.bump Pg.ENGCTL Reg.ENGCTL.STALL_COUNT).event Pg.ENGCTL 0
  let s := s.put Pg.ENGCTL Reg.ENGCTL.LAST_STALL (16 * cause + e)
  let x := s.eng e
  let s := s.setEng e { x with stopReq := false, slotMiss := 0, restarting := decide (10 ≤ e ∧ cause ≠ 6), idleStop := bank.isNone }
  let s := if isEstimator e then setCarried (s.setEng e { s.eng e with ranBank := bank }) e 0xF
    else if e < 8 then s.setEng e { s.eng e with handback := false } else s
  let s := refreshSuspended s e
  let s := match bank with
    | some b =>
      let s := s.setEng b { s.eng b with stoppedNow := true, takeover := none, handback := false, posted := sent }
      (bankChans b).foldl askRedo s
    | none => s
  raise s (Pg.ENG e) Kind.ENGINE_STALL cause

/-- Is an estimator free to carry a bank: running and carrying none (R278, R279)? -/
def carrierFree (s : State) (e : Nat) : Bool := decide (estate s e = Es.RUNNING) && decide (carried s e = 0xF)

/-- The carrier of a bank: its own estimator, else the other; none where neither is free (R278). -/
def chooseCarrier (s : State) (b : Nat) : Option Nat :=
  let e := estimatorOf b
  if carrierFree s e then some e else if carrierFree s (17 - e) then some (17 - e) else none

/-- A channel in RUN enters HOLD (R153), in the mode of the step that has just opened (R269). -/
def holdChan (s : State) (c : Nat) : State :=
  if s.follower c = false ∧ s.cstate c = Ch.RUN then
    let p := Pg.CHAN c
    let s := applyMode s c
    let s := s.put p Reg.CHAN.STATUS_HELD_MODE (s.get p Reg.CHAN.STATUS_MODE)
    (s.put p Reg.CHAN.STATUS_MODE Mode.HOLD).setCstate c Ch.HOLD
  else s

/-- Does the Reeve run? While it is stopped no failover decision is taken (R286). -/
def reeveRuns (s : State) : Bool := decide (estate s 11 = Es.RUNNING)

/-- Boundary `h` of a bank whose engine has stopped: HOLD, and the choice of a carrier, which abandons its estimation
and loads the bank's context during frame `h` (R153, R278, R281, R284). -/
def holdBank (s : State) (b : Nat) : State :=
  let x := s.eng b
  if !reeveRuns s then s
  else if x.stoppedNow then
    let s := (bankChans b).foldl holdChan s
    let s := s.setEng b { x with
      stoppedNow := false, holdAt := some s.frame, holdLimit := s.getf Pg.ENGCTL Reg.ENGCTL.CFG_HOLD_LIMIT, takeover := none }
    if s.getf Pg.ENGCTL Reg.ENGCTL.CFG_FAILOVER_EN = 1 then
      match chooseCarrier s b with
      | some e =>
        let s := setCarried (setEstate s e Es.CARRYING) e b
        refreshSuspended (s.setEng b { s.eng b with takeover := some e }) e
      | none => raise s (Pg.ENG b) Kind.FAILOVER (0x80 + b)
    else raise s (Pg.ENG b) Kind.FAILOVER (0x80 + b)
  else if x.holdAt.isSome then (bankChans b).foldl holdChan s
  else s

/-- A held channel returns to RUN in HELD_MODE (R154). -/
def unholdChan (s : State) (c : Nat) : State :=
  if s.follower c = false ∧ s.cstate c = Ch.HOLD then
    let p := Pg.CHAN c
    let s := s.setChan c { s.chan c with seedRef := true }
    (s.put p Reg.CHAN.STATUS_MODE (s.get p Reg.CHAN.STATUS_HELD_MODE)).setCstate c Ch.RUN
  else s

/-- The loops of a running channel are seeded by the engine that runs them from now on (R280, R282). -/
def seedChan (s : State) (c : Nat) : State :=
  if s.follower c = false ∧ s.cstate c = Ch.RUN then s.setChan c { s.chan c with seedRef := true } else s

/-- A channel whose engine stopped in its VALIDATING or WAITING is validated again from the start by the engine that takes over
(R281). -/
def revalidate (s : State) (c : Nat) : State :=
  let due := (s.recipe c).redo
  let s := s.setRecipe c { s.recipe c with redo := false }
  if due && decide (rstate s c = Rs.VALIDATING ∨ rstate s c = Rs.WAITING) then setRstate s c Rs.VALIDATING else s

/-- The take-over at boundary h + 1 (R278 to R280). -/
def takeOver (s : State) (b : Nat) : State :=
  let x := s.eng b
  match x.takeover with
  | none => s
  | some e =>
    if estate s e = Es.CARRYING ∧ carried s e = b then
      let s := s.setEng b { x with takeover := none, holdAt := none }
      let s := (bankChans b).foldl (fun s c => revalidate (unholdChan s c) c) s
      raise (s.event Pg.ENGCTL 1) (Pg.ENG e) Kind.FAILOVER b
    else s.setEng b { x with takeover := none, stoppedNow := true }

/-- Has the engine that runs a bank's tasks, or ran them until it stopped in this frame, posted this frame's heartbeat (R269,
R275)? -/
def bankAlive (s : State) (b : Nat) : Bool :=
  let e := bankEngine s b
  (engRuns s e && decide ((s.eng e).beat = some s.frame32)) ||
    ((s.eng b).stoppedNow && decide ((s.eng b).posted = some s.frame32))

/-- The heartbeat of frame `n` at the boundary that ends it: an engine without one has overrun the frame, whatever the Reeve
does (R15, R93). -/
def checkOverrun (s : State) (e : Nat) : State :=
  if engRuns s e && (s.eng e).beat.isNone && !(s.eng e).booted then
    raise (s.bump (Pg.ENG e) Reg.ENG.MISSED) (Pg.ENG e) Kind.FRAME_OVERRUN 0
  else s

/-- The Reeve's check of frame `n`'s heartbeats at the boundary that ends it (R276): no heartbeat, a heartbeat of another
frame, or a host STOP; the lowest code is carried. An engine that has booted in the frame owes it no heartbeat (DEDUCED from R277,
R282: log entry 44). No engine is stopped while the Reeve does not run (R286). -/
def checkHeartbeat (s : State) (n e : Nat) : State :=
  let x := s.eng e
  if engRuns s e && reeveRuns s then
    match x.beat with
    | none =>
      if x.booted then
        let s := s.setEng e { x with booted := false }
        if x.stopReq then stopEngine s e 5 else s
      else stopEngine (checkOverrun s e) e 1
    | some k =>
      let s := s.setEng e { x with beat := none, booted := false }
      if k ≠ n % 2 ^ 32 then stopEngine s e 4 else if x.stopReq then stopEngine s e 5 else s
  else (checkOverrun s e).setEng e { (checkOverrun s e).eng e with beat := none, booted := false }

/-- A stopped engine begins its restart: its state is booting (R277, *ENG function registers*). -/
def beginRestart (s : State) (e : Nat) : State :=
  refreshSuspended (setEstate (s.setEng e { s.eng e with restarting := true, stopReq := false, beat := none }) e Es.BOOTING) e

/-- An estimator stopped while carrying no bank is restarted at the next boundary when EST_RESTART = 1 (R282). -/
def autoRestart (s : State) (e : Nat) : State :=
  if estate s e = Es.STOPPED ∧ s.getf Pg.ENGCTL Reg.ENGCTL.CFG_EST_RESTART = 1 ∧ (s.eng e).idleStop then
    beginRestart s e
  else s

/-- The restart of a stopped engine begins (R277). -/
def restartEngine (s : State) (e : Nat) : State :=
  if estate s e = Es.STOPPED then beginRestart s e else s

/-- A restart completes (R277): the engine boots with the same patches, or stays DEAD. A recipe engine is due the
hand-back of its bank (R282). -/
def restartDone (s : State) (e : Nat) (ramOk : Bool) : State :=
  let s := s.setEng e { s.eng e with restarting := false }
  if ramOk then
    let s := (setEstate s e Es.RUNNING).event (Pg.ENG e) 1
    let s := refreshSuspended (s.event Pg.ENGCTL 4) e
    let s := s.setEng e { s.eng e with beat := none, booted := decide (e < 10) }
    if e < 8 then s.setEng e { s.eng e with handback := true } else s
  else stopEngine s e 6

/-- The bank is handed back to its own engine: the carrier resumes estimation, and channels still held where nothing
carried the bank return to RUN (R154, R282; DEDUCED, log entry 44). -/
def handBack (s : State) (b : Nat) : State :=
  let e := bankEngine s b
  let held := (s.eng b).holdAt.isSome
  let s := s.setEng b { s.eng b with handback := false, holdAt := none }
  let s := if e = b then s else refreshSuspended (setCarried (setEstate s e Es.RUNNING) e 0xF) e
  let s := if held then (bankChans b).foldl (fun s c => revalidate (unholdChan s c) c) s else (bankChans b).foldl seedChan s
  s.event Pg.ENGCTL 2

/-- Has a bank a channel in HOLD? -/
def bankInHold (s : State) (b : Nat) : Bool := (bankChans b).any (fun c => !s.follower c && decide (s.cstate c = Ch.HOLD))

/-- The hold limit of a bank runs out: HOLD_EXPIRED and, where a channel was still in HOLD, FAILOVER (R281). -/
def holdEnds (s : State) (b : Nat) (held : Bool) : State :=
  let s := (s.setEng b { s.eng b with holdAt := none }).event Pg.ENGCTL 3
  if held then raise s (Pg.ENG b) Kind.FAILOVER (0x40 + b) else s

/-- Channels of a bank still in HOLD at the limit enter RAMPDOWN (R154, R281); one without a reference enters OFF (R156).
ENABLE is cleared, so that the interrupted step continues only by a resume (R160; DEDUCED, log entry 74). -/
def holdExpired (s : State) (b len : Nat) : State :=
  let t := (bankChans b).foldl (fun s c =>
    if s.follower c = false ∧ s.cstate c = Ch.HOLD then
      let s := putLogged s Org.HW (Pg.CHAN c) Reg.CHAN.CONTROL_ENABLE 0
      tryRampEnd (commitRef (stepRef (enterRampdown s c (some (2, 8))) c len true false) c len) c (s.frame - 1)
    else s) s
  let t := closePending t (s.frame - 1)
  holdEnds t b (bankInHold s b)

/-- Boundary work of the engines before the heartbeat check: take-overs chosen at the last boundary, then HOLD of banks
whose engine has stopped since. -/
def engineBoundary (s : State) : State :=
  let s := forIdx 8 s takeOver
  forIdx 8 s holdBank

/-- An estimator that has stopped has no rights in a bank from the boundary on. -/
def endRights (s : State) (e : Nat) : State := s.setEng e { s.eng e with ranBank := none }

/-- The heartbeat check of frame `n` and the automatic restart of estimators. -/
def heartbeatBoundary (s : State) (n : Nat) : State :=
  let s := autoRestart (autoRestart (endRights (endRights s 8) 9) 8) 9
  forIdx 10 s (fun s e => checkHeartbeat s n e)

end Sys2Proof.Machine
end

