-- ==== Sys2Proof/Machine/Trig.lean ====
section
/-! DEFINITION. Sine, cosine, logarithm and square root in fixed point, for tones and fits (chapter 11). The spec's
formulas are exact; these carry 40 fraction bits (log entry 16). -/

namespace Sys2Proof.Machine

/-- One: 2^40. -/
abbrev fixOne : Int := 1099511627776

/-- Alternating Taylor terms t, t·x²/(k+1)(k+2), … summed, in 60 fraction bits. -/
def taylor : Nat → Nat → Int → Int → Int
  | 0, _, _, _ => 0
  | n + 1, k, x2, t => t + taylor n (k + 2) x2 (-(t * x2 / 2 ^ 60) / ((k + 1) * (k + 2)))

/-- Half of π in 60 fraction bits. -/
def halfPi60 : Int := 1811004864519280711

/-- The sine of `num`/`den` of a turn, 40 fraction bits. -/
def sinTurn (num den : Nat) : Int :=
  let f : Nat := if den = 0 then 0 else num % den * 2 ^ 64 / den
  let q := f / 2 ^ 62
  let x : Int := (f % 2 ^ 62 : Nat) * halfPi60 / 2 ^ 62
  let x2 := x * x / 2 ^ 60
  let s := taylor 14 1 x2 x
  let c := taylor 14 0 x2 (2 ^ 60)
  (if q = 0 then s else if q = 1 then c else if q = 2 then -s else -c) / 2 ^ 20

/-- The cosine of `num`/`den` of a turn, 40 fraction bits. -/
def cosTurn (num den : Nat) : Int := sinTurn (4 * num + den) (4 * den)

/-- A fixed-point number as a rational. -/
def fixR (x : Int) : Rat := ratI x / ratI fixOne

/-- The square root of a non-negative rational, to 40 fraction bits of its numerator. -/
def sqrtR (r : Rat) : Rat :=
  if r ≤ 0 then 0 else ratN (Nat.sqrt (r.num.toNat * r.den * 2 ^ 80)) / ratN (r.den * 2 ^ 40)

/-- z + z³/3 + z⁵/5 + … in 60 fraction bits. -/
def atanhSeries : Nat → Nat → Int → Int → Int
  | 0, _, _, _ => 0
  | n + 1, k, z2, t => t / k + atanhSeries n (k + 2) z2 (t * z2 / 2 ^ 60)

/-- The natural logarithm of a rational between 0 and 1, 40 fraction bits. -/
def lnUnit (r : Rat) : Rat :=
  let m := (r.num.toNat * 2 ^ 60) / r.den
  if m = 0 then 0
  else
    let e := 59 - Nat.log2 m
    let y : Int := (m * 2 ^ e : Nat)
    let z := (y - 2 ^ 60) * 2 ^ 60 / (y + 2 ^ 60)
    let l := 2 * atanhSeries 30 1 (z * z / 2 ^ 60) z
    fixR ((l - e * 799144290325165979) / 2 ^ 20)

end Sys2Proof.Machine
end

