-- ==== Sys2Proof/Machine/Grading.lean ====
section
/-! DEFINITION. Grading and impedance (chapter 11): tone sets, tones and windows, the perturbation of the reference, the
least-squares fit, capacity, DCIR, OCV relaxation, K-value and their publication. -/

namespace Sys2Proof.Machine

/-! ### Tone sets (R295, R296) -/

/-- The register index of tone `k` of set `t`. -/
def toneIx (t k : Nat) : Nat := 8 * t + k

/-- Period, amplitude and phase of a tone. -/
def toneP (s : State) (t k : Nat) : Nat := s.get Pg.ESTIM (Reg.ESTIM.TONE_PERIOD.ix (toneIx t k))
def toneA (s : State) (t k : Nat) : Nat := s.get Pg.ESTIM (Reg.ESTIM.TONE_AMP.ix (toneIx t k))
def tonePh (s : State) (t k : Nat) : Nat := s.get Pg.ESTIM (Reg.ESTIM.TONE_PHASE.ix (toneIx t k))

/-- Is a tone used (R295)? -/
def toneUsed (s : State) (t k : Nat) : Bool := decide (toneA s t k ≠ 0 ∧ toneP s t k ≠ 0)

/-- The used tones of a set, in TONE order. -/
def usedTones (s : State) (t : Nat) : List Nat := (List.range 8).filter (fun k => toneUsed s t k)

/-- The largest used period of a set. -/
def maxPeriod (s : State) (t : Nat) : Nat := ((usedTones s t).map (toneP s t)).foldl max 0

/-- The first failed check of *Tone set checks*, 0 where the set passes (R295). -/
def toneCheck (s : State) (t : Nat) : Nat :=
  let u := usedTones s t
  let ps := u.map (toneP s t)
  let us := s.periodUs
  if u.isEmpty then 1
  else if (List.range 8).any (fun k => decide ((toneA s t k = 0) ≠ (toneP s t k = 0))) then 2
  else if ps.any (fun p => decide (p * us < 1000 ∨ 10000000 < p * us)) then 3
  else if ps.any (fun p => decide (1 < (ps.filter (fun q => decide (q = p))).length)) then 4
  else if ps.any (fun p => decide (maxPeriod s t % p ≠ 0)) then 5
  else if 100 < sumNat (u.map (toneA s t)) then 6
  else 0

/-- Check a set as at COMMIT: VALID, or the first failed check (R295). -/
def checkSet (s : State) (t : Nat) : State :=
  let f := toneCheck s t
  let s := s.putb Pg.ESTIM (Reg.ESTIM.SET_CFG_VALID.ix t) (decide (f = 0))
  let s := s.put Pg.ESTIM (Reg.ESTIM.SET_CFG_FAIL.ix t) f
  if f = 0 then s else s.event Pg.ESTIM 0

/-- The tone set of a channel's step in force: PERTURB − 1; none without one (R241, R291). -/
def stepSet (s : State) (c : Nat) : Option Nat :=
  if stepActive s c && s.flag (Pg.CHAN c) Reg.CHAN.CONTROL_SOURCE && !s.follower c then
    let p := recByte s (c / 4) (curRec s c) 0x22
    if p = 0 ∨ 4 < p then none else some (p - 1)
  else none

/-- SET_CFG.IN_USE of every set (R296). -/
def refreshInUse (s : State) : State :=
  forIdx 4 s (fun s t => s.putb Pg.ESTIM (Reg.ESTIM.SET_CFG_IN_USE.ix t)
    ((List.range 32).any (fun c => decide (stepSet s c = some t))))

/-! ### Estimator (R16, R284, R310) -/

/-- Is estimation for a channel's bank suspended (R284)? -/
def suspended (s : State) (c : Nat) : Bool :=
  s.flag (Pg.ENG (estimatorOf (c / 4))) Reg.ENG.STATE_EST_SUSPENDED

/-- Q_e: the quanta of an estimator in each frame (R310). -/
def quantaPerFrame (s : State) : Nat := (s.nominal - 100) / 250

/-- Quanta an estimator has reserved for windows. -/
def windowQuanta (s : State) (e : Nat) : Nat :=
  sumNat ((List.range 32).map (fun c =>
    if estimatorOf (c / 4) = e then ((s.grade c).win.map (·.quanta)).getD 0 else 0))

/-- ESTIM:LOAD; an estimator that the member lacks has no quanta (R19). -/
def refreshLoad (s : State) : State :=
  let s := s.put Pg.ESTIM Reg.ESTIM.LOAD_QE (quantaPerFrame s)
  let s := s.put Pg.ESTIM Reg.ESTIM.LOAD_USED8 (2 + windowQuanta s 8)
  s.put Pg.ESTIM Reg.ESTIM.LOAD_USED9 (if s.engPresent 9 then 2 + windowQuanta s 9 else 0)

/-! ### Discards (R292, R299) -/

/-- Record a discard: the function, the reason, the counters and the event (R292). -/
def discard (s : State) (c fn code : Nat) : State :=
  let p := Pg.RESULT c
  let s := (s.put p Reg.RESULT.RES_STATUS_DISCARD_FN fn).put p Reg.RESULT.RES_STATUS_DISCARD_CODE code
  ((s.bump p Reg.RESULT.Z_DISCARDS).bump Pg.ESTIM Reg.ESTIM.DISCARDED).event p 5

/-- Is a DCIR pulse still to come in the step: no estimate of it is in progress? -/
def dcirWaits (g : GradeState) : Bool :=
  match g.dcir with
  | some r => decide (r.stage = 1)
  | none => false

/-- Discard every estimate in progress on a channel with one reason; not capacity with `keepCap`, and not a DCIR pulse that is
still to come with `keepPend`. -/
def discardAll (s : State) (c code : Nat) (keepCap keepPend : Bool) : State :=
  let g := s.grade c
  let keepD := keepPend && dcirWaits g
  let s := if g.win.isSome then discard s c 0 code else s
  let s := if g.cap.isSome && !keepCap then discard s c 1 code else s
  let s := if g.dcir.isSome && !keepD then discard s c 2 code else s
  let s := if g.ocv.isSome then discard s c 3 code else s
  let s := if g.k.isSome then discard s c 4 code else s
  s.setGrade c { s.grade c with
    win := none, cap := if keepCap then g.cap else none, dcir := if keepD then g.dcir else none, ocv := none, k := none }

/-! ### OCV tables (R307, R308) -/

/-- The OCV point `p` of table `t` in 10 µV: 0 the generic table, 1 to 4 the committed slots (R309), whose record holds
TYPE_TAG and the 21 points. -/
def ocvPoint (s : State) (t p : Nat) : Nat :=
  if t = 0 then s.get Pg.ESTIM (Reg.ESTIM.GENERIC_VOLTAGE.ix p)
  else match s.gwords (0x10 + t) with
    | some l => nth 0 l (p + 1)
    | none => 0

/-- OCV_SEL of a channel. -/
def ocvSel (s : State) (c : Nat) : Nat := s.get Pg.ESTIM ⟨0x060 + 4 * (c / 8), 4 * (c % 8) + 3, 4 * (c % 8), 0⟩

/-- The table that an OCV_SEL selects: the generic table for a slot that is not LEARNED (R308). -/
def ocvTable (s : State) (t : Nat) : Nat :=
  if t = 0 ∨ s.flag Pg.ESTIM (Reg.ESTIM.OCV_HDR_LEARNED.ix (t - 1)) = false then 0 else t

/-- The segment of a table that holds a voltage in 10 µV; none outside the table. -/
def ocvSegment (s : State) (t : Nat) (v : Rat) : Option Nat :=
  (List.range 20).find? (fun p => decide (ratN (ocvPoint s t p) ≤ v ∧ v ≤ ratN (ocvPoint s t (p + 1))))

/-- SOC in 0.01 % by linear interpolation, and RANGE (R307). -/
def ocvSoc (s : State) (t : Nat) (v : Rat) : Int × Bool :=
  if v < ratN (ocvPoint s t 0) then (0, true)
  else if ratN (ocvPoint s t 20) < v then (10000, true)
  else match ocvSegment s t v with
    | none => (0, true)
    | some p =>
      let a := ratN (ocvPoint s t p)
      let b := ratN (ocvPoint s t (p + 1))
      if a = b then (500 * p, false) else (quant (500 * (ratN p + (v - a) / (b - a))), false)

/-! ### Starting (R291, R303, R312) -/

/-- Is a mode eligible for tones and DCIR: CC, CP (tones only), or CCCV while CV_ACTIVE = 0? -/
def eligible (s : State) (c : Nat) (cp : Bool) : Bool :=
  let m := s.cmode c
  decide (s.cstate c = Ch.RUN) &&
    (decide (m = Mode.CC) || (cp && decide (m = Mode.CP)) ||
      (decide (m = Mode.CCCV) && !s.flag (Pg.CHAN c) Reg.CHAN.STATUS_CV_ACTIVE))

/-- Offset in milli-volt register to µV. -/
def mvToUv (n : Nat) : Int := n * 1000

/-- A capacity measurement as its step starts. -/
def capStart (s : State) (c : Nat) : CapRun :=
  let hi := mvToUv (s.get Pg.ESTIM Reg.ESTIM.CAP_LIMITS_V_HI)
  let lo := mvToUv (s.get Pg.ESTIM Reg.ESTIM.CAP_LIMITS_V_LO)
  let up := decide (0 < s.geti (Pg.CHAN c) Reg.CHAN.ISET)
  { stage := 1, startV := if up then lo else hi, endV := if up then hi else lo, up := up, q0 := 0, e0 := 0, f0 := 0,
    q := 0, e := 0, f := 0, part := false, last := 0, flags := 0 }

/-- A DCIR measurement as its step starts. -/
def dcirStart (s : State) : DcirRun :=
  let p := Pg.ESTIM
  let ds := [s.get p Reg.ESTIM.DCIR_D_0_D1, s.get p Reg.ESTIM.DCIR_D_0_D2, s.get p Reg.ESTIM.DCIR_D_1_D3]
  { stage := 1, start := s.get p Reg.ESTIM.DCIR_CFG_START, bexp := s.get p Reg.ESTIM.DCIR_D_1_BEXP,
    delta := s.geti p Reg.ESTIM.DCIR_CFG_DELTA_I * 1000, delays := ds, slewRun := 0, cleanRun := 0, hist := [],
    edge := 0, vb := 0, ib := 0, got := [none, none, none], subst := false }

/-- A relaxation fit as its step starts. -/
def ocvStart (s : State) (c : Nat) : OcvRun :=
  ⟨none, 0, s.get Pg.ESTIM Reg.ESTIM.OCV_CFG_SKIP * 1000, s.get Pg.ESTIM Reg.ESTIM.OCV_CFG_BLOCK * 1000, [0, 0, 0],
    false, 0, ocvSel s c⟩

/-- A K-value measurement as its step starts; K_START in whole frames. -/
def kStart (s : State) (c : Nat) : KRun :=
  ⟨none, 0, ceilDivNat (s.get Pg.ESTIM Reg.ESTIM.K_CFG_K_START * 1000000) s.periodUs,
    s.get Pg.ESTIM Reg.ESTIM.K_CFG_KEXP, 0, [], false, 0, ocvSel s c, s.get Pg.ESTIM Reg.ESTIM.CAP_NOM_CAPACITY⟩

/-- Is the tone set of a channel's step VALID, where it has one (R296)? -/
def toneSetOk (s : State) (c : Nat) : Bool :=
  match stepSet s c with
  | some t => s.flag Pg.ESTIM (Reg.ESTIM.SET_CFG_VALID.ix t)
  | none => true

/-- A step in force that no opening has been seen of, resumed after a reset that lost its grading (R63, R160): its tone set is
judged as it resumes. -/
def gradeLatch (s : State) (c : Nat) : State :=
  if stepActive s c && (s.grade c).toneOk.isNone then
    let p := Pg.CHAN c
    s.setGrade c { s.grade c with
      tag := s.get p Reg.CHAN.STEP_TAG_TAG, step := s.get p Reg.CHAN.RCP_STATUS_STEP, toneOk := some (toneSetOk s c) }
  else s

/-- A step opens on a lead or single channel: the grading functions of its record that its mode allows start (R291). A
PERTURB set that is not VALID is discarded with reason 8 (R296). -/
def gradeOpen (s : State) (c : Nat) : State :=
  let g := s.grade c
  let p := Pg.CHAN c
  let s := s.setGrade c { GradeState.init with
    tag := s.get p Reg.CHAN.STEP_TAG_TAG, step := s.get p Reg.CHAN.RCP_STATUS_STEP
    capCell := g.capCell, pulse := g.pulse, closing := g.closing
    results := g.results.map (fun r => { r with live := false }), toneOk := some (toneSetOk s c) }
  if !s.flag (Pg.CHAN c) Reg.CHAN.CONTROL_SOURCE || s.follower c then s
  else
    let g := recByte s (c / 4) (curRec s c) 0x23
    let m := recByte s (c / 4) (curRec s c) 1
    let on := !suspended s c
    let s := if toneSetOk s c then s else discard s c 0 8
    let iset := s.geti (Pg.CHAN c) Reg.CHAN.ISET
    s.setGrade c { s.grade c with
      cap := if on && bitOf g 0 && decide (m = Mode.CC ∨ m = Mode.CCCV ∨ m = Mode.CP) && decide (iset ≠ 0) then
        some (capStart s c) else none
      dcir := if bitOf g 1 && decide (m = Mode.CC ∨ m = Mode.CCCV) then some (dcirStart s) else none
      ocv := if on && bitOf g 2 && decide (m = Mode.REST) then some (ocvStart s c) else none
      k := if on && bitOf g 3 && decide (m = Mode.REST) then some (kStart s c) else none }

/-! ### Results (R292, R301 to R307) -/

/-- The 32-bit pattern of an integer saturated to a signed word. -/
def w32 (i : Int) : Nat := unsigned 32 (satSigned 32 i)

/-- Queue a result of the step that measured it for publication (R292). -/
def queueResult (s : State) (c : Nat) (block : Nat) (words : List (Nat × Nat)) (u : Option Bool) : State :=
  let g := s.grade c
  s.setGrade c { g with results := g.results ++ [⟨block, words, u, g.tag, g.step, true⟩] }

/-- The capacity result (R302); `inc`: the step ended before an end mark. Without a start mark the spec states no charge,
energy or frames: free values (log entry 76). -/
def capResult (s : State) (c : Nat) (r : CapRun) (inc : Bool) : State :=
  let none1 := decide (r.stage = 1)
  let q := unsigned 64 (if none1 then Config.openCapacity s.free else r.q - r.q0)
  let e := unsigned 64 (if none1 then Config.openCapacity (s.free + 1) else r.e - r.e0)
  let f := unsigned 32 (if none1 then Config.openCapacity (s.free + 2) else ((r.f - r.f0 : Nat) : Int))
  let s' := queueResult s c 1
    [(0x180, q % 2 ^ 32), (0x184, q / 2 ^ 32), (0x188, e % 2 ^ 32), (0x18C, e / 2 ^ 32), (0x190, f),
      (0x194, b2n r.part + 2 * b2n inc + r.flags), (0x198, r.last % 2 ^ 32)] none
  { s' with free := if none1 then s'.free + 3 else s'.free }

/-- One delay of a DCIR result in 0.1 µΩ, truncated toward zero; a step of no current is a free value (R304). -/
def dcirAt (s : State) (r : DcirRun) (k : Nat) : Int :=
  match nth none r.got k with
  | none => 0
  | some (v, i) =>
    let d := ratI i - r.ib
    if d = 0 then Config.openQuotient s.free else truncR ((ratI v - r.vb) / d * 1000000)

/-- The DCIR result (R304). -/
def dcirResult (s : State) (c : Nat) (r : DcirRun) (nopulse inc : Bool) : State :=
  let di : Int := match nth none r.got 0 with
    | some (_, i) => quant (ratI i - r.ib)
    | none => 0
  let v := fun k => if nopulse then 0 else w32 (dcirAt s r k)
  let s' := queueResult s c 2
    [(0x1A0, v 0), (0x1A4, v 1), (0x1A8, v 2), (0x1AC, if nopulse then 0 else w32 di), (0x1B0, r.edge % 2 ^ 32),
      (0x1B4, b2n nopulse + 2 * b2n inc + 4 * b2n r.subst)] none
  { s' with free := s'.free + 1 }

/-- The relaxation fit (R305). -/
def ocvResult (s : State) (c : Nat) (r : OcvRun) : State :=
  let l := ratN r.block
  let m := fun k => ratI (nth 0 r.sums k) / l
  let d1 := m 0 - m 1
  let d2 := m 1 - m 2
  let q := d2 / d1
  let ok := decide (d1 ≠ 0) && decide (0 < q) && decide (q < 1)
  let inf := if ok then m 2 - d2 * q / (1 - q) else m 2
  let tau := if ok then -(l * ratN s.periodUs / 1000) / lnUnit q else 0
  let t := ocvTable s r.sel
  let soc := ocvSoc s t (inf / 10)
  queueResult s c 3
    [(0x1C0, w32 (quant (m 2))), (0x1C4, w32 (quant inf)), (0x1C8, satNat 32 (quant tau).toNat), (0x1CC, soc.1.toNat),
      (0x1D0, r.last % 2 ^ 32), (0x1D4, b2n (!ok) + 2 * b2n soc.2 + 4 * b2n r.subst)] (some (decide (t = 0)))

/-- The capacity to use for LEAK_I in coulombs (R307): the channel's own valid result for this cell, else CAP_NOM `n`; none
where there is none. -/
def capToUse (s : State) (c n : Nat) : Option Rat :=
  let p := Pg.RESULT c
  let own := decide (s.get p Reg.RESULT.RES_STATUS_VALID / 2 % 2 = 1) &&
    decide (s.get p Reg.RESULT.CAP_FLAGS_FLAGS % 4 = 0) && decide ((s.grade c).capCell = (s.chan c).cellId)
  if own then some (ratI (absI (signed 64 (s.get64 p Reg.RESULT.CAP_Q_LO Reg.RESULT.CAP_Q_HI))) / 1000000000000)
  else if n = 0 then none
  else some (ratN n * 36 / 10)

/-- The K-value result at a DONE step end, or the discard of a step too short to hold both windows apart (R306). -/
def kResult (s : State) (c : Nat) (r : KRun) : State :=
  let w := 2 ^ r.kexp
  if r.n < r.wait + 2 * w then discard s c 4 6
  else
    let vs := ratI r.vs / ratN w
    let ve := ratI (sumInt (r.tail.map (·.1))) / ratN w
    let span := ratN ((r.n - w - r.wait) * s.periodUs) / 1000000
    let rate := (ve - vs) / span
    let t := ocvTable s r.sel
    let cap := capToUse s c r.nom
    let out := decide (ve / 10 < ratN (ocvPoint s t 0) ∨ ratN (ocvPoint s t 20) < ve / 10)
    let seg := (ocvSegment s t (ve / 10)).map (fun p => ratN (ocvPoint s t (p + 1)) - ratN (ocvPoint s t p))
    let leak : Int := match cap, seg with
      | none, _ => 0
      | some q, some dv => if dv = 0 then Config.openQuotient s.free else quant (-(rate * q * 5) / (dv / 100000) / 100 * 1000)
      | some _, none => Config.openQuotient s.free
    let s' := queueResult s c 4
      [(0x1E0, w32 (quant (rate * 864000))), (0x1E4, satNat 32 (quant span).toNat), (0x1E8, w32 leak),
        (0x1EC, r.last % 2 ^ 32), (0x1F0, b2n cap.isNone + 2 * b2n out + 4 * b2n (r.subst || r.tail.any (·.2)))]
      (some (decide (t = 0)))
    { s' with free := s'.free + 1 }

/-! ### Demodulation (R300) -/

/-- Cosine and sine amplitudes of tone `k` with the linear drift removed, the drift, and the squared residual. -/
structure FitOut where
  a : List Rat
  b : List Rat
  resid : Rat

/-- Fit one series of a window: closed form of the least squares of R300. The regressors over the window are orthogonal
but for the line; `al`, `be` are the line's own tone components, −1 and −cot(πn/m). -/
def fitSeries (m : Nat) (ns : List Nat) (f : FitSum) : FitOut :=
  let mr := ratN m
  let be := ns.map (fun n => -(fixR (cosTurn n (2 * m)) / fixR (sinTurn n (2 * m))))
  let xc := f.c.map fixR
  let xs := f.s.map fixR
  let jj := mr * (mr * mr - 1) / 12 - mr / 2 * (be.map (fun b => 1 + b * b)).foldl (· + ·) 0
  let xj := ratI f.jx - (mr - 1) / 2 * ratI f.x + xc.foldl (· + ·) 0 -
    ((xs.zip be).map (fun e => e.1 * e.2)).foldl (· + ·) 0
  let c1 := if jj = 0 then 0 else xj / jj
  let a0 := xc.map (fun x => 2 * x / mr)
  let b0 := xs.map (fun x => 2 * x / mr)
  let r := ratI f.xx - ratI (f.x * f.x) / mr - mr / 2 * ((a0.zip b0).map (fun e => e.1 * e.1 + e.2 * e.2)).foldl (· + ·) 0 -
    c1 * c1 * jj
  ⟨a0.map (fun a => a + c1), (b0.zip be).map (fun e => e.1 - c1 * e.2), if r < 0 then 0 else r⟩

/-- The impedance result words of one tone. -/
def toneWords (s : State) (m k : Nat) (av bv ai bi rv : Rat) (period : Nat) : List (Nat × Nat) :=
  let o := 0x20 * k
  let d := ai * ai + bi * bi
  let amp := sqrtR d
  let re : Int := if d = 0 then Config.openQuotient s.free else quant ((av * ai + bv * bi) / d * 1000000)
  let im : Int := if d = 0 then Config.openQuotient (s.free + 1) else quant ((av * bi - bv * ai) / d * 1000000)
  let unc : Int := if amp = 0 then Config.openQuotient (s.free + 2) else quant (sqrtR (rv / ratN m * 2 / ratN m) / amp * 1000000)
  [(0x080 + o, 1000000000 / (period * s.periodUs)), (0x084 + o, w32 re), (0x088 + o, w32 im),
    (0x08C + o, satNat 32 unc.toNat), (0x090 + o, satNat 32 (quant amp).toNat),
    (0x094 + o, satNat 32 (quant (sqrtR (av * av + bv * bv))).toNat)]

/-- The impedance result of a closed window (R300, R301). -/
def impedanceResult (s : State) (c : Nat) (w : ImpWindow) : State :=
  let t := w.set
  let u := usedTones s t
  let ns := u.map (fun k => w.m / toneP s t k)
  let fv := fitSeries w.m ns w.v
  let fi := fitSeries w.m ns w.i
  let blank := (List.range 8).flatMap (fun k => (List.range 6).map (fun j => (0x080 + 0x20 * k + 4 * j, 0)))
  let words := (List.range u.length).flatMap (fun j =>
    toneWords s w.m (nth 0 u j) (nth 0 fv.a j) (nth 0 fv.b j) (nth 0 fi.a j) (nth 0 fi.b j) fv.resid (toneP s t (nth 0 u j)))
  let info := (s.grade c).tag * 65536 + (s.grade c).step * 256 + u.length
  let s' := queueResult s c 0
    ([(0x060, (w.start + w.m - 1) % 2 ^ 32), (0x064, info), (0x068, w32 (quant (w.dc / ratN w.m))), (0x06C, w.m)] ++
      blank ++ words) none
  { s' with free := s'.free + 3 }

/-- Close a complete window: its result is queued (R298, R300). -/
def closeImp (s : State) (c : Nat) : State :=
  match (s.grade c).closing with
  | some w => impedanceResult (s.setGrade c { s.grade c with closing := none }) c w
  | none => s

/-- Have a DCIR pulse's frames all been measured (R304)? -/
def dcirDone (s : State) (c : Nat) : Bool :=
  match (s.grade c).dcir with
  | some r => decide (r.stage = 2 ∧ r.edge + r.delays.foldl max 0 ≤ s.frame)
  | none => false

/-- Publish a complete DCIR measurement (R304). -/
def closeDcir (s : State) (c : Nat) : State :=
  match (s.grade c).dcir with
  | some r => if dcirDone s c then dcirResult (s.setGrade c { s.grade c with dcir := none }) c r false false else s
  | none => s

/-- Are the three blocks of an OCV relaxation complete (R305)? -/
def ocvDone (s : State) (c : Nat) : Bool :=
  match (s.grade c).ocv with
  | some r => decide (r.skip + 3 * r.block ≤ r.n)
  | none => false

/-- Publish a complete relaxation fit (R305). -/
def closeOcv (s : State) (c : Nat) : State :=
  match (s.grade c).ocv with
  | some r => if ocvDone s c then ocvResult (s.setGrade c { s.grade c with ocv := none }) c r else s
  | none => s

/-! ### The frame just ended (R297 to R306) -/

/-- Add one frame to a series: its value and the phases of the used tones. -/
def FitSum.add (f : FitSum) (m j : Nat) (ns : List Nat) (x : Int) : FitSum :=
  { x := f.x + x, jx := f.jx + j * x, xx := f.xx + x * x
    c := (f.c.zip ns).map (fun e => e.1 + x * cosTurn (e.2 * j) m)
    s := (f.s.zip ns).map (fun e => e.1 + x * sinTurn (e.2 * j) m) }

/-- Was a sample of the frame clipped (R175)? -/
def frameClip (s : State) (c : Nat) : Bool := (s.gang c).any (fun m => (s.chan m).clip)

/-- The reason that discards a DCIR in the frame just ended (*Discard reasons* 1, 2, 4), from the flags that held in it. -/
def clampReason (s : State) (c : Nat) : Option Nat :=
  let p := Pg.CHAN c
  if !s.flag p Reg.CHAN.STATUS_SLEW_DONE then some 1
  else if s.flag p Reg.CHAN.STATUS_CAP_LIMITED || s.flag p Reg.CHAN.STATUS_TOKEN_LIMITED then some 2
  else if frameClip s c then some 4
  else none

/-- Was a V_K or I sample of the frame substituted? -/
def frameSubst (s : State) (c : Nat) : Bool := (s.chan c).substV || (s.gang c).any (fun m => (s.chan m).substI)

/-- The gang's current of the frame just ended. -/
def gangI (s : State) (c : Nat) : Int := sumInt ((s.gang c).map (fun m => (s.chan m).ik))

/-- Is a reference in 10 µA at least TONE_MIN_DC `mn` in mA? -/
def aboveMinDc (mn : Nat) (x : Rat) : Bool := decide (ratN (mn * 100) ≤ absR x)

/-- The reason that discards an impedance window in the frame just ended; the lowest of *Discard reasons* that holds. A window
whose tones have stopped and started anew at a retarget, with SLEW_DONE 1 throughout, has reason 1 (DEDUCED from R297: log entry
98). -/
def windowReason (s : State) (c : Nat) (w : ImpWindow) : Option Nat :=
  let r := if decide (((s.grade c).tone.map (·.n0)).getD w.n0 ≠ w.n0) then some 1 else clampReason s c
  if r = some 1 ∨ r = some 2 then r
  else if frameSubst s c then some 3
  else if r.isSome then r
  else if s.flag (Pg.CHAN c) Reg.CHAN.STATUS_CV_ACTIVE || !aboveMinDc w.minDc (s.chan c).iref then some 7
  else none

/-- The impedance window of a frame: a discard, after which the next window may start at the following boundary (R299), or one
more frame (R300). A window that has its m frames waits for its close, and the next may start at once (R298). -/
def windowFrame (s : State) (c : Nat) : State :=
  let g := s.grade c
  match g.win with
  | some w =>
    (match windowReason s c w with
    | some r => let s := discard s c 0 r
      s.setGrade c { g with win := none, nextWin := s.frame + 1 }
    | none =>
      let ns := (usedTones s w.set).map (fun k => w.m / toneP s w.set k)
      let w := { w with
        j := w.j + 1, v := w.v.add w.m w.j ns (s.chan c).vk, i := w.i.add w.m w.j ns (gangI s c)
        dc := w.dc + (s.chan c).iref }
      if w.j < w.m then s.setGrade c { g with win := some w }
      else
        let s := closeImp s c
        s.setGrade c { s.grade c with win := none, closing := some w, nextWin := s.frame })
  | none => s

/-- Capacity: the value compared in a frame, in µV (R302). -/
def capValue (s : State) (c : Nat) : Int :=
  let b := Pg.BANK (c / 4)
  if s.flag b (Reg.BANK.STATUS_VALID_V.ix (c % 4)) then s.geti b (Reg.BANK.AVG_V.ix (c % 4)) else (s.chan c).vk

/-- Capacity marks of the frame `n` just ended (R302). -/
def capFrame (s : State) (c n : Nat) : State :=
  let g := s.grade c
  match g.cap with
  | none => s
  | some r =>
    let v := capValue s c
    let hit := fun (lim : Int) => if r.up then decide (lim ≤ v) else decide (v ≤ lim)
    let first := decide ((s.acc c).stepFrames = 1)
    let p := Pg.CHAN c
    let r := { r with
      q := gangAcc s c (·.stepQ) 20, e := gangAcc s c (·.stepE) 20000000000, f := (s.acc c).stepFrames, last := n
      flags := 4 * s.get p Reg.CHAN.ACC_FLAGS_STEP_SUBST + 8 * s.get p Reg.CHAN.ACC_FLAGS_STEP_GAP }
    if r.stage = 1 then
      let r := if first && hit r.startV then { r with stage := 2, part := true }
        else if hit r.startV then { r with stage := 2, q0 := r.q, e0 := r.e, f0 := r.f } else r
      s.setGrade c { g with cap := some r }
    else if hit r.endV then capResult (s.setGrade c { g with cap := none }) c r false
    else s.setGrade c { g with cap := some r }

/-- DCIR in the frame `n` just ended: baseline, discards and delay samples (R303, R304). -/
def dcirFrame (s : State) (c n : Nat) : State :=
  let g := s.grade c
  match g.dcir with
  | none => s
  | some r =>
    let why := clampReason s c
    let sub := frameSubst s c
    let smp := ((s.chan c).vk, gangI s c)
    if r.stage = 1 then
      let ok := s.flag (Pg.CHAN c) Reg.CHAN.STATUS_SLEW_DONE && decide (s.cstate c = Ch.RUN)
      let clean := ok && decide (why ≠ some 2)
      s.setGrade c { g with dcir := some { r with
        slewRun := r.slewRun + b2n ok, cleanRun := if clean then r.cleanRun + 1 else 0
        hist := lastN (2 ^ r.bexp) (r.hist ++ [(smp.1, smp.2, sub, frameClip s c)]) } }
    else if r.edge + r.delays.foldl max 0 ≤ n then s
    else match why with
      | some k => (discard s c 2 k).setGrade c { g with dcir := none }
      | none =>
        let d := n + 1 - r.edge
        let use := (List.range 3).any (fun k => decide (nth 0 r.delays k = d))
        let got := (List.range 3).map (fun k => if nth 0 r.delays k = d then some smp else nth none r.got k)
        s.setGrade c { g with dcir := some { r with got := got, subst := r.subst || (use && sub) } }

/-- Did a phase of the channel switch in the frame just ended? -/
def anySwitching (s : State) (c : Nat) : Bool :=
  (s.gang c).any (fun m => (s.phase (2 * m)).switching || (s.phase (2 * m + 1)).switching)

/-- OCV relaxation and K-value in the frame `n` just ended (R305, R306). -/
def restFrame (s : State) (c n : Nat) : State :=
  let g := s.grade c
  let vk := (s.chan c).vk
  let sub := (s.chan c).substV
  let sw := anySwitching s c
  let ocv := g.ocv.map (fun r =>
    if r.t0.isNone && sw then r
    else
      let i := r.n
      let blk := if i < r.skip then 3 else (i - r.skip) / r.block
      { r with
        t0 := some (r.t0.getD n), n := i + 1, last := if blk < 3 then n else r.last
        sums := if blk < 3 then setNth r.sums blk (nth 0 r.sums blk + vk) else r.sums
        subst := r.subst || (decide (blk < 3) && sub) })
  let k := g.k.map (fun r =>
    if r.t0.isNone && sw then r
    else
      let i := r.n
      let inS := decide (r.wait ≤ i ∧ i < r.wait + 2 ^ r.kexp)
      { r with
        t0 := some (r.t0.getD n), n := i + 1, vs := if inS then r.vs + vk else r.vs, last := n
        tail := lastN (2 ^ r.kexp) (r.tail ++ [(vk, sub)]), subst := r.subst || (inS && sub) })
  s.setGrade c { g with ocv := ocv, k := k }

/-- Has a channel left RUN: its step is about to close, or it ramps down (R299)? -/
def leftRun (s : State) (c : Nat) : Bool := decide (s.cstate c = Ch.RAMPDOWN) || s.modeOff c

/-- Grading of the frame `n` just ended, on the flags and samples that held in it. Estimates of a suspended bank or a held
channel are discarded with reason 5, a pulse that is still to come excepted (R299, R311); those of a channel that has left
RUN with reason 6, but for capacity. -/
def gradeFrame (s : State) (c n : Nat) : State :=
  if s.follower c || !stepActive s c then s
  else if suspended s c || decide (s.cstate c = Ch.HOLD) then dcirFrame (discardAll s c 5 false true) c n
  else if leftRun s c then capFrame (discardAll s c 6 true true) c n
  else restFrame (dcirFrame (capFrame (windowFrame s c) c n) c n) c n

/-- A step closes on a channel with a result (0 continued, 1 ABORTED, 2 INTERRUPTED, 3 DONE): capacity and DCIR results
that end with it, K-value, and discards with reason 6 (R299, R302, R304, R306). What is complete is published first. A
transition counts as DONE. -/
def gradeClose (s : State) (c result : Nat) : State :=
  let s := closeOcv (closeDcir (closeImp s c) c) c
  let g := s.grade c
  let ok := decide (result = 0 ∨ result = 3)
  let s := match g.cap with
    | some r => if ok then capResult s c r true else s
    | none => s
  let s := match g.dcir with
    | some r => if r.stage = 2 then dcirResult s c r false true else s
    | none => s
  let s := match g.k with
    | some r => if ok then kResult s c r else s
    | none => s
  let g := s.grade c
  let s := s.setGrade c { g with
    tone := none, cap := if ok then none else g.cap
    dcir := if decide ((g.dcir.map (·.stage)) = some 2) then none else g.dcir, k := if ok then none else g.k }
  discardAll s c 6 false false

/-! ### The frame that begins (R293, R294, R297, R298, R303) -/

/-- The offset of a DCIR pulse in the frame that begins, in 10 µA. Channel hardware ends it at boundary e + W, whatever becomes
of its estimate (R303). -/
def pulseOffset (s : State) (c : Nat) : Int :=
  match (s.grade c).pulse with
  | some (fin, d) => if s.frame < fin then d else 0
  | none => 0

/-- Does a DCIR pulse act in the frame that begins? -/
def pulseOn (s : State) (c : Nat) : Bool := decide (pulseOffset s c ≠ 0)

/-- Is a DCIR pulse of the step pending or on? -/
def pulsePending (s : State) (c : Nat) : Bool := dcirWaits (s.grade c) || pulseOn s c

/-- The DCIR edge at this boundary, when its conditions hold (R303); no pulse where it would reverse the reference or
exceed the capacity (R304). -/
def dcirEdge (s : State) (c : Nat) : State :=
  let g := s.grade c
  match g.dcir with
  | none => s
  | some r =>
    if r.stage = 1 ∧ r.start ≤ r.slewRun ∧ 2 ^ r.bexp ≤ r.cleanRun ∧ eligible s c false ∧ suspended s c = false then
      let x := (s.chan c).iref
      let d := signI (quant x) * r.delta
      let o := ratI d
      let n := ratN r.hist.length
      let vb := ratI (sumInt (r.hist.map (·.1))) / n
      let ib := ratI (sumInt (r.hist.map (·.2.1))) / n
      let clip := r.hist.any (·.2.2.2)
      let r := { r with edge := s.frame, vb := vb, ib := ib, subst := r.hist.any (·.2.2.1), hist := [] }
      if (x + o) * x < 0 ∨ ratN (gangCapacity s c) < absR (x + o) then
        dcirResult (s.setGrade c { g with dcir := none }) c r true false
      else
        let s := if clip then discard s c 2 4 else s
        s.setGrade c { g with
          pulse := some (s.frame + r.delays.foldl max 0, d), dcir := if clip then none else some { r with stage := 2 } }
    else s

/-- Amplitudes of a set's used tones in 10 µA at a reference, rounded (R297). -/
def toneAmps (s : State) (t : Nat) (iref : Rat) : List Int :=
  (usedTones s t).map (fun k => let x := ratN (toneA s t k) * absR iref / 1000; roundDiv x.num x.den)

/-- TONE_MIN_DC: of the tone run, or as it stands now. -/
def minDcOf (s : State) (c : Nat) : Nat :=
  match (s.grade c).tone with
  | some t => t.minDc
  | none => s.get Pg.ESTIM Reg.ESTIM.CFG_TONE_MIN_DC

/-- The conditions of n0 (R297). -/
def tonesMayRun (s : State) (c t : Nat) : Bool :=
  eligible s c true && decide ((s.grade c).toneOk = some true) && s.flag Pg.ESTIM (Reg.ESTIM.SET_CFG_VALID.ix t) &&
    s.flag (Pg.CHAN c) Reg.CHAN.STATUS_SLEW_DONE && aboveMinDc (minDcOf s c) (s.chan c).iref && !pulsePending s c

/-- Tones start, run on or stop at this boundary (R297); none starts while estimation is suspended, but those that a HOLD has
stopped start again with the carrier's first frame (R284, R311). A window whose tones stop is discarded at the boundary that
closes this frame (R299). -/
def toneBoundary (s : State) (c : Nat) : State :=
  let g := s.grade c
  match stepSet s c with
  | none => s.setGrade c { g with tone := none }
  | some t =>
    if tonesMayRun s c t then
      (match g.tone with
      | some _ => s
      | none => if suspended s c && !g.toneHeld then s else s.setGrade c { g with
          toneHeld := false
          tone := some ⟨s.frame, t, toneAmps s t (s.chan c).iref, minDcOf s c⟩
          nextWin := s.frame + s.get Pg.ESTIM (Reg.ESTIM.SET_CFG_SETTLE.ix t) })
    else s.setGrade c { g with tone := none, toneHeld := g.toneHeld || (g.tone.isSome && decide (s.cstate c = Ch.HOLD)) }

/-- Admission of a waiting window (R298, R310). -/
def admitWindow (s : State) (c : Nat) : State :=
  let g := s.grade c
  match g.tone, g.win with
  | some t, none =>
    if s.frame < g.nextWin ∨ suspended s c then s
    else
      let k := (usedTones s t.set).length
      let need := ceilDivNat k 4
      if windowQuanta s (estimatorOf (c / 4)) + 2 + need ≤ quantaPerFrame s then
        let z : FitSum := ⟨0, 0, 0, List.replicate k 0, List.replicate k 0⟩
        let m := s.get Pg.ESTIM (Reg.ESTIM.SET_CFG_CYCLES.ix t.set) * maxPeriod s t.set
        s.setGrade c { g with win := some ⟨t.set, t.n0, t.minDc, s.frame, m, need, 0, z, z, 0⟩ }
      else s.bump Pg.ESTIM Reg.ESTIM.DEFERRED
  | _, _ => s

/-- RES_STATUS.TONE_STATE. -/
def toneStatus (s : State) (c : Nat) : State :=
  let g := s.grade c
  let v := match g.tone with
    | none => 0
    | some _ => if suspended s c then 4 else if g.win.isSome then 3 else if s.frame < g.nextWin then 1 else 2
  s.put (Pg.RESULT c) Reg.RESULT.RES_STATUS_TONE_STATE v

/-- The perturbation of the frame that begins in 10 µA (R293, R297): the tones and the pulse offset; 0 outside RUN. -/
def perturbation (s : State) (c : Nat) : Rat :=
  if s.cstate c ≠ Ch.RUN then 0
  else
    let tones : Rat := match (s.grade c).tone with
      | none => 0
      | some t =>
        if !engRuns s (bankEngine s (c / 4)) then 0 else
        (((usedTones s t.set).zip t.amps).map (fun e =>
          let p := toneP s t.set e.1
          ratI e.2 * fixR (sinTurn (128 * (s.frame - t.n0) + tonePh s t.set e.1 * p) (128 * p)))).foldl (· + ·) 0
    tones + ratI (pulseOffset s c)

/-- The pulse that a step that opens at this boundary is to make, if its record asks one (R291, R303). -/
def openingPulse (s : State) (c : Nat) : Int :=
  let r := curRec s c
  let m := recByte s (c / 4) r 1
  if s.flag (Pg.CHAN c) Reg.CHAN.CONTROL_SOURCE && bitOf (recByte s (c / 4) r 0x23) 1 && decide (m = Mode.CC ∨ m = Mode.CCCV) then
    absI (dcirStart s).delta
  else 0

/-- The magnitude of a pulse that is pending where one can be made, or on; 0 without one (R294). -/
def pulsePeak (s : State) (c : Nat) : Int :=
  if pulseOn s c then absI (pulseOffset s c)
  else if s.opened.contains c then openingPulse s c
  else match (s.grade c).dcir with
    | some r => if r.stage = 1 ∧ eligible s c false then absI r.delta else 0
    | none => 0

/-- Can tones of set `t` act in the frame that begins, as the reference stands before limiters 3 and 4 (R294, R297)? Not where
none runs and none may start (R296, R311). -/
def tonesCanAct (s : State) (c t : Nat) : Bool :=
  let x := s.chan c
  let g := s.grade c
  let fresh := s.opened.contains c
  (fresh || decide (g.toneOk = some true)) && ((g.tone.isSome && !fresh) || (g.toneHeld && !fresh) || !suspended s c) &&
  s.flag Pg.ESTIM (Reg.ESTIM.SET_CFG_VALID.ix t) && eligible s c true && decide (x.cand = x.itarget) &&
    (decide (s.cmode c ≠ Mode.CCCV) || decide (x.vref = x.vtarget)) && aboveMinDc (minDcOf s c) x.cand

/-- The peak magnitude that the power request adds while a perturbation can act in the next frame (R294). -/
def perturbPeak (s : State) (c : Nat) : Rat :=
  if s.cstate c ≠ Ch.RUN ∨ s.follower c then 0
  else if pulsePeak s c ≠ 0 then ratI (pulsePeak s c)
  else match stepSet s c with
    | none => 0
    | some t =>
      if tonesCanAct s c t then
        ratI (sumInt (match (s.grade c).tone, s.opened.contains c with
          | some r, false => r.amps
          | _, _ => toneAmps s t (s.chan c).cand))
      else 0

/-- The perturbed reference after limiters 3 and 4 (R293). -/
def applyPerturb (s : State) (c : Nat) : State :=
  let p := perturbation s c
  let x := s.chan c
  if p = 0 then s.setChan c { x with out := x.iref }
  else
    let cap := ratN (gangCapacity s c)
    let y := x.iref + p
    let s := if cap < absR y then
        let was := s.flag (Pg.CHAN c) Reg.CHAN.STATUS_CAP_LIMITED
        let s := s.putb (Pg.CHAN c) Reg.CHAN.STATUS_CAP_LIMITED true
        if was then s else s.event (Pg.CHAN c) 2
      else s
    let y := if cap < y then cap else if y < -cap then -cap else y
    let y := match x.limit with
      | none => y
      | some _ =>
        let m := max x.grant (absR x.iref)
        if m < y then m else if y < -m then -m else y
    s.setChan c { x with out := y }

/-- Grading at the boundary that begins a frame, after the references are set. An offset does not outlive the channel's
connection (R345). -/
def gradeBegin (s : State) (c : Nat) : State :=
  let s := if s.modeOff c || decide (s.cstate c = Ch.CONNECT) then s.setGrade c { s.grade c with pulse := none } else s
  if s.follower c then s
  else applyPerturb (toneStatus (admitWindow (toneBoundary (dcirEdge s c) c) c) c) c

/-! ### Publication (R292) -/

/-- SUBST and GAP of a capacity result as they stand at its publication (R302), while its step is the channel's last one. -/
def freshFlags (s : State) (c : Nat) (r : GradeResult) : GradeResult :=
  if r.block = 1 ∧ r.live then
    let f := 4 * s.get (Pg.CHAN c) Reg.CHAN.ACC_FLAGS_STEP_SUBST + 8 * s.get (Pg.CHAN c) Reg.CHAN.ACC_FLAGS_STEP_GAP
    { r with words := r.words.map (fun w => if w.1 = 0x194 then (w.1, w.2 % 4 + f) else w) }
  else r

/-- Publish the oldest queued result of a block: its words, CELL_ID, SEQ, VALID, STALE, the frame and the page event; the
same result goes to the stream. -/
def publish (s : State) (c : Nat) (r : GradeResult) : State :=
  let p := Pg.RESULT c
  let r := freshFlags s c r
  let s := r.words.foldl (fun s w => s.wr (p * 0x400 + w.1) (BitVec.ofNat 32 w.2)) s
  let s := forIdx 4 s (fun s k => s.put p (Reg.RESULT.CELL_ID.ix k) (nth 0 (s.chan c).cellId k))
  let s := s.bumpWrap p Reg.RESULT.RES_SNAP
  let s := s.put p Reg.RESULT.PUB_FRAME s.frame32
  let s := s.putBit p Reg.RESULT.RES_STATUS_VALID r.block true
  let s := s.putBit p Reg.RESULT.RES_STATUS_STALE r.block false
  let s := match r.unlearned with
    | some u => s.putb p Reg.RESULT.RES_STATUS_UNLEARNED u
    | none => s
  let s := if r.block = 1 then s.setGrade c { s.grade c with capCell := (s.chan c).cellId } else s
  s.event p r.block

end Sys2Proof.Machine
end

