-- ==== Sys2Proof/Machine/Commons.lean ====
section
/-! DEFINITION. The Commons power budget (chapter 12): netting, allocation and limiter 4, the trains of the COM ring,
the keeper's and a device's work at a boundary, freeze and closure, and reissue. -/

namespace Sys2Proof.Machine

/-! ### Trains (R325 to R327) -/

/-- CRC-8 over the low `n` bits of a number in transmission order, most significant first (R327). -/
def crc8Of : Nat → Nat → Nat → Nat
  | 0, _, c => c
  | n + 1, v, c => crc8Of n v (if (c / 128 + v / 2 ^ n) % 2 = 1 then (c * 2 % 256) ^^^ 7 else c * 2 % 256)

/-- A header word with its CRC (*Train header*). -/
def mkHeader (orphan freeze : Bool) (issue rtag : Nat) : Nat :=
  let h := 2 ^ 22 + b2n orphan * 2 ^ 21 + b2n freeze * 2 ^ 20 + issue % 16 * 2 ^ 16 + rtag % 256 * 2 ^ 8
  h * 2 ^ 8 + crc8Of 24 h 0

/-- Does a header's CRC and version pass? -/
def headerOk (h : Nat) : Bool := decide (h / 2 ^ 30 % 4 = 1) && decide (crc8Of 24 (h / 256) 0 = h % 256)

def hdrOrphan (h : Nat) : Bool := bitOf h 29
def hdrFreeze (h : Nat) : Bool := bitOf h 28
def hdrIssue (h : Nat) : Nat := bitsOf h 27 24
def hdrRtag (h : Nat) : Nat := bitsOf h 23 16

/-- A device slot (*Device slot*): 58 bits with the CRC in the low byte. -/
def slotSeal (v : Nat) : Nat := v * 256 + crc8Of 50 v 0

/-- Is a slot valid: its CRC passes (R327)? -/
def slotValid (w : Nat) : Bool := decide (crc8Of 50 (w / 256) 0 = w % 256)

def slDop (w : Nat) : Nat := bitsOf w 57 56
def slDseq (w : Nat) : Nat := bitsOf w 55 54
def slDack (w : Nat) : Nat := bitsOf w 53 52
def slDamount (w : Nat) : Nat := bitsOf w 51 36
def slPresent (w : Nat) : Bool := bitOf w 35
def slFrozen (w : Nat) : Bool := bitOf w 34
def slHot (w : Nat) : Bool := bitOf w 33
def slPurse (w : Nat) : Bool := bitOf w 32
def slLendReq (w : Nat) : Bool := bitOf w 31
def slUop (w : Nat) : Nat := bitsOf w 29 28
def slUseq (w : Nat) : Nat := bitsOf w 27 26
def slUack (w : Nat) : Nat := bitsOf w 25 24
def slUvalue (w : Nat) : Nat := bitsOf w 23 8

/-- Is this device the keeper: ID strap 0 (R22)? -/
def isKeeper (s : State) : Bool := decide (s.strap = 0)

/-- This device's slot with its present uplink over a received downlink part (R325). -/
def ownSlot (s : State) (down : Nat) : Nat := slotSeal (down * 2 ^ 28 + s.commons.uplink)

/-- The keeper's downlink part of a device's slot: D_OP, D_SEQ, D_ACK, D_AMOUNT (R328). -/
def downlink (s : State) (i : Nat) : Nat :=
  let p := Pg.COMMONS
  let void := bitOf s.keeper.voidNow i
  let amt := if void then 0 else s.get p (Reg.COMMONS.GPURSE_TOKENS.ix i)
  let op := if void then 3 else if amt = 0 then 0 else s.get p (Reg.COMMONS.GPURSE_OP.ix i)
  op * 2 ^ 20 + s.get p (Reg.COMMONS.GPURSE_SEQ.ix i) % 4 * 2 ^ 18 + Table.get 0 s.keeper.rseq i % 4 * 2 ^ 16 + amt % 65536

/-- The train the keeper originates (R325): its header, every device's downlink part, and its own slot whole. -/
def keeperTrain (s : State) : Nat × List Nat :=
  let h := mkHeader false s.keeper.frozen (s.get Pg.COMMONS Reg.COMMONS.ISSUE) s.keeper.rtag
  (h, (List.range 8).map (fun i => if i = s.strap then ownSlot s (downlink s i) else slotSeal (downlink s i * 2 ^ 28)))

/-- An orphan train (R326): zero keeper fields, every slot zero but its own. -/
def orphanTrain (s : State) : Nat × List Nat :=
  (mkHeader true false 0 0, (List.range 8).map (fun i => if i = s.strap then ownSlot s 0 else 0))

/-- A received train as forwarded: the uplink part and the CRC of the own slot replaced (R325). -/
def forwardTrain (s : State) (t : Nat × List Nat) : Nat × List Nat :=
  (t.1, setNth t.2 s.strap (ownSlot s (nth 0 t.2 s.strap / 2 ^ 36)))

/-! ### Needs (R317) -/

/-- 1 W in the exact power unit, 10⁻¹¹ W. -/
def watt : Rat := 100000000000

/-- The reference of a lead or single channel before limiter 4: `cand` held to its gang's capacity. -/
def preLimit (s : State) (c : Nat) : Rat :=
  let cap := ratN (gangCapacity s c)
  let y := (s.chan c).cand
  if cap < y then cap else if y < -cap then -cap else y

/-- The current that a channel's request is taken on: |IREF| plus the perturbation peak while charging, less it (at least
0) while discharging, with its sign (R294, R317). -/
def requestCurrent (s : State) (c : Nat) (r : Rat) : Rat :=
  let pk := perturbPeak s c
  if 0 < r then r + pk else if r < 0 then (if pk < -r then r + pk else 0) else 0

/-- The leads and single channels of a bank. -/
def leadsOf (s : State) (b : Nat) : List Nat := (bankChans b).filter (fun c => !s.follower c)

/-- Will a channel switch in the frame that begins (R131, R317), judged on the reference before limiter 4: one in RAMPDOWN,
REST or a pausing zone whose reference reaches 0 will not. -/
def willSwitch (s : State) (c : Nat) : Bool :=
  let l := s.lead c
  let st := s.cstate l
  let zero := decide (preLimit s l = 0)
  decide (st = Ch.HOLD) || (decide (st = Ch.RAMPDOWN) && !zero) ||
    (decide (st = Ch.RUN) && !((decide (s.cmode l = Mode.REST) || paused s l) && zero))

/-- The loss model of a bank on given channel currents in 10 µA, in 10⁻¹¹ W (R226, R317). A gang's current is split by
the capacities of its channels. -/
def lossOn (s : State) (b : Nat) (cur : Nat → Rat) : Rat :=
  let sw := (bankChans b).any (willSwitch s)
  let parts := (leadsOf s b).flatMap (fun c =>
    let cap := ratN (gangCapacity s c)
    (s.gang c).map (fun m => if cap = 0 then 0 else absR (cur c) * ratN (capacityOf s m) / cap))
  let p0 := ratN (s.getf Pg.LEDGER (Reg.LEDGER.LOSS_P0_POWER.ix b)) * 100000000
  let a := ratN (s.getf Pg.LEDGER (Reg.LEDGER.LOSS_A_COEFF.ix b)) * 1000
  let q := ratN (s.getf Pg.LEDGER (Reg.LEDGER.LOSS_B_RES.ix b)) / 100000
  (if sw then p0 else 0) + a * parts.foldl (· + ·) 0 + q * (parts.map (fun x => x * x)).foldl (· + ·) 0

/-- The net power of a bank for given references, in 10⁻¹¹ W: charging requests less discharging credits plus losses. -/
def bankNet (s : State) (b : Nat) (ref : Nat → Rat) : Rat :=
  let cur := fun c => requestCurrent s c (ref c)
  ((leadsOf s b).map (fun c => ratI (absI (s.chan c).vk) * cur c)).foldl (· + ·) 0 + lossOn s b cur

/-- Channels of a bank that wait for the start conditions in a mode other than REST (R317). -/
def waitingCount (s : State) (b : Nat) : Nat :=
  ((bankChans b).filter (fun c => s.flag (Pg.CHAN c) Reg.CHAN.STATUS_WAITING &&
    decide (s.get (Pg.CHAN c) Reg.CHAN.CONTROL_MODE ≠ Mode.REST))).length

/-- The need N_b of a bank in tokens (R317). -/
def bankNeed (s : State) (b : Nat) : Nat :=
  let p := bankNet s b (preLimit s) / watt
  (if p ≤ 0 then 0 else (ceilDiv p.num p.den).toNat) + waitingCount s b

/-! ### Limiter 4 (R151, R152, R319) -/

/-- Before `b`? Lowest priority first: the highest PRIORITY value, then the higher channel index (R151). -/
def limitBefore (s : State) (x y : Nat) : Bool :=
  let px := s.get (Pg.CHAN x) Reg.CHAN.PRIORITY_LEVEL
  let py := s.get (Pg.CHAN y) Reg.CHAN.PRIORITY_LEVEL
  decide (py < px) || (decide (px = py) && decide (y < x))

/-- Insert into a list by an order. -/
def insertBy {α : Type} (lt : α → α → Bool) (a : α) : List α → List α
  | [] => [a]
  | b :: l => if lt a b then a :: b :: l else b :: insertBy lt a l

/-- Sort a list by an order, stable. -/
def sortBy {α : Type} (lt : α → α → Bool) (l : List α) : List α := l.foldl (fun acc a => insertBy lt a acc) []

/-- The reference a limited channel takes when `l` is permitted (R151). -/
def limitedRef (s : State) (c len : Nat) (l : Rat) : Rat :=
  limitRef (s.chan c).iref (preLimit s c) l (slewStep (s.get (Pg.CHAN c) Reg.CHAN.SLEW_DOWN_RATE) len)

/-- What a grant leaves the unperturbed reference: less the peak of its perturbation, at least 0 (R293, R294). -/
def lessPeak (s : State) (c : Nat) (l : Rat) : Rat :=
  let y := l - perturbPeak s c
  if y < 0 then 0 else y

/-- The channels of a bank that limiter 4 limits under a budget in tokens, each with what it is permitted (10 µA) with its
perturbation. -/
def limitsOf (s : State) (b budget len : Nat) : List (Nat × Rat) :=
  let cand := sortBy (limitBefore s) ((leadsOf s b).filter (fun c =>
    decide (0 < requestCurrent s c (preLimit s c)) && decide (s.cstate c = Ch.RUN ∨ s.cstate c = Ch.HOLD)))
  let top := ratN budget * watt
  (cand.foldl (fun (a : List (Nat × Rat) × (Nat → Rat)) c =>
    let net := bankNet s b a.2
    if net ≤ top then a
    else
      let v := ratI (absI (s.chan c).vk)
      let own := v * requestCurrent s c (a.2 c)
      let left := top - (net - own)
      let l : Rat := if left ≤ 0 ∨ v = 0 then 0 else left / v
      let r := limitedRef s c len (lessPeak s c l)
      (a.1 ++ [(c, l)], fun m => if m = c then r else a.2 m)) ([], preLimit s)).1

/-! ### Allocation (R318) and loans (R329) -/

def allocOf (s : State) (b : Nat) : Nat := s.get Pg.COMMONS (Reg.COMMONS.BANK_ALLOC.ix b)
def needOf (s : State) (b : Nat) : Nat := s.get Pg.COMMONS (Reg.COMMONS.BANK_NEED.ix b)

/-- The best PRIORITY among the channels that an allocation would leave limited; 16 where there is none. -/
def bankPriority (s : State) (b alloc len : Nat) : Nat :=
  ((limitsOf s b alloc len).map (fun e => s.get (Pg.CHAN e.1) Reg.CHAN.PRIORITY_LEVEL)).foldl min 16

/-- The banks in the order of R318. -/
def serveOrder (s : State) (kept : List Nat) (len : Nat) : List Nat :=
  sortBy (fun x y =>
    let px := bankPriority s x (nth 0 kept x) len
    let py := bankPriority s y (nth 0 kept y) len
    decide (px < py) || (decide (px = py) && decide (x < y))) (List.range 8)

/-- Divide HELD among the banks (R318). -/
def allocate (s : State) (len : Nat) : State :=
  let p := Pg.COMMONS
  let s := forIdx 8 s (fun s b => s.put p (Reg.COMMONS.BANK_NEED.ix b) (satNat 16 (bankNeed s b)))
  let s := s.put p Reg.COMMONS.NEED (satNat 32 (sumNat ((List.range 8).map (needOf s))))
  let held := s.get p Reg.COMMONS.HELD
  let kept := (List.range 8).map (fun b => min (allocOf s b) (needOf s b))
  let r := (serveOrder s kept len).foldl (fun (a : List Nat × Nat) b =>
    let g := min a.2 (needOf s b - nth 0 a.1 b)
    (setNth a.1 b (nth 0 a.1 b + g), a.2 - g)) (kept, held - sumNat kept)
  let cut := ((List.range 8).reverse.foldl (fun (a : List Nat × Nat) b =>
    let d := min a.2 (nth 0 a.1 b)
    (setNth a.1 b (nth 0 a.1 b - d), a.2 - d)) (r.1, sumNat r.1 - held)).1
  forIdx 8 s (fun s b => s.put p (Reg.COMMONS.BANK_ALLOC.ix b) (nth 0 cut b))

/-- Loans of the frame that begins (R329). STATUS.LOAN says whether one was in use in the frame that has ended. -/
def takeLoans (s : State) (len : Nat) : State :=
  let p := Pg.COMMONS
  let k := s.commons
  let s := ({ s with commons := { k with loans := [] } }).putb p Reg.COMMONS.STATUS_LOAN (!k.loans.isEmpty)
  if !k.loanOpen then s
  else
    let gap := s.getf p Reg.COMMONS.STARVE_CFG_BORROW_GAP
    let allocs := (List.range 8).map (allocOf s)
    let r := (serveOrder s allocs len).foldl (fun (a : Table Nat × Nat × Table Nat) b =>
      let last := Table.get 0 a.2.2 b
      let fresh := decide (last = 0 ∨ last + gap < s.frame + 1)
      let l := min a.2.1 (min (allocOf s b) (needOf s b - allocOf s b))
      if fresh ∧ l ≠ 0 then (Table.set 0 a.1 b l, a.2.1 - l, Table.set 0 a.2.2 b (s.frame + 1)) else a)
      ([], k.offer, k.lastLoan)
    let used := k.offer - r.2.1
    let s := { s with commons := { s.commons with loans := r.1, lastLoan := r.2.2 } }
    let s := (s.put p Reg.COMMONS.LOAN_LAST_OFFER k.offer).put p Reg.COMMONS.LOAN_LAST_BORROWED used
    if used = 0 then s else (s.bump p Reg.COMMONS.BORROW_COUNT).event p 4

/-- Limiter 4 for every bank: `limit` of each lead or single channel, and what R319 needs at the next boundary. -/
def applyLimits (s : State) (len : Nat) : State :=
  let s := forIdx 32 s (fun s c => s.setChan c { s.chan c with limit := none })
  let s := { s with commons := { s.commons with shares := [], room := [] } }
  forIdx 8 s (fun s b =>
    let budget := allocOf s b + Table.get 0 s.commons.loans b
    let ls := limitsOf s b budget len
    let s := ls.foldl (fun s e => s.setChan e.1 { s.chan e.1 with limit := some (lessPeak s e.1 e.2), grant := e.2 }) s
    let ref : Nat → Rat := fun c => match (s.chan c).limit with
      | some l => limitedRef s c len l
      | none => preLimit s c
    let on := (leadsOf s b).filter (fun c => decide (ref c ≠ 0) && !s.modeOff c)
    let sh := on.map (fun c => (c, ratI (absI (s.chan c).vk) * requestCurrent s c (ref c)))
    { s with commons := { s.commons with
      shares := s.commons.shares ++ sh, room := s.commons.room ++ [ratN budget * watt - bankNet s b ref] } })

/-- The power by which the channels of a bank that entered SAFE in the frame that has ended changed its draw, none where
none of them was discharging (R319). -/
def lostCredit (s : State) (b : Nat) : Option Rat :=
  let gone := s.commons.shares.filter (fun e => decide (e.1 / 4 = b) && decide (s.cstate e.1 = Ch.SAFE))
  if gone.any (fun e => decide (e.2 < 0)) then some (-(gone.map (·.2)).foldl (· + ·) 0) else none

/-- Count a frame in which a discharging channel entered SAFE and its bank's draw then exceeded A_b + L_b (R319). -/
def countOverdraw (s : State) : State :=
  let hit := (List.range s.commons.room.length).any (fun b => match lostCredit s b with
    | some x => decide (nth 0 s.commons.room b < x)
    | none => false)
  if hit then s.bump Pg.COMMONS Reg.COMMONS.OVERDRAW else s

/-- Count the limited frames of each channel at the boundary that ends a frame; an episode ends at the first frame in which
the channel is not limited (R320). -/
def countLimited (s : State) : State :=
  forIdx 32 s (fun s c =>
    let k := s.commons
    if s.flag (Pg.CHAN c) Reg.CHAN.STATUS_TOKEN_LIMITED && !s.follower c then
      { s with commons := { k with limRun := Table.set 0 k.limRun c (Table.get 0 k.limRun c + 1) } }
    else { s with commons := { k with
      limRun := Table.set 0 k.limRun c 0, starving := k.starving.filter (fun x => decide (x ≠ c)) } })

/-- Is a channel due a TOKEN_STARVE (R320)? -/
def starveDue (s : State) (c : Nat) : Bool :=
  decide (s.getf Pg.COMMONS Reg.COMMONS.STARVE_CFG_STARVE_FRAMES ≤ Table.get 0 s.commons.limRun c) &&
    decide (Table.get 0 s.commons.limRun c ≠ 0) && !s.commons.starving.contains c

/-! ### Freeze (R330, R331) -/

/-- Is the device due to freeze at this boundary: no keeper header for BREAK_FRAMES frames, or one with FREEZE (R330)? -/
def freezeDue (s : State) : Bool :=
  !s.flag Pg.COMMONS Reg.COMMONS.STATUS_FROZEN &&
    (s.commons.freezeHdr || decide (s.getf Pg.COMMONS Reg.COMMONS.CFG_BREAK_FRAMES ≤ s.commons.noHdr))

/-- Is the keeper due to freeze: BREAK_FRAMES trains in a row not intact (R330)? -/
def keeperFreezeDue (s : State) : Bool :=
  isKeeper s && !s.keeper.frozen && decide (s.getf Pg.COMMONS Reg.COMMONS.CFG_BREAK_FRAMES ≤ s.keeper.bad)

/-- Frozen, or due to freeze at this boundary. -/
def frozenNow (s : State) : Bool := s.flag Pg.COMMONS Reg.COMMONS.STATUS_FROZEN || freezeDue s

/-- The device becomes frozen; RING_BREAK once per episode, not before the first closure (R331). The keeper raises its
own address 0x01 in place of 0x00. -/
def freezeDevice (s : State) : State :=
  let p := Pg.COMMONS
  let s := (s.putb p Reg.COMMONS.STATUS_FROZEN true).putb p Reg.COMMONS.STATUS_CLOSED false
  if s.commons.closedOnce then
    let s := (s.bump p Reg.COMMONS.BREAK_COUNT).event p 1
    if isKeeper s then s else raise s p Kind.RING_BREAK 0
  else s

/-- The keeper becomes frozen: FREEZE in its trains from then on (R330, R331). -/
def freezeKeeper (s : State) : State :=
  let s := { s with keeper := { s.keeper with frozen := true } }
  if s.commons.closedOnce then raise s Pg.COMMONS Kind.RING_BREAK 1 else s

/-! ### The keeper's boundary (R328, R332, R334) -/

def viewOf (s : State) (i : Nat) : Nat := s.get Pg.COMMONS (Reg.COMMONS.VIEW.ix i)
def gpurseOf (s : State) (i : Nat) : Nat := s.get Pg.COMMONS (Reg.COMMONS.GPURSE_TOKENS.ix i)
def gseqOf (s : State) (i : Nat) : Nat := s.get Pg.COMMONS (Reg.COMMONS.GPURSE_SEQ.ix i)

/-- Set VIEW.i and RESERVE. -/
def setView (s : State) (i v : Nat) : State := s.put Pg.COMMONS (Reg.COMMONS.VIEW.ix i) v
def setReserve (s : State) (v : Nat) : State := s.put Pg.COMMONS Reg.COMMONS.RESERVE v
def reserveOf (s : State) : Nat := s.get Pg.COMMONS Reg.COMMONS.RESERVE

/-- Debit a transfer into a device's grant purse (R328): D_OP 1 GRANT or 2 LEND. -/
def startGrant (s : State) (i amt op : Nat) : State :=
  let s := s.put Pg.COMMONS (Reg.COMMONS.GPURSE_TOKENS.ix i) amt
  let s := s.put Pg.COMMONS (Reg.COMMONS.GPURSE_SEQ.ix i) ((gseqOf s i + 1) % 4)
  let s := s.put Pg.COMMONS (Reg.COMMONS.GPURSE_OP.ix i) op
  setReserve s (reserveOf s - amt)

/-- Empty a device's grant purse. -/
def endGrant (s : State) (i : Nat) : State :=
  (s.put Pg.COMMONS (Reg.COMMONS.GPURSE_TOKENS.ix i) 0).put Pg.COMMONS (Reg.COMMONS.GPURSE_OP.ix i) 0

/-- Credit what an intact train reports of device `i`: a closed transfer, a new return, its demand (R328). -/
def creditSlot (s : State) (i w : Nat) : State :=
  let s := if gpurseOf s i ≠ 0 ∧ slUack w = gseqOf s i then
      let r := if slUop w = 2 ∧ slUseq w = gseqOf s i then min (slUvalue w) (gpurseOf s i) else 0
      let s := setView s i (viewOf s i + (gpurseOf s i - r))
      endGrant (setReserve s (reserveOf s + r)) i
    else s
  let k := s.keeper
  let s := if slUop w = 1 ∧ slUseq w = (Table.get 0 k.rseq i + 1) % 4 then
      let s := setReserve (setView s i (viewOf s i - slUvalue w)) (reserveOf s + slUvalue w)
      { s with keeper := { k with
        rseq := Table.set 0 k.rseq i (slUseq w), lastRet := Table.set 0 k.lastRet i (slUvalue w) } }
    else s
  let k := s.keeper
  if slUop w = 0 then { s with keeper := { k with want := Table.set 0 k.want i (slUvalue w) } } else s

/-- Is a device's slot valid and present in a train? -/
def slotHere (t : Nat × List Nat) (i : Nat) : Bool :=
  let w := nth 0 t.2 i
  decide (i < t.2.length) && slotValid w && slPresent w

/-- Is the returned train intact (R327)? -/
def trainIntact (s : State) (t : Nat × List Nat) : Bool :=
  decide (t.2.length = 8) && headerOk t.1 && !hdrOrphan t.1 && decide (some (hdrRtag t.1) = s.keeper.sent) &&
    (List.range 8).all (fun i => !bitOf s.keeper.members i || slotHere t i)

/-- Close the ring (R332). A present slot that does not yet report defers the closure (log entry 40). Where the views exceed
TOTAL the ring stays frozen, and the closure is attempted again at the next intact train (R335). -/
def closeRing (s : State) (t : Nat × List Nat) : State :=
  let p := Pg.COMMONS
  let here := (List.range 8).filter (slotHere t)
  if here.any (fun i => decide (slUop (nth 0 t.2 i) ≠ 3)) then s
  else
    let off := s.get p Reg.COMMONS.PRESENT_VOID_PENDING
    let s := here.foldl (fun s i =>
      let w := nth 0 t.2 i
      let own := if bitOf off i then 0 else
        slUvalue w - (if slPurse w ∧ slUseq w = Table.get 0 s.keeper.rseq i then Table.get 0 s.keeper.lastRet i else 0)
      setView ((endGrant s i).put p (Reg.COMMONS.GPURSE_SEQ.ix i) (slUack w)) i own) s
    let s := (List.range 8).foldl (fun s i => if here.contains i then s else
      endGrant (setView s i (viewOf s i + gpurseOf s i)) i) s
    let sum := sumNat ((List.range 8).map (viewOf s))
    let total := s.get p Reg.COMMONS.TOTAL
    if total < sum then
      raise ((s.putb p Reg.COMMONS.STATUS_MISMATCH true).event p 6) p Kind.RING_BREAK 3
    else
      let s := s.puti p Reg.COMMONS.LAST_SETTLE ((total - sum : Nat) - (reserveOf s : Int))
      let s := setReserve s (total - sum)
      let s := (s.put p Reg.COMMONS.START_ID 0).putb p Reg.COMMONS.STATUS_MISMATCH false
      let want := here.foldl (fun w i =>
        Table.set 0 w i (s.getf p (Reg.COMMONS.QUOTA_TOKENS.ix i) - viewOf s i)) s.keeper.want
      let void := here.foldl (fun a i => if bitOf off i then a + 2 ^ i else a) 0
      let mem := here.foldl (fun a i => a + 2 ^ i) 0
      let s := { s with
        keeper := { s.keeper with want := want, frozen := false, members := mem, voidNow := void }
        commons := { s.commons with closedOnce := true } }
      s.bump p Reg.COMMONS.CLOSURES

/-- The reissues (new total, written-off mask) that have been accepted and do not yet apply, in order (R334). -/
def reissuesOpen (s : State) : List (Nat × Nat) :=
  let l := ((s.gran.busy.map (·.1)).toList ++ s.gran.pend).filter (fun r => decide (r.id = 0x03))
  s.keeper.issueDue ++ l.filterMap (fun r => match r.payload with
    | .words w => some (nth 0 w 0, nth 0 w 3)
    | _ => none)

/-- The reserve after a reissue (R334). -/
def reserveAfter (s : State) (new mask : Nat) : Int :=
  let freed := sumNat ((List.range 8).map (fun i => if bitOf mask i then viewOf s i + gpurseOf s i else 0))
  (reserveOf s : Int) + new - (s.get Pg.COMMONS Reg.COMMONS.TOTAL) + freed

/-- What the keeper may grant or lend: its reserve, less what the accepted reissues are about to take from it one after the
other, so that R316 and R322 hold when each applies (DEDUCED, log entry 86). -/
def grantable (s : State) : Nat :=
  ((reissuesOpen s).foldl (fun (a : Nat × Nat) r =>
    (min a.1 (reserveAfter s r.1 (a.2 ||| r.2)).toNat, a.2 ||| r.2)) (reserveOf s, 0)).1

/-- Grants and lends in ID order from START (R324, R328). -/
def keeperGrants (s : State) : State :=
  let p := Pg.COMMONS
  let st := s.get p Reg.COMMONS.START_ID
  let ids := ((List.range 8).map (fun k => (st + k) % 8)).filter (fun i =>
    bitOf (s.get p Reg.COMMONS.PRESENT_PRESENT) i && !bitOf s.keeper.voidNow i)
  let r := ids.foldl (fun (a : State × Bool) i =>
    let s := a.1
    let want := Table.get 0 s.keeper.want i
    let g := min want (min (grantable s) (65535 - viewOf s i))
    if gpurseOf s i = 0 ∧ g ≠ 0 ∧ bitOf s.keeper.hot i = false then
      let s := startGrant s i g 1
      ({ s with keeper := { s.keeper with want := Table.set 0 s.keeper.want i 0 } }, true)
    else a) (s, false)
  let s := r.1
  let max := s.getf p Reg.COMMONS.LEND_MAX_TOKENS
  let lending := (List.range 8).any (fun i => decide (gpurseOf s i ≠ 0 ∧ s.get p (Reg.COMMONS.GPURSE_OP.ix i) = 2))
  let t := s.commons.rx
  let req := fun i => match t with
    | some t => slotHere t i && slLendReq (nth 0 t.2 i)
    | none => false
  let l := if max ≠ 0 ∧ lending = false then
      (match ids.find? (fun i => req i && decide (gpurseOf s i = 0) && !bitOf s.keeper.hot i) with
      | some i =>
        let x := min max (min (grantable s) (65535 - viewOf s i))
        if x ≠ 0 then (startGrant s i x 2, true) else (s, false)
      | none => (s, false))
    else (s, false)
  if r.2 || l.2 then l.1.put p Reg.COMMONS.START_ID ((st + 1) % 8) else l.1

/-- May the first committed reissue apply: the reserve it leaves is not negative (R334; log entry 86)? -/
def reissueReady (s : State) : Bool :=
  match s.keeper.issueDue with
  | [] => false
  | (new, mask) :: _ => decide (0 ≤ reserveAfter s new mask)

/-- The first committed reissue takes effect (R334). -/
def applyReissue (s : State) : State :=
  match s.keeper.issueDue with
  | [] => s
  | (new, mask) :: rest =>
    let p := Pg.COMMONS
    let old := s.get p Reg.COMMONS.TOTAL
    let s := setReserve s (reserveAfter s new mask).toNat
    let s := (List.range 8).foldl (fun s i => if bitOf mask i then endGrant (setView s i 0) i else s) s
    let s := (s.put p Reg.COMMONS.TOTAL new).put p Reg.COMMONS.ISSUE (s.get p Reg.COMMONS.ISSUE + 1)
    let s := s.put p Reg.COMMONS.PRESENT_VOID_PENDING (s.get p Reg.COMMONS.PRESENT_VOID_PENDING ||| mask)
    let s := { s with keeper := { s.keeper with issueDue := rest } }
    addEntry (s.event p 5) Org.HW p 0x100 old new { LogFlags.plain with persist := true }

/-- The train that carried VOID has returned intact: the devices present in it have been voided (R334). One that does not
return is sent again. -/
def voidsDone (s : State) (here : List Nat) : State :=
  let p := Pg.COMMONS
  let left := fun (m : Nat) => (List.range 8).foldl (fun a i => if bitOf m i && !here.contains i then a + 2 ^ i else a) 0
  let done := s.keeper.voidNow - left s.keeper.voidNow
  let s := s.put p Reg.COMMONS.PRESENT_VOID_PENDING
    ((List.range 8).foldl (fun a i => if bitOf (s.get p Reg.COMMONS.PRESENT_VOID_PENDING) i && !bitOf done i then a + 2 ^ i else a) 0)
  { s with keeper := { s.keeper with voidTag := none, voidNow := left s.keeper.voidNow } }

/-- The keeper's work at a boundary, from the returned train of the frame just ended (R328, R330, R332). -/
def keeperBoundary (s : State) : State :=
  if !isKeeper s then s
  else
    let p := Pg.COMMONS
    let s := match s.commons.rx with
      | some t =>
        if trainIntact s t then
          let here := (List.range 8).filter (slotHere t)
          let pres := here.foldl (fun a i => a + 2 ^ i) 0
          let hot := here.foldl (fun a i => if slHot (nth 0 t.2 i) then a + 2 ^ i else a) 0
          let s := s.put p Reg.COMMONS.PRESENT_PRESENT pres
          let s := { s with keeper := { s.keeper with bad := 0, hot := hot } }
          let s := if s.keeper.voidTag = some (hdrRtag t.1) then voidsDone s here else s
          if s.keeper.frozen then (if hdrFreeze t.1 then closeRing s t else s)
          else here.foldl (fun s i => creditSlot s i (nth 0 t.2 i)) s
        else { s with keeper := { s.keeper with bad := s.keeper.bad + 1 } }
      | none => { s with keeper := { s.keeper with bad := s.keeper.bad + 1 } }
    let s := if s.keeper.frozen || keeperFreezeDue s then s else keeperGrants s
    let k := s.keeper
    let tag := (k.rtag + 1) % 256
    { s with keeper := { k with
      rtag := tag, sent := some tag, voidTag := if k.voidNow = 0 ∨ k.frozen then none else some tag } }

/-! ### A device's boundary (R328, R329, R333) -/

/-- End a loan that was open in the frame just ended (R328, R329). -/
def endLoan (s : State) : State :=
  let k := s.commons
  if k.loanOpen then
    let used := sumNat (k.loans.map (·.2))
    let s := s.put Pg.COMMONS Reg.COMMONS.HELD (s.get Pg.COMMONS Reg.COMMONS.HELD + used)
    let s := s.addCount Pg.COMMONS Reg.COMMONS.GRANTED used
    let q := (k.gack + 1) % 4
    { s with commons := { k with loanOpen := false, offer := 0, gack := q, refusal := some (q, k.offer - used) } }
  else s

/-- Unfreeze on reading a keeper header with FREEZE = 0 after a freeze (R333). The return purse is settled by the D_ACK of a
valid own slot; without one it stays in flight. -/
def unfreeze (s : State) (slot : Option Nat) : State :=
  let p := Pg.COMMONS
  let s := (s.putb p Reg.COMMONS.STATUS_FROZEN false).putb p Reg.COMMONS.STATUS_CLOSED true
  let s := match slot with
    | none => s
    | some w =>
      let s := if slDack w = s.commons.rseq then s
        else s.put p Reg.COMMONS.HELD (s.get p Reg.COMMONS.HELD + s.get p Reg.COMMONS.PURSE)
      let s := (s.put p Reg.COMMONS.PURSE 0).putb p Reg.COMMONS.STATUS_RET_PURSE false
      { s with commons := { s.commons with rseq := slDack w } }
  { (s.event p 0) with commons := { s.commons with closedOnce := true } }

/-- Take what the own slot of a train brings to a device that is not frozen (R321, R328). -/
def takeSlot (s : State) (w : Nat) : State :=
  let p := Pg.COMMONS
  let k := s.commons
  let s := match k.refusal with
    | some (q, _) => if slDop w = 0 ∨ slDseq w ≠ q then { s with commons := { k with refusal := none } } else s
    | none => s
  let k := s.commons
  let next := (k.gack + 1) % 4
  let hot := s.flag p Reg.COMMONS.STATUS_HOT
  let s := if slDop w = 1 ∧ slDseq w = next then
      let s := if hot then { s with commons := { k with gack := next, refusal := some (next, slDamount w) } }
        else
          let s := s.put p Reg.COMMONS.HELD (s.get p Reg.COMMONS.HELD + slDamount w)
          { ((s.addCount p Reg.COMMONS.GRANTED (slDamount w)).event p 2) with commons := { k with gack := next } }
      s
    else if slDop w = 2 ∧ slDseq w = next ∧ k.loanOpen = false then
      (if hot then { s with commons := { k with gack := next, refusal := some (next, slDamount w) } }
      else { s with commons := { k with offer := slDamount w, loanOpen := true } })
    else if slDop w = 3 then
      ((s.put p Reg.COMMONS.HELD 0).put p Reg.COMMONS.PURSE 0).putb p Reg.COMMONS.STATUS_RET_PURSE false
    else s
  if s.get p Reg.COMMONS.PURSE ≠ 0 ∧ slDack w = s.commons.rseq then
    (s.put p Reg.COMMONS.PURSE 0).putb p Reg.COMMONS.STATUS_RET_PURSE false
  else s

/-- The first part of a device's boundary: the loan that ends, the header and the own slot of the frame's train. -/
def deviceReceive (s : State) : State :=
  let p := Pg.COMMONS
  let s := s.putb p Reg.COMMONS.STATUS_HOT s.hk.dieWarn
  let s := (endLoan s).putb p Reg.COMMONS.STATUS_ORIGIN s.commons.origin
  match s.commons.rx with
  | none => { s with commons := { s.commons with noHdr := s.commons.noHdr + 1, freezeHdr := false } }
  | some t =>
    let w := nth 0 t.2 s.strap
    let wOk := decide (s.strap < t.2.length) && slotValid w
    let hOk := headerOk t.1
    let s := if hOk then s else s.bump p Reg.COMMONS.CRC_ERR
    let s := if wOk then s else s.bump p Reg.COMMONS.CRC_ERR
    let key := hOk && !hdrOrphan t.1
    let s := if key then
        let s := (s.put p Reg.COMMONS.STATUS_RTAG (hdrRtag t.1)).put p Reg.COMMONS.ISSUE_SEEN_ISSUE (hdrIssue t.1)
        { s with commons := { s.commons with noHdr := 0, freezeHdr := hdrFreeze t.1 } }
      else { s with commons := { s.commons with noHdr := s.commons.noHdr + 1, freezeHdr := false } }
    let was := s.flag p Reg.COMMONS.STATUS_FROZEN
    let s := if was && key && !hdrFreeze t.1 then unfreeze s (if wOk then some w else none) else s
    if wOk && !frozenNow s then takeSlot s w else s

/-- A return starts when the surplus has lasted RETURN_DELAY boundaries (R328). `due` says whether it may now. -/
def returnDue (s : State) : Bool :=
  let p := Pg.COMMONS
  !frozenNow s && decide (s.get p Reg.COMMONS.PURSE = 0) &&
    decide (s.getf p Reg.COMMONS.CFG_RETURN_DELAY ≤ s.commons.surplus) && decide (s.commons.surplus ≠ 0)

/-- Count boundaries with holdings above need and floor (R328). -/
def countSurplus (s : State) : State :=
  let p := Pg.COMMONS
  let above := decide (max (s.getf p Reg.COMMONS.FLOOR_TOKENS) (s.get p Reg.COMMONS.NEED) < s.get p Reg.COMMONS.HELD)
  { s with commons := { s.commons with surplus := if above then s.commons.surplus + 1 else 0 } }

/-- The uplink word below D_AMOUNT, without the CRC, for the frame that begins (R328): report, refuse, return, demand. -/
def makeUplink (s : State) : State :=
  let p := Pg.COMMONS
  let k := s.commons
  let frozen := frozenNow s
  let hot := s.flag p Reg.COMMONS.STATUS_HOT
  let held := s.get p Reg.COMMONS.HELD
  let purse := s.get p Reg.COMMONS.PURSE
  let need := s.get p Reg.COMMONS.NEED
  let demand := if hot then 0 else min 65535 (need - held)
  let u : Nat × Nat × Nat :=
    if frozen then (3, k.rseq, min 65535 (held + purse))
    else match k.refusal with
      | some (q, r) => (2, q, r)
      | none => if purse ≠ 0 then (1, k.rseq, purse) else (0, 0, demand)
  let lend := decide (s.getf p Reg.COMMONS.CFG_BORROW_EN = 1) && !hot && !frozen
  let w := 2 ^ 27 + b2n frozen * 2 ^ 26 + b2n hot * 2 ^ 25 + b2n (decide (purse ≠ 0)) * 2 ^ 24 + b2n lend * 2 ^ 23 +
    u.1 * 2 ^ 20 + u.2.1 % 4 * 2 ^ 18 + k.gack % 4 * 2 ^ 16 + u.2.2 % 65536
  let s := if u.1 = 0 then s.put p Reg.COMMONS.DEMAND_TOKENS u.2.2 else s
  { s with commons := { k with uplink := w } }

/-- A frame begins on the ring: nothing received or sent in it yet. -/
def newRingFrame (s : State) : State :=
  { s with commons := { s.commons with rx := none, tx := none, sync := false, origin := false } }

/-- Start a return (R328). -/
def startReturn (s : State) : State :=
  let p := Pg.COMMONS
  let held := s.get p Reg.COMMONS.HELD
  let amt := min 65535 (held - max (s.getf p Reg.COMMONS.FLOOR_TOKENS) (s.get p Reg.COMMONS.NEED))
  if amt = 0 then s
  else
    let s := (s.put p Reg.COMMONS.HELD (held - amt)).put p Reg.COMMONS.PURSE amt
    let s := (s.putb p Reg.COMMONS.STATUS_RET_PURSE true).addCount p Reg.COMMONS.RETURNED amt
    { s with commons := { s.commons with rseq := (s.commons.rseq + 1) % 4 } }

/-- Ring and allocation at a boundary, with limiter 4's budgets set: keeper, device, allocation, loans. -/
def commonsBoundary (s : State) (len : Nat) : State :=
  let s := deviceReceive (keeperBoundary s)
  let s := takeLoans (allocate s len) len
  newRingFrame (makeUplink (countSurplus s))

end Sys2Proof.Machine
end

