-- ==== Sys2Proof/Machine/Otp.lean ====
section
/-! DEFINITION. The OTP (R423 to R433): reading words and regions, region checks, the expansion of SAFETY and TRIM, and
programming. -/

namespace Sys2Proof.Machine

/-- A logical word: each bit is the OR of its two physical bits (R423). -/
def otpWord (s : State) (a : Nat) : Nat := Table.get 0 s.otpA a ||| Table.get 0 s.otpB a

/-- The word as a register shows it: key words read 0 (R428). -/
def otpShown (s : State) (a : Nat) : Nat := if 0x96 ≤ a ∧ a ≤ 0x9A then 0 else otpWord s a

/-- The key words 0x96 to 0x9A as they are programmed (*IDENTITY region content*). -/
def otpKeyWords (s : State) : List Nat := (List.range 5).map (fun k => otpWord s (0x96 + k))

/-- The first word of a region and the address of its C0 (*OTP regions*); C1 follows C0. -/
def otpRegion (r : Nat) : Nat × Nat :=
  if r = 0 then (0x00, 0x26) else if r = 1 then (0x28, 0x90) else if r = 2 then (0x92, 0x9C)
  else if r = 3 then (0x9E, 0xDE) else (0xE0, 0xFE)

/-- The content words of a region in address order. -/
def otpContent (s : State) (r : Nat) : List Nat :=
  (List.range ((otpRegion r).2 - (otpRegion r).1)).map (fun k => otpWord s ((otpRegion r).1 + k))

/-- REGION_STATUS of a region (R425): 0 pass by C0, 1 pass by C1, 2 fail, 3 blank. -/
def otpStatus (s : State) (r : Nat) : Nat :=
  let ws := otpContent s r
  let c0 := otpWord s (otpRegion r).2
  let c1 := otpWord s ((otpRegion r).2 + 1)
  if ws.all (· = 0) ∧ c0 = 0 ∧ c1 = 0 then 3
  else if c1 ≠ 0 then (if c1 = crc32Words ws then 1 else 2)
  else if c0 = crc32Words ws then 0 else 2

/-- A patch entry (R273): used, the ROM word address, the replacement word. -/
def patchEntry (s : State) (e : Nat) : Bool × Nat × Nat :=
  let w := otpWord s (0x9E + 2 * e)
  (bitOf w 31, w % 2 ^ 17, otpWord s (0x9F + 2 * e))

/-- Does the content of PATCH break a rule of R273? -/
def patchBad (s : State) : Bool :=
  let used := (List.range 32).filter (fun e => (patchEntry s e).1)
  used.any (fun e => decide (0x1C000 ≤ (patchEntry s e).2.1) || decide (bitsOf (otpWord s (0x9E + 2 * e)) 30 17 ≠ 0) ||
    used.any (fun e' => decide (e' ≠ e) && decide ((patchEntry s e').2.1 = (patchEntry s e).2.1)))

/-- Does a region pass its check (R425)? Blank PATCH and CUSTOMER regions pass as empty; PATCH also meets R273. -/
def otpPass (s : State) (r : Nat) : Bool :=
  let st := otpStatus s r
  (decide (st ≤ 1) || (decide (st = 3) && decide (3 ≤ r))) && !(decide (r = 3) && patchBad s)

/-- A region's read under R48 or R54 (R433): REGION_STATUS takes its outcome (R425; PATCH that breaks R273 fails), and the key
words of IDENTITY come into use. -/
def readRegion (s : State) (r : Nat) : State :=
  let st := if r = 3 ∧ otpStatus s r ≤ 1 ∧ patchBad s then 2 else otpStatus s r
  let keys := if r = 2 then otpKeyWords s else s.svc.keys
  { s with svc := { s.svc with regions := withBits s.svc.regions (2 * r + 1) (2 * r) st, keys := keys } }

/-- Key word `a` of the IDENTITY region as its last read left it (R428, R433). -/
def keyWord (s : State) (a : Nat) : Nat := nth 0 s.svc.keys (a - 0x96)

/-- Byte addresses of the register images of SAFETY, words 0x00 to 0x23 (*SAFETY region content*). -/
def safetyImages : List Nat :=
  [0x3040, 0x3050, 0x3054, 0x3058, 0x305C, 0x3060, 0x3064,
   0x344C, 0x346C, 0x348C, 0x34AC, 0x3444, 0x3484, 0x34E0,
   0x3840, 0x3844, 0x3848, 0x384C, 0x3850, 0x3854, 0x3858, 0x385C, 0x38B8,
   0x3860, 0x3864, 0x3868, 0x386C, 0x3870, 0x3880, 0x3884, 0x3888, 0x388C, 0x3890,
   0x1444, 0x1448, 0x0050]

/-- The word that a register takes from an OTP image: its writable fields, settled as a write settles them. Reserved bits
read 0 (R5). -/
def imageWord (s : State) (addr v : Nat) : Nat :=
  let page := addr / 0x400
  let off := addr % 0x400
  let old := (s.rd addr).toNat
  settled ((pageKind page).getD .header) page off old (storedWord (fieldsAt page off) old v)

/-- Replace the reset values of the named registers by the SAFETY images (R71, R378, R404, R482). -/
def loadSafety (s : State) : State :=
  forIdx 36 s (fun s k => s.wr (nth 0 safetyImages k) (BitVec.ofNat 32 (imageWord s (nth 0 safetyImages k) (otpWord s k))))

/-- A region that failed: STATUS.OTP_FAIL, EVENT.OTP_FAIL, CHAN_INHIBIT and OTP_INTEGRITY with the region index (R48,
R54). -/
def otpFailed (s : State) (r : Nat) : State :=
  let s := (s.putBit Pg.CHIP Reg.CHIP.STATUS_OTP_FAIL r true).event Pg.CHIP 1
  raise (s.putb Pg.CHIP Reg.CHIP.STATUS_CHAN_INHIBIT true) Pg.OTP Kind.OTP_INTEGRITY r

/-- The signed byte `k` of a word. -/
def codeByte (w k : Nat) : Int := signed 8 (w / 2 ^ (8 * k) % 256)

/-- The 12-bit shunt code `j` of words 0x81 to 0x8F (*TRIM region encoding*). -/
def shuntCode (s : State) (j : Nat) : Int :=
  let str := (List.range 15).foldl (fun a k => a + otpWord s (0x81 + k) * 2 ^ (32 * k)) 0
  signed 12 (str / 2 ^ (12 * j) % 4096)

/-- Expand TRIM into the Almanac fields of every bank (R426); a failing region gives the mid-code values (R208). -/
def loadTrim (s : State) (pass : Bool) : State :=
  let w := fun a => if pass then otpWord s a else 0
  let sh := fun j => if pass then shuntCode s j else 0
  forIdx 8 s (fun s b =>
    let p := Pg.BANK b
    let s := forIdx 10 s (fun s n =>
      let v := w (0x28 + 10 * b + n)
      let s := s.puti p (Reg.BANK.FT_V_OFFSET.ix n) (codeByte v 0 * 400)
      let s := s.puti p (Reg.BANK.FT_V_GAIN.ix n) (codeByte v 1 * 2000)
      let s := s.puti p (Reg.BANK.FT_I_OFFSET.ix n) (codeByte v 2 * 40)
      s.puti p (Reg.BANK.FT_I_GAIN.ix n) (codeByte v 3 * 2000))
    let r := w (0x78 + b)
    let s := s.puti p Reg.BANK.REF_V (40000000 + codeByte r 0 * 200)
    let s := s.puti p Reg.BANK.REF_VN (-1000000 + codeByte r 1 * 20)
    let s := s.puti p Reg.BANK.REF_IP (6400000 + codeByte r 2 * 10)
    let s := s.puti p Reg.BANK.REF_IN (-6400000 + codeByte r 3 * 10)
    let s := s.put p Reg.BANK.REF_CURVE (w 0x80)
    let s := forIdx 4 s (fun s k => s.puti p (Reg.BANK.SHUNT_TRIM.ix k) (sh (5 * b + k) * 10))
    s.puti p Reg.BANK.BUS_SHUNT_TRIM (sh (5 * b + 4) * 10))

/-- The identity words that registers show (*IDENTITY region content*). -/
def loadIdentity (s : State) : State :=
  let s := (s.put Pg.OTP Reg.OTP.SERIAL_LO (otpWord s 0x92)).put Pg.OTP Reg.OTP.SERIAL_HI (otpWord s 0x93)
  (s.put Pg.OTP Reg.OTP.LOT (otpWord s 0x94)).put Pg.OTP Reg.OTP.WAFER_XY (otpWord s 0x95)

/-- Count the patches in use and ignored, and check each through the fetch path (R274): the fetch path delivers the
replacement word, so a region that meets R273 verifies. -/
def loadPatches (s : State) (pass : Bool) : State :=
  let n := ((List.range 32).filter (fun e => (patchEntry s e).1)).length
  let s := s.put Pg.ENGCTL Reg.ENGCTL.ROM_ID_PATCHES (if pass then n else 0)
  let s := s.put Pg.ENGCTL Reg.ENGCTL.ROM_ID_IGNORED (b2n (!pass))
  let s := s.put Pg.ENGCTL Reg.ENGCTL.PATCH_CRC (if otpWord s 0xDF ≠ 0 then otpWord s 0xDF else otpWord s 0xDE)
  s.putb Pg.ENGCTL Reg.ENGCTL.ROM_ID_VERIFIED pass

/-- Is a PROG_CMD permitted (R429)? -/
def otpPermitted (s : State) (key : Nat) : Bool :=
  decide (s.get Pg.OTP Reg.HEADER.LOCK_STATE = 3) && decide (key = 0x0F7A) &&
    s.flag Pg.HKRAIL (Reg.HKRAIL.STATUS_QUALIFIED.ix 1) &&
    (List.range 4).all (fun k => decide (0 ≤ s.geti Pg.HKRAIL (Reg.HKRAIL.DIE_TEMP.ix k) ∧
      s.geti Pg.HKRAIL (Reg.HKRAIL.DIE_TEMP.ix k) ≤ 8500))

/-- Publish the result of an OTP operation. -/
def otpResult (s : State) (r : Nat) : State := s.put Pg.OTP Reg.OTP.PROG_STATUS_RESULT r

/-- Begin an OTP operation: BUSY. -/
def otpBegin (s : State) (op addr data : Nat) : State :=
  { (s.putb Pg.OTP Reg.OTP.PROG_STATUS_BUSY true) with otpOp := some ⟨op, addr, data⟩ }

/-- An accepted or refused PROG_CMD (R429 to R432): the refusal's RESULT, or none when the operation begins. -/
def otpRefusal (s : State) (v : Nat) : Option Nat :=
  let op := v % 4
  let r := bitsOf v 6 4
  let a := s.get Pg.OTP Reg.OTP.PROG_ADDR_ADDR
  if !otpPermitted s (v / 2 ^ 16) || s.otpOp.isSome || (decide (op ≠ 1) && decide (4 < r)) then some 3
  else if op = 1 then
    (if otpWord s a &&& (s.get Pg.OTP Reg.OTP.PROG_DATA) = otpWord s a then none else some 1)
  else if op = 2 then
    (if otpWord s (otpRegion r).2 ≠ 0 ∧ otpWord s ((otpRegion r).2 + 1) ≠ 0 then some 4 else none)
  else none

/-- Start the operation of a permitted PROG_CMD. -/
def otpStart (s : State) (v : Nat) : State :=
  let r := bitsOf v 6 4
  if v % 4 = 1 then otpBegin s 1 (s.get Pg.OTP Reg.OTP.PROG_ADDR_ADDR) (s.get Pg.OTP Reg.OTP.PROG_DATA)
  else if v % 4 = 2 then
    let c0 := (otpRegion r).2
    otpBegin s 2 (if otpWord s c0 = 0 then c0 else c0 + 1) (crc32Words (otpContent s r))
  else otpBegin s 3 r 0

/-- The number of ones of a number below 2^n. -/
def popcount (n v : Nat) : Nat := ((List.range n).filter (fun k => bitOf v k)).length

/-- The bits of `v` that are not in `m`, of a 32-bit word. -/
def without (v m : Nat) : Nat := v &&& ((2 ^ 32 - 1) ^^^ (m % 2 ^ 32))

/-- The physical bits of a word that pass the verify margin in each half: programmed, and not weak (R430, R432). -/
def otpPassing (s : State) (a : Nat) : Nat × Nat :=
  (without (Table.get 0 s.otpA a) (Table.get 0 s.otpWeakA a), without (Table.get 0 s.otpB a) (Table.get 0 s.otpWeakB a))

/-- WEAK of a region (R432): programmed logical bits with only one physical bit passing the verify margin. -/
def otpWeak (s : State) (r : Nat) : Nat :=
  sumNat ((List.range ((otpRegion r).2 + 2 - (otpRegion r).1)).map (fun k =>
    popcount 32 ((otpPassing s ((otpRegion r).1 + k)).1 ^^^ (otpPassing s ((otpRegion r).1 + k)).2)))

/-- The bits of a word that a verify found at 0, and those it found at 1 but outside the margin. -/
def verifyOf (l : List OtpVerify) (a : Nat) : Nat × Nat :=
  match l.find? (fun x => decide (x.word = a)) with
  | some x => (x.zeros, x.weak)
  | none => (0, 0)

/-- One half of a word after its pulses: the bits that programmed are added, and the bits pulsed are weak or not as the last
verify found them (R430). -/
def programHalf (v weak data : Nat) (f : Nat × Nat) : Nat × Nat :=
  (v ||| without data f.1, without weak data ||| without (data &&& f.2) f.1)

/-- What a MARGIN found of the words of a region (R432): a word that its list names takes its weak bits from it. -/
def marginHalf (t : Table Nat) (r : Nat) (l : List OtpVerify) : Table Nat :=
  l.foldl (fun t x =>
    if (otpRegion r).1 ≤ x.word ∧ x.word < (otpRegion r).2 + 2 then Table.set 0 t x.word (x.weak % 2 ^ 32) else t) t

/-- Complete a MARGIN (R432). -/
def marginDone (s : State) (r : Nat) (failA failB : List OtpVerify) : State :=
  let s := { s with otpWeakA := marginHalf s.otpWeakA r failA, otpWeakB := marginHalf s.otpWeakB r failB }
  (otpResult (s.put Pg.OTP Reg.OTP.PROG_STATUS_WEAK (satNat 16 (otpWeak s r))) 0).event Pg.OTP 0

/-- Complete a WORD or CRC operation (R430, R431); PULSES shows the pulses of a WORD. -/
def programDone (s : State) (o : OtpOp) (pulses : Nat) (failA failB : List OtpVerify) : State :=
  let fa := verifyOf failA o.addr
  let fb := verifyOf failB o.addr
  let a := programHalf (Table.get 0 s.otpA o.addr) (Table.get 0 s.otpWeakA o.addr) o.data fa
  let b := programHalf (Table.get 0 s.otpB o.addr) (Table.get 0 s.otpWeakB o.addr) o.data fb
  let s := { s with
    otpA := Table.set 0 s.otpA o.addr a.1
    otpB := Table.set 0 s.otpB o.addr b.1
    otpWeakA := Table.set 0 s.otpWeakA o.addr a.2
    otpWeakB := Table.set 0 s.otpWeakB o.addr b.2 }
  let bad := decide (o.data &&& (fa.1 ||| fa.2 ||| fb.1 ||| fb.2) ≠ 0)
  let s := if o.op = 1 then s.put Pg.OTP Reg.OTP.PROG_STATUS_PULSES (if bad then 8 else max 1 (min 8 pulses)) else s
  let s := s.bump Pg.OTP Reg.OTP.PROG_COUNT
  (otpResult s (if bad then 2 else 0)).event Pg.OTP (if bad then 1 else 0)

/-- Complete an OTP operation (R430 to R432): `pulses` pulses were given, and the last verify of each half found `failA` and
`failB`. -/
def otpDone (s : State) (o : OtpOp) (pulses : Nat) (failA failB : List OtpVerify) : State :=
  let s := { (s.putb Pg.OTP Reg.OTP.PROG_STATUS_BUSY false) with otpOp := none }
  if o.op = 3 then marginDone s o.addr failA failB else programDone s o pulses failA failB

end Sys2Proof.Machine
end

