-- ==== Sys2Proof/Machine/Granary.lean ====
section
/-! DEFINITION. The Granary (R434 to R446): physical pages, slots, commits in their order, erases, and what each record's
commit completes. -/

namespace Sys2Proof.Machine

/-! ### Pages (R434, R438) -/

/-- A physical page. -/
def gpage (s : State) (n : Nat) : GPage := Table.get GPage.init s.gran.pages n

/-- Change the kind of a page. -/
def setPageKind (s : State) (n kind : Nat) : State :=
  { s with gran := { s.gran with pages := Table.set GPage.init s.gran.pages n { gpage s n with kind := kind } } }

/-- Change the kind of a list of pages. -/
def setPageKinds (s : State) (l : List Nat) (kind : Nat) : State := l.foldl (fun s n => setPageKind s n kind) s

/-- The number of erased pages in the pool. -/
def erasedPages (s : State) : Nat := 1024 - (s.gran.pages.filter (fun e => decide (e.2.kind ≠ 0))).length

/-- The erased pages, those with the lowest erase counts first, lower page numbers first among equals (R438). -/
def wearOrder (s : State) : List Nat :=
  sortBy (fun a b => decide ((gpage s a).count < (gpage s b).count)) ((List.range 1024).filter (fun k => decide ((gpage s k).kind = 0)))

/-- The `n` erased pages that a commit takes (R438). -/
def leastWorn (s : State) (n : Nat) : List Nat := (wearOrder s).take n

/-- Does a page fail its program verify twice (R440)? -/
def pageFails (s : State) (n : Nat) : Bool := s.gran.failing.contains n

/-- Retire pages (R440). -/
def retire (s : State) (l : List Nat) : State :=
  if l.isEmpty then s else (setPageKinds s l 3).addCount Pg.GRANARY Reg.GRANARY.RETIRED l.length

/-- Program `n` erased pages: a page that fails its verify twice is retired, and the write goes on on another (R440). Fewer pages
where the pool has no more. -/
def programPages (s : State) (n : Nat) : State × List Nat :=
  let order := wearOrder s
  let good := (order.filter (fun k => !pageFails s k)).take n
  let tried := match good.getLast? with
    | some k => if good.length < n then order else order.takeWhile (fun j => decide (j ≠ k))
    | none => if n = 0 then [] else order
  let s := retire s (tried.filter (pageFails s))
  (setPageKinds s good 1, good)

/-- Program the pages held for a commit, those that fail replaced (R440). -/
def programHeld (s : State) (pages : List Nat) : State × List Nat :=
  let bad := pages.filter (pageFails s)
  let x := programPages (retire s bad) bad.length
  (setPageKinds x.1 (pages.filter (fun k => !pageFails s k)) 1, x.2 ++ pages.filter (fun k => !pageFails s k))

/-- Pages per slot of a record (*Granary records*). -/
def slotPages (id : Nat) : Nat := if id = 0x01 then 8 else if id = 0x02 then 2 else 1

/-- Queue pages for a background erase (R437). -/
def queueErase (s : State) (l : List Nat) : State :=
  let s := setPageKinds s l 2
  { s with gran := { s.gran with erase := s.gran.erase ++ l } }

/-! ### Slots (R436, R437) -/

/-- Change a slot. -/
def setSlot (s : State) (id k : Nat) (x : Option GSlot) : State :=
  { s with gran := { s.gran with slots := Table.set none s.gran.slots (2 * id + k) x } }

/-- The sequence of a record's next commit (R436). -/
def nextSeq (s : State) (id : Nat) : Nat := match newestOf (s.gwritten id) with
  | some x => x.seq + 1
  | none => 1

/-- The slot that the next commit writes: an erased one, else one that fails its CRC, else the older (DEDUCED from R437, log
entry 89). -/
def targetSlot (s : State) (id : Nat) : Nat :=
  match s.gslot id 0, s.gslot id 1 with
  | none, _ => 0
  | _, none => 1
  | some a, some b => if !a.valid then 0 else if !b.valid then 1 else if a.seq < b.seq then 0 else 1

/-- The sequence that a payload's resume part carries (R267). -/
def resumePart (p : Payload) (seq : Nat) : Option Nat :=
  match p with
  | .ckpt _ => some seq
  | _ => none

/-- Write a slot and queue the superseded copy for erase. -/
def writeSlot (s : State) (id : Nat) (p : Payload) (valid : Bool) (pages : List Nat) : State :=
  let k := targetSlot s id
  let old := match s.gslot id k with
    | some x => x.pages
    | none => []
  let seq := nextSeq s id
  let s := setPageKinds s pages 1
  queueErase (setSlot s id k (some ⟨seq, valid, p, pages, s.rtcSec, resumePart p seq⟩)) old

/-! ### What a commit completes -/

/-- Pages for an outstanding OPEN header whose slot is erased: taken from the pool where at least 9 erased pages stay (R222,
R439). -/
def holdOpen (s : State) : State :=
  if s.ledger.openNeeded && !s.ledger.openSlotErased && s.gran.held.isEmpty && (s.gslot 1 (targetSlot s 1)).isNone &&
      decide (17 ≤ erasedPages s) then
    let held := leastWorn s 8
    let s := setPageKinds s held 4
    { s with gran := { s.gran with held := held }, ledger := { s.ledger with openSlotErased := true } }
  else s

/-- A committed checkpoint (R220 to R223): LEDGER's registers and events; a closing one leaves the record's other slot to
be erased and held for the OPEN header (R222, R437). CKPT_LATE ends here (DESIGN CHOICE, log entry 109). -/
def ckptCommitted (s : State) (c : Ckpt) : State :=
  let p := Pg.LEDGER
  let s := s.put64 p Reg.LEDGER.CKPT_FRAME_LO Reg.LEDGER.CKPT_FRAME_HI c.boundary
  let s := (s.bump p Reg.LEDGER.CKPT_COUNT).event p 1
  let s := s.put p Reg.LEDGER.CKPT_STATUS_LAST_REASON c.reason
  let s := s.putb p Reg.LEDGER.STATUS_CKPT_BUSY (s.gran.pend.any (fun r => decide (r.id = 0x01)))
  let s := s.putb p Reg.LEDGER.STATUS_CKPT_LATE false
  let s := { s with ledger := { s.ledger with late := false } }
  if ckptClosing c.reason then
    let k := targetSlot s 1
    let pages := match s.gslot 1 k with
      | some x => x.pages
      | none => []
    if pages.isEmpty then
      holdOpen { s with gran := { s.gran with held := [] }, ledger := { s.ledger with openNeeded := true, openSlotErased := false } }
    else
      let s := queueErase s pages
      { s with gran := { s.gran with held := pages }, ledger := { s.ledger with openNeeded := true, openSlotErased := false } }
  else s

/-- The committed MATE record carries the counts it was started with: PENDING clears where it holds the channel's new
count (R171). -/
def mateCommitted (s : State) (l : List Nat) : State :=
  forIdx 32 s (fun s c =>
    if nth 0 l c = s.get (Pg.CHAN c) Reg.CHAN.MATE_COUNT then s.putb (Pg.CHAN c) Reg.CHAN.MATE_STATUS_PENDING false else s)

/-- A completed last-fault record: REC_SEQ and EVENT.REC_DONE (R352). -/
def recCommitted (s : State) : State :=
  let s := { s with fault := { s.fault with recSnap := none } }
  ((s.bumpWrap Pg.FAULT Reg.FAULT.REC_SEQ).event Pg.FAULT 4).putb Pg.FAULT Reg.FAULT.STATUS_REC_BUSY false

/-- A programmed log page joins the ring; the oldest of more than 128 is erased (R445). -/
def joinRing (s : State) (seq : Nat) (es : List LogEntry) (drop : Nat) (pages : List Nat) : State :=
  let s := setPageKinds s pages 1
  let logs := s.gran.logs ++ [⟨seq, es, drop, nth 0 pages 0, s.rtcSec⟩]
  queueErase { s with gran := { s.gran with logs := lastN 128 logs } } ((logs.take (logs.length - 128)).map (·.page))

/-- LOG_FIRST and LOG_LAST show the ring. -/
def showRing (s : State) : State :=
  match s.gran.logs.head?, s.gran.logs.getLast? with
  | some x, some y => (s.put Pg.GRANARY Reg.GRANARY.LOG_FIRST x.seq).put Pg.GRANARY Reg.GRANARY.LOG_LAST y.seq
  | _, _ => s

/-- A completed log page: it joins the ring, the oldest of 128 is erased (R445). -/
def logCommitted (s : State) (seq : Nat) (es : List LogEntry) (drop : Nat) (pages : List Nat) : State :=
  let s := joinRing s seq es drop pages
  showRing { s with log := { s.log with waiting := none, dropOpen := false } }

/-- What the completion of a commit sets (R171, R221, R309, R334, R352, R445, R446). -/
def committedAs (s : State) (id : Nat) (p : Payload) : State :=
  match p with
  | .ckpt c => ckptCommitted s c
  | .words l => if id = 0x05 then mateCommitted s l
    else if id = 0x03 then
      { s with keeper := { s.keeper with issueDue := s.keeper.issueDue ++ [(nth 0 l 0, nth 0 l 3)] } }
    else if 0x11 ≤ id ∧ id ≤ 0x14 then
      (s.putb Pg.ESTIM (Reg.ESTIM.OCV_HDR_LEARNED.ix (id - 0x11)) true).event Pg.ESTIM 1
    else s
  | .bytes _ => if id = 0x02 then recCommitted s
    else if 0x20 ≤ id ∧ id ≤ 0x3F then
      let s := s.put Pg.GRANARY Reg.GRANARY.CUST_STATUS_RESULT 1
      ((match newestOf (s.gwritten id) with
        | some x => s.put Pg.GRANARY Reg.GRANARY.CUST_STATUS_SEQ x.seq
        | none => s)).event Pg.GRANARY 3
    else s
  | _ => s

/-! ### The commit queue (R437 to R441) -/

/-- Service order of a pending commit (R441). -/
def commitRank (id : Nat) : Nat :=
  if id = 0x01 then 1 else if id = 0x05 then 2 else if id = 0x03 then 3 else if id = 0x02 then 4
  else if id = 0x04 ∨ id = 0x06 ∨ (0x11 ≤ id ∧ id ≤ 0x14) then 5 else if id = 0x80 then 6 else 7

/-- The pending commit to serve next, and the rest. -/
def nextCommit (l : List GReq) : Option (GReq × List GReq) :=
  match l.foldl (fun (a : Option GReq) r => match a with
    | none => some r
    | some x => if commitRank r.id < commitRank x.id then some r else some x) none with
  | none => none
  | some r => some (r, l.erase r)

/-- The counts that a MATE record carries when its commit starts (R171). -/
def mateCounts (s : State) : List Nat := (List.range 32).map (fun c => s.get (Pg.CHAN c) Reg.CHAN.MATE_COUNT)

/-- Is the erase of the checkpoint's other slot still to be done? It ranks with checkpoints (R437). -/
def heldErase (s : State) : Bool := s.gran.held.any (fun n => s.gran.erase.contains n)

/-- Start the next commit when nothing is in progress and at least 9 erased pages stay in reserve (R439). An OPEN
checkpoint takes the pages held for it. A reset that waits for the page write in progress lets no other begin (R66). -/
def startCommit (s : State) : State :=
  if s.gran.busy.isSome || s.svc.warmPend.isSome || s.svc.coldPend then s
  else if heldErase s && !s.gran.pend.any (fun r => decide (commitRank r.id = 1)) then s
  else match nextCommit s.gran.pend with
  | none => s
  | some (r, rest) =>
    let r := if r.id = 0x05 then { r with payload := .words (mateCounts s) } else r
    let isOpen := match r.payload with
      | .ckpt c => decide (c.reason = 0) && decide (s.gran.held.length = 8)
      | _ => false
    if isOpen then
      { s with gran := { s.gran with busy := some (r, s.gran.held), pend := rest, held := [], waitUs := none } }
    else if slotPages r.id + 9 ≤ erasedPages s then
      let pages := leastWorn s (slotPages r.id)
      let s := setPageKinds s pages 1
      { s with gran := { s.gran with busy := some (r, pages), pend := rest, waitUs := none } }
    else { s with gran := { s.gran with waitUs := some (s.gran.waitUs.getD s.rcUs) } }

/-- Request a commit. A pending commit of the same record that has not started is replaced: it then carries the newest
content (R171). A checkpoint, a reissue and a log page stay: each is to be made (R44, R220, R334). -/
def requestCommit (s : State) (id : Nat) (p : Payload) : State :=
  let pend := if id = 0x80 ∨ id = 0x01 ∨ id = 0x03 then s.gran.pend else s.gran.pend.filter (fun r => decide (r.id ≠ id))
  startCommit { s with gran := { s.gran with pend := pend ++ [⟨id, p⟩] } }

/-- Is a commit of a record in progress or pending? -/
def commitOpen (s : State) (id : Nat) : Bool :=
  s.gran.pend.any (fun r => decide (r.id = id)) || (match s.gran.busy with
    | some (r, _) => decide (r.id = id)
    | none => false)

/-- A checkpoint to be made at the next boundary (R220, R221, R384), once for each reason. -/
def noteReason (s : State) (r : Nat) : State :=
  let l := s.ledger.pendingReasons
  { s with ledger := { s.ledger with pendingReasons := if l.contains r then l else l ++ [r] } }

/-- Request a checkpoint with a reason at the present boundary (R220). -/
def requestCkpt (s : State) (c : Ckpt) : State :=
  requestCommit (s.putb Pg.LEDGER Reg.LEDGER.STATUS_CKPT_BUSY true) 0x01 (.ckpt c)

/-- The next sequence of the log ring. -/
def nextLogSeq (s : State) : Nat := match s.gran.logs.getLast? with
  | some x => x.seq + 1
  | none => 1

/-- The OPEN slot's own completion: the header that was programmed becomes the whole checkpoint (R222). -/
def completeOpen (s : State) (c : Ckpt) (pages : List Nat) : State :=
  let k := match s.gslot 1 0 with
    | some x => if x.payload = .openHeader then 0 else 1
    | none => 1
  let seq := match s.gslot 1 k with
    | some x => x.seq
    | none => nextSeq s 1
  setSlot (setPageKinds s pages 1) 1 k (some ⟨seq, true, .ckpt c, pages, s.rtcSec, some seq⟩)

/-- Complete a commit: the slot is written, COMMITS advances, EVENT.COMMIT_DONE is set (R437). -/
def finishCommit (s : State) (r : GReq) (pages : List Nat) : State :=
  let s := match r.payload with
    | .ckpt c => if c.reason = 0 then completeOpen s c pages else writeSlot s r.id r.payload true pages
    | .bytes _ => if r.id = 0x80 then s else writeSlot s r.id r.payload true pages
    | _ => writeSlot s r.id r.payload true pages
  let s := (s.bump Pg.GRANARY Reg.GRANARY.COMMITS).event Pg.GRANARY 0
  if r.id = 0x80 then
    logCommitted s (nextLogSeq s) (s.log.waiting.getD []) (s.get Pg.CHANGELOG Reg.CHANGELOG.PERSIST_DROP) pages
  else committedAs s r.id r.payload

/-- A commit made at once on the reserved pages (R439). -/
def commitNow (s : State) (id : Nat) (p : Payload) : State :=
  let w := programPages s (slotPages id)
  finishCommit w.1 ⟨id, p⟩ w.2

/-- The log page that waited for a commit now dropped is collected again (R44, R445). -/
def recollect (s : State) : State :=
  { s with log := { s.log with persist := s.log.waiting.getD [] ++ s.log.persist, waiting := none, firstUs := 0, nextUs := s.log.firstUs } }

/-- The last-fault record under way is lost and counted (R352). -/
def loseRecord (s : State) : State :=
  let s := { s with fault := { s.fault with recStart := none, recSnap := none } }
  (s.bump Pg.FAULT Reg.FAULT.REC_SKIPPED).putb Pg.FAULT Reg.FAULT.STATUS_REC_BUSY false

/-- Abandon the page operation in progress (R442): the record being written keeps its older slot and its new copy fails
its CRC. An OPEN checkpoint leaves its header, a written slot that fails its CRC (R222). -/
def abandonCommit (s : State) : State :=
  match s.gran.busy with
  | none => s
  | some (r, pages) =>
    let s := { s with gran := { s.gran with busy := none } }
    let isOpen := match r.payload with
      | .ckpt c => decide (c.reason = 0)
      | _ => false
    let s := if r.id = 0x80 then recollect (queueErase s pages)
      else if isOpen then setPageKinds s pages 1
      else writeSlot s r.id .torn false pages
    if r.id = 0x02 then loseRecord s else s

/-- Commits that wait in the main domain are lost with it. A last-fault record that waits for its commit, or for the boundary of its
snapshot, is lost and counted (R352). -/
def dropPending (s : State) : State :=
  let rec2 := s.gran.pend.any (fun r => decide (r.id = 0x02)) || s.fault.recStart.isSome
  let s := if s.gran.pend.any (fun r => decide (r.id = 0x80)) then recollect s else s
  let s := { s with gran := { s.gran with pend := [] } }
  if rec2 then loseRecord s else s

/-- The emergency commit's buffer is filled: the BROWNOUT checkpoint, if there is one, and one page of pending persistent entries,
the oldest 20 (R442). -/
def fillEmergency (s : State) (c : Option Ckpt) : State :=
  { s with
    gran := { s.gran with
      emergCkpt := c
      emergLog := s.log.persist.take 20
      emergDrop := s.get Pg.CHANGELOG Reg.CHANGELOG.PERSIST_DROP }
    log := { s.log with persist := s.log.persist.drop 20, firstUs := s.log.nextUs } }

/-- The emergency commit's buffer is empty. -/
def clearEmergency (s : State) : State := { s with gran := { s.gran with emergCkpt := none, emergLog := [], emergDrop := 0 } }

/-- The emergency commit completes in the safety domain, on the reserved pages: the checkpoint, then the log page (R442). -/
def writeEmergency (s : State) : State :=
  let s := match s.gran.emergCkpt with
    | some c =>
      let w := programPages s 8
      writeSlot w.1 1 (.ckpt c) (decide (w.2.length = 8)) w.2
    | none => s
  let s := if s.gran.emergLog.isEmpty then s
    else
      let w := programPages s 1
      joinRing w.1 (nextLogSeq s) s.gran.emergLog s.gran.emergDrop w.2
  clearEmergency s

/-- VSYS is lost within the emergency commit (R443): its checkpoint is torn, a written slot that fails its CRC; its log page is
lost. -/
def tearEmergency (s : State) : State :=
  let s := match s.gran.emergCkpt with
    | some _ =>
      let w := programPages s 8
      writeSlot w.1 1 .torn false w.2
    | none => s
  clearEmergency s

/-- Refuse a waiting commit for lack of pool (R439): LOW_POOL, which stays (DESIGN CHOICE, log entry 88), and the requesting
function counts it. -/
def refuseCommit (s : State) (r : GReq) : State :=
  let s := { s with gran := { s.gran with pend := s.gran.pend.erase r, waitUs := none } }
  let s := (s.putb Pg.GRANARY Reg.GRANARY.STATUS_LOW_POOL true).event Pg.GRANARY 2
  if r.id = 0x01 then
    let s := match r.payload with
      | .ckpt c => noteReason s c.reason
      | _ => s
    (s.bump Pg.LEDGER Reg.LEDGER.CKPT_FAIL).putb Pg.LEDGER Reg.LEDGER.STATUS_CKPT_BUSY (commitOpen s 0x01)
  else if r.id = 0x02 then
    loseRecord s
  else if r.id = 0x05 then
    let s := { s with gran := { s.gran with mateUs := s.rcUs } }
    forIdx 32 s (fun s c => if s.flag (Pg.CHAN c) Reg.CHAN.MATE_STATUS_PENDING then s.bump (Pg.CHAN c) Reg.CHAN.MATE_STATUS_FAIL else s)
  else if r.id = 0x80 then
    let n := (s.log.waiting.getD []).length
    let s := (s.addCount Pg.CHANGELOG Reg.CHANGELOG.PERSIST_DROP n).event Pg.CHANGELOG 1
    let s := { s with log := { s.log with waiting := none, dropOpen := false } }
    raise (s.event Pg.CHANGELOG 0) Pg.CHANGELOG Kind.LOG_OVERFLOW 1
  else if 0x20 ≤ r.id ∧ r.id ≤ 0x3F then
    (s.put Pg.GRANARY Reg.GRANARY.CUST_STATUS_RESULT 2).event Pg.GRANARY 3
  else s

/-- A slot one of whose pages is erased: its CRC fails. Of a checkpoint's eight pages the last holds resume bytes alone, the seventh
bytes of both parts (R436, *Granary records*). -/
def erasedIn (x : GSlot) (n : Nat) : GSlot :=
  if !x.pages.contains n then x
  else
    let i := x.pages.findIdx (fun k => decide (k = n))
    { x with valid := x.valid && decide (i = 7), resumeSeq := if 6 ≤ i then none else x.resumeSeq }

/-- Erase the next queued page: pages of the checkpoint's other slot first (R437). The slot they hold is erased with the
last of them. -/
def erasePage (s : State) (n : Nat) : State :=
  let p := gpage s n
  let held := s.gran.held.contains n
  let s := { s with gran := { s.gran with
    erase := s.gran.erase.erase n
    pages := Table.set GPage.init s.gran.pages n ⟨if held then 4 else 0, p.count + 1⟩
    slots := s.gran.slots.map (fun e => (e.1, e.2.map (fun x => erasedIn x n))) } }
  if held && !s.gran.held.any (fun k => s.gran.erase.contains k) && s.ledger.openNeeded then
    let k := targetSlot s 1
    let s := match s.gslot 1 k with
      | some x => if x.pages.any (fun q => s.gran.held.contains q) then setSlot s 1 k none else s
      | none => s
    { s with ledger := { s.ledger with openSlotErased := true } }
  else s

/-- The page whose erase is next: a held one first. -/
def nextErase (s : State) : Option Nat :=
  match s.gran.erase.find? (fun n => s.gran.held.contains n) with
  | some n => some n
  | none => s.gran.erase.head?

/-! ### Wear (R438) -/

/-- Five years in seconds (R438). -/
def fiveYears : Nat := 157788000

/-- Do pages lie 5,000 erase cycles below the pool's median: does at least half of the pool stand 5,000 above them? -/
def underWorn (s : State) (pages : List Nat) : Bool :=
  let pool := (List.range 1024).filter (fun k => decide ((gpage s k).kind = 0))
  pages.all (fun n => decide (pool.length ≤ 2 * (pool.filter (fun k => decide ((gpage s n).count + 5000 ≤ (gpage s k).count))).length)) &&
    !pages.isEmpty

/-- Rewrite slot `k` of a record unchanged into the least-worn pages (R438). -/
def rewriteSlot (s : State) (id k : Nat) (x : GSlot) : State :=
  let w := programPages s x.pages.length
  queueErase (setSlot w.1 id k (some { x with pages := w.2, sec := s.rtcSec })) x.pages

/-- Rewrite a page of the log ring unchanged into the least-worn page (R438). -/
def rewriteLog (s : State) (x : LogPage) : State :=
  let w := programPages s 1
  let l := s.gran.logs.map (fun y => if y = x then { x with page := nth 0 w.2 0, sec := s.rtcSec } else y)
  queueErase { w.1 with gran := { w.1.gran with logs := l } } [x.page]

/-! ### The customer area and the window (R446, R448) -/

/-- Word `i` of the customer staging buffer. -/
def stageWord (s : State) (i : Nat) : Nat := Table.get 0 s.gran.stage i

/-- The first `n` staged bytes. -/
def stagedBytes (s : State) (n : Nat) : List Nat :=
  ((List.range 125).flatMap (fun i => bytesLE 4 (stageWord s i))).take n

/-- The 512 bytes of a page whose program was abandoned: free but for the CRC, which fails (R442; log entry 99). -/
def tornBytes (seq : Nat) : List Nat :=
  let b := (List.range 508).map (fun i => (Config.tornByte seq i).toNat)
  b ++ bytesLE 4 ((crc32 b + 1 + (Config.tornByte seq 508).toNat) % 2 ^ 32)

/-- The 512 bytes of a slot with its header (*Slot header*). -/
def slotBytes (id : Nat) (x : GSlot) : List Nat :=
  let pay := match x.payload with
    | .bytes l => l
    | .words l => l.flatMap (bytesLE 4)
    | _ => []
  let b := bytesLE 2 id ++ bytesLE 2 pay.length ++ bytesLE 4 x.seq ++ (pay ++ List.replicate (500 - pay.length) 0)
  if x.valid then b ++ bytesLE 4 (crc32 b) else tornBytes x.seq

/-- The 512 bytes of a log page (R445). -/
def logPageBytes (x : LogPage) : List Nat :=
  let es := x.entries.flatMap (fun e => [e.w0, e.w1, e.w2, e.w3, e.w4, e.w5].flatMap (bytesLE 4))
  let b := bytesLE 2 0x80 ++ bytesLE 2 x.entries.length ++ bytesLE 4 x.seq ++ (es ++ List.replicate (480 - es.length) 0) ++
    bytesLE 4 x.drop ++ List.replicate 16 0
  b ++ bytesLE 4 (crc32 b)

/-- The bytes that the WINDOW shows (R448); an erased slot or an absent log page shows 0xFF. -/
def windowBytes (s : State) : List Nat :=
  let src := s.get Pg.GRANARY Reg.GRANARY.WIN_SEL_SRC
  let ix := s.get Pg.GRANARY Reg.GRANARY.WIN_SEL_INDEX
  let blank := List.replicate 512 0xFF
  if src = 2 then match s.gran.logs.find? (fun x => decide (x.seq = ix)) with
    | some x => logPageBytes x
    | none => blank
  else
    let id := 0x20 + ix % 32
    match newestOf (s.gwritten id) with
    | none => blank
    | some x =>
      if src = 0 then slotBytes id x
      else match (s.gwritten id).find? (fun y => decide (y.seq ≠ x.seq)) with
        | some y => slotBytes id y
        | none => blank

/-- The bytes of the committed last-fault record selected by REC_CTRL (R358); 0 where there is none. -/
def faultRecordBytes (s : State) (older : Bool) : List Nat :=
  let blank := List.replicate 1024 0
  let bytes := fun (x : Option GSlot) => match x.map (·.payload) with
    | some (.bytes l) => l
    | _ => blank
  let l := (s.gwritten 2).filter (·.valid)
  match newestOf l with
  | none => blank
  | some x => bytes (if older then l.find? (fun y => decide (y.seq ≠ x.seq)) else some x)

end Sys2Proof.Machine
end

