-- ==== Sys2Proof/Machine/Calib.lean ====
section
/-! DEFINITION. Background calibration (R180 to R194): rotation, the calibration checks, the cross-check at a hand-over,
and the retirement of slices. -/

namespace Sys2Proof.Machine

/-- A slice is retired (R192). -/
def sliceRetired (s : State) (b k : Nat) : Bool := decide (roleOf s b k = 0xF)

/-- Publish the roving slice and its duty in CAL_STATUS. -/
def showRover (s : State) (b : Nat) : State :=
  let bs := s.bank b
  let p := Pg.BANK b
  let s := s.put p Reg.BANK.CAL_STATUS_ROVER (bs.rover.getD 0xF)
  let s := s.put p Reg.BANK.CAL_STATUS_CAL_DUTY bs.nextDuty
  s.putb p Reg.BANK.CAL_STATUS_NO_SPARE bs.rover.isNone

/-- CAL_PHASE of frame `j` of a step (*Calibration step*). -/
def calPhase (bs : BankState) : Nat :=
  let j := bs.stepFrame
  if bs.overlap then 0
  else if !bs.calRunning || decide (202 ≤ j) then 5
  else if j < 9 then 1 else if j < 73 then 2 else if j < 137 then 3 else 4

/-- NEXT_HANDOVER (R183): the low 32 bits of the next overlap frame's number. -/
def showStep (s : State) (b : Nat) : State :=
  let bs := s.bank b
  let p := Pg.BANK b
  let sched := bs.rover.isSome && s.flag p Reg.BANK.CAL_CFG_EN && !bs.startPending
  let s := s.put p Reg.BANK.NEXT_HANDOVER
    (if sched then (s.frame + (bs.stepLen - bs.stepFrame)) % 2 ^ 32 else 0xFFFFFFFF)
  let s := s.put p Reg.BANK.CAL_STATUS_STEP_FRAME (min bs.stepFrame 2047)
  s.put p Reg.BANK.CAL_STATUS_CAL_PHASE (calPhase bs)

/-- The length of a step in frames (R180). -/
def stepLength (s : State) (b : Nat) : Nat := 256 * 2 ^ s.get (Pg.BANK b) Reg.BANK.CAL_CFG_STEP

/-- A boundary of the rotation (R180 to R184): the step's frame advances, an overlap frame begins at the start of each
later step, and the overlap frame that has ended leaves its hand-over due. -/
def calFrame (s : State) (b : Nat) : State :=
  let bs := s.bank b
  let en := s.flag (Pg.BANK b) Reg.BANK.CAL_CFG_EN
  let bs :=
    if bs.startPending then
      { bs with startPending := false, stepFrame := 0, stepLen := stepLength s b, calRunning := bs.rover.isSome, roverPassed := false, overlap := false, slices := match bs.rover with
        | some k => Table.set SliceState.init bs.slices k { Table.get SliceState.init bs.slices k with trimV := none, trimI := none }
        | none => bs.slices }
    else if bs.overlap then { bs with overlap := false, handoverDue := true, stepFrame := bs.stepFrame + 1 }
    else if bs.stepLen ≤ bs.stepFrame + 1 then
      { bs with stepFrame := 0, stepLen := stepLength s b, overlap := bs.rover.isSome && en && bs.roverPassed }
    else { bs with stepFrame := bs.stepFrame + 1 }
  let s := s.setBank b bs
  let s := if bs.overlap then s.bump (Pg.BANK b) Reg.BANK.ROT_COUNT else s
  showStep s b

/-- Commit the retirement maps of all banks (R192). -/
def commitRetired (s : State) : State :=
  requestCommit s 0x04 (.words ((List.range 8).map (fun b => (s.bank b).retireMap)))

/-- Raise SLICE_FAIL 0x2 for a duty that has no slice (R193). -/
def dutyLost (s : State) (b d : Nat) : State := raise s (Pg.BANK b) Kind.SLICE_FAIL (16 * d + 2)

/-- CALIBRATED, CYCLE_COUNT and EVENT.CYCLE_DONE when every slice in service has passed once more (R182). The event is set
at each further cycle too (DESIGN CHOICE, log entry 77). -/
def countCycle (s : State) (b : Nat) : State :=
  let p := Pg.BANK b
  let l := (List.range 10).filter (fun k => !sliceRetired s b k)
  let n := s.get p Reg.BANK.CYCLE_COUNT
  if !l.isEmpty && l.all (fun k => decide (n < (sliceOf s b k).passes)) then
    ((s.bump p Reg.BANK.CYCLE_COUNT).putb p Reg.BANK.CAL_STATUS_CALIBRATED true).event p 1
  else s

/-- Retire slice `k` (R188, R190 to R193): the map is committed, the rover takes a lost duty, whose next frame is
substituted as well, and a duty that nothing can take raises SLICE_FAIL 0x2. The slices left may all have passed (R182).
The retired slice's SUSPECT bit clears (DESIGN CHOICE, log entry 106). -/
def retireSlice (s : State) (b k : Nat) : State :=
  let role := roleOf s b k
  let bs := s.bank b
  let p := Pg.BANK b
  let s := (setRole s b k 0xF).event p 3
  let s := s.putBit p Reg.BANK.SLICE_HEALTH_RETIRED k true
  let s := s.putBit p Reg.BANK.SLICE_HEALTH_SUSPECT k false
  let s := s.setBank b { s.bank b with retireMap := bs.retireMap ||| 2 ^ k }
  let s :=
    if role = 9 then
      s.setBank b { s.bank b with rover := none, calRunning := false, roverPassed := false, overlap := false, handoverDue := false }
    else if role < 9 then
      match bs.rover with
      | some r =>
        let s := setRole s b r role
        let inOverlap := bs.overlap && decide (role = bs.nextDuty)
        s.setBank b { s.bank b with rover := none, calRunning := false, roverPassed := false, overlap := false, handoverDue := false, subst := if inOverlap then bs.subst else Table.set 0 bs.subst role 1 }
      | none => dutyLost s b role
    else s
  countCycle (commitRetired (showStep (showRover s b) b)) b

/-- The slices flagged in the frame that has ended are retired at its boundary (R190), a roving one first, so that no duty
goes to it. -/
def retireFlagged (s : State) (b : Nat) : State :=
  let l := (s.bank b).flagged
  let rover := l.filter (fun k => decide (roleOf s b k = 9))
  let s := s.setBank b { s.bank b with flagged := [] }
  (rover ++ l.filter (fun k => !rover.contains k)).foldl (fun s k =>
    retireSlice (raise s (Pg.BANK b) Kind.SLICE_FAIL (16 * k + 1)) b k) s

/-- The die temperature that corrects the references (R186): the mean of the four sensors, in 0.01 °C from 25 °C. -/
def dieDelta (s : State) : Rat :=
  ratI (sumInt ((List.range 4).map (fun k => s.geti Pg.HKRAIL (Reg.HKRAIL.DIE_TEMP.ix k)))) / 4 - 2500

/-- A reference value in 0.01 µV after the Almanac curve (R186). -/
def refValue (s : State) (b : Nat) (v : Int) (lsb : Rat) : Rat :=
  let p := Pg.BANK b
  let d := dieDelta s / 100
  let lin := ratI (s.geti p Reg.BANK.REF_CURVE_LIN) / 100000000
  let quad := ratI (s.geti p Reg.BANK.REF_CURVE_QUAD) / 1000000000
  ratI v * lsb * (1 + lin * d + quad * d * d)

/-- The computed trims of a calibration and its check (R187, R188): RESULT, the trims, and g or gp. Of several checks that
fail, RESULT names the first of *Calibration checks* (DESIGN CHOICE, log entry 78). -/
def calTrims (s : State) (b k : Nat) (volt : Bool) (c : CalIn) : Nat × SliceTrim :=
  let p := Pg.BANK b
  let z := ratI c.zero / 64
  let pos := ratI c.pos / 64
  let neg := ratI c.neg / 64
  let var := ratI c.zeroSq / 64 - z * z
  let ft := factoryTrim s b k volt
  let far := fun (g f : Rat) => decide (absR f * 2 / 1000 < absR (g - f))
  if volt then
    let rv := refValue s b (s.geti p Reg.BANK.REF_V) 10
    let rn := refValue s b (s.geti p Reg.BANK.REF_VN) 10
    let g := (pos - z) / rv
    let lin := absR ((neg - z) / g - rn)
    let res := if 50000 < absR (z - ft.z) then 1 else if far g ft.gp then 2
      else if 36000000 < var then 3 else if 3000 < lin then 4 else 0
    (res, ⟨z, g, g⟩)
  else
    let rp := refValue s b (s.geti p Reg.BANK.REF_IP) 1
    let rn := refValue s b (s.geti p Reg.BANK.REF_IN) 1
    let gp := (pos - z) / rp
    let gn := (z - neg) / absR rn
    let res := if 5000 < absR (z - ft.z) then 1 else if far gp ft.gp || far gn ft.gn then 2
      else if 90000 < var then 3 else if absR gp * 5 / 10000 < absR (gp - gn) then 4 else 0
    (res, ⟨z, gp, gn⟩)



/-- The end of a calibration step's measurement (R187, R188). -/
def calFinish (s : State) (b k : Nat) (c : CalIn) : State :=
  let p := Pg.BANK b
  let bs := s.bank b
  let volt := decide (bs.nextDuty < 4)
  let t := calTrims s b k volt c
  let ft := factoryTrim s b k volt
  let s := s.put p Reg.BANK.LAST_CAL (k * 4096 + bs.nextDuty * 256 + t.1)
  if t.1 = 0 then
    let s := s.putSat p Reg.BANK.LAST_CAL_OFFSET (quant (t.2.z - ft.z))
    let s := s.putSat p Reg.BANK.LAST_CAL_GAIN (quant ((t.2.gp - ft.gp) * 100000000))
    let x := sliceOf s b k
    let s := setSlice s b k { x with trimV := if volt then some t.2 else x.trimV, trimI := if volt then x.trimI else some t.2, passes := x.passes + 1, sinceMismatch := true }
    let s := s.setBank b { s.bank b with calRunning := false, roverPassed := true }
    countCycle (s.event p 0) b
  else raise (retireSlice s b k) p Kind.SLICE_FAIL (16 * k)

/-- The corrected primary reading of a slice for a duty in the frame last latched, held at the range's ends as its sample is
(R175), 0.01 µV. -/
def lastInput (s : State) (b k d : Nat) : Rat :=
  (clipDuty d (correct (trimOf s b k (decide (d < 4))) (nth (0, 0) (s.bank b).last k).1)).1

/-- The sample of a slice for a duty in the frame last latched, in the duty's LSB. -/
def lastSample (s : State) (b k d : Nat) : Int := sampleOf s b d (lastInput s b k d)

/-- The cross-check of an overlap frame (R189): is the difference of the two slices' samples within the limit? -/
def crossOk (s : State) (b r o d : Nat) : Bool :=
  let p := Pg.BANK b
  let diff := ratI (lastSample s b r d - lastSample s b o d)
  let xi := s.get p Reg.BANK.CAL_CFG_XCHECK_I
  let lim : Rat :=
    if d < 4 then ratN (s.get p Reg.BANK.CAL_CFG_XCHECK_V * 10)
    else if d < 8 then ratN (xi * 750000) / ratN (s.get p (Reg.BANK.SHUNT_RES.ix (d - 4)))
    else ratN (xi * 75000) / ratN (s.get p Reg.BANK.BUS_SHUNT_RES)
  decide (absR diff ≤ lim)

/-- Record a mismatch (R189): XCHECK_LAST, EVENT.XCHECK, both slices SUSPECT. -/
def crossMismatch (s : State) (b r o d : Nat) : State :=
  let p := Pg.BANK b
  let s := s.put p Reg.BANK.XCHECK_LAST_NEW r
  let s := s.put p Reg.BANK.XCHECK_LAST_OLD o
  let s := s.put p Reg.BANK.XCHECK_LAST_DUTY d
  let s := s.put p Reg.BANK.XCHECK_LAST_DIFF (satNat 20 (absI (lastSample s b r d - lastSample s b o d)).toNat)
  let s := (s.putBit p Reg.BANK.SLICE_HEALTH_SUSPECT r true).putBit p Reg.BANK.SLICE_HEALTH_SUSPECT o true
  let s := s.event p 2
  if (s.bank b).mismatch then s
  else
    let s := setSlice s b r { sliceOf s b r with sinceMismatch := false }
    let s := setSlice s b o { sliceOf s b o with sinceMismatch := false }
    s.setBank b { s.bank b with mismatch := true }

/-- The end of a SUSPECT episode: SUSPECT clears. -/
def crossClear (s : State) (b : Nat) : State :=
  (s.put (Pg.BANK b) Reg.BANK.SLICE_HEALTH_SUSPECT 0).setBank b { s.bank b with mismatch := false }

/-- Apply the cross-check's outcome and give whether the duty in rotation advances (R189). -/
def crossCheck (s : State) (b r o d : Nat) : State × Bool :=
  if crossOk s b r o d then (if (s.bank b).mismatch then crossClear s b else s, true)
  else if (s.bank b).mismatch ∧ (sliceOf s b r).sinceMismatch ∧ (sliceOf s b o).sinceMismatch then
    (crossClear (raise s (Pg.BANK b) Kind.SLICE_FAIL (16 * o + 3)) b, true)
  else (crossMismatch s b r o d, false)

/-- The hand-over at the boundary that ends the overlap frame (R180, R181): the rover owns the duty, the former owner
roves and calibrates for the range of the duty it will take. -/
def handOver (s : State) (b : Nat) : State :=
  let bs := s.bank b
  let d := bs.nextDuty
  match bs.rover, ownerOf s b d with
  | some r, some o =>
    let x := crossCheck s b r o d
    let s := setRole (setRole x.1 b r d) b o 9
    let s := s.setBank b { s.bank b with rover := some o, nextDuty := if x.2 then (d + 1) % 9 else d, calRunning := true, roverPassed := false, handoverDue := false }
    showStep (showRover s b) b
  | _, _ => s.setBank b { bs with handoverDue := false }

/-- The bank at an entry to FULL (R181, R185, R193, R203): duties to the slices in service, the rover, factory trims. -/
def enterBank (s : State) (b : Nat) : State :=
  let p := Pg.BANK b
  let map := (s.bank b).retireMap
  let live := (List.range 10).filter (fun k => !bitOf map k)
  let s := forIdx 10 s (fun s k => setRole s b k 0xF)
  let s := (List.range (min 9 live.length)).foldl (fun s d => setRole s b (nth 0 live d) d) s
  let rover := (live.drop 9).head?
  let s := match rover with
    | some k => setRole s b k 9
    | none => s
  let s := s.put p Reg.BANK.SLICE_HEALTH_RETIRED map
  let s := s.setBank b { BankState.init with retireMap := map, rover := rover, calRunning := rover.isSome, stepLen := stepLength s b }
  let s := forIdx 4 s (fun s k => s.setChan (4 * b + k) { s.chan (4 * b + k) with rpAcq := 16 })
  let s := seedBank s b
  let s := showStep (showRover s b) b
  (List.range 9).foldl (fun s d => if live.length ≤ d then dutyLost s b d else s) s

end Sys2Proof.Machine
end

