-- ==== Sys2Proof/Machine/Stream.lean ====
section
/-! DEFINITION. The stream engine (R460 to R468): records of the sources, the queues, the regions of the four stream
channels, retirement, and what a boundary and a reset do to them. -/

namespace Sys2Proof.Machine

/-- Queue of a source. -/
def squeue (s : State) (src : Nat) : List SRec := Table.get [] s.stream.queues src

/-- Set the queue of a source. -/
def setSqueue (s : State) (src : Nat) (l : List SRec) : State :=
  { s with stream := { s.stream with queues := Table.set [] s.stream.queues src l } }

/-- The records in a channel's region, oldest first, each with its SEQ and its words. -/
def sregion (s : State) (k : Nat) : List (Nat × List Nat) := Table.get [] s.stream.regions k

/-- Set a channel's region. -/
def setSregion (s : State) (k : Nat) (l : List (Nat × List Nat)) : State :=
  { s with stream := { s.stream with regions := Table.set [] s.stream.regions k l } }

/-- The route index of a source: 0 telemetry, 1 steps, 2 results, 3 change log (ROUTE). -/
def routeOf (src : Nat) : Nat := if src < 0x20 then 0 else if src < 0x28 then 1 else if src < 0x2A then 2 else 3

/-- Is a route enabled? -/
def routeEn (s : State) (m : Nat) : Bool := bitOf (s.get Pg.STREAM Reg.STREAM.ROUTE) (4 * m + 2)

/-- The stream channel of a route. -/
def routeChan (s : State) (m : Nat) : Nat := bitsOf (s.get Pg.STREAM Reg.STREAM.ROUTE) (4 * m + 1) (4 * m)

/-- Is channel `k` enabled and started (R466)? -/
def streamRuns (s : State) (k : Nat) : Bool := s.getBit Pg.STREAM Reg.STREAM.CTRL_EN k && !s.stream.starts.contains k

/-- Does a source create records (R460)? -/
def sourceOn (s : State) (src : Nat) : Bool := routeEn s (routeOf src) && streamRuns s (routeChan s (routeOf src))

/-- The words of a region. -/
def regionWords (s : State) (k : Nat) : List Nat := (sregion s k).flatMap (·.2)

/-- The room of channel `k`'s region in words (BUF_CFG). -/
def regionSize (s : State) (k : Nat) : Nat :=
  bitsOf (s.get Pg.STREAM Reg.STREAM.BUF_CFG) (8 * k + 4) (8 * k) * 256

/-- STREAM_N as this device drives it (R465). -/
def refreshStreamN (s : State) : State :=
  s.putb Pg.STREAM Reg.STREAM.STATUS_STREAM_N_OUT
    (s.full && (List.range 4).any (fun k => s.getBit Pg.STREAM Reg.STREAM.CTRL_EN k && s.getBit Pg.STREAM Reg.STREAM.STATUS_HIGH k))

/-- FILL of a channel and its high state with hysteresis (R465). -/
def refreshFill (s : State) (k : Nat) : State :=
  let p := Pg.STREAM
  let n := (regionWords s k).length
  let s := s.put p (Reg.STREAM.FILL_WORDS.ix k) n
  let was := s.getBit p Reg.STREAM.STATUS_HIGH k
  let hi := if was then !decide (n ≤ s.getf p (Reg.STREAM.MARKS_LOW.ix k) * 16)
    else decide (s.getf p (Reg.STREAM.MARKS_HIGH.ix k) * 16 ≤ n)
  let s := s.putBit p Reg.STREAM.STATUS_HIGH k hi
  refreshStreamN (if hi && !was then s.event p k else s)

/-- Count the loss of `n` records of a source: the DROPS field of its next record, and for the sources that have a counter DROP.s
and DROP_TOTAL. -/
def countDrop (s : State) (src n : Nat) : State :=
  let p := Pg.STREAM
  let st := s.stream
  let s := { s with stream := { st with lost := Table.set 0 st.lost src (Table.get 0 st.lost src + n) } }
  if src < 0x2A then (s.addCount p (Reg.STREAM.DROP.ix src) n).addCount p Reg.STREAM.DROP_TOTAL n else s

/-- A record that finds its queue full is lost (R460): STREAM_DROP for the first loss since the source last delivered. -/
def dropRecord (s : State) (src : Nat) : State :=
  let s := (countDrop s src 1).event Pg.STREAM 4
  if s.stream.raised.contains src then s
  else raise { s with stream := { s.stream with raised := s.stream.raised ++ [src] } } Pg.STREAM Kind.STREAM_DROP src

/-- A source creates a record (R460). -/
def createRecord (s : State) (r : SRec) : State :=
  if !sourceOn s r.src then s
  else if (squeue s r.src).length < 64 then setSqueue s r.src (squeue s r.src ++ [r])
  else dropRecord s r.src

/-- The words of a record with its header (R461). -/
def recordWords (s : State) (r : SRec) (seq : Nat) : List Nat :=
  (r.typ * 2 ^ 24 + r.src * 2 ^ 16 + (r.body.length + 2) * 2 ^ 8 + min 255 (Table.get 0 s.stream.lost r.src)) :: seq :: r.body

/-- Write a record whole into channel `k`'s region (R461, R462). -/
def writeRecord (s : State) (k : Nat) (r : SRec) : State :=
  let p := Pg.STREAM
  let seq := s.get p (Reg.STREAM.SEQ.ix k)
  let s := setSregion s k (sregion s k ++ [(seq, recordWords s r seq)])
  let st := s.stream
  let s := { s with stream := { st with lost := Table.set 0 st.lost r.src 0, raised := st.raised.filter (fun x => decide (x ≠ r.src)) } }
  let s := (s.bumpWrap p (Reg.STREAM.SEQ.ix k)).bump p (Reg.STREAM.REC_COUNT.ix k)
  refreshFill s k

/-- The oldest unconsumed change-log entry as a CLOG record, with MIRROR = 1 (R460). -/
def clogRecord (s : State) : Option SRec :=
  if s.flag Pg.CHANGELOG Reg.CHANGELOG.CTRL_MIRROR && sourceOn s 0x2A && decide (s.log.fill ≠ 0) then
    let e := Table.get LogEntry.empty s.log.ring (s.get Pg.CHANGELOG Reg.CHANGELOG.TAIL_TAIL)
    some ⟨e.w1, 0x2A, 5, [e.w0, e.w1, e.w2, e.w3, e.w4, e.w5]⟩
  else none

/-- The heads of the queues that wait for channel `k`. -/
def waitingHeads (s : State) (k : Nat) : List SRec :=
  ((List.range 0x2A).filterMap (fun src => if routeChan s (routeOf src) = k then (squeue s src).head? else none)) ++
    (if routeChan s 3 = k then (clogRecord s).toList else [])

/-- The age of a record in frames: its creation frame counts modulo 2^32 (R461, R462). -/
def recAge (s : State) (r : SRec) : Nat := (s.frame32 + 2 ^ 32 - r.frame % 2 ^ 32) % 2 ^ 32

/-- Creation order: oldest frame, then source code (R462). -/
def recBefore (s : State) (a b : SRec) : Bool :=
  decide (recAge s b < recAge s a) || (decide (recAge s a = recAge s b) && decide (a.src < b.src))

/-- The record that channel `k` takes next, if its region has room for it. -/
def nextRecord (s : State) (k : Nat) : Option SRec :=
  if !streamRuns s k then none
  else match sortBy (recBefore s) (waitingHeads s k) with
    | [] => none
    | r :: _ => if (regionWords s k).length + r.body.length + 2 ≤ regionSize s k then some r else none

/-- The channel and record that the write engine moves next: oldest creation frame, then ascending source (R462). -/
def nextWrite (s : State) : Option (Nat × SRec) :=
  ((List.range 4).filterMap (fun k => (nextRecord s k).map (fun r => (k, r)))).foldl (fun a x => match a with
    | none => some x
    | some y => if recBefore s x.2 y.2 then some x else some y) none

/-- Take a record from its source: from its queue, or from the change-log ring. -/
def takeRecord (s : State) (r : SRec) : State :=
  if r.src = 0x2A then
    let s := s.put Pg.CHANGELOG Reg.CHANGELOG.TAIL_TAIL ((s.get Pg.CHANGELOG Reg.CHANGELOG.TAIL_TAIL + 1) % 1024)
    { s with log := { s.log with fill := s.log.fill - 1 } }
  else setSqueue s r.src ((squeue s r.src).drop 1)

/-- The start of channel `k` (R466): counts at 0, RETIRED_SEQ = SEQ − 1, an OPEN record first. -/
def startStream (s : State) (k : Nat) : State :=
  let p := Pg.STREAM
  let s := setSregion s k []
  let s := (s.put p (Reg.STREAM.REC_COUNT.ix k) 0).put p (Reg.STREAM.WORD_COUNT.ix k) 0
  let s := s.put p (Reg.STREAM.RETIRED_SEQ.ix k) ((s.get p (Reg.STREAM.SEQ.ix k) + 2 ^ 32 - 1) % 2 ^ 32)
  let s := { s with stream := { s.stream with starts := s.stream.starts.filter (fun x => decide (x ≠ k)) } }
  writeRecord s k ⟨s.frame32, 0x3F, 6, [s.frame32, s.frame / 2 ^ 32, s.rtcSec, s.get Pg.CHIP Reg.CHIP.WARM_COUNT]⟩

/-- The disable of channel `k` (R466): region and queues discarded, uncounted; FILL, REC_COUNT and WORD_COUNT undefined. -/
def stopStream (s : State) (k : Nat) : State :=
  let p := Pg.STREAM
  let s := setSregion s k []
  let s := (List.range 0x2A).foldl (fun s src => if routeChan s (routeOf src) = k then setSqueue s src [] else s) s
  let st := s.stream
  let s := { s with stream := { st with starts := st.starts.filter (fun x => decide (x ≠ k)), fetched := Table.set 0 st.fetched k 0 } }
  let f := s.fresh
  let s := f.2.put p (Reg.STREAM.FILL_WORDS.ix k) (Config.openStream f.1)
  let f := s.fresh
  let s := f.2.put p (Reg.STREAM.REC_COUNT.ix k) (Config.openStream f.1)
  let f := s.fresh
  let s := f.2.put p (Reg.STREAM.WORD_COUNT.ix k) (Config.openStream f.1)
  refreshStreamN (s.putBit p Reg.STREAM.STATUS_HIGH k false)

/-- The TELEM record of a channel (*Record bodies*). -/
def telemRecord (s : State) (c : Nat) : SRec :=
  let b := Pg.BANK (c / 4)
  let k := c % 4
  let p := Pg.CHAN c
  let t := if s.flag Pg.HKRAIL (Reg.HKRAIL.CELL_T_VALID.ix c) then s.get Pg.HKRAIL (Reg.HKRAIL.CELL_T_TEMP.ix c) else 0x8000
  let valid := s.flag b (Reg.BANK.STATUS_VALID_V.ix k) && s.flag b (Reg.BANK.STATUS_VALID_I.ix k)
  let sub := s.flag b (Reg.BANK.STATUS_SUBST_V.ix k) || s.flag b (Reg.BANK.STATUS_SUBST_I.ix k)
  let q := pub (s.acc c).stepQ 20
  ⟨s.frame32, c, 1, [s.frame32, s.get b (Reg.BANK.AVG_V.ix k), s.get b (Reg.BANK.AVG_I.ix k), q % 2 ^ 32, q / 2 ^ 32,
    t * 2 ^ 16 + s.get p Reg.CHAN.RCP_STATUS_STEP % 64 * 2 ^ 10 + s.cstate c * 2 ^ 7 + s.cmode c * 2 ^ 3 +
      b2n valid * 4 + s.get p Reg.CHAN.STATUS_TOKEN_LIMITED * 2 + b2n sub]⟩

/-- The record of a step end or mark (*Record bodies*). -/
def stepRecord (s : State) (e : StepEvent) : SRec :=
  ⟨s.frame32, 0x20 + e.chan / 4, if e.mark then 3 else 2,
    [e.frame % 2 ^ 32, e.tag * 65536 + e.chan, e.info, unsigned 32 (satSigned 32 e.value)] ++ e.cellId ++ e.sums⟩

/-- The record of a published result (*Record bodies*), from the result page after its publication. -/
def resultRecord (s : State) (c : Nat) (r : GradeResult) : SRec :=
  let p := Pg.RESULT c
  let body := if r.block = 0 then
      [s.get p Reg.RESULT.Z_END, s.get p Reg.RESULT.Z_DC, s.get p Reg.RESULT.Z_WINDOW] ++ (r.words.drop 52).map (·.2)
    else r.words.map (·.2)
  ⟨s.frame32, 0x20 + estimatorOf (c / 4), 4,
    [s.get p Reg.RESULT.PUB_FRAME, r.tag * 65536 + r.step % 64 * 256 + r.block * 32 + c] ++
      (List.range 4).map (fun k => s.get p (Reg.RESULT.CELL_ID.ix k)) ++ [s.get p Reg.RESULT.RES_STATUS] ++ body⟩

/-- The stream's part of a boundary (R460, R465, R466): channels that start, new MARKS, telemetry, then the step ends and
marks. -/
def streamBoundary (s : State) : State :=
  let s := (List.range 4).foldl (fun s k =>
    if s.stream.starts.contains k then startStream s k else if streamRuns s k then refreshFill s k else s) s
  let per := s.get Pg.STREAM Reg.STREAM.TELEM_CFG_PERIOD
  let s := if per ≠ 0 ∧ s.frame % per = 0 then
      (List.range (4 * s.bankCount)).foldl (fun s c => if s.getBit Pg.STREAM Reg.STREAM.TELEM_MASK c then createRecord s (telemRecord s c) else s) s
    else s
  let s := s.events.foldl (fun s e => createRecord s (stepRecord s e)) s
  { s with events := [] }

/-- Retire the records of channel `k` up to and with SEQ `r` (R464); none where the write is to be refused. -/
def retireStream (s : State) (k r : Nat) : Option State :=
  let p := Pg.STREAM
  let d := (r + 2 ^ 32 - s.get p (Reg.STREAM.RETIRED_SEQ.ix k)) % 2 ^ 32
  let l := sregion s k
  if d = 0 ∨ 2 ^ 31 ≤ d then some s
  else if d ≤ l.length then
    let n := ((l.take d).flatMap (·.2)).length
    let s := setSregion s k (l.drop d)
    let s := (s.put p (Reg.STREAM.RETIRED_SEQ.ix k) r).addCount p (Reg.STREAM.WORD_COUNT.ix k) n
    some (refreshFill s k)
  else none

/-- A fetch of DATA.k in the present host read frame (R463). -/
def fetchStream (s : State) (k : Nat) : Nat × State :=
  let n := Table.get 0 s.stream.fetched k
  (nth 0 (regionWords s k) n, { s with stream := { s.stream with fetched := Table.set 0 s.stream.fetched k (n + 1) } })

/-- Step events that wait for their record are lost with the records (R468). -/
def loseEvents (s : State) : State :=
  s.events.foldl (fun s e => if sourceOn s (0x20 + e.chan / 4) then countDrop s (0x20 + e.chan / 4) 1 else s) s

/-- The stream at a warm reset (R468): buffer and queues cleared, their records counted as losses of their sources. -/
def streamWarm (s : State) : State :=
  let s := (List.range 0x2B ++ [0x3F]).foldl (fun (s : State) (src : Nat) =>
    let inQ := (squeue s src).length
    let inR := sumNat ((List.range 4).map (fun k =>
      ((sregion s k).filter (fun (r : Nat × List Nat) => decide (bitsOf (nth 0 r.2 0) 23 16 = src))).length))
    if inQ + inR = 0 then s else countDrop s src (inQ + inR)) (loseEvents s)
  { s with stream := { StreamState.init with lost := s.stream.lost, raised := s.stream.raised } }

/-- At an entry to FULL, each enabled channel starts as at its enable (R468). -/
def streamEnter (s : State) : State :=
  { s with stream := { s.stream with starts := (List.range 4).filter (fun k => s.getBit Pg.STREAM Reg.STREAM.CTRL_EN k) } }

end Sys2Proof.Machine
end

