-- ==== Sys2Proof/Machine/HkBase.lean ====
section
/-! DEFINITION. The rails and the sequencer's state as every block uses them (R359 to R373): switching rails on and off,
HK_UP, the reset outputs, and the start of a sequence. -/

namespace Sys2Proof.Machine

/-- HKSEQ:STATUS.STATE codes. -/
abbrev Hq.OFF : Nat := 0
abbrev Hq.UP : Nat := 1
abbrev Hq.ON : Nat := 2
abbrev Hq.DOWN : Nat := 3
abbrev Hq.FAULTED : Nat := 4

/-- The state of the sequencer. -/
def hkState (s : State) : Nat := s.get Pg.HKSEQ Reg.HKSEQ.STATUS_STATE

/-- Set the state of the sequencer. -/
def setHk (s : State) (v : Nat) : State := s.put Pg.HKSEQ Reg.HKSEQ.STATUS_STATE v

/-- A rail beside its HKRAIL block. -/
def rail (s : State) (r : Nat) : RailState := Table.get RailState.init s.hk.rails r

/-- Set a rail. -/
def setRail (s : State) (r : Nat) (x : RailState) : State :=
  { s with hk := { s.hk with rails := Table.set RailState.init s.hk.rails r x } }

/-- Is a rail on? -/
def railOn (s : State) (r : Nat) : Bool := s.flag Pg.HKRAIL (Reg.HKRAIL.STATUS_ON.ix r)

/-- Is a rail qualified (R363)? -/
def railQual (s : State) (r : Nat) : Bool := s.flag Pg.HKRAIL (Reg.HKRAIL.STATUS_QUALIFIED.ix r)

/-- A field of HKSEQ as the sequence in progress uses it: writes take effect at the next common start (R378). -/
def seqField (s : State) (f : Fld) : Nat := s.getf Pg.HKSEQ f

/-- Does a rail take part in the sequence? -/
def inSeq (s : State) (r : Nat) : Bool := decide (seqField s (Reg.HKSEQ.RAIL_SEQ_IN_SEQ.ix r) = 1)

/-- CHIP:STATUS.HK_UP (R373). -/
def refreshHkUp (s : State) : State :=
  s.putb Pg.CHIP Reg.CHIP.STATUS_HK_UP
    (decide (hkState s = Hq.ON) && (List.range 4).all (fun r => !inSeq s r || (railOn s r && railQual s r)))

/-- Drive reset output `k` (R371). -/
def setReset (s : State) (k : Nat) (b : Bool) : State :=
  { s with hk := if k = 0 then { s.hk with rst1 := b } else { s.hk with rst2 := b } }

/-- Both reset outputs low. -/
def resetsLow (s : State) : State := setReset (setReset s 0 false) 1 false

/-- Reset outputs whose mask holds a rail go low (R371). -/
def resetsOfRail (s : State) (r : Nat) : State :=
  [0, 1].foldl (fun s k => if bitOf (seqField s (Reg.HKSEQ.RST_CFG_MASK.ix k)) r then setReset s k false else s) s

/-- The origin of the sequencer's own writes: ENG.10 (R34). -/
abbrev Org.SEQ : Nat := 0x1A

/-- STATUS.DISCHARGING of a rail that is off (R367, R369): DISCH = 1, or a shut-off by R367, and the output above 10 % of VSET. -/
def refreshDischarge (s : State) (r : Nat) : State :=
  s.putb Pg.HKRAIL (Reg.HKRAIL.STATUS_DISCHARGING.ix r)
    (!railOn s r && (s.flag Pg.HKRAIL (Reg.HKRAIL.CTRL_DISCH.ix r) || (rail s r).forced) && !(rail s r).drained)

/-- Switch a rail off with an origin for its EN field (R367, R369): its discharge begins, and OFF_TMO runs. -/
def railOff (s : State) (r origin : Nat) : State :=
  let p := Pg.HKRAIL
  if !railOn s r then s
  else
    let s := putLogged s origin p (Reg.HKRAIL.CTRL_EN.ix r) 0
    let s := (s.putb p (Reg.HKRAIL.STATUS_ON.ix r) false).putb p (Reg.HKRAIL.STATUS_PG.ix r) false
    let s := (s.putb p (Reg.HKRAIL.STATUS_QUALIFIED.ix r) false).putb p (Reg.HKRAIL.STATUS_CURLIM.ix r) false
    let s := (s.put p (Reg.HKRAIL.VREF_VOLTAGE.ix r) 0).putb p (Reg.HKRAIL.STATUS_SLEW_DONE.ix r) true
    let s := setRail s r { RailState.init with fails := (rail s r).fails, offWait := true, low := false, drained := false }
    refreshHkUp (resetsOfRail (refreshDischarge s r) r)

/-- Every rail off without a sequence (R367, R442, R67). -/
def allRailsOff (s : State) (origin : Nat) : State :=
  (List.range 4).foldl (fun s r => railOff s r origin) (resetsLow s)

/-- Switch a rail on (R362): soft start begins. -/
def railStart (s : State) (r origin : Nat) : State :=
  let p := Pg.HKRAIL
  let s := putLogged s origin p (Reg.HKRAIL.CTRL_EN.ix r) 1
  let s := (s.putb p (Reg.HKRAIL.STATUS_ON.ix r) true).putb p (Reg.HKRAIL.STATUS_PG.ix r) false
  let s := (s.putb p (Reg.HKRAIL.STATUS_QUALIFIED.ix r) false).putb p (Reg.HKRAIL.STATUS_DISCHARGING.ix r) false
  let t := s.get p (Reg.HKRAIL.VSET_VOLTAGE.ix r)
  let s := s.putb p (Reg.HKRAIL.STATUS_SLEW_DONE.ix r) false
  refreshHkUp (setRail s r { RailState.init with fails := (rail s r).fails, target := t, low := false, drained := false, onUs := s.rcUs })

/-- Enter UP with a common start at the next slot boundary (R360). The failed windows of a sequence start at 0 (R364);
FAILS is cleared where the transition says so. -/
def enterUp (s : State) (clearFails : Bool) : State :=
  let p := Pg.HKSEQ
  let s := (setHk s Hq.UP).putb p Reg.HKSEQ.STATUS_EMERG_OFF false
  let s := if clearFails then s.put p Reg.HKSEQ.STATUS_FAILS 0 else s
  let s := (List.range 4).foldl (fun s r => setRail s r { rail s r with fails := 0 }) s
  refreshHkUp { s with hk := { s.hk with start := true } }

/-- All four die sensors below a temperature in 0.01 °C. -/
def dieBelow (s : State) (t : Int) : Bool :=
  (List.range 4).all (fun k => decide (s.geti Pg.HKRAIL (Reg.HKRAIL.DIE_TEMP.ix k) < t))

/-- All four die sensors below 110 °C for 1 s (R360). -/
def dieCool (s : State) : Bool := dieBelow s 11000 && decide (s.hk.warmUs + 1000000 ≤ s.rcUs)

/-- TRICKLE.VMAX in the unit of HKRAIL:VBK, 0.1 mV (*RTC function registers*). -/
def trickleMax (s : State) : Nat := nth 0 [25000, 30000, 33000] (s.get Pg.RTC Reg.RTC.TRICKLE_VMAX)

/-- VBK is charged through the resistor of TRICKLE.RES while EN = 1, the safety domain is powered and VBK, by its latest
conversion, is not above VMAX (R406; log entry 87). -/
def refreshTrickle (s : State) : State :=
  let on := s.powered && s.flag Pg.RTC Reg.RTC.TRICKLE_EN && decide (s.get Pg.HKRAIL Reg.HKRAIL.VBK_VOLTAGE ≤ trickleMax s)
  { s with rtc := { s.rtc with trickle := if on then some (s.get Pg.RTC Reg.RTC.TRICKLE_RES) else none } }

end Sys2Proof.Machine
end

