-- ==== Sys2Proof/Machine/Service.lean ====
section
/-! DEFINITION. Service states and resets (R46 to R72): what each reset kind keeps and clears, the entries to REDUCED,
WARM_RESET and FULL, the loads of the Granary and the restore of the accounts (R224, R444). -/

namespace Sys2Proof.Machine

/-! ### What a reset clears (R63) -/

/-- Registers of main pages that a warm reset keeps whole although they are not RW: accounts, step execution, mating
counts, token holdings, purses, reserve, views and counters (R336), stream sequences and losses (R468), CHANGE_SEQ, and what the
Granary and ESTIM show of what they hold. -/
def keptWhole (page off : Nat) : Bool :=
  let k := pageKind page
  decide (k = some .recipe) || decide (off = 0x024) ||
  (decide (k = some .ledger) && (decide (0x04C ≤ off ∧ off ≤ 0x084) ||
    decide (0x100 ≤ off ∧ off < 0x300 ∧ (off % 0x40 = 0x18 ∨ off % 0x40 = 0x1C)))) ||
  (decide (k = some .chan) && (decide (0x100 ≤ off ∧ off ≤ 0x1D0) || decide (0x200 ≤ off ∧ off < 0x280) ||
    decide (off = 0x0B4 ∨ off = 0x0C0))) ||
  (decide (k = some .commons) && (decide (off = 0x050 ∨ off = 0x054 ∨ off = 0x124) || decide (0x084 ≤ off ∧ off < 0x0A0) ||
    decide (0x100 ≤ off ∧ off < 0x10C) || decide (0x160 ≤ off ∧ off < 0x1A0))) ||
  (decide (k = some .stream) && (decide (off = 0x058 ∨ 0x200 ≤ off) ||
    (decide (0x080 ≤ off ∧ off < 0x100) && decide (off % 0x20 = 0x08 ∨ off % 0x20 = 0x0C)))) ||
  (decide (k = some .granary) && decide (off = 0x04C)) ||
  (decide (k = some .estim) && decide (0x180 ≤ off ∧ off < 0x300))

/-- A main-domain register after a warm reset: RW and RWL fields keep their values, LAST_END and END_CAUSE too, and what
LEDGER:STATUS says of the accounts and of a commit under way, but not RESTORED, since no restore is made (R224); so do a return in
flight (R336), written-off devices not yet voided (R334) and a Granary that has been scanned (R444); compare and capture units are disarmed; 0b11 locks become 0b01 (R33, R63). -/
def warmWord (addr : Nat) (w : Word) : Word :=
  let page := addr / 0x400
  let off := addr % 0x400
  if keptWhole page off then w
  else
    let keep := (fieldsAt page off).foldl (fun (a : Nat) f =>
      if f.acc = .rw ∨ f.acc = .rwl then withBits a f.hi f.lo (bitsOf w.toNat f.hi f.lo) else a) (resetNat page off)
    let keep := if off = 0x020 then withBits keep 9 8 (if bitsOf w.toNat 9 8 = 3 then 1 else bitsOf w.toNat 9 8) else keep
    let keep := if pageKind page = some .chan ∧ off = 0x084 then withBits keep 31 26 (bitsOf w.toNat 31 26) else keep
    let keep := if pageKind page = some .ledger ∧ off = 0x048 then w.toNat - w.toNat / 2 % 2 * 2 else keep
    let keep := if pageKind page = some .commons ∧ off = 0x04C then withBits keep 5 5 (bitsOf w.toNat 5 5) else keep
    let keep := if pageKind page = some .commons ∧ off = 0x118 then withBits keep 15 8 (bitsOf w.toNat 15 8) else keep
    let keep := if pageKind page = some .granary ∧ off = 0x040 then withBits keep 1 1 (bitsOf w.toNat 1 1) else keep
    let keep := if pageKind page = some .timer ∧ 0x100 ≤ off ∧ off % 0x10 = 0x08 then withBits keep 0 0 0 else keep
    BitVec.ofNat 32 keep

/-- The registers after a warm reset, in canonical form. -/
def warmRegs (t : Table Word) : Table Word :=
  (t.map (fun e => (e.1, if pageIsMain (e.1 / 0x400) then warmWord e.1 e.2 else e.2))).filter
    (fun e => decide (e.2 ≠ resetWord e.1))

/-- The registers after a main-domain loss: main pages at their reset values. -/
def lossRegs (t : Table Word) : Table Word := t.filter (fun e => !pageIsMain (e.1 / 0x400))

/-- Writes of the sequencer's pages that wait for the next common start are kept through a reset of the main domain. -/
def safetyHeld (t : Table Word) : Table Word := t.filter (fun e => decide (e.1 / 0x400 = Pg.HKSEQ ∧ 0x040 ≤ e.1 % 0x400))

/-- Locks at a reset (R30, R33): every factory-unlocked page becomes locked; `main` resets hard locks of main pages too. -/
def resetLocks (s : State) (main : Bool) : State :=
  let s := revertFactoryLocks s
  if main then
    ((List.range 0x320).filter (fun p => pageIsMain p && decide (pageKind p ≠ some .recipe) &&
      decide (s.get p Reg.HEADER.LOCK_STATE = 2))).foldl
      (fun s p => putLogged s Org.HW p Reg.HEADER.LOCK_STATE (resetNat p 0x020 / 256 % 4)) s
  else s

/-- What every reset of the main domain clears beside registers: engines, averagers, trackers, trims, estimates, timers,
key sequences, staged writes and latched reads (R31, R63, R68, R499). -/
def wipeVolatile (s : State) : State :=
  { s with
    phases := []
    chans := ((List.range 32).filterMap (fun c =>
      let x := { ChanState.init with cellId := (s.chan c).cellId }
      if x = ChanState.init then none else some (c, x)))
    banks := ((List.range 8).filterMap (fun b =>
      let x := { BankState.init with retireMap := (s.bank b).retireMap }
      if x = BankState.init then none else some (b, x)))
    engs := s.engs.filter (fun e => decide (10 ≤ e.1))
    grades := []
    opened := []
    ended := []
    events := []
    staged := []
    otpOp := none
    keys := []
    held := safetyHeld s.held
    snaps := s.snaps.filter (fun e => !pageIsMain (e.1 % 2 ^ 24 / 0x400))
    transit := TransitState.init
    rtc := { s.rtc with measLost := true }
    timer := { TimerState.init with ext := s.timer.ext } }

/-- The flags of CHIP:STATUS and CLOCK:STATUS that describe a main domain that runs, and ENGCTL's view of its engines. -/
def mainFlagsOff (s : State) : State :=
  let p := Pg.CHIP
  let s := (s.putb p Reg.CHIP.STATUS_PLL_LOCK false).putb p Reg.CHIP.STATUS_OTP_LOADED false
  let s := (s.putb p Reg.CHIP.STATUS_ENGINES_UP false).putb p Reg.CHIP.STATUS_TRANSIT_ALIGNED false
  let s := s.putb p Reg.CHIP.STATUS_RING_TX false
  let s := (s.putb Pg.CLOCK Reg.CLOCK.STATUS_PLL_LOCK false).putb Pg.CLOCK Reg.CLOCK.STATUS_HOLDOVER false
  let s := s.putb Pg.HOST Reg.HOST.STATUS_FOUR_LANE false
  forIdx 10 s (fun s e =>
    let dead := s.getBit Pg.ENGCTL Reg.ENGCTL.DEAD_ENG e
    let s := s.putBit Pg.ENGCTL Reg.ENGCTL.RUNNING_ENG e false
    let s := s.putBit Pg.ENGCTL Reg.ENGCTL.STOPPED_ENG e false
    let s := if isEstimator e then setCarried s e 0xF else s
    if dead then s.put (Pg.ENG e) Reg.ENG.STATE_STATE Es.DEAD else s)

/-- The end of test mode (R357): at any reset, and when the TESTMODE ball has been low for 1 ms. Logged with origin hardware. -/
def testEnd (s : State) : State :=
  if s.flag Pg.FAULT Reg.FAULT.STATUS_TEST_MODE then
    let old := (s.rd (addrOf Pg.FAULT Reg.FAULT.STATUS_TEST_MODE)).toNat
    let s := s.putb Pg.FAULT Reg.FAULT.STATUS_TEST_MODE false
    addEntry s Org.HW Pg.FAULT 0x044 old (s.rd (addrOf Pg.FAULT Reg.FAULT.STATUS_TEST_MODE)).toNat LogFlags.plain
  else s

/-- The main domain held in reset with everything kept that a warm reset keeps (R63, R64). -/
def warmWipe (s : State) : State :=
  let s := testEnd (streamWarm (resetLocks s false))
  let c := s.commons
  let k := s.keeper
  let s := { s with
    regs := warmRegs s.regs
    recipes := s.recipes.map (fun (e : Nat × RecipeState) => (e.1, { e.2 with jump := none, cont := false, validated := false, deriv := [] }))
    commons := { CommonsState.init with gack := c.gack, rseq := c.rseq, offer := c.offer, loanOpen := c.loanOpen, loans := c.loans, refusal := c.refusal }
    keeper := { KeeperState.init with rseq := k.rseq, lastRet := k.lastRet, want := k.want, rtag := k.rtag, issueDue := k.issueDue } }
  let s := { s with recipes := s.recipes.filter (fun e => decide (e.2 ≠ RecipeState.init)) }
  let bs := s.bankAccs.map (fun (e : Nat × BankAcc) => (e.1, { BankAcc.init with busE := e.2.busE }))
  let s := { s with bankAccs := bs.filter (fun e => decide (e.2 ≠ BankAcc.init)) }
  mainFlagsOff (wipeVolatile s)

/-- The main domain's volatile state lost with HK3 (R63): main pages at reset values, recipe memory zero, accounts and
holdings gone. ACCOUNTS_LOST stays until a cold reset (R225). -/
def lossWipe (s : State) : State :=
  let s := testEnd (resetLocks s true)
  let lost := s.flag Pg.LEDGER Reg.LEDGER.STATUS_ACCOUNTS_LOST
  let dead := (List.range 10).foldl (fun s e => s.putBit Pg.ENGCTL Reg.ENGCTL.DEAD_ENG e false) s
  let s := { dead with
    regs := lossRegs dead.regs
    recipes := []
    commits := []
    recOld := []
    memErr := []
    accs := []
    bankAccs := []
    commons := CommonsState.init
    keeper := KeeperState.init
    stream := StreamState.init
    gran := { s.gran with stage := [], loadNeeded := true }
    ledger := { LedgerState.init with openNeeded := s.ledger.openNeeded, openSlotErased := s.ledger.openSlotErased } }
  let s := [10, 11].foldl (fun s e => if estate s e = Es.DEAD then beginRestart s e else s) s
  let s := { s with chans := [], banks := [] }
  let s := mainFlagsOff (wipeVolatile s)
  let s := { s with svc := { s.svc with freshStart := true, restarted := false } }
  if lost then s.putb Pg.LEDGER Reg.LEDGER.STATUS_ACCOUNTS_LOST true else s

/-! ### Entries -/

/-- Does a reset row of *Service transitions* wait for its execution, so that no row below it is taken (R7, R46)? -/
def rowWaits (s : State) : Bool := s.svc.coldPend || s.svc.warmPend.isSome

/-- REFCLK's qualification as CLOCK and CHIP show it (R52). -/
def setQual (s : State) (b : Bool) : State :=
  (s.putb Pg.CLOCK Reg.CLOCK.STATUS_REFCLK_QUAL b).putb Pg.CHIP Reg.CHIP.STATUS_REFCLK_OK b

/-- Entry to REDUCED (R46, R49, R361, R504): a sequencer in OFF starts its sequence, unless EMERG_OFF holds it. -/
def enterReduced (s : State) : State :=
  let s := refreshFaultN (s.enter Svc.REDUCED)
  if hkState s = Hq.OFF ∧ s.flag Pg.HKSEQ Reg.HKSEQ.STATUS_EMERG_OFF = false then enterUp s true else s

/-- A RESET_CAUSE bit. -/
def causeBit (s : State) (k : Nat) : State := s.put Pg.CHIP ⟨0x044, k, k, 0⟩ 1

/-- A warm trigger (R46, R62, R66): the chip safe state at once; the reset waits for a Granary page write in progress. -/
def warmTrigger (s : State) (bit : Nat) : State :=
  if s.powered && decide (s.service = Svc.MAIN_START ∨ s.service = Svc.JOINING ∨ s.service = Svc.FULL) &&
      s.svc.warmPend.isNone && !s.svc.coldPend then
    chipSafeWith { s with svc := { s.svc with warmPend := some bit } } 2 6
  else s

/-- A main-domain restart (R64): REFCLK not qualified or PLL unlocked in MAIN_START or JOINING. A reset row that waits
stands above it (R7, R46). -/
def mainRestart (s : State) : State :=
  if rowWaits s then s
  else
    let s := warmWipe (causeBit s 6)
    enterReduced { s with svc := { s.svc with restarted := true } }

/-- What the shadow holds (R219): within 2 µs of a boundary its copy is not complete, and it holds the boundary before. -/
def heldShadow (s : State) : Option Ckpt :=
  if s.full ∧ s.rcUs < s.ledger.copyUs + 2 ∧ s.ledger.prevShadow.isSome then s.ledger.prevShadow else s.ledger.shadow

/-- The MAIN_LOSS checkpoint from the shadow (R219): in FULL the frames since its boundary are its one or two
gap frames. -/
def lossCkpt (s : State) (c : Ckpt) : Ckpt :=
  let g := if s.full then s.frame + 1 - c.boundary else 0
  let t : State := { s with regs := c.regs }
  let p := Pg.LEDGER
  let t := t.put64 p Reg.LEDGER.GAP_LO Reg.LEDGER.GAP_HI (t.get64 p Reg.LEDGER.GAP_LO Reg.LEDGER.GAP_HI + g)
  let t := if g = 0 then t else forIdx 32 t (fun t c =>
    let q := Pg.CHAN c
    let t := (t.addCount q Reg.CHAN.GAP_FRAMES g).putb q Reg.CHAN.ACC_FLAGS_RUN_GAP true
    if stepActive t c then t.putb q Reg.CHAN.ACC_FLAGS_STEP_GAP true else t)
  { c with reason := 5, nextFrame := s.frame + b2n s.full, lossStart := c.boundary, lossLen := g, regs := t.regs }

/-- Main-domain loss (R46, R63, R219): chip safe state, the shadow committed as MAIN_LOSS unless the frame was closed by a
shutdown or an emergency commit (R388, R504), volatile state lost, REDUCED. -/
def mainLoss (s : State) : State :=
  if s.powered && !s.svc.coldPend && decide (Svc.MAIN_START ≤ s.service ∧ s.service ≤ Svc.WARM_RESET) then
    let f := if s.full && !s.backup.closed then s.frame + 1 else s.frame
    let s := chipSafeWith s 2 6
    let s := dropPending (abandonCommit s)
    let s := match heldShadow s with
      | some c => if s.backup.closed then s else commitNow s 1 (.ckpt (lossCkpt s c))
      | none => s
    let s := lossWipe (causeBit s 2)
    let s := setQual s false
    let s := { s with
      frame := f % 2 ^ 64
      backup := { s.backup with closed := false }
      svc := { s.svc with warmPend := none, warmDone := false } }
    enterReduced s
  else s

/-- HK3 has been switched off: REFCLK is to be qualified afresh (R52) and the main domain is lost (R46). -/
def hk3Lost (s : State) : State := if railOn s 2 then s else mainLoss (setQual s false)

/-- Warm reset entry (R63, R65, R66, R218): the frame in progress is closed with its measured length, running steps are
INTERRUPTED, the main domain is reset. The records that its start has loaded are not loaded again (R444). -/
def warmEntry (s : State) (bit : Nat) (f : FrameIn) (len : Nat) : State :=
  let s := chipSafeWith s 2 6
  let n := s.frame
  let was := s.full
  let s := closeFrame s f len
  let s := closePending s n
  let s := if was then { s with ledger := { s.ledger with shadow := some (makeCkpt s 5 s.frame), prevShadow := none } } else s
  let s := warmWipe (causeBit s bit)
  let s := { s with svc := { s.svc with warmPend := none, warmDone := true } }
  let s := { s with gran := { s.gran with loadNeeded := s.gran.loadNeeded && s.inService Svc.MAIN_START } }
  startCommit (refreshFaultN (s.enter Svc.WARM_RESET))

/-! ### Cold reset (R63, R67) -/

/-- The state after a cold reset with a RESET_CAUSE bit: what R63 keeps is the backup domain, the Granary and the OTP; the
power path, the balls and what the model counts on its own go on. The ID straps' levels are sampled (R70, R72). A factory-unlocked
page takes its STATE's reset value (DESIGN CHOICE, log entry 70). -/
def coldBuild (s : State) (bit : Nat) : State :=
  let r := State.reset
  let rtc := s.regs.filter (fun e => decide (e.1 / 0x400 = Pg.RTC ∧ 0x040 ≤ e.1 % 0x400))
  let n : State := { r with
    regs := (rtc.foldl (fun t e => Table.set (resetWord e.1) t e.1 e.2) r.regs)
    free := s.free
    rcUs := s.rcUs
    svc := { SvcState.init with startUs := s.rcUs, straps := s.svc.straps, keys := s.svc.keys }
    fault := { FaultState.init with peerLow := s.fault.peerLow, testPin := s.fault.testPin }
    backup := { BackupState.init with path := s.backup.path, latch := s.backup.latch }
    rtc := { s.rtc with measLost := true }
    snaps := s.snaps.filter (fun e => decide (e.1 % 2 ^ 24 / 0x400 = Pg.RTC))
    timer := { TimerState.init with ext := s.timer.ext }
    otpA := s.otpA
    otpB := s.otpB
    otpWeakA := s.otpWeakA
    otpWeakB := s.otpWeakB
    gran := { s.gran with busy := none, pend := [], stage := [], loadNeeded := true }
    ledger := { LedgerState.init with openNeeded := s.ledger.openNeeded, openSlotErased := s.ledger.openSlotErased }
    pending := s.pending }
  let n := (n.put Pg.CHIP Reg.CHIP.IDENT_ID_STRAP s.svc.straps).put Pg.CHIP Reg.CHIP.IDENT_MEMBER (s.get Pg.CHIP Reg.CHIP.IDENT_MEMBER)
  let n := n.wr (Pg.CHIP * 0x400 + 0x044) (BitVec.ofNat 32 (2 ^ bit))
  let n := (n.put Pg.BACKUP Reg.BACKUP.PATH_STATUS_SOURCE (s.get Pg.BACKUP Reg.BACKUP.PATH_STATUS_SOURCE)).putb Pg.BACKUP
    Reg.BACKUP.PATH_STATUS_BAT_SW (s.flag Pg.BACKUP Reg.BACKUP.PATH_STATUS_BAT_SW)
  let n := refreshTrickle n
  -- hard and factory locks return to their reset value, logged in the cleared log (R30)
  let locks := (List.range 0x320).filter (fun p => decide ((pageKind p).isSome) && decide (pageKind p ≠ some .recipe) &&
    decide (2 ≤ s.get p Reg.HEADER.LOCK_STATE))
  let n := locks.foldl (fun n p => logChange n Org.HW p 0x020 (s.get p Reg.HEADER.LOCK_STATE * 256) (resetNat p 0x020)) n
  if s.flag Pg.FAULT Reg.FAULT.STATUS_TEST_MODE then
    addEntry n Org.HW Pg.FAULT 0x044 (s.rd (addrOf Pg.FAULT Reg.FAULT.STATUS_TEST_MODE)).toNat
      (n.rd (addrOf Pg.FAULT Reg.FAULT.STATUS_TEST_MODE)).toNat LogFlags.plain
  else n

/-! ### Loads from the Granary (R323, R444) -/

/-- The records that a load scans (R435). -/
def recordIds : List Nat := [1, 2, 3, 4, 5, 6, 0x11, 0x12, 0x13, 0x14] ++ (List.range 32).map (fun k => 0x20 + k)

/-- A record's check at a load (R69, R444): GRANARY_CRC where slots are written and none is valid, FALLBACKS where one fails
while another is valid. -/
def loadCheck (s : State) (id : Nat) : State :=
  let w := s.gwritten id
  if w.isEmpty then s
  else match s.gvalid id with
    | none => raise s Pg.GRANARY Kind.GRANARY_CRC id
    | some _ =>
      if w.all (·.valid) then s
      else (s.bump Pg.GRANARY Reg.GRANARY.FALLBACKS).event Pg.GRANARY 1

/-- Does a record load from one slot while the other, written, fails (R309, R402)? -/
def fellBack (s : State) (id : Nat) : Bool := (s.gvalid id).isSome && (s.gwritten id).any (fun x => !x.valid)

/-- Load OCV table slot `t` (R309). -/
def loadOcv (s : State) (t : Nat) : State :=
  let p := Pg.ESTIM
  let l := (s.gwords (0x10 + t)).getD []
  let s := s.putb p (Reg.ESTIM.OCV_HDR_LEARNED.ix (t - 1)) (!l.isEmpty)
  let s := s.put p (Reg.ESTIM.OCV_HDR_TYPE_TAG.ix (t - 1)) (nth 0 l 0)
  let s := forIdx 21 s (fun s k => s.wr (p * 0x400 + 0x184 + 0x60 * (t - 1) + 4 * k) (BitVec.ofNat 32 (nth 0 l (k + 1))))
  if fellBack s (0x10 + t) then
    raise ((s.putb p (Reg.ESTIM.OCV_HDR_ROLLBACK.ix (t - 1)) true).event p 2) p Kind.LEARN_ROLLBACK t
  else s

/-- The words of the gauge's learned record (R402): FCC, CYCLES, LEARN_COUNT, IMP.0 to IMP.7. -/
def gaugeWords (s : State) : List Nat :=
  [s.get Pg.GAUGE Reg.GAUGE.FCC, s.get Pg.GAUGE Reg.GAUGE.CYCLES, s.get Pg.GAUGE Reg.GAUGE.LEARN_COUNT] ++
    (List.range 8).map (fun k => s.get Pg.GAUGE (Reg.GAUGE.IMP.ix k))

/-- Full charge capacity in mC at first use: DESIGN_CAP × 3,600 C (R401). -/
def designFcc (s : State) : Nat := s.get Pg.GAUGE Reg.GAUGE.DESIGN_CAP_CAP * 3600

/-- While no capacity has been learned, FCC is DESIGN_CAP × 3,600 C (R401). -/
def designFollow (s : State) : State :=
  if s.get Pg.GAUGE Reg.GAUGE.LEARN_COUNT = 0 then s.put Pg.GAUGE Reg.GAUGE.FCC (designFcc s) else s

/-- The first-use state of the words of the learned record (R401, R402). -/
def gaugeFresh (s : State) : State :=
  let p := Pg.GAUGE
  let s := (s.put p Reg.GAUGE.FCC (designFcc s)).put p Reg.GAUGE.CYCLES 0
  let s := s.put p Reg.GAUGE.LEARN_COUNT 0
  let s := forIdx 8 s (fun s k => s.put p (Reg.GAUGE.IMP.ix k) 0)
  s.put p Reg.GAUGE.STATUS_CONFIDENCE 0

/-- Load the gauge's learned record (R402); a record that cannot be used gives the first-use state, and an empty one leaves
it. -/
def loadGauge (s : State) : State :=
  let p := Pg.GAUGE
  match s.gwords 6 with
  | some l =>
    let s := (s.put p Reg.GAUGE.FCC (nth 0 l 0)).put p Reg.GAUGE.CYCLES (nth 0 l 1)
    let s := s.put p Reg.GAUGE.LEARN_COUNT (nth 0 l 2)
    let s := forIdx 8 s (fun s k => s.put p (Reg.GAUGE.IMP.ix k) (nth 0 l (3 + k)))
    if fellBack s 6 then raise ((s.putb p Reg.GAUGE.STATUS_ROLLBACK true).event p 3) p Kind.LEARN_ROLLBACK 0 else s
  | none => if (s.gwritten 6).isEmpty then designFollow s else gaugeFresh s

/-- The OPEN header that a closing checkpoint leaves outstanding (R222): the other slot is to be erased first. -/
def openFromLoad (s : State) (ck : GSlot) (c : Ckpt) : State :=
  if ckptClosing c.reason then
    let other := (s.gwritten 1).find? (fun x => decide (x.seq ≠ ck.seq))
    let s := match other with
      | some x =>
        let s := queueErase s (x.pages.filter (fun n => !s.gran.erase.contains n))
        { s with gran := { s.gran with held := x.pages } }
      | none =>
        s
    holdOpen { s with ledger := { s.ledger with
      openNeeded := true, openSlotErased := other.isNone && !s.gran.held.isEmpty && !heldErase s } }
  else s

/-- A new epoch (R224, R225): accounts, coverage, gap and frame number 0. -/
def newEpoch (s : State) (lost : Bool) : State :=
  let p := Pg.LEDGER
  let s := { s with frame := 0, accs := [], bankAccs := [], recipes := [] }
  let s := { s with regs := s.regs.filter (fun e => !inCkpt e.1) }
  let s := (s.put p Reg.LEDGER.EPOCH_SEC s.rtcSec).put p Reg.LEDGER.CKPT_STATUS_RESTORE_REASON 0xF
  let s := { s with ledger := { s.ledger with startFrame := 0 } }
  if lost then s.putb p Reg.LEDGER.STATUS_ACCOUNTS_LOST true else s

/-- The steps of a restored checkpoint (R65, R266): those in force at its boundary, or interrupted and not yet resumed,
are INTERRUPTED with END_CAUSE 6. -/
def interruptRestored (s : State) (c : Ckpt) : State :=
  forIdx 32 s (fun s i =>
    let p := Pg.CHAN i
    if stepActive s i || c.intr.contains i then
      let act := stepActive s i
      let rs := rstate s i
      let s := (s.put p Reg.CHAN.STATUS_LAST_END 2).put p Reg.CHAN.STATUS_END_CAUSE 6
      let s := s.putb p Reg.CHAN.ACC_FLAGS_STEP_ACTIVE false
      if act ∧ Rs.RUNNING ≤ rs ∧ rs ≤ Rs.PAUSED then
        let s := s.setRecipe i { s.recipe i with held := decide (rs = Rs.HELD) }
        let s := (logStep s (Org.ENG (i / 4)) i (s.get p Reg.CHAN.RCP_STATUS_STEP) 0xFF).bump p Reg.CHAN.TRANSITIONS
        endRegs (setRstate s i Rs.INTERRUPTED) i ⟨2, 6, 7, false, 0, 0, 0, 0xFF, 7⟩ (c.boundary - 1)
      else s
    else s)

/-- A gap of `g` frames from `start` (R224). -/
def noteGap (s : State) (start g : Nat) : State :=
  let p := Pg.LEDGER
  let s := (s.bump p Reg.LEDGER.GAP_EVENTS).put p Reg.LEDGER.LAST_GAP_START start
  (s.put p Reg.LEDGER.LAST_GAP_LEN g).event p 2

/-- The restore of the accounts from a checkpoint in its slot (R224): it is the newest committed one, and CKPT_COUNT counts
it with those before it (R223). Its resume part is used where its own CRC passes and its sequence is that of the ledger part
(R436). A MAIN_LOSS checkpoint of a device outside FULL holds no lost frame, and no gap event is made (DESIGN CHOICE, log entry
100). -/
def restoreFrom (s : State) (ck : GSlot) (c : Ckpt) : State :=
  let p := Pg.LEDGER
  let s := { s with frame := c.nextFrame, accs := c.accs, bankAccs := c.bankAccs, recipes := [] }
  let s := { s with regs := s.regs.filter (fun e => !inCkpt e.1) }
  let s := c.regs.foldl (fun s e => s.wr e.1 e.2) s
  let resumes := decide (ck.resumeSeq = some ck.seq)
  let s := if resumes then c.resume.foldl (fun s e => loadResume s e.1 e.2) s else s
  let s := (s.put64 p Reg.LEDGER.CKPT_FRAME_LO Reg.LEDGER.CKPT_FRAME_HI c.boundary).bump p Reg.LEDGER.CKPT_COUNT
  let s := s.put p Reg.LEDGER.CKPT_STATUS_LAST_REASON c.reason
  let s := c.cells.foldl (fun s e =>
    let s := s.setChan e.1 { s.chan e.1 with cellId := e.2 }
    forIdx 4 s (fun s k => s.put (Pg.CHAN e.1) (Reg.CHAN.CELL_ID.ix k) (nth 0 e.2 k))) s
  let higher := (s.gwritten 1).filter (fun x => decide (ck.seq < x.seq))
  let s := if c.reason = 5 ∧ higher.isEmpty ∧ c.lossLen ≠ 0 then noteGap s c.lossStart c.lossLen else s
  let s := if ckptClosing c.reason = false ∨ higher.any (fun x => !x.valid) then
      let g := c.interval * 1000 + 1024
      let s := s.put64 p Reg.LEDGER.GAP_LO Reg.LEDGER.GAP_HI (s.get64 p Reg.LEDGER.GAP_LO Reg.LEDGER.GAP_HI + g)
      let s := { noteGap s c.nextFrame g with frame := (c.nextFrame + g) % 2 ^ 64 }
      forIdx 32 s (fun s i =>
        let q := Pg.CHAN i
        let s := (s.addCount q Reg.CHAN.GAP_FRAMES g).putb q Reg.CHAN.ACC_FLAGS_RUN_GAP true
        if stepActive s i then s.putb q Reg.CHAN.ACC_FLAGS_STEP_GAP true else s)
    else s
  let s := (s.putb p Reg.LEDGER.STATUS_RESTORED true).event p 4
  let s := s.put p Reg.LEDGER.CKPT_STATUS_RESTORE_REASON c.reason
  let s := forIdx 32 s (fun s i => s.putb (Pg.CHAN i) Reg.CHAN.ACC_FLAGS_RESTORED true)
  let s := { s with ledger := { s.ledger with startFrame := s.frame } }
  openFromLoad (interruptRestored s (if resumes then c else { c with intr := [] })) ck c

/-- The restore of R224 from whatever the Granary holds. -/
def restoreAccounts (s : State) : State :=
  match s.gvalid 1 with
  | some x => (match x.payload with
    | .ckpt c => restoreFrom s x c
    | _ => newEpoch s true)
  | none => newEpoch s (!(s.gwritten 1).isEmpty)

/-- The load of every record (R444), after a cold reset or a main-domain loss. -/
def granaryLoad (s : State) : State :=
  let s := recordIds.foldl loadCheck s
  let s := restoreAccounts s
  let com := (s.gwords 3).getD []
  let s := (s.put Pg.COMMONS Reg.COMMONS.TOTAL (nth 0 com 0)).put Pg.COMMONS Reg.COMMONS.ISSUE (nth 0 com 1)
  let map := (s.gwords 4).getD []
  let s := forIdx 8 s (fun s b => s.setBank b { s.bank b with retireMap := nth 0 map b })
  let mate := (s.gwords 5).getD []
  let s := forIdx 32 s (fun s c => s.put (Pg.CHAN c) Reg.CHAN.MATE_COUNT (nth 0 mate c))
  let s := [1, 2, 3, 4].foldl loadOcv (loadGauge s)
  let emerg := match s.gvalid 1 with
    | some x => (match x.payload with
      | .ckpt c => decide (c.reason = 6)
      | _ => false)
    | none => false
  let s := if emerg then s.bump Pg.GRANARY Reg.GRANARY.EMERG_COUNT else s
  let s := s.put Pg.GRANARY Reg.GRANARY.RETIRED (s.gran.pages.filter (fun e => decide (e.2.kind = 3))).length
  startCommit (showRing (s.putb Pg.GRANARY Reg.GRANARY.STATUS_SCANNED true))

/-! ### Entry to FULL (R58, R323, R468) -/

/-- A channel whose safe state is held enters FULL in SAFE (R159, R346; log entry 22). -/
def holdAtEntry (s : State) (c : Nat) : State :=
  if s.follower c = false ∧ safeReleased s c = false then s.put (Pg.CHAN c) Reg.CHAN.STATUS_STATE Ch.SAFE else s

/-- The INIT levels of a GPIO_CFG word, which outputs take where no compare has acted on them (R421). -/
def gpioInits (cfg : Nat) : Nat := sumNat ((List.range 4).map (fun k => b2n (bitOf cfg (4 * k + 2)) * 2 ^ k))

/-- Entry to FULL at a boundary (R58): the ring is frozen until its first closure (R331), the banks take their duties,
the tick restarts, enabled stream channels start, FAULT_N is released where nothing holds it. -/
def enterFull (s : State) : State :=
  let p := Pg.CHIP
  let fresh := s.svc.freshStart
  let s := s.enter Svc.FULL
  let s := s.put p Reg.CHIP.START_TIME (s.rcUs - s.svc.startUs)
  let s := if s.svc.warmDone then s.event p 2 else s
  let s := s.putb p Reg.CHIP.STATUS_RING_TX true
  let s := s.putb Pg.HOST Reg.HOST.STATUS_FOUR_LANE true
  let s := { s with svc := { s.svc with warmDone := false, freshStart := false, restarted := false }, gran := { s.gran with loadNeeded := false } }
  let c := Pg.COMMONS
  let s := if fresh then
      let s := s.put c Reg.COMMONS.RESERVE (s.get c Reg.COMMONS.TOTAL)
      forIdx 8 s (fun s i => endGrant (setView s i 0) i)
    else s
  let s := { (s.putb c Reg.COMMONS.STATUS_FROZEN true) with keeper := { s.keeper with frozen := true } }
  let s := { s with timer := { s.timer with tick := 0, base := 0, out := gpioInits (s.get Pg.TIMER Reg.TIMER.GPIO_CFG) } }
  let s := forIdx s.bankCount s enterBank
  let s := refreshFaultN (refreshSafe (streamEnter s))
  let s := forIdx (4 * s.bankCount) s holdAtEntry
  { s with ledger := { s.ledger with shadow := some (makeCkpt s 5 s.frame), prevShadow := none } }

end Sys2Proof.Machine
end

