-- ==== Sys2Proof/Machine/Hk.lean ====
section
/-! DEFINITION. The rails and the sequencer at work (R359 to R378): slots, qualification, trips, power-down, retargets, the
reset outputs and the commands. -/

namespace Sys2Proof.Machine

/-! ### Trips (R364 to R367) -/

/-- Is a DOWN taken in the present slot, its common start still to come? A fault in the same slot stands above it: rows of one slot
are satisfied together (R7, R360). -/
def downPending (s : State) : Bool := decide (hkState s = Hq.DOWN) && s.hk.start

/-- Is the power-down of DOWN under way? -/
def goingDown (s : State) : Bool := decide (hkState s = Hq.DOWN) && !s.hk.start

/-- A DOWN whose slot a fault has taken was not carried out (R7, R360, R378): OFF_RESULT as before it, and its command refused. -/
def downUndone (s : State) : State :=
  match s.hk.downReq with
  | some (o, was) =>
    let s := (s.put Pg.HKSEQ Reg.HKSEQ.OFF_RESULT_RESULT was).event Pg.HKSEQ 5
    let s := { s with hk := { s.hk with downReq := none } }
    if o < 0xFF then logReject s o Pg.HKSEQ 0x044 0 0x5EC00002 else s
  | none => s

/-- Entry to FAULTED from UP or ON (R360): cause 1 rail fault, 2 chatter, 3 thermal shutdown. Other states stay. -/
def enterFaulted (s : State) (cause r : Nat) : State :=
  let p := Pg.HKSEQ
  if hkState s = Hq.UP ∨ hkState s = Hq.ON ∨ downPending s = true then
    let s := (setHk (downUndone s) Hq.FAULTED).put p Reg.HKSEQ.STATUS_ABORT_CAUSE cause
    let s := s.put p Reg.HKSEQ.STATUS_ABORT_RAIL r
    let s := (s.bump p Reg.HKSEQ.STATUS_CONSEC_ABORTS).bump p Reg.HKSEQ.ABORT_COUNT
    refreshHkUp { (s.event p 1) with hk := { s.hk with start := false, abortUs := s.rcUs } }
  else s

/-- Every rail switched off by the hardware with its discharge active, the failing rail first (R367). -/
def shutRails (s : State) (r : Nat) : State :=
  let was := (List.range 4).filter (railOn s)
  let s := allRailsOff (railOff s r Org.HW) Org.HW
  was.foldl (fun s r => refreshDischarge (setRail s r { rail s r with forced := true }) r) s

/-- RAIL_FAULT with causes 0x1 to 0x5 (R365 to R367). -/
def railTrip (s : State) (cause r : Nat) : State :=
  let s := enterFaulted (shutRails s r) 1 r
  hk3Lost (raise s Pg.HKRAIL Kind.RAIL_FAULT (0x10 * cause + r))

/-- The third failed window of a rail in one sequence (R364). -/
def chatterTrip (s : State) (r : Nat) : State :=
  let s := enterFaulted (shutRails s r) 2 r
  hk3Lost (raise s Pg.HKSEQ Kind.PG_CHATTER r)

/-- Thermal shutdown (R495): OT_DIE 0x01 at S5, every rail off in the times of R367. -/
def thermalTrip (s : State) : State :=
  let s := enterFaulted (shutRails s 0) 3 0
  let s := { s with hk := { s.hk with warmUs := s.rcUs } }
  hk3Lost (raise s Pg.CHIP Kind.OT_DIE 0x01)

/-! ### Qualification (R363, R364) -/

/-- Has the highest delay slot of the rails with IN_SEQ = 1 passed (R360)? -/
def delaysPassed (s : State) (f : Fld) : Bool :=
  !s.hk.start && (List.range 4).all (fun r => !inSeq s r || decide (seqField s (f.ix r) < s.hk.slot))

/-- The safe state of a power-down ends when the rails are qualified again (R368). -/
def releaseSeqHold (s : State) : State :=
  if s.fault.seqHold then refreshSafe { s with fault := { s.fault with seqHold := false } } else s

/-- UP is complete (R360): every rail with IN_SEQ = 1 qualified and the highest ON_DLY slot passed. -/
def tryOn (s : State) : State :=
  let p := Pg.HKSEQ
  if hkState s = Hq.UP ∧ estate s 10 = Es.RUNNING ∧ delaysPassed s Reg.HKSEQ.RAIL_SEQ_ON_DLY = true ∧
      (List.range 4).all (fun r => !inSeq s r || (railOn s r && railQual s r)) = true then
    let s := ((setHk s Hq.ON).event p 0).bump p Reg.HKSEQ.UP_COUNT
    let s := s.put p Reg.HKSEQ.LAST_UP_US (s.rcUs - s.hk.startUs)
    releaseSeqHold (refreshHkUp (s.put p Reg.HKSEQ.STATUS_CONSEC_ABORTS 0))
  else s

/-- A rail qualifies after QUAL of good PG (R363). -/
def qualifyRail (s : State) (r : Nat) : State :=
  let s := setRail s r { rail s r with qualUs := s.rcUs }
  tryOn (refreshHkUp (s.putb Pg.HKRAIL (Reg.HKRAIL.STATUS_QUALIFIED.ix r) true))

/-- A failed qualification window (R363, R364). -/
def windowFail (s : State) (r : Nat) : State :=
  let p := Pg.HKSEQ
  let n := (rail s r).fails + 1
  let f : Fld := ⟨0x048, 2 * r + 1, 2 * r, 0⟩
  let s := (s.bump p f).event p 3
  let s := setRail s r { rail s r with fails := n }
  if n = 3 then chatterTrip s r else s

/-- The filtered PG of a rail becomes 1: soft start has ended and a window opens (R359, R363). -/
def pgGood (s : State) (r : Nat) : State :=
  let p := Pg.HKRAIL
  let x := rail s r
  let s := s.putb p (Reg.HKRAIL.STATUS_PG.ix r) true
  let x := { x with winUs := s.rcUs }
  if x.seen ∨ x.retarget then setRail s r { x with seen := true }
  else
    let s := (s.put p (Reg.HKRAIL.VREF_VOLTAGE.ix r) x.target).putb p (Reg.HKRAIL.STATUS_SLEW_DONE.ix r) true
    (setRail s r { x with seen := true, vref := x.target * 100 }).event p 0

/-- The filtered PG of a rail becomes 0 (R363, R366, R370, R371): a failed window before qualification; on a qualified rail
a fault, or in DOWN an early collapse. -/
def pgBad (s : State) (r : Nat) (above : Bool) : State :=
  let p := Pg.HKRAIL
  let q := railQual s r
  let s := s.putb p (Reg.HKRAIL.STATUS_PG.ix r) false
  if !q && !(goingDown s && inSeq s r) then windowFail s r
  else
    let s := refreshHkUp (resetsOfRail (s.putb p (Reg.HKRAIL.STATUS_QUALIFIED.ix r) false) r)
    if goingDown s ∧ inSeq s r then
      (s.put Pg.HKSEQ ⟨0x068, 2 * r + 1, 2 * r, 0⟩ 3).event Pg.HKSEQ 4
    else railTrip s (if above then 3 else 2) r

/-! ### Power-down (R360, R368 to R370) -/

/-- Enter DOWN with a common start at the next slot boundary (R360), at a command of origin `o` or, with 0xFF, at a power-path
shutdown. -/
def enterDown (s : State) (o : Nat) : State :=
  let was := s.get Pg.HKSEQ Reg.HKSEQ.OFF_RESULT_RESULT
  let s := (setHk s Hq.DOWN).put Pg.HKSEQ Reg.HKSEQ.OFF_RESULT_RESULT 0
  refreshHkUp { s with hk := { s.hk with start := true, downReq := some (o, was) } }

/-- The common start of DOWN (R368): chip safe state until the rails are next qualified, both reset outputs low, rails in
soft start or qualification switched off. -/
def downStart (s : State) : State :=
  let s := resetsLow (chipSafeWith { s with fault := { s.fault with seqHold := true } } 2 5)
  hk3Lost ((List.range 4).foldl (fun s r => if inSeq s r && railOn s r && !railQual s r then railOff s r Org.SEQ else s) s)

/-- DOWN is complete (R360): the highest OFF_DLY slot passed, every rail of the sequence low or timed out. -/
def tryOff (s : State) : State :=
  if hkState s = Hq.DOWN ∧ estate s 10 = Es.RUNNING ∧ delaysPassed s Reg.HKSEQ.RAIL_SEQ_OFF_DLY = true ∧
      (List.range 4).all (fun r => !inSeq s r || (!railOn s r && ((rail s r).low || (rail s r).timedOut))) = true then
    (setHk s Hq.OFF).event Pg.HKSEQ 2
  else s

/-- A rail not below OFF_TH within OFF_TMO of its switch-off (R369). -/
def offTimeout (s : State) (r : Nat) : State :=
  let s := setRail s r { rail s r with offWait := false, timedOut := true }
  let s := s.put Pg.HKSEQ ⟨0x068, 2 * r + 1, 2 * r, 0⟩ 2
  tryOff (raise s Pg.HKSEQ Kind.OFF_TIMEOUT r)

/-- Cause 0x1 in DOWN on a rail not yet switched off (R370). -/
def downOvercurrent (s : State) (r : Nat) : State :=
  let s := railOff s r Org.HW
  let s := s.put Pg.HKSEQ ⟨0x068, 2 * r + 1, 2 * r, 0⟩ 1
  hk3Lost (raise s Pg.HKRAIL Kind.RAIL_FAULT (0x60 + r))

/-! ### Slots (R360, R362, R374) -/

/-- A common start: writes to CFG, RAIL_SEQ and RST_CFG take effect, the slots count from 0 (R362, R378). -/
def commonStart (s : State) : State :=
  let s := { s with held := s.held.filter (fun e => !decide (e.1 / 0x400 = Pg.HKSEQ ∧ 0x040 ≤ e.1 % 0x400)) }
  let s := { s with hk := { s.hk with start := false, slot := 0, startUs := s.rcUs, downReq := none } }
  if hkState s = Hq.DOWN then downStart s else s

/-- The sequencer's part of a slot: the common start or the next slot, and the rails whose delay falls in it (R362). -/
def seqAdvance (s : State) : State :=
  let s := if s.hk.start then commonStart s else { s with hk := { s.hk with slot := s.hk.slot + 1 } }
  let n := s.hk.slot
  let s := s.put Pg.HKSEQ Reg.HKSEQ.STATUS_SLOT (min 63 n)
  if hkState s = Hq.UP then
    (List.range 4).foldl (fun s r =>
      if inSeq s r && !railOn s r && decide (seqField s (Reg.HKSEQ.RAIL_SEQ_ON_DLY.ix r) = n) then railStart s r Org.SEQ else s) s
  else if hkState s = Hq.DOWN then
    hk3Lost ((List.range 4).foldl (fun s r =>
      if inSeq s r && railOn s r && decide (seqField s (Reg.HKSEQ.RAIL_SEQ_OFF_DLY.ix r) = n) then railOff s r Org.SEQ else s) s)
  else s

/-- VREF of a running rail over the slot of 250 µs that has ended (R362, R374): the soft-start ramp, or SLEW toward the newest
target taken; then a VSET written in the slot becomes the target. -/
def slewRail (s : State) (r : Nat) : State :=
  let p := Pg.HKRAIL
  let t := s.get p (Reg.HKRAIL.VSET_VOLTAGE.ix r)
  let done := s.flag p (Reg.HKRAIL.STATUS_SLEW_DONE.ix r)
  let x := rail s r
  let goal := x.target * 100
  let ss := s.get p (Reg.HKRAIL.SS_SLEW_SS.ix r)
  let v :=
    if x.seen = false ∧ x.retarget = false then (if 2 * ss ≤ 5 * x.slots then goal else goal * (5 * x.slots) / (2 * ss))
    else
      let d := s.get p (Reg.HKRAIL.SS_SLEW_SLEW.ix r) * 250
      if x.vref < goal then min goal (x.vref + d) else max goal (x.vref - d)
  let s := (setRail s r { x with vref := v }).put p (Reg.HKRAIL.VREF_VOLTAGE.ix r) (v / 100)
  let now := decide (v = goal)
  let s := if now && !done then s.event p 0 else s
  if t = x.target then s.putb p (Reg.HKRAIL.STATUS_SLEW_DONE.ix r) now
  else
    let s := if now then s else s.bump p (Reg.HKRAIL.SLEW_RETARGET.ix r)
    let s := setRail s r { rail s r with target := t, retarget := true }
    s.putb p (Reg.HKRAIL.STATUS_SLEW_DONE.ix r) (decide (v = t * 100))

/-- The current limit in use of a rail in 10 mA: DERATE % of ILIM on HK1 and HK2 while the die-temperature warning is active
(R376). -/
def ilimInUse (s : State) (r : Nat) : Rat :=
  let lim := ratN (s.get Pg.HKRAIL (Reg.HKRAIL.LIMIT_ILIM.ix r))
  if s.flag Pg.HKRAIL (Reg.HKRAIL.STATUS_DERATED.ix r) then lim * ratN (s.get Pg.HKRAIL Reg.HKRAIL.DERATE_PERCENT) / 100 else lim

/-- One slot of a rail: VREF and the current limit while on; discharge, OFF_TH and OFF_TMO while off (R369). `amps` is its output
current in 10 mA. -/
def railSlot (s : State) (low drained : Nat) (amps : List Nat) (r : Nat) : State :=
  let p := Pg.HKRAIL
  if railOn s r then
    let s := s.putb p (Reg.HKRAIL.STATUS_CURLIM.ix r) (decide (ilimInUse s r ≤ ratN (nth 0 amps r)))
    let x := rail s r
    slewRail (setRail s r { x with slots := x.slots + 1 }) r
  else
    let x := rail s r
    let isLow := bitOf low r
    let s := setRail s r { x with low := isLow, offWait := x.offWait && !isLow, offSlots := if x.offWait then x.offSlots + 1 else 0, drained := bitOf drained r }
    refreshDischarge s r

/-- A sequencer slot (R362). While ENG.10 is stopped the sequence waits and the rails keep their state (R285). A slot that ends
without a heartbeat of ENG.10 is a missed deadline. -/
def slotTick (s : State) (low drained : Nat) (amps : List Nat) : State :=
  let s := (List.range 4).foldl (fun s r => railSlot s low drained amps r) s
  if estate s 10 = Es.RUNNING then
    let s := if (s.eng 10).slotMiss = 0 then s else s.bump (Pg.ENG 10) Reg.ENG.MISSED
    let s := s.setEng 10 { s.eng 10 with slotMiss := (s.eng 10).slotMiss + 1 }
    tryOff (tryOn (seqAdvance s))
  else s

/-! ### Reset outputs (R371) -/

/-- May reset output `k` be released: a mask that is not empty, every rail of it qualified, the last one STRETCH ms ago
or more, and no power-down begun? -/
def mayRelease (s : State) (k : Nat) : Bool :=
  let m := seqField s (Reg.HKSEQ.RST_CFG_MASK.ix k)
  let us := 1000 * seqField s (Reg.HKSEQ.RST_CFG_STRETCH.ix k)
  decide (m ≠ 0) && !goingDown s && decide (hkState s ≠ Hq.FAULTED) &&
    (List.range 4).all (fun r => !bitOf m r || (railOn s r && railQual s r && decide ((rail s r).qualUs + us ≤ s.rcUs)))

/-! ### Commands (R360, R378) -/

/-- May CMD UP be accepted now? -/
def upAllowed (s : State) : Bool :=
  decide (hkState s = Hq.OFF) || (decide (hkState s = Hq.FAULTED) &&
    (decide (s.get Pg.HKSEQ Reg.HKSEQ.STATUS_ABORT_CAUSE ≠ 3) || dieCool s))

/-- The retry row of *Sequencer transitions*. -/
def retryDue (s : State) : Bool :=
  let p := Pg.HKSEQ
  let c := s.get p Reg.HKSEQ.STATUS_ABORT_CAUSE
  s.reducedOrLater && decide (hkState s = Hq.FAULTED) && decide (c = 1 ∨ c = 2) &&
    decide (s.get p Reg.HKSEQ.STATUS_CONSEC_ABORTS ≤ seqField s Reg.HKSEQ.CFG_RETRY) &&
    decide (s.hk.abortUs + 100000 ≤ s.rcUs) &&
    (List.range 4).all (fun r => (rail s r).low)

/-- The thermal row of *Sequencer transitions*: every die sensor below 110 °C for 1 s. -/
def thermalDue (s : State) : Bool :=
  s.reducedOrLater && decide (hkState s = Hq.FAULTED ∧ s.get Pg.HKSEQ Reg.HKSEQ.STATUS_ABORT_CAUSE = 3) && dieCool s

/-- CMD UP. Where the retry row or the thermal row is due as well, that row, nearer the top, takes effect (R7, R360). -/
def cmdUp (s : State) : State :=
  if hkState s = Hq.OFF then enterUp s true
  else if retryDue s || thermalDue s then enterUp s false
  else enterUp (s.put Pg.HKSEQ Reg.HKSEQ.STATUS_CONSEC_ABORTS 0) false

/-- May CMD DOWN be accepted now? -/
def downAllowed (s : State) : Bool := decide (hkState s = Hq.UP ∨ hkState s = Hq.ON)

/-- A write of HKSEQ:CMD with its key by an origin (R378): none where it is refused, as with OP codes 0 and 3. -/
def hkCommand (s : State) (op o : Nat) : Option State :=
  if op = 1 then (if upAllowed s then some (cmdUp s) else none)
  else if op = 2 then (if downAllowed s then some (enterDown s o) else none)
  else none

/-! ### CTRL.EN on one rail (R372) -/

/-- Is an EN write accepted: STATE ON, and EN = 0 on HK1 only with every channel in mode OFF? -/
def enAllowed (s : State) (r : Nat) (b : Bool) : Bool :=
  decide (hkState s = Hq.ON) && (b || decide (r ≠ 0) || s.allOff)

/-- The effect of an accepted EN write on one rail; the write itself has been logged. -/
def enEffect (s : State) (r : Nat) (b : Bool) : State :=
  if b then (if railOn s r then s else railStart s r Org.HW)
  else hk3Lost (railOff s r Org.HW)

end Sys2Proof.Machine
end

