-- ==== Sys2Proof/Machine/Gauge.lean ====
section
/-! DEFINITION. The gauge of the backup pack (R397 to R402). -/

namespace Sys2Proof.Machine

/-- The cell count that CHG_CFG.CELLS selects (R404). -/
def packCells (s : State) : Nat := if s.flag Pg.BACKUP Reg.BACKUP.CHG_CFG_CELLS then 4 else 3

/-- VBAK in mV, the converter's latest result. -/
def vbak (s : State) : Nat := s.get Pg.HKRAIL Reg.HKRAIL.VBAK_VOLTAGE

/-- The shutdown level of R388 in mV. -/
def shutLevel (s : State) : Nat := packCells s * s.get Pg.BACKUP Reg.BACKUP.SHUT_CFG_SHUT_V

/-- The state of charge, 0 to 1, at an open-circuit voltage per cell in mV: linear in OCV.0 to OCV.10 (R398). Outside the
table it is 0 or 1 (DEDUCED, log entry 25). -/
def socOf (s : State) (v : Rat) : Rat :=
  let o := fun k => ratN (s.get Pg.GAUGE (Reg.GAUGE.OCV_VOLTAGE.ix k))
  if v ≤ o 0 then 0
  else (List.range 10).foldl (fun (a : Rat) k =>
    if o k < v ∧ v ≤ o (k + 1) then (ratN k + (v - o k) / (o (k + 1) - o k)) / 10 else a) 1

/-- The impedance band of a state of charge in 0.01 %: floor(x / 12.5 %), at most 7 (R398). -/
def socBand (x : Nat) : Nat := min 7 (x * 8 / 10000)

/-- Is band `k` of the impedance table valid? -/
def impValid (s : State) (k : Nat) : Bool := s.flag Pg.GAUGE (Reg.GAUGE.IMP_VALID.ix k)

/-- The pack resistance in 0.1 mΩ that the procedure of R398 uses. -/
def packRes (s : State) : Rat :=
  let r := fun k => s.get Pg.GAUGE (Reg.GAUGE.IMP_RES.ix k)
  let b := socBand (s.get Pg.GAUGE Reg.GAUGE.SOC_SOC_RAW)
  let v := (List.range 8).filter (impValid s)
  if impValid s b then ratN (r b)
  else if v.isEmpty then 0
  else ratN (sumNat (v.map r)) / ratN v.length

/-- A value held between 0 and 1. -/
def unit01 (x : Rat) : Rat := if x < 0 then 0 else if 1 < x then 1 else x

/-- Commit the learned record (R402). -/
def commitGauge (s : State) : State := requestCommit s 0x06 (.words (gaugeWords s))

/-- Publish SOC; SOC_STEP at each whole-percent change. -/
def setSoc (s : State) (v : Nat) : State :=
  let old := s.get Pg.GAUGE Reg.GAUGE.SOC_SOC
  let s := s.put Pg.GAUGE Reg.GAUGE.SOC_SOC v
  if old / 100 = v / 100 then s else s.event Pg.GAUGE 0

/-- Set EMPTY_MARK (R399). -/
def emptyMark (s : State) : State :=
  let s := if s.flag Pg.GAUGE Reg.GAUGE.STATUS_EMPTY_MARK then s
    else (s.putb Pg.GAUGE Reg.GAUGE.STATUS_EMPTY_MARK true).event Pg.GAUGE 4
  { s with gauge := { s.gauge with markOk := true } }

/-- The charge integrated in the past second (R397): Q_RAW, not clamped, and the discharged charge go on whatever ENG.10
does. A second below 20 mA counts toward a rest (R401). -/
def gaugeCharge (s : State) (mc : Int) : State :=
  let s := s.puti Pg.GAUGE Reg.GAUGE.Q_RAW (s.geti Pg.GAUGE Reg.GAUGE.Q_RAW + mc)
  { s with gauge := { s.gauge with loads := lastN 64 (s.gauge.loads ++ [mc]), discharged := s.gauge.discharged + (-mc).toNat, restSec := if absI mc < 20 then s.gauge.restSec + 1 else 0 } }

/-- CYCLES advances when the discharged charge counted since its last advance reaches FCC (R400). -/
def gaugeCycle (s : State) : State :=
  let d := s.gauge.discharged
  let f := s.get Pg.GAUGE Reg.GAUGE.FCC
  if f ≤ d ∧ f ≠ 0 then commitGauge ({ s with gauge := { s.gauge with discharged := d - f } }.bump Pg.GAUGE Reg.GAUGE.CYCLES)
  else s

/-- CONFIDENCE drops to 0 (R401), once ENG.10 publishes: while it is stopped the published values stand still (R398). -/
def dropConfidence (s : State) : State :=
  if estate s 10 = Es.RUNNING then
    { (s.put Pg.GAUGE Reg.GAUGE.STATUS_CONFIDENCE 0) with gauge := { s.gauge with reseeded := false } }
  else { s with gauge := { s.gauge with reseeded := true } }

/-- The update of R398 and the reconciliation of R399. -/
def gaugeSoc (s : State) : State :=
  let p := Pg.GAUGE
  let s := gaugeCycle (if s.gauge.reseeded then dropConfidence s else s)
  let n := s.gauge.loads.length
  let avg : Rat := if n = 0 then 0 else ratI (sumInt s.gauge.loads) / ratN n
  let s := s.putSat p Reg.GAUGE.PACK_I (s.gauge.loads.getLast?.getD 0)
  let s := s.putSat p Reg.GAUGE.LOAD_AVG (quant avg)
  let il : Rat := if avg < 0 then -avg else 0
  let shut := s.get Pg.BACKUP Reg.BACKUP.SHUT_CFG_SHUT_V
  let vStop := ratN shut + il * packRes s / ratN (packCells s * 10000)
  let fcc := ratN (s.get p Reg.GAUGE.FCC)
  let qu := fcc * socOf s vStop
  let q := ratI (s.geti p Reg.GAUGE.Q_RAW)
  let raw : Rat := if fcc = 0 then ratI (Config.openQuotient s.free) else q / fcc
  let soc : Rat := if fcc = qu then ratI (Config.openQuotient (s.free + 1)) else (q - qu) / (fcc - qu)
  let s := { s with free := s.free + 2 }
  let s := s.put p Reg.GAUGE.Q_UNUSABLE (quant qu).toNat
  let s := s.put p Reg.GAUGE.SOC_SOC_RAW (truncR (unit01 raw * 10000)).toNat
  let v := (truncR (unit01 soc * 10000)).toNat
  if soc ≤ 0 ∧ packCells s * (shut + 10 * s.get p Reg.GAUGE.GAUGE_CFG_EMPTY_MARGIN) < vbak s then
    let s := if s.flag p Reg.GAUGE.STATUS_RELEARN_REQ then s else s.event p 2
    let s := (s.putb p Reg.GAUGE.STATUS_HELD true).putb p Reg.GAUGE.STATUS_RELEARN_REQ true
    emptyMark (setSoc s 100)
  else if soc ≤ 0 ∧ vbak s ≤ shutLevel s then emptyMark (setSoc s 0)
  else setSoc s v

/-- Voltage empty, count not (R399). -/
def gaugeForced (s : State) : State :=
  let p := Pg.GAUGE
  let s := s.put p Reg.GAUGE.Q_RAW (s.get p Reg.GAUGE.Q_UNUSABLE)
  emptyMark (setSoc (s.putb p Reg.GAUGE.STATUS_FORCED_EMPTY true) 0)

/-- CONFIDENCE 3 when FCC is learned and all eight bands are valid (R401). -/
def confidence3 (s : State) : State :=
  if s.get Pg.GAUGE Reg.GAUGE.STATUS_CONFIDENCE = 2 ∧ (List.range 8).all (impValid s) = true then
    s.put Pg.GAUGE Reg.GAUGE.STATUS_CONFIDENCE 3
  else s

/-- The gauge at DONE (R400). -/
def gaugeDone (s : State) : State :=
  let p := Pg.GAUGE
  let q := s.geti p Reg.GAUGE.Q_RAW
  let d : Int := designFcc s
  let s :=
    if s.flag p Reg.GAUGE.STATUS_EMPTY_MARK && s.gauge.markOk then
      (if d ≤ 2 * q ∧ 10 * q ≤ 12 * d then
        let s := (s.put p Reg.GAUGE.FCC q.toNat).bump p Reg.GAUGE.LEARN_COUNT
        let s := (s.putb p Reg.GAUGE.STATUS_LEARN_REJECT false).put p Reg.GAUGE.STATUS_CONFIDENCE 2
        commitGauge (confidence3 (s.event p 1))
      else s.putb p Reg.GAUGE.STATUS_LEARN_REJECT true)
    else s
  let s := s.put p Reg.GAUGE.Q_RAW (s.get p Reg.GAUGE.FCC)
  let s := (s.putb p Reg.GAUGE.STATUS_EMPTY_MARK false).putb p Reg.GAUGE.STATUS_HELD false
  s.putb p Reg.GAUGE.STATUS_RELEARN_REQ false

/-- A pack current step of `di` mA with a voltage step of `dv` mV (R400). -/
def gaugeStep (s : State) (dv di : Int) : State :=
  let p := Pg.GAUGE
  let k := socBand (s.get p Reg.GAUGE.SOC_SOC_RAW)
  let r := absR (ratI dv) * 10000 / absR (ratI di)
  let old := ratN (s.get p (Reg.GAUGE.IMP_RES.ix k))
  let v := if impValid s k then quant (old + (r - old) / 8) else quant r
  let s := s.put p (Reg.GAUGE.IMP_RES.ix k) (satNat 16 v.toNat)
  commitGauge (confidence3 (s.putb p (Reg.GAUGE.IMP_VALID.ix k) true))

/-- Q_RAW from a pack voltage in mV (R401). -/
def seedCharge (s : State) (v : Rat) : State :=
  s.put Pg.GAUGE Reg.GAUGE.Q_RAW (quant (ratN (s.get Pg.GAUGE Reg.GAUGE.FCC) * socOf s (v / ratN (packCells s)))).toNat

/-- The state of charge from the loaded voltage of `mv` mV, at cold start or insertion (R401). -/
def gaugeReseed (s : State) (mv : Nat) : State :=
  let v := ratN mv - ratI (s.geti Pg.GAUGE Reg.GAUGE.PACK_I) * packRes s / 10000
  dropConfidence (seedCharge s v)

/-- A rest (R401). -/
def gaugeRested (s : State) : State :=
  let c := s.get Pg.GAUGE Reg.GAUGE.STATUS_CONFIDENCE
  let s := { s with gauge := { s.gauge with restSec := 0 } }
  (seedCharge s (ratN (vbak s))).put Pg.GAUGE Reg.GAUGE.STATUS_CONFIDENCE (max 1 c)

/-- A DESIGN_CAP write: the first-use FCC follows it, and the learned record is written (R401, R402). -/
def designWritten (s : State) : State :=
  if s.get Pg.GAUGE Reg.GAUGE.LEARN_COUNT = 0 then commitGauge (designFollow s) else s

/-- RELEARN (R402): the first-use state, written; learning in progress is cancelled (R403). -/
def gaugeFirstUse (s : State) : State :=
  let s := (gaugeFresh s).putb Pg.GAUGE Reg.GAUGE.STATUS_EMPTY_MARK false
  commitGauge { s with gauge := { s.gauge with markOk := false, discharged := 0 } }

end Sys2Proof.Machine
end

