-- ==== Sys2Proof/Machine/Backup.lean ====
section
/-! DEFINITION. The power path, the charger, pack presence and authentication (R380 to R396), and the emergency commit
(R390, R442, R504). -/

namespace Sys2Proof.Machine

/-! ### The paths (R381 to R387) -/

/-- PATH_STATUS.SOURCE codes. -/
abbrev Src.VIN : Nat := 0
abbrev Src.HANDOVER : Nat := 1
abbrev Src.PACK : Nat := 2
abbrev Src.WINDOW : Nat := 3

/-- PATH_STATUS.SOURCE. -/
def pathSource (s : State) : Nat := s.get Pg.BACKUP Reg.BACKUP.PATH_STATUS_SOURCE

/-- Set PATH_STATUS.SOURCE. -/
def setSource (s : State) (v : Nat) : State := s.put Pg.BACKUP Reg.BACKUP.PATH_STATUS_SOURCE v

/-- Set PATH_STATUS.BAT_SW. -/
def setSwitch (s : State) (b : Bool) : State := s.putb Pg.BACKUP Reg.BACKUP.PATH_STATUS_BAT_SW b

/-- Is the battery switch on? -/
def switchOn (s : State) : Bool := s.flag Pg.BACKUP Reg.BACKUP.PATH_STATUS_BAT_SW

/-- Does the pack carry VSYS? -/
def onPack (s : State) : Bool := decide (pathSource s = Src.PACK ∨ pathSource s = Src.WINDOW) && switchOn s

/-- The voltage in mV to which the path converter regulates VSYS while it carries it: the larger of VSYS_MIN and VBAK + 150 mV
(R381). -/
def vsysTarget (s : State) : Option Nat :=
  if s.backup.path then some (max (s.get Pg.BACKUP Reg.BACKUP.PATH_CFG_VSYS_MIN) (vbak s + 150)) else none

/-- The most that the path converter draws from VIN, in mA (R381). -/
def inputLimit (s : State) : Nat := 10 * s.get Pg.BACKUP Reg.BACKUP.IIN_LIM_LIMIT

/-- Is a pack present (R394, R395)? -/
def packPresent (s : State) : Bool := s.flag Pg.BACKUP Reg.BACKUP.CHG_STATUS_PRESENT

/-- The hardware cut-off level of R389 in mV. -/
def cutLevel (s : State) : Nat :=
  packCells s * (s.get Pg.BACKUP Reg.BACKUP.SHUT_CFG_SHUT_V - 10 * s.get Pg.BACKUP Reg.BACKUP.SHUT_CFG_CUT_MARGIN)

/-- The level at which a pack may start the device (R382), in mV. -/
def startLevel (s : State) : Nat :=
  packCells s * (s.get Pg.BACKUP Reg.BACKUP.SHUT_CFG_SHUT_V + 10 * s.get Pg.BACKUP Reg.BACKUP.SHUT_CFG_START_MARGIN)

/-! ### Charging (R391 to R393) -/

/-- CHG_STATUS.STATE codes. -/
abbrev Chg.DISABLED : Nat := 0
abbrev Chg.SUSPENDED : Nat := 1
abbrev Chg.CC : Nat := 2
abbrev Chg.CV : Nat := 3
abbrev Chg.DONE : Nat := 4
abbrev Chg.TIMER_EXPIRED : Nat := 5
abbrev Chg.ABSENT : Nat := 6
abbrev Chg.ON_PACK : Nat := 7
abbrev Chg.AUTH_FAILED : Nat := 8

/-- CHG_STATUS.STATE. -/
def chgState (s : State) : Nat := s.get Pg.BACKUP Reg.BACKUP.CHG_STATUS_STATE

/-- The pack zone (R391). -/
def packZone (s : State) : Nat := s.get Pg.BACKUP Reg.BACKUP.CHG_STATUS_ZONE

/-- The zone current in mA (R392). -/
def zoneCurrent (s : State) : Nat :=
  let c := s.get Pg.BACKUP (Reg.BACKUP.ZONE_I_CODE.ix (packZone s))
  let i := s.get Pg.BACKUP Reg.BACKUP.CHG_CFG_ICHG
  if c = 255 then i else min i (c * s.get Pg.GAUGE Reg.GAUGE.DESIGN_CAP_CAP / 100)

/-- The pack voltage of CV in the present zone in mV: CELLS × V_CELL (R392). -/
def cvLevel (s : State) : Nat := packCells s * s.get Pg.BACKUP (Reg.BACKUP.ZONE_V_V_CELL.ix (packZone s))

/-- The pack voltage below which charging restarts from DONE in mV: CELLS × (V_CELL − RECHG) (R392). -/
def rechargeLevel (s : State) : Nat := cvLevel s - packCells s * (10 * s.get Pg.BACKUP Reg.BACKUP.CHG_TIMER_RECHG)

/-- Is the pack thermistor shorted (R391)? -/
def packShorted (s : State) : Bool :=
  !s.flag Pg.BACKUP Reg.BACKUP.CHG_STATUS_TS_VALID && s.hk.packShort

/-- The charger's state from its conditions (R285, R392 to R396): where it may charge it stays in CC, CV or DONE, or starts
in CC. A pack that has reached DONE is charged again only below the recharge level, also after a suspension or a hand-over (DEDUCED,
log entry 101). -/
def chgNext (s : State) : Nat :=
  let st := chgState s
  if !packPresent s then Chg.ABSENT
  else if !s.backup.path then Chg.ON_PACK
  else if !s.flag Pg.BACKUP Reg.BACKUP.CHG_CFG_EN then Chg.DISABLED
  else if s.backup.authFail then Chg.AUTH_FAILED
  else if s.backup.expired then Chg.TIMER_EXPIRED
  else if packShorted s || decide (zoneCurrent s = 0) || decide (estate s 10 ≠ Es.RUNNING) then Chg.SUSPENDED
  else if st = Chg.CC ∨ st = Chg.CV ∨ st = Chg.DONE then st
  else if s.backup.done && decide (rechargeLevel s ≤ vbak s) then Chg.DONE
  else Chg.CC

/-- Set the charger's state. While the path converter carries VSYS the battery switch is the charger's pass element, and no
charge current is reduced where none flows (R381). DONE lasts until charging restarts (R392). -/
def setChg (s : State) (v : Nat) : State :=
  let on := decide (v = Chg.CC ∨ v = Chg.CV)
  let s := s.put Pg.BACKUP Reg.BACKUP.CHG_STATUS_STATE v
  let s := { s with backup := { s.backup with done := decide (v = Chg.DONE) || (s.backup.done && !on) } }
  let s := if on then s else s.putb Pg.BACKUP Reg.BACKUP.PATH_STATUS_DPM false
  if s.backup.path then setSwitch s on else s

/-- DPM: the charge current is reduced because the VSYS load and the charge current together would draw `iin` mA from VIN, above
IIN_LIM (R381). -/
def inputDpm (s : State) (iin : Nat) : State :=
  s.putb Pg.BACKUP Reg.BACKUP.PATH_STATUS_DPM
    (s.backup.path && decide (chgState s = Chg.CC ∨ chgState s = Chg.CV) && decide (inputLimit s < iin))

/-- Bring the charger to the state that its conditions give. -/
def refreshCharge (s : State) : State := setChg s (chgNext s)

/-- CHG_TIME cleared (R393). -/
def clearChgTime (s : State) : State :=
  let s := s.put Pg.BACKUP Reg.BACKUP.CHG_TIME_MINUTES 0
  { s with backup := { s.backup with chgSec := 0 } }

/-- One second of CHG_TIME, counted in CC and CV (R393). -/
def chargeSecond (s : State) : State :=
  if chgState s = Chg.CC ∨ chgState s = Chg.CV then
    let n := s.backup.chgSec + 1
    let s := { s with backup := { s.backup with chgSec := n % 60 } }
    if n % 60 = 0 then s.bump Pg.BACKUP Reg.BACKUP.CHG_TIME_MINUTES else s
  else s

/-- CELLS × V_CELL has changed from `was` while the pack is charged (R392, R403): a pack at or above it is in CV, with no current
where it lies above; one below it is charged in CC. -/
def revoltage (s : State) (was : Nat) : State :=
  if cvLevel s ≠ was ∧ (chgState s = Chg.CC ∨ chgState s = Chg.CV) then
    setChg s (if cvLevel s ≤ vbak s then Chg.CV else Chg.CC)
  else s

/-- A zone entered (R391): a zone whose I_CODE is 0 suspends charging and raises PACK_TEMP. -/
def enterZone (s : State) (z : Nat) : State :=
  let was := cvLevel s
  let s := s.put Pg.BACKUP Reg.BACKUP.CHG_STATUS_ZONE z
  let s := if s.get Pg.BACKUP (Reg.BACKUP.ZONE_I_CODE.ix z) = 0 then raise s Pg.BACKUP Kind.PACK_TEMP z else s
  revoltage (refreshCharge s) was

/-- T_HI of a zone in 0.1 °C. -/
def packZoneHi (s : State) (z : Nat) : Int := s.geti Pg.BACKUP (Reg.BACKUP.ZONE_T_HI.ix z)

/-- The zone chosen afresh for a temperature (R391). -/
def freshZone (s : State) (t : Int) : Nat := ((List.range 4).find? (fun z => decide (t < packZoneHi s z))).getD 4

/-- A valid pack temperature moves the zone, at most one zone per result (R391). -/
def zoneResult (s : State) (t : Int) : State :=
  let z := packZone s
  if s.hk.zoneFresh then enterZone { s with hk := { s.hk with zoneFresh := false } } (freshZone s t)
  else
    let n := if z < 4 ∧ packZoneHi s z ≤ t then z + 1
      else if 0 < z ∧ t < packZoneHi s (z - 1) - s.get Pg.BACKUP Reg.BACKUP.ZONE_HYST_HYST then z - 1
      else z
    if n = z then s else enterZone (s.event Pg.BACKUP 3) n

/-- A new PACK_TS result (R205, R377, R391): `t` none for an invalid ratio, `short` where it lies below 0.02. -/
def packTempResult (s : State) (t : Option Int) (short : Bool) : State :=
  let p := Pg.BACKUP
  let was := packShorted s
  let s := (s.putb p Reg.BACKUP.PACK_T_VALID t.isSome).puti p Reg.BACKUP.PACK_T_TEMP (t.getD 0)
  let s := s.putb p Reg.BACKUP.CHG_STATUS_TS_VALID t.isSome
  let s := { s with hk := { s.hk with packShort := short } }
  match t with
  | some v => refreshCharge (zoneResult s v)
  | none => refreshCharge (if short && !was then raise s p Kind.PACK_TEMP 0x0F else s)

/-! ### Authentication (R396) -/

/-- The pack authentication key of OTP words 0x97 to 0x9A, most significant byte first (log entry 24). -/
def packKey (s : State) : List Nat := (List.flatMap (fun a => bytesLE 4 (keyWord s a)) [0x97, 0x98, 0x99, 0x9A]).reverse

/-- Authentication refused: the IDENTITY region has failed (R54). -/
def authRefused (s : State) : State :=
  refreshCharge (raise { s with backup := { s.backup with tries := 0, authFail := true } } Pg.BACKUP Kind.PACK_AUTH 2)

/-- Begin authentication: up to 3 attempts; none where the IDENTITY region failed. -/
def authBegin (s : State) : State :=
  let s := s.putb Pg.BACKUP Reg.BACKUP.CHG_STATUS_AUTH_OK false
  if s.getBit Pg.CHIP Reg.CHIP.STATUS_OTP_FAIL 2 then authRefused s
  else refreshCharge { s with backup := { s.backup with tries := 3, authFail := false, authUs := s.rcUs } }

/-- An attempt ends: a match, a mismatch, or no answer. -/
def authAttempt (s : State) (challenge : List Nat) (response : Option (List Nat)) : State :=
  let ok := decide (response = some (aes128 (packKey s) challenge))
  let n := s.backup.tries - 1
  if ok then
    let s := { s with backup := { s.backup with tries := 0, authFail := false } }
    refreshCharge ((s.putb Pg.BACKUP Reg.BACKUP.CHG_STATUS_AUTH_OK true).event Pg.BACKUP 5)
  else if n = 0 then
    let s := { s with backup := { s.backup with tries := 0, authFail := true } }
    refreshCharge (raise (s.event Pg.BACKUP 5) Pg.BACKUP Kind.PACK_AUTH (if response.isSome then 0 else 1))
  else { s with backup := { s.backup with tries := n, authUs := s.rcUs + 100000 } }

/-! ### Pack presence (R394, R395) -/

/-- The pack has been removed (R394): 0 open thermistor, 1 current collapse. Authentication is abandoned (R403). -/
def packGone (s : State) (addr : Nat) : State :=
  let p := Pg.BACKUP
  let s := (s.putb p Reg.BACKUP.CHG_STATUS_PRESENT false).event p 4
  let s := { s with backup := { s.backup with tries := 0, done := false }, gauge := { s.gauge with markOk := false } }
  raise (setSwitch (refreshCharge s) false) p Kind.PACK_ABSENT addr

/-- The pack is present again (R395). -/
def packBack (s : State) : State :=
  let p := Pg.BACKUP
  let s := clearChgTime ((s.putb p Reg.BACKUP.CHG_STATUS_PRESENT true).event p 4)
  let s := { s with backup := { s.backup with expired := false, authFail := false, done := false } }
  let s := if s.flag p Reg.BACKUP.PACK_T_VALID then enterZone { s with hk := { s.hk with zoneFresh := false } } (freshZone s (s.geti p Reg.BACKUP.PACK_T_TEMP))
    else { s with hk := { s.hk with zoneFresh := true } }
  let s := gaugeReseed s (vbak s)
  let s := if s.flag p Reg.BACKUP.AUTH_CFG_EN then authBegin s else s
  refreshCharge s

/-! ### Hand-over and hand-back (R383 to R387) -/

/-- The start of a hand-over (R383, R384). -/
def handoverBegin (s : State) : State :=
  let p := Pg.BACKUP
  let usable := packPresent s && decide (cutLevel s ≤ vbak s)
  let s := { s with backup := { s.backup with path := false, handUs := s.rcUs } }
  let s := (((setSource s Src.HANDOVER).putb p Reg.BACKUP.PATH_STATUS_VIN_GOOD false).event p 0).bump p Reg.BACKUP.HANDOVERS
  let s := refreshCharge (setSwitch s usable)
  let s := raise s p Kind.VIN_UV (b2n (!usable))
  if s.full then noteReason s 2 else s

/-- Hand-back (R386): the path converter carries VSYS again, which ends a shutdown in progress but not the sequencer's DOWN
(DESIGN CHOICE, log entry 102). -/
def handbackDone (s : State) : State :=
  let p := Pg.BACKUP
  let s := { (s.putb p Reg.BACKUP.PATH_STATUS_SHUTDOWN false) with backup := { s.backup with path := true } }
  let s := (setSource s Src.VIN).event p 1
  let s := s.put p Reg.BACKUP.LAST_OUTAGE (satNat 32 ((s.rcUs - s.backup.handUs) / 1000))
  refreshCharge (setSwitch (clearChgTime s) false)

/-- The hand-back window opens (R386). -/
def openWindow (s : State) : State := setSource { s with backup := { s.backup with winUs := s.rcUs } } Src.WINDOW

/-- The hand-over is complete: the pack carries VSYS, and the hand-back window opens at once where VIN has returned (R383, R385,
R403). -/
def handoverDone (s : State) : State :=
  if s.flag Pg.BACKUP Reg.BACKUP.PATH_STATUS_VIN_GOOD then openWindow s else setSource s Src.PACK

/-- Has VIN been good for QUAL in the present hand-back window (R386)? -/
def handbackDue (s : State) : Bool :=
  decide (pathSource s = Src.WINDOW) &&
    decide (s.backup.winUs + 10000 * s.get Pg.BACKUP Reg.BACKUP.PATH_CFG_QUAL ≤ s.rcUs)

/-- A new VIN result: VIN_GOOD, and the hand-back window (R386). -/
def vinResult (s : State) : State :=
  let good := decide (s.get Pg.BACKUP Reg.BACKUP.VIN_TH_VIN_OK < s.get Pg.HKRAIL Reg.HKRAIL.VIN_VOLTAGE)
  let s := s.putb Pg.BACKUP Reg.BACKUP.PATH_STATUS_VIN_GOOD good
  if good && decide (pathSource s = Src.PACK) then openWindow s
  else if !good && decide (pathSource s = Src.WINDOW) then setSource s Src.PACK
  else s

/-- The battery switch opened and the start latch set (R388, R389). -/
def packOff (s : State) : State :=
  { (setSwitch s false) with backup := { s.backup with path := false, latch := true } }

/-- The start decision of SAFETY_START with no VIN (R382): the pack carries VSYS, or the start latch is set. -/
def packStart (s : State) (vbak : Nat) : State :=
  if s.backup.path then s
  else if s.flag Pg.BACKUP Reg.BACKUP.PATH_CFG_PACK_START ∧ startLevel s ≤ vbak then
    let s := setSwitch (setSource s Src.PACK) true
    { s with backup := { s.backup with handUs := s.rcUs } }
  else packOff s

/-- The power-path shutdown (R388): the frame closed in the chip safe state (R218) and the SHUTDOWN checkpoint committed, then
DOWN. -/
def packShut (s : State) (f : FrameIn) (len : Nat) : State :=
  let was := s.full
  let n := s.frame
  let s := s.putb Pg.BACKUP Reg.BACKUP.PATH_STATUS_SHUTDOWN true
  let s := if was then chipSafeWith s 2 5 else s
  let s := closePending (closeFrame s f len) n
  let s := if was then
      let s := commitNow (abandonCommit s) 1 (.ckpt (makeCkpt s 7 s.frame))
      { s with backup := { s.backup with closed := true } }
    else s
  if downAllowed s then enterDown s 0xFF else s

/-! ### The emergency commit (R390, R442, R504) -/

/-- The emergency commit starts: the frame closed in the chip safe state, the rails off, the sequencer OFF with EMERG_OFF,
the BROWNOUT checkpoint and the log tail copied to the commit buffer, commits that waited lost, and a main domain that ran lost
without a MAIN_LOSS checkpoint. -/
def emergencyStart (s : State) (f : FrameIn) (len : Nat) : State :=
  let was := s.full
  let n := s.frame
  let s := if was then chipSafeWith s 2 5 else s
  let s := dropPending (abandonCommit (closePending (closeFrame s f len) n))
  let s := if s.fault.recSnap.isSome then loseRecord s else s
  let s := allRailsOff s Org.HW
  let s := (setHk s Hq.OFF).putb Pg.HKSEQ Reg.HKSEQ.STATUS_EMERG_OFF true
  let s := refreshHkUp { s with hk := { s.hk with start := false, abortUs := s.rcUs } }
  let s := fillEmergency s (if was then some (makeCkpt s 6 s.frame) else none)
  let main := decide (Svc.MAIN_START ≤ s.service ∧ s.service ≤ Svc.WARM_RESET)
  let s := { s with backup := { s.backup with closed := main || s.backup.closed, emerg := true } }
  hk3Lost s

end Sys2Proof.Machine
end

