-- ==== Sys2Proof/Machine/HkConv.lean ====
section
/-! DEFINITION. The housekeeping converter's results (R204, R205, R377, R494). -/

namespace Sys2Proof.Machine

/-- The natural logarithm of a positive rational. -/
def lnRat (r : Rat) : Rat := if r ≤ 1 then lnUnit r else -lnUnit (1 / r)

/-- The temperature of a thermistor ratio raw / 65,536 in 0.1 °C, none outside 0.02 to 0.98 (R377). The logarithm carries 40
fraction bits (log entry 16). -/
def thermTemp (raw : Nat) (r25 beta : Nat) : Option Int :=
  if 50 * raw < 65536 ∨ 49 * 65536 < 50 * raw then none
  else
    let rt : Rat := 10000 * ratN raw / ratN (65536 - raw)
    let inv : Rat := 20 / 5963 + lnRat (rt / ratN (r25 * 10)) / ratN beta
    let t : Rat := (1 / inv - 27315 / 100) * 10
    some (roundDiv t.num t.den)

/-- A new cell temperature (R377) checked against TGUARD, once per episode, on the channel that it serves (R150). A follower's
TGUARD is not used (R164); an invalid temperature is a breach on it too (R205; log entry 85). -/
def cellResult (s : State) (c raw : Nat) : State :=
  let p := Pg.HKRAIL
  let t := thermTemp raw (s.get p Reg.HKRAIL.TS_CFG_R25) (s.get p Reg.HKRAIL.TS_CFG_BETA)
  let s := (s.putb p (Reg.HKRAIL.CELL_T_VALID.ix c) t.isSome).puti p (Reg.HKRAIL.CELL_T_TEMP.ix c) (t.getD 0)
  let s := if t.isSome then s else s.event p 2
  let st := s.cstate (s.lead c)
  let on := decide (st = Ch.CONNECT ∨ st = Ch.RUN ∨ st = Ch.HOLD ∨ st = Ch.RAMPDOWN)
  let hot := match t with
    | some v => !s.follower c && decide (signed 16 (s.getf (Pg.CHAN c) Reg.CHAN.TGUARD_TEMP) < v)
    | none => true
  if s.full then
    let ep := episode (s.chan c).epOt (on && hot)
    let s := s.setChan c { s.chan c with epOt := ep.1 }
    if ep.2 then raise s (Pg.CHAN c) Kind.OT_CELL 0 else s
  else s

/-- STATUS.DERATED of HK1 and HK2 follows the die-temperature warning (R376). -/
def derate (s : State) (b : Bool) : State :=
  let p := Pg.HKRAIL
  (s.putb p (Reg.HKRAIL.STATUS_DERATED.ix 0) b).putb p (Reg.HKRAIL.STATUS_DERATED.ix 1) b

/-- A new die temperature (R494): the warning starts at 125.00 °C and ends when every sensor reads below 115.00 °C. -/
def dieResult (s : State) (k : Nat) (t : Int) : State :=
  let p := Pg.HKRAIL
  let s := s.putSat p (Reg.HKRAIL.DIE_TEMP.ix k) t
  let s := if 11000 ≤ t then { s with hk := { s.hk with warmUs := s.rcUs } } else s
  if s.hk.dieWarn then
    (if dieBelow s 11500 then derate { s with hk := { s.hk with dieWarn := false } } false else s)
  else if 12500 ≤ t then
    raise ((derate { s with hk := { s.hk with dieWarn := true } } true).event p 1) Pg.CHIP Kind.OT_DIE 0
  else s

/-- The result of converter slot `k` (*Housekeeping converter slots*). -/
def convResult (s : State) (k : Nat) (raw : Int) : State :=
  let p := Pg.HKRAIL
  let v := satNat 16 raw.toNat
  if k < 32 then (if k < 4 * s.bankCount then cellResult s k v else s)
  else if k = 32 then
    packTempResult s (thermTemp v (s.get Pg.BACKUP Reg.BACKUP.TS_CFG_R25) (s.get Pg.BACKUP Reg.BACKUP.TS_CFG_BETA))
      (decide (50 * v < 65536))
  else if k = 33 then vinResult (s.put p Reg.HKRAIL.VIN_VOLTAGE v)
  else if k = 34 then s.put p Reg.HKRAIL.VSYS_VOLTAGE v
  else if k = 35 then s.put p Reg.HKRAIL.VBAK_VOLTAGE v
  else if k < 40 then s.put p (Reg.HKRAIL.VOUT_VOLTAGE.ix (k - 36)) v
  else if k = 40 then refreshTrickle (s.put p Reg.HKRAIL.VBK_VOLTAGE v)
  else if k < 45 then dieResult s (k - 41) raw
  else s

end Sys2Proof.Machine
end

