-- ==== Sys2Proof/Machine/Rtc.lean ====
section
/-! DEFINITION. The real-time clock: the calendar, the second, time writes, the alarm and WAKE_OUT, the trim measurement
(R405 to R415). -/

namespace Sys2Proof.Machine

/-! ### The calendar (R407) -/

/-- Is year 2000 + y a leap year? 2100 is not. -/
def leap (y : Nat) : Bool := decide (y % 4 = 0) && decide (y ≠ 100)

/-- Days of year 2000 + y. -/
def yearDays (y : Nat) : Nat := if leap y then 366 else 365

/-- Days of month m (1 to 12) of year 2000 + y. -/
def monthDays (y m : Nat) : Nat :=
  if m = 2 then (if leap y then 29 else 28) else if m = 4 ∨ m = 6 ∨ m = 9 ∨ m = 11 then 30 else 31

/-- Year and day of the year (from 0) of a day counted from 2000-01-01. -/
def yearOf (d : Nat) : Nat × Nat :=
  (List.range 136).foldl (fun (a : Nat × Nat) _ => if yearDays a.1 ≤ a.2 then (a.1 + 1, a.2 - yearDays a.1) else a) (0, d)

/-- Month (1 to 12) and day (from 0) of a day of the year. -/
def monthOf (y d : Nat) : Nat × Nat :=
  (List.range 11).foldl (fun (a : Nat × Nat) _ => if monthDays y a.1 ≤ a.2 then (a.1 + 1, a.2 - monthDays y a.1) else a) (1, d)

/-- CAL_TIME of a second. -/
def calTimeOf (t : Nat) : Nat := t % 86400 / 3600 * 65536 + t % 3600 / 60 * 256 + t % 60

/-- CAL_DATE of a second; 2000-01-01 is a Saturday. -/
def calDateOf (t : Nat) : Nat :=
  let y := yearOf (t / 86400)
  let m := monthOf y.1 y.2
  y.1 * 2 ^ 24 + m.1 * 65536 + (m.2 + 1) * 256 + (t / 86400 + 6) % 7

/-- The second of CAL_DATE and CAL_TIME words; none for a value that does not exist or lies beyond the range of TIME_SEC. -/
def calSecond (date time : Nat) : Option Nat :=
  let y := bitsOf date 31 24
  let m := bitsOf date 19 16
  let d := bitsOf date 12 8
  let h := bitsOf time 20 16
  let mi := bitsOf time 13 8
  let se := bitsOf time 5 0
  if 136 < y ∨ m = 0 ∨ 12 < m ∨ d = 0 ∨ monthDays y m < d ∨ 23 < h ∨ 59 < mi ∨ 59 < se then none
  else
    let days := sumNat ((List.range y).map yearDays) + sumNat ((List.range (m - 1)).map (fun k => monthDays y (k + 1))) + (d - 1)
    let t := days * 86400 + h * 3600 + mi * 60 + se
    if t < 2 ^ 32 then some t else none

/-! ### Time (R407 to R410) -/

/-- Both views of the time set to a second. -/
def setTime (s : State) (t : Nat) : State :=
  let s := s.put Pg.RTC Reg.RTC.TIME_SEC t
  (s.put Pg.RTC Reg.RTC.CAL_TIME (calTimeOf t)).put Pg.RTC Reg.RTC.CAL_DATE (calDateOf t)

/-- Does the time run? -/
def rtcHalted (s : State) : Bool := s.flag Pg.RTC Reg.RTC.CTRL_HALT

/-- The untrimmed crystal cycles of a trim period, 32 s (R411). -/
abbrev trimPeriod : Nat := 2 ^ 20

/-- The trimmed cycles of the first `n` untrimmed crystal cycles of a trim period under a CODE (R411): one extra, or one skipped, at
each interval of ⌊2^20 / |CODE|⌋ cycles, |CODE| of them in the period. -/
def trimmedCycles (code : Int) (n : Nat) : Nat :=
  let a := code.natAbs
  let adj := if a = 0 then 0 else min a (n / (trimPeriod / a))
  if 0 < code then n + adj else n - adj

/-- The untrimmed cycles of a trim period in which `x` trimmed cycles are counted (R411): the least for which `trimmedCycles`
reaches `x`, found bit by bit below 2^21. -/
def untrimmedCycles (code : Int) (x : Nat) : Nat :=
  let below := (List.range 21).foldl (fun (m : Nat) k =>
    if trimmedCycles code (m + 2 ^ (20 - k)) < x then m + 2 ^ (20 - k) else m) 0
  if x = 0 then 0 else below + 1

/-- The CODE that the next trim period takes (R411): TRIM as it stood at the period's start. -/
def nextCode (s : State) : Nat := s.rtc.nextTrim.getD (s.get Pg.RTC Reg.RTC.TRIM_CODE)

/-- The trimmed cycles that pass in `n` untrimmed cycles from the start of the present second: the rest of the period under the
CODE in force, then the next period (R411). -/
def secondCycles (s : State) (n : Nat) : Nat :=
  let code := signed 11 s.rtc.trim
  let m := s.rtc.cycle + n
  if m < trimPeriod then trimmedCycles code m - trimmedCycles code s.rtc.cycle
  else trimmedCycles code trimPeriod - trimmedCycles code s.rtc.cycle + trimmedCycles (signed 11 (nextCode s)) (m - trimPeriod)

/-- The untrimmed crystal cycles since the start of the present second, from the RC time (log entry 34). -/
def crystalCycles (s : State) : Nat := (s.rcUs - s.rtc.secUs) * 32768 / 1000000

/-- What a crystal that stopped at SUBSEC `x` has counted since it resumed: open, within the second. -/
def resumedCycles (s : State) (x : Nat) : Nat :=
  if s.rtc.crystalStopped then Config.resumedCycles s.rcUs % (32768 - min x 32767) else 0

/-- SUBSEC: trimmed crystal cycles within the second (R410, R411). A crystal that has stopped goes on from where it stopped at a
moment that nothing shows before the next second: what it has counted since is open (log entry 103). -/
def subsec (s : State) : Nat :=
  match s.rtc.stood with
  | some x => if rtcHalted s then x else x + resumedCycles s x
  | none => min 32767 (secondCycles s (crystalCycles s))

/-- The trim period goes on by `n` untrimmed cycles; at the start of a period TRIM takes effect (R411). -/
def trimGoOn (s : State) (n : Nat) : State :=
  let m := s.rtc.cycle + n
  { s with rtc := { s.rtc with cycle := m % trimPeriod, trim := if m < trimPeriod then s.rtc.trim else nextCode s, nextTrim := none } }

/-- TRIM has been written over `old`: a period that has started within the present second, or under HALT, keeps the CODE it took
(R411). -/
def trimWritten (s : State) (old : Nat) : State :=
  let n := if s.rtc.crystalStopped then 0 else crystalCycles s
  if s.rtc.cycle + n < trimPeriod then s
  else
    let s := { s with rtc := { s.rtc with nextTrim := some (s.rtc.nextTrim.getD old) } }
    if rtcHalted s then trimGoOn { s with rtc := { s.rtc with secUs := s.rcUs } } n else s

/-- The untrimmed cycles of the second that ends: 32,768 trimmed ones (R409, R411). -/
def secondLength (s : State) : Nat :=
  let code := signed 11 s.rtc.trim
  let x := trimmedCycles code s.rtc.cycle + 32768
  let total := trimmedCycles code trimPeriod
  if x ≤ total then untrimmedCycles code x - s.rtc.cycle
  else trimPeriod - s.rtc.cycle + untrimmedCycles (signed 11 (nextCode s)) (x - total)

/-- A write of HALT (R409). HALT = 1 holds the time; HALT = 0 restarts the divider from zero, while the trim period has gone on
under HALT (R411). A crystal that has stopped has counted nothing (R410). -/
def haltWritten (s : State) (was halt : Bool) : State :=
  if halt then
    (match s.rtc.stood with
      | some x => { s with rtc := { s.rtc with stood := some (x + if was then 0 else resumedCycles s x) } }
      | none => { s with rtc := { s.rtc with stood := some (subsec s) } })
  else
    let stopped := s.rtc.crystalStopped
    let s := trimGoOn s (if stopped then 0 else crystalCycles s)
    { s with rtc := { s.rtc with secUs := s.rcUs, stood := if stopped then some 0 else none } }

/-- Assert WAKE_OUT (R415). In MODE 1 the width runs from the latest assertion (DEDUCED, log entry 90). -/
def wakeAssert (s : State) : State :=
  { (s.putb Pg.RTC Reg.RTC.WAKE_CFG_STATE true) with rtc := { s.rtc with wakeUs := s.rcUs } }

/-- STATUS.OSF is set: the RTC is in its first-use state (R68, R410). -/
def osfSet (s : State) : State :=
  { (s.putb Pg.RTC Reg.RTC.STATUS_OSF true) with rtc := { s.rtc with written := false } }

/-- Is the RTC in its first-use state: since OSF was last set, no time write under HALT or no clear of OSF (R410)? -/
def rtcFirstUse (s : State) : Bool := s.flag Pg.RTC Reg.RTC.STATUS_OSF || !s.rtc.written

/-- The alarm fires (R413). -/
def alarmFire (s : State) (skipped : Bool) : State :=
  let p := Pg.RTC
  let s := putLogged s Org.HW p Reg.RTC.ALARM_CTRL_ARM 0
  let s := (s.putb p Reg.RTC.STATUS_ALARM_FIRED true).event p 0
  let s := if skipped then s.putb p Reg.RTC.STATUS_ALARM_SKIPPED true else s
  if s.flag p Reg.RTC.WAKE_CFG_EN then wakeAssert s else s

/-- The alarm after a time write or an ARM write (R413, R414). -/
def alarmCheck (s : State) : State :=
  let a := s.get Pg.RTC Reg.RTC.ALARM
  if s.flag Pg.RTC Reg.RTC.ALARM_CTRL_ARM then
    (if a = s.rtcSec then alarmFire s false else if a < s.rtcSec then alarmFire s true else s)
  else s

/-- The RTC advances one second (R407, R413). -/
def rtcTick (s : State) : State :=
  let t := s.rtcSec + 1
  let s := trimGoOn s (secondLength s)
  let s := { s with rtc := { s.rtc with secUs := s.rcUs, stood := none, crystalStopped := false } }
  let s := if t < 2 ^ 32 then setTime s t else osfSet (setTime s 0)
  if s.flag Pg.RTC Reg.RTC.ALARM_CTRL_ARM ∧ s.get Pg.RTC Reg.RTC.ALARM = s.rtcSec then alarmFire s false else s

/-- The second that a write of one of the three views gives: none where the calendar value does not exist (R409). -/
def rtcWriteSecond (s : State) (off value : Nat) : Option Nat :=
  if off = 0x048 then some (value % 2 ^ 32)
  else if off = 0x050 then calSecond (s.get Pg.RTC Reg.RTC.CAL_DATE) value
  else calSecond value (s.get Pg.RTC Reg.RTC.CAL_TIME)

/-- The latched reads of the backup domain's registers are kept in the backup domain (R499). -/
def rtcSnap (key : Nat) : Bool := decide (key % 2 ^ 24 / 0x400 = Pg.RTC)

/-- Backup-domain power-on (R405, R410). -/
def rtcPowerOn (s : State) : State :=
  let s := { s with snaps := s.snaps.filter (fun e => !rtcSnap e.1) }
  let s := { s with regs := s.regs.filter (fun e => !(decide (e.1 / 0x400 = Pg.RTC) && decide (0x040 ≤ e.1 % 0x400))) }
  { s with rtc := { RtcState.init with secUs := s.rcUs } }

/-! ### The trim measurement (R412) -/

/-- Is a measurement running? -/
def measRunning (s : State) : Bool := decide (s.get Pg.RTC Reg.RTC.TRIM_MEAS_STATE = 1)

/-- End a measurement with nothing published. -/
def measAbort (s : State) : State :=
  { (s.put Pg.RTC Reg.RTC.TRIM_MEAS_STATE 3) with rtc := { s.rtc with measLost := false } }

/-- An accepted START: the window as written. A holdover that goes on spoils it (R77). -/
def measStart (s : State) : State :=
  { (s.put Pg.RTC Reg.RTC.TRIM_MEAS_STATE 1) with rtc := { s.rtc with measLost := s.flag Pg.CLOCK Reg.CLOCK.STATUS_HOLDOVER, measWindow := s.get Pg.RTC Reg.RTC.TRIM_MEAS_WINDOW } }

/-- The window ends (R412). -/
def measDone (s : State) (count : Nat) : State :=
  let p := Pg.RTC
  let w := s.rtc.measWindow
  let err := if count = 0 then Config.openQuotient s.free
    else truncR ((ratN (w * 200000000) / ratN count - 1) * 1000000000)
  let s := { s with free := s.free + 1 }
  let sug := clampInt (-537) 537 (-(roundDiv (err * 1000) 953674))
  let s := s.put64 p Reg.RTC.MEAS_COUNT_LO Reg.RTC.MEAS_COUNT_HI (count % 2 ^ 64)
  let s := (s.putSat p Reg.RTC.MEAS_ERR err).puti p Reg.RTC.MEAS_SUGGEST_CODE sug
  let s := (s.put p Reg.RTC.TRIM_MEAS_STATE 2).event p 1
  if s.flag p Reg.RTC.TRIM_MEAS_APPLY then
    trimWritten (putLogged s Org.HW p Reg.RTC.TRIM_CODE (unsigned 11 sug)) (s.get p Reg.RTC.TRIM_CODE)
  else s

end Sys2Proof.Machine
end

