-- ==== Sys2Proof/Machine/Timer.lean ====
section
/-! DEFINITION. The timer block: TICK, compares, captures and GPIO (R417 to R421). -/

namespace Sys2Proof.Machine

/-- Is GPIO `k` an output? -/
def gpioOut (s : State) (k : Nat) : Bool := bitOf (s.get Pg.TIMER Reg.TIMER.GPIO_CFG) (4 * k)

/-- INIT of GPIO `k`. -/
def gpioInit (s : State) (k : Nat) : Bool := bitOf (s.get Pg.TIMER Reg.TIMER.GPIO_CFG) (4 * k + 2)

/-- Drive GPIO `k`. -/
def gpioDrive (s : State) (k : Nat) (b : Bool) : State :=
  { s with timer := { s.timer with out := withBits s.timer.out k k (b2n b) } }

/-- The level on the ball of GPIO `k` (R61, R421): the driven level in FULL for an output, else the level from outside. -/
def gpioLevel (s : State) (k : Nat) : Bool :=
  if s.full && gpioOut s k then bitOf s.timer.out k else bitOf s.timer.ext k

/-- Set the compare whose pulse runs on a GPIO. -/
def setPulse (s : State) (k : Nat) (x : Option Nat) : State :=
  { s with timer := { s.timer with pulse := Table.set none s.timer.pulse k x } }

/-- GPIO_CFG written: every output is driven at its INIT level until a compare acts on it (R421). -/
def gpioConfigured (s : State) : State :=
  (List.range 4).foldl (fun s k => if gpioOut s k then gpioDrive (setPulse s k none) k (gpioInit s k) else s) s

/-- The ACTION of compare `k` on its GPIO (R418, R419): an action cancels the end of a pulse that runs. -/
def compareAction (s : State) (k : Nat) : State :=
  let p := Pg.TIMER
  let pin := s.get p (Reg.TIMER.CMP_CTRL_PIN.ix k)
  let a := s.get p (Reg.TIMER.CMP_CTRL_ACTION.ix k)
  if a = 0 ∨ gpioOut s pin = false then s
  else if a = 4 then
    let s := setPulse s pin (some k)
    let e := s.timer.tick + s.get p (Reg.TIMER.CMP_CTRL_WIDTH.ix k)
    gpioDrive { s with timer := { s.timer with pulseEnd := Table.set 0 s.timer.pulseEnd pin e } } pin (!gpioInit s pin)
  else
    gpioDrive (setPulse s pin none) pin (if a = 1 then true else if a = 2 then false else !bitOf s.timer.out pin)

/-- Compare `k` fires (R418). -/
def compareFires (s : State) (k : Nat) : State :=
  let p := Pg.TIMER
  compareAction ((s.putb p (Reg.TIMER.CMP_CTRL_ARMED.ix k) false).event p k) k

/-- The value that compare `k` has armed. -/
def armedValue (s : State) (k : Nat) : Nat := Table.get 0 s.timer.armed k

/-- CMP_HI.k written (R418): with EN = 1 the compare arms CMP_HI:CMP_LO, and fires at once with LATE where the value is
at or below TICK. -/
def compareArmed (s : State) (k : Nat) : State :=
  let p := Pg.TIMER
  if s.flag p (Reg.TIMER.CMP_CTRL_EN.ix k) then
    let v := s.get p (Reg.TIMER.CMP_LO.ix k) + 2 ^ 32 * s.get p (Reg.TIMER.CMP_HI_VALUE.ix k)
    let s := { s with timer := { s.timer with armed := Table.set 0 s.timer.armed k v } }
    let late := decide (v ≤ s.timer.tick)
    let s := (s.putb p (Reg.TIMER.CMP_CTRL_LATE.ix k) late).putb p (Reg.TIMER.CMP_CTRL_ARMED.ix k) true
    if late then compareFires s k else s
  else s

/-- CMP_CTRL.k written: EN = 0 disarms (R418). -/
def compareConfigured (s : State) (k : Nat) : State :=
  if s.flag Pg.TIMER (Reg.TIMER.CMP_CTRL_EN.ix k) then s else s.putb Pg.TIMER (Reg.TIMER.CMP_CTRL_ARMED.ix k) false

/-- TICK has come to `v`, modulo 2^56, if it has not passed it (R417). -/
def tickTo (s : State) (v : Nat) : State :=
  if (v + 2 ^ 56 - s.timer.tick) % 2 ^ 56 < 2 ^ 55 then { s with timer := { s.timer with tick := v % 2 ^ 56 } } else s

/-- The compares up to `k` that fire with it on its pin, in ascending index (R419): armed with its value. -/
def firesWith (s : State) (k : Nat) : List Nat :=
  let p := Pg.TIMER
  (List.range (k + 1)).filter (fun j => s.flag p (Reg.TIMER.CMP_CTRL_ARMED.ix j) && decide (armedValue s j = armedValue s k) &&
    decide (s.get p (Reg.TIMER.CMP_CTRL_PIN.ix j) = s.get p (Reg.TIMER.CMP_CTRL_PIN.ix k)))

/-- TICK reaches the value of compare `k`, which fires after those of a lower index at the same value on its pin (R418, R419). -/
def tickFires (s : State) (k : Nat) : State := (firesWith s k).foldl compareFires (tickTo s (armedValue s k))

/-- The end of the pulse of compare `k` on a GPIO (R418): TICK has advanced by its WIDTH. -/
def pulseEnds (s : State) (k : Nat) : State :=
  (List.range 4).foldl (fun s pin =>
    if Table.get none s.timer.pulse pin = some k then
      let s := tickTo s (Table.get 0 s.timer.pulseEnd pin)
      gpioDrive (setPulse s pin none) pin (gpioInit s pin)
    else s) s

/-- Is an edge on a capture's GPIO source selected (R420)? -/
def edgeSelected (s : State) (k : Nat) (rising : Bool) : Bool :=
  let e := s.get Pg.TIMER (Reg.TIMER.CAP_CTRL_EDGE.ix k)
  s.flag Pg.TIMER (Reg.TIMER.CAP_CTRL_EN.ix k) && decide (s.get Pg.TIMER (Reg.TIMER.CAP_CTRL_SRC.ix k) < 4) &&
    bitOf e (if rising then 0 else 1)

/-- An edge on the source of capture `k`: the level on an input ball changes with it. -/
def edgeLevel (s : State) (k : Nat) (rising : Bool) : State :=
  let pin := s.get Pg.TIMER (Reg.TIMER.CAP_CTRL_SRC.ix k)
  if pin < 4 ∧ gpioOut s pin = false then
    { s with timer := { s.timer with ext := withBits s.timer.ext pin pin (b2n rising) } }
  else s

/-- TICK at a frame boundary: it has advanced by the frame's core cycles (R417). -/
def tickFrame (s : State) (len : Nat) : State :=
  let s := tickTo s (s.timer.base + len)
  { s with timer := { s.timer with base := (s.timer.base + len) % 2 ^ 56 } }

end Sys2Proof.Machine
end

