-- ==== Sys2Proof/Machine/Reactions.lean ====
section
/-! DEFINITION. Clears of fault entries, the FAULT_N input, factory test mode and fault injection (R348, R349, R353 to
R357). -/

namespace Sys2Proof.Machine

/-! ### Clears (R340, R353) -/

/-- Does the condition of the Persists column hold for an entry's address (*Fault kinds*, R340)? -/
def persistsAt (s : State) (page kind a : Nat) : Bool :=
  if kind = Kind.SLICE_FAIL then decide (a % 16 = 2) && (ownerOf s (page - 0x020) (a / 16)).isNone
  else if kind = Kind.LEDGER_IMBALANCE then
    (if a = 0x40 then s.flag Pg.LEDGER Reg.LEDGER.STATUS_CKPT_LATE
     else s.flag Pg.LEDGER (Reg.LEDGER.BAL_STATUS_IMBALANCED.ix (a % 8)))
  else if kind = Kind.ENGINE_STALL then decide (estate s (page - 0x100) = Es.DEAD)
  else if kind = Kind.TOKEN_STARVE then s.flag (Pg.CHAN (a % 32)) Reg.CHAN.STATUS_TOKEN_LIMITED
  else if kind = Kind.RING_BREAK then
    (if a = 3 then s.flag Pg.COMMONS Reg.COMMONS.STATUS_MISMATCH else s.flag Pg.COMMONS Reg.COMMONS.STATUS_FROZEN)
  else if kind = Kind.OT_CELL then
    !s.flag Pg.HKRAIL (Reg.HKRAIL.CELL_T_VALID.ix (page - 0x040)) ||
      decide (s.geti page Reg.CHAN.TGUARD_TEMP < s.geti Pg.HKRAIL (Reg.HKRAIL.CELL_T_TEMP.ix (page - 0x040)))
  else if kind = Kind.PROBE_WEAR then decide (a = 1) && mateAtLimit s (page - 0x040)
  else if kind = Kind.OT_DIE then !dieBelow s 11500
  else if kind = Kind.VIN_UV then decide (pathSource s ≠ Src.VIN)
  else if kind = Kind.PACK_ABSENT then !packPresent s
  else if kind = Kind.PACK_TEMP then decide (s.get Pg.BACKUP (Reg.BACKUP.ZONE_I_CODE.ix (packZone s)) = 0) || packShorted s
  else if kind = Kind.REFCLK_LOSS then
    s.flag Pg.CLOCK Reg.CLOCK.STATUS_HOLDOVER || !s.flag Pg.CLOCK Reg.CLOCK.STATUS_REFCLK_QUAL
  else if kind = Kind.PLL_UNLOCK then s.flag Pg.CLOCK Reg.CLOCK.STATUS_HOLDOVER
  else if kind = Kind.TRANSIT_SKEW then s.flag Pg.TRANSIT Reg.TRANSIT.STATUS_REALIGNING
  else if kind = Kind.OTP_INTEGRITY then true
  else if kind = Kind.BOARD_FAULT_IN then !faultNIn s
  else false

/-- Does an entry persist: one of the addresses it was raised with meets its condition? -/
def entryPersists (s : State) (k : Nat) (v : ActiveEntry) : Bool := v.addrs.any (persistsAt s (k / 256) (k % 256))

/-- Does a value written to CLEAR name the entry of a page and kind? -/
def clearNames (value k : Nat) : Bool :=
  bitOf value 31 || (decide (k / 256 = bitsOf value 27 16) &&
    (decide (bitsOf value 7 0 = 0xFF) || decide (k % 256 = bitsOf value 7 0)))

/-- A clear takes effect (R353): the entries it names go, but for those that persist; one change-log entry unless it names
none. A two-wire clear that an entry withstands sets CMD_REJECT (R481). -/
def clearNow (s : State) (origin value : Nat) : State :=
  let named := s.fault.active.filter (fun e => clearNames value e.1)
  let kept := named.filter (fun e => entryPersists s e.1 e.2)
  if named.isEmpty then s
  else
    let act := s.fault.active.filter (fun e => !clearNames value e.1 || entryPersists s e.1 e.2)
    let s := { s with fault := { s.fault with active := act } }
    let s := if kept.isEmpty then s else s.event Pg.FAULT 5
    let s := if origin = Org.TWOWIRE ∧ kept.isEmpty = false then
      ((s.latch 2).event Pg.TWOWIRE 1).put Pg.TWOWIRE Reg.TWOWIRE.LAST_CMD_RESULT 3 else s
    if kept.length < named.length then logChange s origin Pg.FAULT 0x048 0 value
    else logReject s origin Pg.FAULT 0x048 0 value

/-- A clear is written (R353): it takes effect at the next boundary in FULL, at once elsewhere. -/
def clearWrite (s : State) (origin value : Nat) : State :=
  if s.full then { s with fault := { s.fault with clears := s.fault.clears ++ [(origin, value)] } }
  else clearNow s origin value

/-- The clears that waited for a boundary, in the order written. -/
def clearsDue (s : State) : State :=
  s.fault.clears.foldl (fun s e => clearNow s e.1 e.2) { s with fault := { s.fault with clears := [] } }

/-! ### FAULT_N at the input (R348, R349) -/

/-- FAULT_N has been low for 100 ns from outside (R348): the chip safe state, and BOARD_FAULT_IN in FULL unless this device
was driving it. -/
def peerFault (s : State) : State :=
  let driving := s.flag Pg.FAULT Reg.FAULT.STATUS_FAULT_N_OUT
  let s := publishFaultN { s with fault := { s.fault with peerLow := true } }
  let s := chipSafeWith s 2 5
  if s.full && !driving then raise s Pg.FAULT Kind.BOARD_FAULT_IN 0 else s

/-- May BOARD_FAULT_IN clear itself (R349)? -/
def autoclearDue (s : State) : Bool :=
  s.full && decide (s.getf Pg.FAULT Reg.FAULT.CFG_BOARD_AUTOCLR = 1) && faultNIn s &&
    s.fault.active.any (fun e => decide (e.1 = actKey Pg.FAULT Kind.BOARD_FAULT_IN))

/-- BOARD_FAULT_IN clears itself (R349). -/
def autoclear (s : State) : State :=
  { s with fault := { s.fault with active := Table.erase s.fault.active (actKey Pg.FAULT Kind.BOARD_FAULT_IN) } }

/-! ### Key sequences (R31, R355) -/

/-- The sequence in progress under a key of `State.keys`: a page for LOCK, 0x1006 for TEST_KEY; none once its 64 frames, or
its 3.2 ms on the RC oscillator, have passed. -/
def keySeq (s : State) (k : Nat) : Option KeySeq :=
  let q := Table.get KeySeq.none s.keys k
  if q.kind = 0 then none
  else if (if q.onRc then decide (s.rcUs ≤ q.rcUs + 3200) else decide (s.frame ≤ q.frame + 64)) then some q
  else none

/-- Start a sequence. -/
def keyStart (s : State) (k kind : Nat) : State :=
  { s with keys := Table.set KeySeq.none s.keys k ⟨kind, s.frame, s.rcUs, !s.full⟩ }

/-- End a sequence. -/
def keyDrop (s : State) (k : Nat) : State := { s with keys := Table.erase s.keys k }

/-- The key of the test-mode sequence. -/
abbrev testSeq : Nat := 0x1006

/-! ### Test mode and injection (R355 to R357) -/

/-- A test-mode sequence fails (R355): KEY_FAIL with address 0xFF, the write refused with RIGHT_REJECT. -/
def testFail (s : State) (origin off value : Nat) : State :=
  raise (refuse (keyDrop s testSeq) origin Pg.FAULT off value Ev.RIGHT_REJECT) Pg.CHIP Kind.KEY_FAIL 0xFF

/-- Does every channel of the device have STATE OFF and ENABLE = 0? -/
def channelsIdle (s : State) : Bool :=
  (List.range 32).all (fun c => decide (s.cstate c = Ch.OFF) && !s.flag (Pg.CHAN c) Reg.CHAN.CONTROL_ENABLE)

/-- Does a host write of TEST_KEY start or complete the sequence (R355)? -/
def testKeyOk (s : State) (value : Nat) (pin : Bool) : Bool :=
  match keySeq s testSeq with
  | none => decide (value % 65536 = 0x7E57) && pin
  | some _ => decide (value % 65536 = 0xC0DE) && pin && channelsIdle s

/-- A host write of TEST_KEY (R355) with the TESTMODE ball at `pin`. -/
def testKey (s : State) (value : Nat) (pin : Bool) : State :=
  let s := { s with fault := { s.fault with testPin := pin } }
  if testKeyOk s value pin then
    match keySeq s testSeq with
    | none => keyStart s testSeq 3
    | some _ =>
      let s := (keyDrop s testSeq).putb Pg.FAULT Reg.FAULT.STATUS_TEST_MODE true
      logPersist (s.event Pg.FAULT 7) Org.FACTORY Pg.FAULT 0x0C0 0 value
  else testFail s Org.HOST 0x0C0 value

/-- Does a page raise a kind (*Fault kinds*)? -/
def raisesKind (page kind : Nat) : Bool :=
  match pageKind page with
  | none => false
  | some k =>
    if kind = Kind.OTP_INTEGRITY then decide (k = .otp)
    else if kind = Kind.GRANARY_CRC then decide (k = .granary)
    else if kind = Kind.BOARD_FAULT_IN then decide (k = .fault)
    else if kind = Kind.KEY_FAIL then decide (k = .chip)
    else if 1 ≤ kind ∧ kind ≤ 30 then (slotOf k (kind - 1)).isSome
    else false

/-- Does a page exist on the family member: no instance above the member's count (R1, R19)? -/
def pageOfMember (s : State) (page : Nat) : Bool :=
  let i := pageInstance page
  match pageKind page with
  | none => false
  | some .bank => decide (i < s.bankCount)
  | some .chan | some .result => decide (i < 4 * s.bankCount)
  | some .phase => decide (i < 8 * s.bankCount)
  | some .recipe => decide (i < 16 * s.bankCount)
  | some .eng => s.engPresent i
  | some _ => true

/-- Is a page present and powered (R1, R26, R50)? -/
def pagePresent (s : State) (page : Nat) : Bool :=
  pageOfMember s page && (if pageIsMain page then s.full else s.reducedOrLater)

/-- Is a write of INJECT accepted (R356)? -/
def injectOk (s : State) (value : Nat) : Bool :=
  s.flag Pg.FAULT Reg.FAULT.STATUS_TEST_MODE && bitOf value 0 && decide (bitsOf value 3 1 ≤ 5) &&
    pagePresent s (bitsOf value 31 20) && raisesKind (bitsOf value 31 20) (bitsOf value 19 12)

/-- A write of INJECT (R356). -/
def injectWrite (s : State) (origin value : Nat) : State :=
  if injectOk s value then
    let s := logPersist s Org.FACTORY Pg.FAULT 0x0C4 0 value
    raiseWith (s.bump Pg.FAULT Reg.FAULT.INJECT_COUNT) (bitsOf value 29 20) (bitsOf value 19 12) (bitsOf value 11 4)
      (bitsOf value 3 1) true
  else refuse s origin Pg.FAULT 0x0C4 value Ev.RIGHT_REJECT

/-- The TESTMODE ball has been low for 1 ms (R357). -/
def testExit (s : State) : State := testEnd { s with fault := { s.fault with testPin := false } }

end Sys2Proof.Machine
end

