-- ==== Sys2Proof/Machine/RegRead.lean ====
section
/-! DEFINITION. Reading a register (R4, R25, R26, R34, R499): the value it shows, the registers it latches for the reading
origin, and what a read changes. -/

namespace Sys2Proof.Machine

/-- The code of an origin (R34). -/
def originCode : Origin → Nat
  | .host => Org.HOST
  | .twowire => Org.TWOWIRE
  | .engine n => Org.ENG n
  | .factory => Org.FACTORY

/-! ### Registers whose value is formed as they are read -/

/-- Is an operation of several frames started on this page in progress (R29)? The operations that count are the commands of
the page whose work lasts past a boundary (DESIGN CHOICE, log entry 69). -/
def pageBusy (s : State) (page : Nat) : Bool :=
  match pageKind page with
  | some .chan => decide (s.get page Reg.CHAN.RCP_STATUS_RSTATE = 1) || s.flag page Reg.CHAN.MATE_STATUS_PENDING
  | some .engctl => (List.range 12).any (fun e => (s.eng e).restarting)
  | some .backup => decide (s.backup.tries ≠ 0)
  | some .hkseq => decide (hkState s = Hq.UP ∨ hkState s = Hq.DOWN)
  | some .commons => commitOpen s 0x03 || !s.keeper.issueDue.isEmpty
  | some .estim => (List.range 4).any (fun t => commitOpen s (0x11 + t))
  | some .otp => s.otpOp.isSome
  | some .rtc => measRunning s
  | some .granary => decide (s.get page Reg.GRANARY.CUST_STATUS_RESULT = 3)
  | some .ledger => s.flag page Reg.LEDGER.STATUS_CKPT_BUSY
  | _ => false

/-- Does an uncleared entry stand for a page? -/
def pageFaulty (s : State) (page : Nat) : Bool := s.fault.active.any (fun e => decide (e.1 / 256 = page))

/-- PAGE_STATUS (R29); a page's function is available while the page can be read. -/
def pageStatus (s : State) (page : Nat) : Nat :=
  b2n (pageBusy s page) * 8 + b2n (decide (s.get page Reg.HEADER.LOCK_STATE ≠ 0)) * 4 + b2n (pageFaulty s page) * 2 + 1

/-- Pages with a pending enabled event, ascending (R458); main pages only in FULL (R26). -/
def irqPages (s : State) : List Nat :=
  (s.regs.filter (fun e => decide (e.1 % 0x400 = 0x008) && pagePresent s (e.1 / 0x400) &&
    decide (pageKind (e.1 / 0x400) ≠ some .recipe) &&
    decide (e.2.toNat &&& (s.rd (e.1 + 4)).toNat ≠ 0))).map (fun e => e.1 / 0x400)

/-- Does the device hold IRQ_N low (R458)? -/
def irqLow (s : State) : Bool := s.flag Pg.HOST Reg.HOST.CFG_IRQ_EN && !(irqPages s).isEmpty

/-- FOUND and PAGE of a search upward from a page. -/
def foundWord (l : List Nat) (start : Nat) (shift : Nat) : Nat :=
  match l.find? (fun p => decide (start ≤ p)) with
  | some p => 2 ^ 31 + p * 2 ^ shift
  | none => 0

/-- The highest active severity, of one page or of the device (R353). -/
def highestSev (s : State) (page : Option Nat) : Nat :=
  (s.fault.active.filter (fun e => match page with
    | some p => decide (e.1 / 256 = p)
    | none => true)).foldl (fun a e => max a e.2.sev) 0

/-- The page that ACT_NEXT finds. -/
def actPage (s : State) : Option Nat :=
  (s.fault.active.find? (fun e => decide (s.get Pg.FAULT Reg.FAULT.ACT_INDEX_PAGE ≤ e.1 / 256))).map (fun e => e.1 / 256)

/-- ACT_SLOTS of a page. -/
def actSlots (s : State) (page : Nat) : Nat :=
  s.fault.active.foldl (fun a e =>
    if e.1 / 256 = page then (if e.1 % 256 ≤ 30 then a + 2 ^ (e.1 % 256 - 1) else withBits a 30 30 1) else a) 0

/-- The two-wire status word (R473). -/
def statusWord (s : State) : Nat :=
  s.service * 2 ^ 13 + b2n s.svc.selftestFail * 2 ^ 12 + b2n (s.flag Pg.FAULT Reg.FAULT.STATUS_FAULT_N_OUT) * 2 ^ 11 +
  b2n (faultNIn s) * 2 ^ 10 + highestSev s none * 2 ^ 7 + b2n (s.flag Pg.FAULT Reg.FAULT.STATUS_CHIP_SAFE) * 2 ^ 6 +
  b2n (s.flag Pg.CHIP Reg.CHIP.STATUS_HK_UP) * 2 ^ 5 + b2n (decide (pathSource s ≠ Src.VIN)) * 2 ^ 4 +
  s.get Pg.TWOWIRE Reg.TWOWIRE.STATUS_LATCHED

/-- CHAN:STATUS with ROLE, and a follower's STATE and MODE from its lead (R163, R164). -/
def chanStatus (s : State) (c : Nat) : Nat :=
  let w := (s.rd (addrOf (Pg.CHAN c) Reg.CHAN.STATUS)).toNat
  let w := withBits w 10 9 (if s.follower c then 2 else if s.gangSize c = 1 then 0 else 1)
  if s.follower c then withBits (withBits w 2 0 (s.cstate c)) 7 4 (s.cmode c) else w

/-- GRANARY registers formed from its pages. -/
def granaryWord (s : State) (off : Nat) : Nat :=
  let w := (s.rd (Pg.GRANARY * 0x400 + off)).toNat
  let listed := s.gran.pages.map (fun e => e.2.count)
  if off = 0x040 then
    let e := erasedPages s
    withBits (withBits (withBits w 31 16 e) 3 3 (b2n (decide (9 ≤ e)))) 2 2
      (b2n (s.gran.busy.isSome || !s.gran.erase.isEmpty))
  else if off = 0x044 then listed.foldl max 0
  else if off = 0x048 then (if s.gran.pages.length < 1024 then 0 else listed.foldl min (2 ^ 32 - 1))
  else if off = 0x05C then (match s.gran.logs.head? with
    | some x => x.seq
    | none => 0)
  else if off = 0x060 then (match s.gran.logs.getLast? with
    | some x => x.seq
    | none => 0)
  else if 0x200 ≤ off then natOfLE (((windowBytes s).drop (off - 0x200)).take 4)
  else w

/-- FAULT registers formed from the collector. -/
def faultWord (s : State) (off : Nat) : Nat :=
  let w := (s.rd (Pg.FAULT * 0x400 + off)).toNat
  if off = 0x044 then withBits w 18 16 (highestSev s none)
  else if off = 0x050 then (match actPage s with
    | some p => 2 ^ 31 + p * 2 ^ 16 + highestSev s (some p)
    | none => 0)
  else if off = 0x054 then (match actPage s with
    | some p => actSlots s p
    | none => 0)
  else if off = 0x058 then s.fault.active.length % 65536
  else if off = 0x060 then s.fault.fifo.length
  else if off = 0x064 then (match s.fault.fifo.head? with
    | some m => m.1
    | none => 0)
  else if 0x200 ≤ off then
    let b := faultRecordBytes s (s.flag Pg.FAULT Reg.FAULT.REC_CTRL_SLOT)
    natOfLE ((b.drop (512 * s.get Pg.FAULT Reg.FAULT.REC_CTRL_HALF + (off - 0x200))).take 4)
  else w

/-- A word of the change-log ring slot at RD_INDEX. -/
def entryWord (s : State) (i : Nat) : Nat :=
  let e := Table.get LogEntry.empty s.log.ring (s.get Pg.CHANGELOG Reg.CHANGELOG.RD_INDEX)
  if i = 0 then e.w0 else if i = 1 then e.w1 else if i = 2 then e.w2 else if i = 3 then e.w3 else if i = 4 then e.w4 else e.w5

/-- The even phase whose pair fields an odd phase shows (R128): the word of the odd phase with them replaced. -/
def phaseWord (s : State) (p off : Nat) : Nat :=
  let w := (s.rd (Pg.PHASE p * 0x400 + off)).toNat
  if p % 2 = 0 then w
  else
    let e := (s.rd (Pg.PHASE (p - 1) * 0x400 + off)).toNat
    if off = 0x040 then withBits w 1 1 (bitsOf e 1 1)
    else if off = 0x05C ∨ off = 0x060 then e
    else w

/-- The value that a register shows now, before any latch. -/
def liveWord (s : State) (addr : Nat) : Nat :=
  let page := addr / 0x400
  let off := addr % 0x400
  let w := (s.rd addr).toNat
  match pageKind page with
  | none => 0
  | some .recipe => w
  | some k =>
    if off = 0x004 then pageStatus s page
    else match k with
    | .transit =>
      if off = 0x060 then s.frame % 2 ^ 32
      else if off = 0x064 then s.frame / 2 ^ 32
      else w
    | .host =>
      if off = 0x06C then foundWord (irqPages s) (s.get Pg.HOST Reg.HOST.IRQ_INDEX_PAGE) 0
      else if off = 0x070 then (irqPages s).length
      else w
    | .twowire => if off = 0x04C then statusWord s else w
    | .fault => faultWord s off
    | .changelog =>
      if off = 0x04C then s.log.fill
      else if 0x064 ≤ off ∧ off ≤ 0x078 then entryWord s ((off - 0x064) / 4)
      else w
    | .rtc => if off = 0x04C then subsec s else w
    | .timer =>
      if off = 0x040 then s.timer.tick % 2 ^ 32
      else if off = 0x044 then s.timer.tick / 2 ^ 32
      else if off = 0x04C then sumNat ((List.range 4).map (fun k => b2n (gpioLevel s k) * 2 ^ k))
      else w
    | .otp =>
      if off = 0x040 then s.svc.regions
      else if off = 0x058 then otpShown s (s.get Pg.OTP Reg.OTP.READ_ADDR_ADDR)
      else w
    | .granary => granaryWord s off
    | .commons =>
      if off = 0x04C then withBits w 3 3 (b2n (isKeeper s))
      else if 0x100 ≤ off ∧ !isKeeper s then 0
      else w
    | .ledger =>
      if 0x100 ≤ off ∧ off < 0x300 ∧ (off % 0x40 = 0x18 ∨ off % 0x40 = 0x1C) then
        busERead s ((off - 0x100) / 0x40) (decide (off % 0x40 = 0x1C))
      else w
    | .chan =>
      if off = 0x084 then chanStatus s (page - 0x040)
      else if 0x100 ≤ off ∧ off ≤ 0x150 then accRead s (page - 0x040) off
      else w
    | .phase => phaseWord s (page - 0x080) off
    | _ => w

/-! ### Latches (R499) -/

/-- Is a register read through what another register's read has latched? -/
def latched (k : PageKind) (off : Nat) : Bool :=
  match k with
  | .transit => decide (off = 0x064)
  | .changelog => decide (0x068 ≤ off ∧ off ≤ 0x078)
  | .rtc => decide (off = 0x04C ∨ off = 0x050 ∨ off = 0x054 ∨ off = 0x070)
  | .timer => decide (off = 0x044 ∨ (0x100 ≤ off ∧ off < 0x140 ∧ off % 0x10 = 4))
  | .ledger => decide (off = 0x054 ∨ off = 0x05C ∨ off = 0x064 ∨ off = 0x07C ∨ off = 0x08C ∨
      (0x100 ≤ off ∧ off < 0x300 ∧ off % 0x40 = 0x1C))
  | .bank => decide ((0x080 ≤ off ∧ off < 0x180 ∧ 0x10 ≤ off % 0x40 ∧ off % 0x40 ≤ 0x3C) ∨ (0x190 ≤ off ∧ off ≤ 0x1A4))
  | .chan => decide ((0x104 ≤ off ∧ off ≤ 0x150) ∨ (0x244 ≤ off ∧ off ≤ 0x264))
  | .result => decide (0x044 ≤ off ∧ off ≤ 0x1F0)
  | _ => false

/-- `n` consecutive word offsets. -/
def offsFrom (off n : Nat) : List Nat := (List.range n).map (fun i => off + 4 * i)

/-- The offsets that a read of a register latches for the reading origin. -/
def latches (k : PageKind) (off : Nat) : List Nat :=
  match k with
  | .transit => if off = 0x060 then [0x064] else []
  | .changelog => if off = 0x064 then offsFrom 0x068 5 else []
  | .rtc => if off = 0x048 then [0x04C, 0x050, 0x054] else if off = 0x06C then [0x070] else []
  | .timer => if off = 0x040 then [0x044] else if 0x100 ≤ off ∧ off < 0x140 ∧ off % 0x10 = 0 then [off + 4] else []
  | .ledger =>
    if off = 0x050 ∨ off = 0x058 ∨ off = 0x060 ∨ off = 0x078 ∨ off = 0x088 ∨
      (0x100 ≤ off ∧ off < 0x300 ∧ off % 0x40 = 0x18) then [off + 4] else []
  | .bank =>
    if 0x080 ≤ off ∧ off < 0x180 ∧ off % 0x40 = 0x0C then offsFrom (off + 4) 12
    else if off = 0x18C then offsFrom 0x190 6
    else []
  | .chan => if off = 0x100 then offsFrom 0x104 20 else if off = 0x240 then offsFrom 0x244 9 else []
  | .result => if off = 0x040 then offsFrom 0x044 108 else []
  | _ => []

/-- The key of a latched read. -/
def snapKey (o addr : Nat) : Nat := o * 2 ^ 24 + addr

/-- Latch a list of offsets of a page for an origin. -/
def latchOffs (s : State) (o page : Nat) (l : List Nat) : State :=
  l.foldl (fun s off => { s with snaps := Table.set 0 s.snaps (snapKey o (page * 0x400 + off)) (liveWord s (page * 0x400 + off)) }) s

/-! ### Reading -/

/-- Does an address hold a register that can be reached now (R25, R26)? -/
def reachable (s : State) (addr : Nat) : Bool :=
  decide (addr % 4 = 0) && decide (addr < 2 ^ 24) && pagePresent s (addr / 0x400) &&
    !(fieldsAt (addr / 0x400) (addr % 0x400)).isEmpty

/-- The RC fields of a register cleared by a read (R4): a volatile change. -/
def clearRc (s : State) (addr : Nat) : State :=
  let fs := (fieldsAt (addr / 0x400) (addr % 0x400)).filter (fun f => decide (f.acc = .rc))
  if fs.isEmpty then s
  else s.wr addr (BitVec.ofNat 32 (fs.foldl (fun w f => withBits w f.hi f.lo 0) (s.rd addr).toNat))

/-- The oldest message leaves the queue with the read of FIFO_MSG, which latches its stamps (R339). -/
def fifoTake (s : State) : State :=
  match s.fault.fifo with
  | [] => s
  | m :: l =>
    ({ s with fault := { s.fault with fifo := l } }.put Pg.FAULT Reg.FAULT.FIFO_FRAME m.2.1).put Pg.FAULT
      Reg.FAULT.FIFO_SEC m.2.2

/-- What a read of a reachable register does beside answering. -/
def readEffect (s : State) (o addr : Nat) : State :=
  let page := addr / 0x400
  let off := addr % 0x400
  match pageKind page with
  | none => s
  | some k =>
    let s := latchOffs s o page (latches k off)
    if k = .fault ∧ off = 0x064 then fifoTake s
    else if k = .stream ∧ 0x100 ≤ off ∧ off < 0x110 then
      (if o = Org.HOST then (fetchStream s ((off - 0x100) / 4)).2 else s)
    else if k = .timer ∧ 0x100 ≤ off ∧ off < 0x140 ∧ off % 0x10 = 0 then
      s.putb Pg.TIMER (Reg.TIMER.CAP_CTRL_FULL.ix ((off - 0x100) / 0x10)) false
    else clearRc s addr

/-- The value that a read of a reachable register answers for an origin. -/
def readValue (s : State) (o addr : Nat) : Nat :=
  let page := addr / 0x400
  let off := addr % 0x400
  match pageKind page with
  | none => 0
  | some k =>
    if latched k off then Table.get 0 s.snaps (snapKey o addr)
    else if k = .stream ∧ 0x100 ≤ off ∧ off < 0x110 then
      (if o = Org.HOST then (fetchStream s ((off - 0x100) / 4)).1 else 0)
    else liveWord s addr

/-- A read by an origin: the word answered, 0 where nothing can be reached, and the state after it (R25, R26, R34). -/
def readWord (s : State) (o addr : Nat) : Nat × State :=
  if reachable s addr then (readValue s o addr, readEffect s o addr) else (0, s)

/-- A read outside a host frame: the word is what the device last sent. -/
def readReply (s : State) (o addr : Nat) : State :=
  let r := readWord s o addr
  { r.2 with reply := ⟨none, [r.1], 0, false, []⟩ }

end Sys2Proof.Machine
end

