-- ==== Sys2Proof/Machine/WriteBase.lean ====
section
/-! DEFINITION. The parts of a register write that every page shares (R4, R26, R30 to R37, R497): a write as it meets a
register, the write rights by origin, the lock, the stated ranges, and the change-log entry. -/

namespace Sys2Proof.Machine

/-- A write as its page's rules see it: the origin's code, the page and its kind, the offset, the register's stored word
before, the word it would store, the value's bits in WO fields, and the value itself. -/
structure Wr where
  o : Nat
  page : Nat
  kind : PageKind
  off : Nat
  old : Nat
  new : Nat
  wo : Nat
  v : Nat
  deriving DecidableEq, Repr

/-- What became of a write: applied; nothing to change; RO; nothing there (R26); refused for lack of right, by the lock, or
by a range or state rule of its page. -/
inductive WRes where
  | ok | same | ro | unavail | right | lock | range
  deriving DecidableEq, Repr

/-- Did a write set REJECT (R454)? -/
def WRes.refused (r : WRes) : Bool :=
  match r with
  | .right | .lock | .range => true
  | _ => false

/-- A page's verdict on a write: take it, ignore it (no effect and no entry), or refuse it with EVENT bits. -/
inductive Chk where
  | take
  | ignore
  | refuse (evs : List Nat)
  deriving DecidableEq, Repr

/-- Is the write to this register? -/
def Wr.is (w : Wr) (f : Fld) : Bool := decide (w.off = f.off)

/-- Is the write to one of the first `n` registers of an array? -/
def Wr.within (w : Wr) (f : Fld) (n : Nat) : Bool :=
  decide (f.off ≤ w.off) && decide ((w.off - f.off) % f.stride = 0) && decide ((w.off - f.off) / f.stride < n)

/-- The index of the register in its array. -/
def Wr.ix (w : Wr) (f : Fld) : Nat := (w.off - f.off) / f.stride

/-- A field of the new word. -/
def Wr.now (w : Wr) (f : Fld) : Nat := bitsOf w.new f.hi f.lo

/-- A field of the word before. -/
def Wr.was (w : Wr) (f : Fld) : Nat := bitsOf w.old f.hi f.lo

/-- A WO field of the value. -/
def Wr.cmd (w : Wr) (f : Fld) : Nat := bitsOf w.wo f.hi f.lo

/-- Does the write change a field? -/
def Wr.changes (w : Wr) (f : Fld) : Bool := decide (w.now f ≠ w.was f)

/-! ### Severity maps -/

/-- The severities of a new SEVERITY_MAP word (R341): 6 and 7, and a value below the kind's lowest, are refused for a slot
that the page raises. -/
def severityOk (k : PageKind) (n new : Nat) : Bool :=
  (List.range 10).all (fun j => match slotOf k (10 * n + j) with
    | none => true
    | some d => decide (d.2 ≤ bitsOf new (3 * j + 2) (3 * j) ∧ bitsOf new (3 * j + 2) (3 * j) ≤ 5))

/-! ### Words -/

/-- The value's bits that lie in WO fields. -/
def woBits (fs : List FieldDef) (v : Nat) : Nat :=
  fs.foldl (fun a f => if f.acc = .wo then a + bitsOf v f.hi f.lo * 2 ^ f.lo else a) 0

/-- Is a register read-only for writes: every field RO or RC, VSET of the fixed rails HK2 and HK4 (R374), or the pair registers of
an odd phase (R128)? -/
def readOnly (k : PageKind) (page off : Nat) (fs : List FieldDef) : Bool :=
  fs.all (fun f => decide (f.acc = .ro ∨ f.acc = .rc)) || (decide (k = .hkrail) && decide (off = 0x064 ∨ off = 0x0A4)) ||
    (decide (k = .phase) && decide (page % 2 = 1) && decide (off = 0x05C ∨ off = 0x060))

/-! ### Rights (R34) -/

/-- The rights of a recipe engine of bank `b`. -/
def bankRight (b page : Nat) : Bool :=
  decide (page = Pg.BANK b) || decide (Pg.CHAN (4 * b) ≤ page ∧ page < Pg.CHAN (4 * b + 4)) ||
    decide (Pg.PHASE (8 * b) ≤ page ∧ page < Pg.PHASE (8 * b + 8)) || decide (page = Pg.ENG b) ||
    decide (Pg.RECIPE (16 * b) ≤ page ∧ page < Pg.RECIPE (16 * b + 16))

/-- *Write rights by origin*: may an origin write a page? -/
def mayWrite (s : State) (o page : Nat) : Bool :=
  if o = Org.HOST ∨ o = Org.FACTORY then true
  else if 0x10 ≤ o ∧ o < 0x18 then bankRight (o - 0x10) page
  else if o = 0x18 ∨ o = 0x19 then
    decide (page = Pg.ESTIM) || decide (page = Pg.ENG (o - 0x10)) ||
      (decide (Pg.RESULT 0 ≤ page ∧ page < Pg.RESULT 32) && decide (estimatorOf ((page - 0x300) / 4) = o - 0x10)) ||
      (decide (carried s (o - 0x10) < 8) && bankRight (carried s (o - 0x10)) page) ||
      ((s.eng (o - 0x10)).ranBank.map (fun b => bankRight b page)).getD false
  else if o = 0x1A then
    decide (page = Pg.HKSEQ ∨ page = Pg.HKRAIL ∨ page = Pg.BACKUP ∨ page = Pg.GAUGE ∨ page = Pg.ENG 10)
  else if o = 0x1B then decide (page = Pg.ENGCTL) || decide (Pg.ENG 0 ≤ page ∧ page ≤ Pg.ENG 11)
  else false

/-! ### Locks and ranges (R30 to R32) -/

/-- LOCK.STATE of a page. -/
def lockState (s : State) (page : Nat) : Nat := s.get page Reg.HEADER.LOCK_STATE

/-- Factory fields (R32): every function register of the OTP page, and offsets 0x300 to 0x3FC of BANK pages. -/
def factoryField (k : PageKind) (off : Nat) : Bool :=
  (decide (k = .otp) && decide (0x040 ≤ off)) || (decide (k = .bank) && decide (0x300 ≤ off))

/-- Does a write change an RWL field? -/
def changesRwl (fs : List FieldDef) (w : Wr) : Bool :=
  fs.any (fun f => decide (f.acc = .rwl) && decide (bitsOf w.new f.hi f.lo ≠ bitsOf w.old f.hi f.lo))

/-- Does the lock refuse a write (R32, R34)? -/
def lockRefuses (s : State) (fs : List FieldDef) (w : Wr) : Bool :=
  if factoryField w.kind w.off then (changesRwl fs w || decide (w.wo ≠ 0)) && decide (lockState s w.page ≠ 3)
  else decide (w.o ≠ Org.FACTORY) && changesRwl fs w && decide (lockState s w.page ≠ 0)

/-- Does every field of the new word lie in its stated range? -/
def rangesOk (fs : List FieldDef) (new : Nat) : Bool :=
  fs.all (fun f => match f.rng with
    | none => true
    | some r => !(decide (f.acc = .rw ∨ f.acc = .rwl)) || decide (r.1 ≤ bitsOf new f.hi f.lo ∧ bitsOf new f.hi f.lo ≤ r.2))

/-- The RANGE_REJECT bit of a page's EVENT (each page's list of events); the FAULT page's for pages that have none. -/
def rangeBit (k : PageKind) : Nat :=
  match k with
  | .clock => 2
  | .transit => 3
  | .host => 3
  | .stream => 5
  | .twowire => 4
  | .fault => 9
  | .changelog => 3
  | .rtc => 3
  | .timer => 16
  | .otp => 2
  | .granary => 4
  | .hkseq => 5
  | .hkrail => 3
  | .backup => 7
  | .gauge => 5
  | .commons => 7
  | .ledger => 5
  | .estim => 0
  | .engctl => 5
  | .bank => 6
  | .chan => 8
  | .phase => 5
  | _ => 25

/-- Refused with the page's RANGE_REJECT. -/
def Wr.outOfRange (w : Wr) : Chk := .refuse [rangeBit w.kind]

/-- Taken where a condition holds, else refused with RANGE_REJECT. -/
def Wr.need (w : Wr) (b : Bool) : Chk := if b then .take else w.outOfRange

/-- Refused with RIGHT_REJECT. -/
def noRight : Chk := .refuse [Ev.RIGHT_REJECT]

/-! ### Refusals and entries (R34, R37, R41, R497) -/

/-- A refused write: its EVENT bits and one entry with REJECTED, OLD the value read before and NEW the value attempted. -/
def refuseAll (s : State) (w : Wr) (evs : List Nat) : State :=
  let old := liveWord s (w.page * 0x400 + w.off)
  logReject (evs.foldl (fun s e => s.event w.page e) s) w.o w.page w.off old w.v

/-- What a refusal's events say. -/
def resOf (evs : List Nat) : WRes :=
  if evs.contains Ev.RIGHT_REJECT then .right else if evs.contains Ev.LOCK_REJECT then .lock else .range

/-- Does an accepted write make an entry (R37, R497): a C-class field changed, an S-class field changed by the host or the
two-wire bus, or a C-class WO field written? -/
def makesEntry (fs : List FieldDef) (w : Wr) : Bool :=
  fs.any (fun f =>
    if f.acc = .wo then decide (f.cls = .c) && decide (bitsOf w.wo f.hi f.lo ≠ 0)
    else decide (bitsOf w.new f.hi f.lo ≠ bitsOf w.old f.hi f.lo) &&
      (decide (f.cls = .c) || (decide (f.cls = .s) && decide (w.o ≤ Org.TWOWIRE))))

/-- Are all fields of a register WO? -/
def allWo (fs : List FieldDef) : Bool := fs.all (fun f => decide (f.acc = .wo))

/-- Writes whose entry carries PERSIST whatever PERSIST_ORIGIN holds (R170, R334, R402). -/
def persistWrite (w : Wr) : Bool :=
  (decide (w.kind = .chan) && w.is Reg.CHAN.CELL_CMD && decide (w.cmd Reg.CHAN.CELL_CMD_MATE_RESET = 1)) ||
    (decide (w.kind = .commons) && w.is Reg.COMMONS.REISSUE) || (decide (w.kind = .gauge) && w.is Reg.GAUGE.CMD)

/-- The entry of an accepted write and CHANGE_SEQ: OLD 0 and NEW the value where every field is WO, else the values read
before and after. -/
def entryOf (s : State) (fs : List FieldDef) (w : Wr) (before : Nat) : State :=
  if makesEntry fs w then
    let log := if persistWrite w then logPersist else logChange
    if allWo fs then log s w.o w.page w.off 0 w.v
    else log s w.o w.page w.off before (liveWord s (w.page * 0x400 + w.off))
  else s

end Sys2Proof.Machine
end

