-- ==== Sys2Proof/Machine/WriteRules.lean ====
section
/-! DEFINITION. What each page says of a write beyond rights, locks and stated field ranges: the state and value rules of
its chapter, as a verdict on the write. -/

namespace Sys2Proof.Machine

/-! ### Safety-domain and board pages -/

/-- CHIP (R46, R70, R72): a WARM outside MAIN_START, JOINING and FULL has no effect and is logged as a rejected write; a CMD
without effect and a GO while one is pending change nothing. -/
def ruleChip (s : State) (w : Wr) : Chk :=
  if w.is Reg.CHIP.RESET_CMD then
    (if w.o ≠ Org.HOST ∨ w.cmd Reg.CHIP.RESET_CMD_KEY ≠ 0x5E7A then noRight
     else if w.cmd Reg.CHIP.RESET_CMD_CMD = 2 then .take
     else if w.cmd Reg.CHIP.RESET_CMD_CMD = 1 then
       (if s.service = Svc.MAIN_START ∨ s.service = Svc.JOINING ∨ s.full then .take else .refuse [])
     else .ignore)
  else if w.is Reg.CHIP.CONTROL then (if s.flag Pg.CHIP Reg.CHIP.STATUS_GO_PENDING then .ignore else .take)
  else .take

/-- CLOCK (R74). -/
def ruleClock (s : State) (w : Wr) : Chk :=
  if w.is Reg.CLOCK.REFCLK_CFG then w.need (s.inService Svc.REDUCED) else .take

/-- Twice the extreme periods of spread spectrum in thousandths of a core cycle, DIV × (1 ± DEPTH / 2), lie within 200 to
1,000 cycles (R97, R98). -/
def sscOk (div depth : Nat) : Bool :=
  decide (depth = 0) || (decide (400000 ≤ div * (2000 - depth)) && decide (div * (2000 + depth) ≤ 2000000))

/-- The range of SSC_CFG (R98). -/
def transitRange (s : State) (w : Wr) : Bool :=
  !w.is Reg.TRANSIT.SSC_CFG || sscOk (s.get Pg.TRANSIT Reg.TRANSIT.PWM_CFG_DIV) (w.now Reg.TRANSIT.SSC_CFG_DEPTH)

/-- TRANSIT (R82, R94, R98). A DIV write is not checked against DEPTH (DESIGN CHOICE, log entry 94). -/
def ruleTransit (s : State) (w : Wr) : Chk :=
  if w.is Reg.TRANSIT.CTRL then w.need (!w.changes Reg.TRANSIT.CTRL_PERIOD || s.allOff)
  else if w.is Reg.TRANSIT.PWM_CFG then w.need s.allOff
  else w.need (transitRange s w)

/-- TWOWIRE (R482). -/
def ruleTwowire (s : State) (w : Wr) : Chk :=
  if w.is Reg.TWOWIRE.TIMING_0 then
    w.need (decide (w.now Reg.TWOWIRE.TIMING_0_HOLD + 8 ≤ s.get Pg.TWOWIRE Reg.TWOWIRE.TIMING_1_LOW))
  else if w.is Reg.TWOWIRE.TIMING_1 then
    w.need (decide (s.get Pg.TWOWIRE Reg.TWOWIRE.TIMING_0_HOLD + 8 ≤ w.now Reg.TWOWIRE.TIMING_1_LOW))
  else .take

/-- The ranges of CTRL, BUF_CFG and the marks against each other (R464, R467). -/
def streamRange (s : State) (w : Wr) : Bool :=
  let size := fun (k : Nat) => bitsOf (s.get Pg.STREAM Reg.STREAM.BUF_CFG) (8 * k + 4) (8 * k)
  if w.is Reg.STREAM.CTRL then (List.range 4).all (fun k => !bitOf w.new k || decide (0 < size k))
  else if w.is Reg.STREAM.BUF_CFG then
    decide (sumNat ((List.range 4).map (fun k => bitsOf w.new (8 * k + 4) (8 * k))) ≤ 16) &&
      (List.range 4).all (fun k =>
        let n := bitsOf w.new (8 * k + 4) (8 * k)
        decide (n = 0) || decide (s.get Pg.STREAM (Reg.STREAM.MARKS_HIGH.ix k) ≤ n * 16))
  else if w.within Reg.STREAM.MARKS 4 then
    decide (w.now Reg.STREAM.MARKS_LOW < w.now Reg.STREAM.MARKS_HIGH) &&
      decide (w.now Reg.STREAM.MARKS_HIGH ≤ size (w.ix Reg.STREAM.MARKS) * 16)
  else true

/-- STREAM (R464, R467). -/
def ruleStream (s : State) (w : Wr) : Chk :=
  if w.within Reg.STREAM.RETIRE 4 then w.need (retireStream s (w.ix Reg.STREAM.RETIRE) w.wo).isSome
  else
    let idle := decide (s.get Pg.STREAM Reg.STREAM.CTRL_EN = 0)
    w.need (streamRange s w && (idle || !(w.is Reg.STREAM.BUF_CFG || w.is Reg.STREAM.ROUTE)))

/-- CHANGELOG (R498): a TAIL write that does not move it is ignored. -/
def ruleChangelog (s : State) (w : Wr) : Chk :=
  if w.is Reg.CHANGELOG.TAIL then
    let v := w.now Reg.CHANGELOG.TAIL_TAIL
    let t := s.get Pg.CHANGELOG Reg.CHANGELOG.TAIL_TAIL
    let d := (v + 1024 - t) % 1024
    if s.flag Pg.CHANGELOG Reg.CHANGELOG.CTRL_MIRROR then .ignore
    else if v = s.get Pg.CHANGELOG Reg.CHANGELOG.HEAD_HEAD then .take
    else if 1 ≤ d ∧ d < s.log.fill then .take
    else .ignore
  else .take

/-- RTC (R409, R411, R412). -/
def ruleRtc (s : State) (w : Wr) : Chk :=
  if w.is Reg.RTC.TIME_SEC || w.is Reg.RTC.CAL_TIME || w.is Reg.RTC.CAL_DATE then
    (if !rtcHalted s then .refuse [] else w.need (rtcWriteSecond s w.off w.new).isSome)
  else if w.is Reg.RTC.TRIM then
    w.need (decide (absI (signed 11 (w.now Reg.RTC.TRIM_CODE)) ≤ 537))
  else if w.is Reg.RTC.TRIM_MEAS then
    w.need (decide (w.cmd Reg.RTC.TRIM_MEAS_START = 0) || (s.full && !measRunning s))
  else .take

/-! ### Housekeeping -/

/-- HKSEQ (R378). -/
def ruleHkseq (s : State) (w : Wr) : Chk :=
  if w.is Reg.HKSEQ.CMD then
    let op := w.cmd Reg.HKSEQ.CMD_OP
    if 1 < w.o then noRight
    else if w.cmd Reg.HKSEQ.CMD_KEY ≠ 0x5EC0 then w.outOfRange
    else w.need (hkCommand s op w.o).isSome
  else .take

/-- The default current limits of HK1 to HK4 in 10 mA (*Housekeeping rails*, R379). -/
def ilimMax (r : Nat) : Nat := nth 0 [360, 240, 300, 75] r

/-- HKRAIL (R372, R375, R379). -/
def ruleHkrail (s : State) (w : Wr) : Chk :=
  if w.within Reg.HKRAIL.CTRL 4 then
    w.need (!w.changes Reg.HKRAIL.CTRL_EN ||
      enAllowed s (w.ix Reg.HKRAIL.CTRL) (decide (w.now Reg.HKRAIL.CTRL_EN = 1)))
  else if w.within Reg.HKRAIL.VSET 4 then
    let v := w.now Reg.HKRAIL.VSET_VOLTAGE
    if w.ix Reg.HKRAIL.VSET = 0 then w.need (decide (4500 ≤ v ∧ v ≤ 5500))
    else if s.flag Pg.FAULT Reg.FAULT.STATUS_TEST_MODE then w.need (decide (600 ≤ v ∧ v ≤ 1200))
    else w.need (decide (800 ≤ v ∧ v ≤ 900))
  else if w.within Reg.HKRAIL.LIMIT 4 then
    w.need (decide (10 ≤ w.now Reg.HKRAIL.LIMIT_ILIM ∧ w.now Reg.HKRAIL.LIMIT_ILIM ≤ ilimMax (w.ix Reg.HKRAIL.LIMIT)))
  else .take

/-- T_HI of charge zones 0 to 3 with one zone's replaced. -/
def zonesWith (s : State) (z new : Nat) : List Int :=
  (List.range 4).map (fun k =>
    if k = z then signed 16 (bitsOf new 31 16) else s.geti Pg.BACKUP (Reg.BACKUP.ZONE_T_HI.ix k))

/-- Strictly increasing. -/
def rising : List Int → Bool
  | [] => true
  | [_] => true
  | a :: b :: l => decide (a < b) && rising (b :: l)

/-- BACKUP (R396, R404). -/
def ruleBackup (s : State) (w : Wr) : Chk :=
  if w.is Reg.BACKUP.VIN_TH then
    w.need (decide (w.now Reg.BACKUP.VIN_TH_VIN_UV + 500 ≤ w.now Reg.BACKUP.VIN_TH_VIN_OK ∧
      w.now Reg.BACKUP.VIN_TH_VIN_OK ≤ 39000))
  else if w.is Reg.BACKUP.CHG_CFG then
    w.need (!w.changes Reg.BACKUP.CHG_CFG_CELLS || !packPresent s ||
      decide (chgState s ≠ Chg.CC ∧ chgState s ≠ Chg.CV))
  else if w.within Reg.BACKUP.ZONE 5 then
    w.need (decide (w.ix Reg.BACKUP.ZONE = 4) || rising (zonesWith s (w.ix Reg.BACKUP.ZONE) w.new))
  else if w.is Reg.BACKUP.AUTH_CMD then
    (if w.wo = 0 then .ignore
     else if packPresent s && !s.flag Pg.BACKUP Reg.BACKUP.AUTH_CFG_EN then .ignore
     else w.need (packPresent s))
  else .take

/-- The gauge's OCV points with one replaced. -/
def gaugeOcvWith (s : State) (p new : Nat) : List Int :=
  (List.range 11).map (fun k => if k = p then ((new % 65536 : Nat) : Int) else (s.get Pg.GAUGE (Reg.GAUGE.OCV_VOLTAGE.ix k) : Int))

/-- GAUGE (R402, R404). -/
def ruleGauge (s : State) (w : Wr) : Chk :=
  if w.is Reg.GAUGE.CMD then
    (if w.o ≠ Org.HOST then noRight
     else if w.cmd Reg.GAUGE.CMD_RELEARN = 0 then .ignore
     else w.need (decide (w.cmd Reg.GAUGE.CMD_KEY = 0x6A55)))
  else if w.within Reg.GAUGE.OCV 11 then w.need (rising (gaugeOcvWith s (w.ix Reg.GAUGE.OCV) w.new))
  else .take

/-- ENGCTL (R19, R283, R289): an engine that the member does not have is out of range. -/
def ruleEngctl (s : State) (w : Wr) : Chk :=
  if w.is Reg.ENGCTL.CMD then
    let e := w.cmd Reg.ENGCTL.CMD_ENGINE
    let op := w.cmd Reg.ENGCTL.CMD_OP
    if w.o ≠ Org.HOST then noRight
    else if w.cmd Reg.ENGCTL.CMD_KEY ≠ 0x6B1D then w.outOfRange
    else if op = 1 ∨ op = 2 then w.need (decide (e ≤ 9) && s.engPresent e)
    else .ignore
  else .take

/-! ### OTP, the Granary, the Commons and the ledger -/

/-- OTP (R429 to R432): PROG_CMD only from the host port or factory test. -/
def ruleOtp (s : State) (w : Wr) : Chk :=
  if w.is Reg.OTP.PROG_CMD then
    (if w.o ≠ Org.HOST ∧ w.o ≠ Org.FACTORY then noRight
     else if w.cmd Reg.OTP.PROG_CMD_OP = 0 then .ignore
     else w.need (otpRefusal s w.v).isNone)
  else .take

/-- GRANARY (R446). -/
def ruleGranary (s : State) (w : Wr) : Chk :=
  if w.is Reg.GRANARY.CUST_CMD then
    let n := w.cmd Reg.GRANARY.CUST_CMD_LENGTH
    if w.cmd Reg.GRANARY.CUST_CMD_COMMIT = 0 then .ignore
    else w.need (decide (1 ≤ n ∧ n ≤ 500) && decide (s.get Pg.GRANARY Reg.GRANARY.CUST_STATUS_RESULT ≠ 3))
  else if 0x3F4 ≤ w.off then .ignore
  else .take

/-- Is the write one to the keeper's registers of a device that is not the keeper, which is refused whatever the register
(R336)? -/
def keeperOnly (s : State) (w : Wr) : Bool :=
  decide (w.kind = .commons) && decide (0x100 ≤ w.off ∧ w.off ≤ 0x1FC) && !isKeeper s

/-- COMMONS (R334, R336). -/
def ruleCommons (s : State) (w : Wr) : Chk :=
  if keeperOnly s w then noRight
  else if w.is Reg.COMMONS.REISSUE then
    let off := w.cmd Reg.COMMONS.REISSUE_WRITE_OFF
    w.need (decide (w.o = Org.HOST) && decide (w.cmd Reg.COMMONS.REISSUE_KEY = 0x7C1E) &&
      decide (w.cmd Reg.COMMONS.REISSUE_GO = 1) &&
      decide (off &&& s.get Pg.COMMONS Reg.COMMONS.PRESENT_PRESENT = 0) && decide (0 ≤ reserveAfter s (s.get Pg.COMMONS Reg.COMMONS.NEW_TOTAL) off))
  else .take

/-- Point `i` of OCV table slot `t` + 1 as its registers hold it. -/
def ocvStaged (s : State) (t i : Nat) : Nat := s.get Pg.ESTIM ⟨0x184 + 0x60 * t + 4 * i, 18, 0, 0⟩

/-- The field ranges of ESTIM (R309, R312). -/
def estimRange (s : State) (w : Wr) : Bool :=
  let p := Pg.ESTIM
  if w.is Reg.ESTIM.CAP_LIMITS then decide (w.now Reg.ESTIM.CAP_LIMITS_V_LO < w.now Reg.ESTIM.CAP_LIMITS_V_HI)
  else if w.is Reg.ESTIM.DCIR_CFG then
    let di := signed 16 (w.now Reg.ESTIM.DCIR_CFG_DELTA_I)
    decide (-6000 ≤ di ∧ di ≤ 6000 ∧ di ≠ 0) &&
      decide (2 ^ s.get p Reg.ESTIM.DCIR_D_1_BEXP ≤ w.now Reg.ESTIM.DCIR_CFG_START)
  else if w.is Reg.ESTIM.DCIR_D_0 then
    let d1 := w.now Reg.ESTIM.DCIR_D_0_D1
    let d2 := w.now Reg.ESTIM.DCIR_D_0_D2
    let d3 := s.get p Reg.ESTIM.DCIR_D_1_D3
    decide (d2 = 0 ∨ d1 < d2) && decide (d3 = 0 ∨ (d2 ≠ 0 ∧ d2 < d3))
  else if w.is Reg.ESTIM.DCIR_D_1 then
    let d2 := s.get p Reg.ESTIM.DCIR_D_0_D2
    let d3 := w.now Reg.ESTIM.DCIR_D_1_D3
    decide (d3 = 0 ∨ (d2 ≠ 0 ∧ d2 < d3)) &&
      decide (2 ^ w.now Reg.ESTIM.DCIR_D_1_BEXP ≤ s.get p Reg.ESTIM.DCIR_CFG_START)
  else if w.within Reg.ESTIM.TONE 32 then
    let a := w.now Reg.ESTIM.TONE_AMP
    let t := w.now Reg.ESTIM.TONE_PERIOD
    decide (a = 0 ∨ (5 ≤ a ∧ a ≤ 50)) && decide (t = 0 ∨ (5 ≤ t ∧ t ≤ 400000))
  else true

/-- ESTIM (R295, R296, R309, R312). -/
def ruleEstim (s : State) (w : Wr) : Chk :=
  let inUse := fun (k : Nat) => s.flag Pg.ESTIM (Reg.ESTIM.SET_CFG_IN_USE.ix k)
  if w.within Reg.ESTIM.SET_CFG 4 then w.need (!inUse (w.ix Reg.ESTIM.SET_CFG))
  else if w.within Reg.ESTIM.TONE 32 then w.need (!inUse (w.ix Reg.ESTIM.TONE / 8) && estimRange s w)
  else if w.within Reg.ESTIM.OCV_HDR 4 then
    let t := w.ix Reg.ESTIM.OCV_HDR
    w.need (decide (w.wo = 0) || (decide (w.o = Org.HOST) &&
      rising ((List.range 21).map (fun i => ((ocvStaged s t i : Nat) : Int)))))
  else w.need (estimRange s w)

/-! ### Phases and channels -/

/-- The range of the fast limits under IMON_CFG.GAIN (R107). -/
def phaseRange (s : State) (w : Wr) : Bool :=
  let lim := fun (pos neg gain : Nat) => decide (max pos neg * gain ≤ 4000000)
  if w.is Reg.PHASE.IMON_CFG then
    lim (s.get w.page Reg.PHASE.FAST_LIM_POS) (s.get w.page Reg.PHASE.FAST_LIM_NEG) (w.now Reg.PHASE.IMON_CFG_GAIN)
  else if w.is Reg.PHASE.FAST_LIM then
    lim (w.now Reg.PHASE.FAST_LIM_POS) (w.now Reg.PHASE.FAST_LIM_NEG) (s.get w.page Reg.PHASE.IMON_CFG_GAIN)
  else true

/-- PHASE (R107, R129). -/
def rulePhase (s : State) (w : Wr) : Chk :=
  let closed := w.is Reg.PHASE.CTRL || w.is Reg.PHASE.STAGE || w.is Reg.PHASE.TIMING || w.is Reg.PHASE.ISO_CFG ||
    w.is Reg.PHASE.IMON_CFG
  w.need (phaseRange s w && (!closed || s.modeOff ((w.page - 0x080) / 2)))

/-- GANG.SIZE of a channel as last written. -/
def sizeReg (s : State) (c : Nat) : Nat := s.get (Pg.CHAN c) Reg.CHAN.GANG_SIZE

/-- The lead of a channel under the GANG registers as last written. -/
def leadReg (s : State) (c : Nat) : Nat :=
  if sizeReg s (c / 4 * 4) = 2 then c / 4 * 4 else if sizeReg s (c / 2 * 2) = 1 then c / 2 * 2 else c

/-- The channels of a gang by SIZE code. -/
def gangLen (size : Nat) : Nat := if size = 2 then 4 else if size = 1 then 2 else 1

/-- The gang size of a channel under the GANG registers as last written. -/
def sizeNow (s : State) (c : Nat) : Nat := gangLen (sizeReg s (leadReg s c))

/-- Do a channel's ISET, PSET and IGUARD fit a gang of `n` (R164)? -/
def fitsGang (s : State) (c n : Nat) : Bool :=
  let p := Pg.CHAN c
  decide (absI (s.geti p Reg.CHAN.ISET) ≤ 6000000 * n) && decide (absI (s.geti p Reg.CHAN.PSET) ≤ 300000 * n) &&
    decide (s.get p Reg.CHAN.IGUARD_CURRENT ≤ 6300 * n)

/-- A GANG write (R12, R163). -/
def gangOk (s : State) (c size : Nat) : Bool :=
  let old := (List.range (sizeNow s c)).map (fun k => leadReg s c + k)
  let new := (List.range (gangLen size)).map (fun k => c + k)
  let inner := if size = 2 then (List.range 4).map (fun k => c + k) else []
  decide (leadReg s c = c) && decide (c % 4 = 0 ∨ (c % 4 = 2 ∧ size ≤ 1)) && decide (size ≤ 2) &&
    (old ++ new ++ inner).all (fun m => s.modeOff m) &&
    new.all (fun m => fitsGang s m (gangLen size)) &&
    (old.filter (fun m => !new.contains m)).all (fun m => fitsGang s m 1)

/-- The EVENT bits of the rules that refuse a CONTROL write (R55, R123, R137, R159, R160, R164, R259, R268, R476). -/
def controlRefusals (s : State) (w : Wr) : List Nat :=
  let c := w.page - 0x040
  let ho := decide (w.o ≤ Org.TWOWIRE)
  let resume := decide (w.cmd Reg.CHAN.CONTROL_RESUME = 1)
  let enUp := decide (w.now Reg.CHAN.CONTROL_ENABLE = 1) && decide (w.was Reg.CHAN.CONTROL_ENABLE = 0)
  let src := decide (w.now Reg.CHAN.CONTROL_SOURCE = 1) || decide (w.was Reg.CHAN.CONTROL_SOURCE = 1)
  let runs := decide (w.now Reg.CHAN.CONTROL_ENABLE = 1) && decide (w.now Reg.CHAN.CONTROL_MODE ≠ 0)
  let ran := decide (w.was Reg.CHAN.CONTROL_ENABLE = 1) && decide (w.was Reg.CHAN.CONTROL_MODE ≠ 0)
  let intr := decide (s.get w.page Reg.CHAN.STATUS_LAST_END = 2)
  let right :=
    (s.follower c && (w.changes Reg.CHAN.CONTROL_MODE || w.changes Reg.CHAN.CONTROL_SOURCE ||
      w.changes Reg.CHAN.CONTROL_ENABLE || resume)) ||
    (ho && src && w.changes Reg.CHAN.CONTROL_MODE) ||
    (resume && !ho) ||
    ((enUp || resume) && decide (s.cstate c = Ch.SAFE)) ||
    ((decide (w.now Reg.CHAN.CONTROL_ENABLE = 1) || resume) && estop s) ||
    (((runs && !ran) || resume) && s.modeOff c && startBarred s c)
  let range :=
    (ho && src && enUp) ||
    (w.changes Reg.CHAN.CONTROL_SOURCE && !s.modeOff c) ||
    (resume && (!intr || !resumeMatches s c))
  (if right then [Ev.RIGHT_REJECT] else []) ++ (if range then [rangeBit .chan] else [])

/-- The setpoint registers that R137 closes to the host port and the two-wire bus while SOURCE = 1. -/
def engineRegs : List Nat := [0x044, 0x048, 0x04C, 0x050, 0x054, 0x058, 0x068, 0x06C, 0x070, 0x07C]

/-- The setpoint registers of a follower, which refuse writes (R164). -/
def setpointRegs : List Nat := [0x044, 0x048, 0x04C, 0x050, 0x054, 0x058, 0x05C, 0x060, 0x064, 0x068, 0x06C, 0x070, 0x07C]

/-- The CHAN registers accepted only while the channel is in mode OFF (R172, R133, R167): ZV_CFG, CONTACT_CFG, CELL_ID,
MATE_LIMIT. -/
def offRegs : List Nat := [0x074, 0x078, 0x0A0, 0x0A4, 0x0A8, 0x0AC, 0x0B8]

/-- A setpoint's own range (R163, R164). -/
def setpointOk (s : State) (w : Wr) : Bool :=
  let n := sizeNow s (w.page - 0x040)
  if w.is Reg.CHAN.ISET then decide (absI (signed 32 w.new) ≤ 6000000 * n)
  else if w.is Reg.CHAN.PSET then decide (absI (signed 32 w.new) ≤ 300000 * n)
  else if w.is Reg.CHAN.IGUARD then
    decide (1 ≤ w.now Reg.CHAN.IGUARD_CURRENT ∧ w.now Reg.CHAN.IGUARD_CURRENT ≤ 6300 * n)
  else if w.is Reg.CHAN.VGUARD then decide (w.now Reg.CHAN.VGUARD_LO ≤ w.now Reg.CHAN.VGUARD_HI)
  else true

/-- CELL_CMD (R167, R170). -/
def ruleCellCmd (s : State) (w : Wr) : Chk :=
  let c := w.page - 0x040
  let reset := decide (w.cmd Reg.CHAN.CELL_CMD_MATE_RESET = 1)
  let commit := decide (w.cmd Reg.CHAN.CELL_CMD_COMMIT = 1)
  if !reset && !commit then .ignore
  else w.need (s.modeOff c && (!reset || decide (w.o = Org.HOST ∧ w.cmd Reg.CHAN.CELL_CMD_KEY = 0x3C5A)) && (!commit || !s.follower c))

/-- RCP_CMD (R251, R252, R260, R476). -/
def ruleRcpCmd (s : State) (w : Wr) : Chk :=
  let c := w.page - 0x040
  let rs := rstate s c
  let start := decide (w.cmd Reg.CHAN.RCP_CMD_START = 1)
  let cont := decide (w.cmd Reg.CHAN.RCP_CMD_CONTINUE = 1)
  let jump := decide (w.cmd Reg.CHAN.RCP_CMD_JUMP = 1)
  if !start && !cont && !jump then .ignore
  else if decide (w.o ≠ Org.HOST) || s.follower c || (start && (estop s || startBarred s c)) then noRight
  else w.need ((!start || (s.modeOff c && s.flag w.page Reg.CHAN.CONTROL_SOURCE &&
        decide (rs = Rs.IDLE ∨ rs = Rs.ENDED ∨ rs = Rs.REJECTED ∨ rs = Rs.INTERRUPTED))) &&
      (!cont || decide (rs = Rs.HELD)) &&
      (!jump || (decide (rs = Rs.RUNNING ∨ rs = Rs.PAUSED ∨ rs = Rs.HELD) &&
        decide (w.cmd Reg.CHAN.RCP_CMD_JUMP_STEP < s.get w.page Reg.CHAN.RCP_CFG_LEN))))

/-- The field ranges of CHAN (R163, R164, R167, R251). -/
def chanRange (s : State) (w : Wr) : Bool :=
  if w.is Reg.CHAN.GANG then gangOk s (w.page - 0x040) (w.now Reg.CHAN.GANG_SIZE)
  else if w.is Reg.CHAN.MATE_LIMIT then decide (w.now Reg.CHAN.MATE_LIMIT_WARN ≤ w.now Reg.CHAN.MATE_LIMIT_LIMIT)
  else if w.is Reg.CHAN.RCP_CFG then decide (w.now Reg.CHAN.RCP_CFG_ENTRY < w.now Reg.CHAN.RCP_CFG_LEN)
  else setpointOk s w

/-- Does a value lie within the field ranges that a main-domain page states beside each field's own (R427)? -/
def pageRange (s : State) (w : Wr) : Bool :=
  match w.kind with
  | .transit => transitRange s w
  | .stream => streamRange s w
  | .estim => estimRange s w
  | .phase => phaseRange s w
  | .chan => chanRange s w
  | _ => true

/-- CHAN (R133, R137, R163, R164, R167, R170, R172, R214). -/
def ruleChan (s : State) (w : Wr) : Chk :=
  let c := w.page - 0x040
  let src := s.flag w.page Reg.CHAN.CONTROL_SOURCE
  if w.is Reg.CHAN.CONTROL then
    (let evs := controlRefusals s w
     if evs.isEmpty then .take else .refuse evs)
  else if setpointRegs.contains w.off then
    (let bad := s.follower c || (decide (w.o ≤ Org.TWOWIRE) && src && engineRegs.contains w.off)
     let evs := (if bad then [Ev.RIGHT_REJECT] else []) ++ (if setpointOk s w then [] else [rangeBit .chan])
     if evs.isEmpty then .take else .refuse evs)
  else if w.is Reg.CHAN.GANG then w.need (chanRange s w)
  else if offRegs.contains w.off then w.need (s.modeOff c && chanRange s w)
  else if w.is Reg.CHAN.CELL_CMD then ruleCellCmd s w
  else if w.is Reg.CHAN.ACC_CMD then
    (if w.wo = 0 then .ignore
     else if w.o = Org.HOST ∨ w.o = Org.ENG (bankEngine s (c / 4)) then .take else noRight)
  else if w.is Reg.CHAN.RCP_CFG || w.is Reg.CHAN.DERIV_CFG then
    (if s.follower c then noRight
     else w.need (s.modeOff c && decide (rstate s c ≠ Rs.VALIDATING ∧ rstate s c ≠ Rs.WAITING) && chanRange s w))
  else if w.is Reg.CHAN.RCP_CMD then ruleRcpCmd s w
  else .take

/-! ### All -/

/-- The verdict of the page that owns the register. -/
def rulePage (s : State) (w : Wr) : Chk :=
  if 0x014 ≤ w.off ∧ w.off ≤ 0x01C then
    (if severityOk w.kind ((w.off - 0x014) / 4) w.new then .take else .refuse [])
  else match w.kind with
    | .chip => ruleChip s w
    | .clock => ruleClock s w
    | .transit => ruleTransit s w
    | .twowire => ruleTwowire s w
    | .stream => ruleStream s w
    | .changelog => ruleChangelog s w
    | .rtc => ruleRtc s w
    | .hkseq => ruleHkseq s w
    | .hkrail => ruleHkrail s w
    | .backup => ruleBackup s w
    | .gauge => ruleGauge s w
    | .engctl => ruleEngctl s w
    | .otp => ruleOtp s w
    | .granary => ruleGranary s w
    | .commons => ruleCommons s w
    | .estim => ruleEstim s w
    | .phase => rulePhase s w
    | .chan => ruleChan s w
    | _ => .take

/-- What a refusal leaves beside its events and entry: MAP_REJECT of the FAULT page (R341), WRITE_REJECTED (R409), the
RESULT of PROG_CMD (R429), RESUME_MISMATCH (R268), and the end of a trim measurement by a new START (R412). -/
def refusalEffect (s : State) (w : Wr) : State :=
  if 0x014 ≤ w.off ∧ w.off ≤ 0x01C then (if severityOk w.kind ((w.off - 0x014) / 4) w.new then s else s.event Pg.FAULT 6)
  else match w.kind with
    | .rtc =>
      if (w.is Reg.RTC.TIME_SEC || w.is Reg.RTC.CAL_TIME || w.is Reg.RTC.CAL_DATE) && !rtcHalted s then
        s.putb Pg.RTC Reg.RTC.STATUS_WRITE_REJECTED true
      else if w.is Reg.RTC.TRIM_MEAS && decide (w.cmd Reg.RTC.TRIM_MEAS_START = 1) && measRunning s then measAbort s
      else s
    | .otp =>
      if w.is Reg.OTP.PROG_CMD then
        (match otpRefusal s w.v with
          | some r => otpResult s r
          | none => s)
      else s
    | .chan =>
      if w.is Reg.CHAN.CONTROL && decide (w.cmd Reg.CHAN.CONTROL_RESUME = 1) &&
          decide (s.get w.page Reg.CHAN.STATUS_LAST_END = 2) && !resumeMatches s (w.page - 0x040) then
        s.putb w.page Reg.CHAN.RCP_STATUS_RESUME_MISMATCH true
      else s
    | _ => s

end Sys2Proof.Machine
end

