-- ==== Sys2Proof/Machine/WriteActs.lean ====
section
/-! DEFINITION. What an accepted register write does beyond storing its word: the effect its page's chapter gives it. -/

namespace Sys2Proof.Machine

/-! ### Words in force (R92, R207, R341, R358, R378) -/

/-- Registers whose word the block goes on using until the boundary that follows an accepted write: severity maps, FAULT:CFG,
FAST_LIM, SLOW_LIM and BAL_CFG, TGUARD and GANG, TRANSIT:CTRL and SSC_CFG, RP_CFG, ENGCTL:CFG. -/
def takesBoundary (k : PageKind) (off : Nat) : Bool :=
  decide (0x014 ≤ off ∧ off ≤ 0x01C) ||
    (match k with
      | .fault => decide (off = 0x040)
      | .phase => decide (off = 0x054 ∨ off = 0x058 ∨ off = 0x05C ∨ off = 0x060)
      | .chan => decide (off = 0x064 ∨ off = 0x080)
      | .transit => decide (off = 0x040 ∨ off = 0x084)
      | .bank => decide (off = 0x074)
      | .stream => decide (off = 0x04C ∨ off = 0x050 ∨ (0x080 ≤ off ∧ off < 0x100 ∧ off % 0x20 = 0))
      | .engctl => decide (off = 0x040)
      | .commons => decide (off = 0x040 ∨ off = 0x044 ∨ off = 0x048 ∨ off = 0x114 ∨ (0x140 ≤ off ∧ off < 0x160))
      | .ledger => decide (off = 0x040 ∨ (0x100 ≤ off ∧ off < 0x300 ∧ off % 0x40 < 0x14))
      | _ => false)

/-- HKSEQ registers that take effect at the next common start (R378). -/
def takesCommonStart (k : PageKind) (off : Nat) : Bool :=
  decide (k = .hkseq) && decide (off = 0x040 ∨ (0x050 ≤ off ∧ off ≤ 0x05C) ∨ off = 0x060 ∨ off = 0x064)

/-- Store the new word; a register that takes effect later keeps its word in force. A word of the Granary window goes to the
staging buffer (R446). -/
def storeWord (s : State) (w : Wr) : State :=
  let a := w.page * 0x400 + w.off
  if w.kind = .granary ∧ 0x200 ≤ w.off then
    { s with gran := { s.gran with stage := Table.set 0 s.gran.stage ((w.off - 0x200) / 4) w.new } }
  else
    let s := if ((takesBoundary w.kind w.off && s.full) || takesCommonStart w.kind w.off) && !s.held.any (fun e => decide (e.1 = a)) then
      { s with held := Table.insert s.held a (s.rd a) } else s
    s.wr a (BitVec.ofNat 32 w.new)

/-! ### CHIP, CHANGELOG, STREAM -/

/-- A cold command (R67): in FULL the frame is closed with its measured length, the chip safe state is reached, and the
COLD_CMD checkpoint is committed through the emergency path; elsewhere no checkpoint is made. -/
def coldCommand (s : State) (f : FrameIn) (len : Nat) : State :=
  if s.full then
    let s := chipSafeWith s 2 6
    let n := s.frame
    let s := closeFrame s f len
    let s := abandonCommit (closePending s n)
    let s := commitNow s 0x01 (.ckpt (makeCkpt s 4 s.frame))
    { s with svc := { s.svc with coldPend := true }, backup := { s.backup with closed := true } }
  else
    let s := readBalls s f
    { s with svc := { s.svc with coldPend := true } }

/-- The core cycles of the frame in progress so far. -/
def frameSoFar (s : State) : Nat := (s.timer.tick + 2 ^ 56 - s.timer.base) % 2 ^ 56

/-- CHIP: RESET_CMD and GO (R62, R67, R70). -/
def actChip (s : State) (w : Wr) : State :=
  if w.is Reg.CHIP.RESET_CMD then
    (if w.cmd Reg.CHIP.RESET_CMD_CMD = 1 then warmTrigger s 3 else coldCommand s FrameIn.quiet (frameSoFar s))
  else if w.is Reg.CHIP.CONTROL then s.putb Pg.CHIP Reg.CHIP.STATUS_GO_PENDING true
  else s

/-- CHANGELOG: a TAIL that moved leaves the entries up to HEAD (R498). -/
def actChangelog (s : State) (w : Wr) : State :=
  if w.is Reg.CHANGELOG.TAIL then
    { s with log := { s.log with
      fill := (s.get Pg.CHANGELOG Reg.CHANGELOG.HEAD_HEAD + 1024 - s.get Pg.CHANGELOG Reg.CHANGELOG.TAIL_TAIL) % 1024 } }
  else s

/-- STREAM: enables and disables (R466), retirement (R464). -/
def actStream (s : State) (w : Wr) : State :=
  if w.is Reg.STREAM.CTRL then
    (List.range 4).foldl (fun s k =>
      if bitOf w.new k && !bitOf w.old k then { s with stream := { s.stream with starts := s.stream.starts ++ [k] } }
      else if bitOf w.old k && !bitOf w.new k then stopStream s k
      else s) s
  else if w.within Reg.STREAM.RETIRE 4 then
    (match retireStream s (w.ix Reg.STREAM.RETIRE) w.wo with
      | some s => s
      | none => s)
  else s

/-! ### RTC and TIMER -/

/-- RTC: time writes and HALT (R409), the alarm (R413, R414), WAKE_OUT (R415), the trim measurement (R412). -/
def actRtc (s : State) (w : Wr) : State :=
  let p := Pg.RTC
  if w.is Reg.RTC.CTRL then
    haltWritten s (decide (w.was Reg.RTC.CTRL_HALT = 1)) (decide (w.now Reg.RTC.CTRL_HALT = 1))
  else if w.is Reg.RTC.TRIM then trimWritten s (w.was Reg.RTC.TRIM_CODE)
  else if w.is Reg.RTC.TIME_SEC || w.is Reg.RTC.CAL_TIME || w.is Reg.RTC.CAL_DATE then
    (match rtcWriteSecond s w.off w.new with
      | some t =>
        let s := setTime s t
        alarmCheck (latchOffs { s with rtc := { s.rtc with written := true } } w.o p (latches .rtc 0x048))
      | none => s)
  else if w.is Reg.RTC.ALARM_CTRL then alarmCheck s
  else if w.is Reg.RTC.WAKE_CFG then
    (if w.cmd Reg.RTC.WAKE_CFG_RELEASE = 1 then s.putb p Reg.RTC.WAKE_CFG_STATE false
     else if w.now Reg.RTC.WAKE_CFG_FORCE = 1 then wakeAssert s else s)
  else if w.is Reg.RTC.TRIM_MEAS then
    (if w.cmd Reg.RTC.TRIM_MEAS_START = 1 then measStart s else s)
  else if w.is Reg.RTC.TRICKLE then refreshTrickle s
  else s

/-- TIMER: arming and disarming (R418), outputs (R421). -/
def actTimer (s : State) (w : Wr) : State :=
  if w.is Reg.TIMER.GPIO_CFG then gpioConfigured s
  else if w.within Reg.TIMER.CMP_HI 8 then compareArmed s (w.ix Reg.TIMER.CMP_HI)
  else if w.within Reg.TIMER.CMP_CTRL 8 then compareConfigured s (w.ix Reg.TIMER.CMP_CTRL)
  else s

/-! ### Housekeeping -/

/-- HKSEQ: a command (R378). -/
def actHkseq (s : State) (w : Wr) : State :=
  if w.is Reg.HKSEQ.CMD then
    (match hkCommand s (w.cmd Reg.HKSEQ.CMD_OP) w.o with
      | some s => s
      | none => s)
  else s

/-- HKRAIL: EN of one rail (R372). -/
def actHkrail (s : State) (w : Wr) : State :=
  if w.within Reg.HKRAIL.CTRL 4 && w.changes Reg.HKRAIL.CTRL_EN then
    enEffect s (w.ix Reg.HKRAIL.CTRL) (decide (w.now Reg.HKRAIL.CTRL_EN = 1))
  else if w.within Reg.HKRAIL.CTRL 4 && !railOn s (w.ix Reg.HKRAIL.CTRL) then refreshDischarge s (w.ix Reg.HKRAIL.CTRL)
  else s

/-- BACKUP: the charger looks at its settings again (R391 to R393); authentication (R396). -/
def actBackup (s : State) (w : Wr) : State :=
  if w.is Reg.BACKUP.AUTH_CMD then authBegin s
  else if w.is (Reg.BACKUP.ZONE_V.ix (packZone s)) then revoltage s (packCells s * w.was Reg.BACKUP.ZONE_V_V_CELL)
  else if w.is Reg.BACKUP.CHG_CFG then
    (if w.now Reg.BACKUP.CHG_CFG_EN = 1 ∧ w.was Reg.BACKUP.CHG_CFG_EN = 0 then
       refreshCharge { s with backup := { s.backup with expired := false } }
     else refreshCharge s)
  else if w.is Reg.BACKUP.AUTH_CFG || w.within Reg.BACKUP.ZONE 5 then refreshCharge s
  else s

/-- ENGCTL: STOP and RESTART (R282, R283). -/
def actEngctl (s : State) (w : Wr) : State :=
  let e := w.cmd Reg.ENGCTL.CMD_ENGINE
  if w.is Reg.ENGCTL.CMD then
    (if w.cmd Reg.ENGCTL.CMD_OP ≠ 1 then restartEngine s e
     else if engRuns s e then s.setEng e { s.eng e with stopReq := true }
     else s)
  else s

/-! ### OTP, the Granary, the Commons, the ledger, ESTIM -/

/-- OTP: an operation begins (R430 to R432). -/
def actOtp (s : State) (w : Wr) : State := if w.is Reg.OTP.PROG_CMD then otpStart s w.v else s

/-- GRANARY: a customer commit (R446). -/
def actGranary (s : State) (w : Wr) : State :=
  if w.is Reg.GRANARY.CUST_CMD then
    requestCommit (s.put Pg.GRANARY Reg.GRANARY.CUST_STATUS_RESULT 3) (0x20 + w.cmd Reg.GRANARY.CUST_CMD_RECORD)
      (.bytes (stagedBytes s (w.cmd Reg.GRANARY.CUST_CMD_LENGTH)))
  else s

/-- COMMONS: a reissue begins with its commit: new total, ISSUE + 1, old total, written-off devices (R334). It follows the
reissues that were accepted before it and do not yet apply. -/
def actCommons (s : State) (w : Wr) : State :=
  if w.is Reg.COMMONS.REISSUE then
    let before := reissuesOpen s
    requestCommit s 0x03 (.words [s.get Pg.COMMONS Reg.COMMONS.NEW_TOTAL, s.get Pg.COMMONS Reg.COMMONS.ISSUE + before.length + 1,
      ((before.getLast?).map (·.1)).getD (s.get Pg.COMMONS Reg.COMMONS.TOTAL), w.cmd Reg.COMMONS.REISSUE_WRITE_OFF])
  else s

/-- A bank's balance window restarts at the next boundary (R230). -/
def restartAt (s : State) (b : Nat) (set : Bool) : State :=
  s.setBankAcc b { s.bankAcc b with restart := true, enSet := set || (s.bankAcc b).enSet }

/-- LEDGER: CKPT_NOW and SNAP (R220, R232), BUS_CLR and the settings that restart a window (R230). -/
def actLedger (s : State) (w : Wr) : State :=
  let b := (w.off - 0x100) / 0x40
  if w.is Reg.LEDGER.CMD then
    let s := if w.cmd Reg.LEDGER.CMD_CKPT_NOW = 1 then noteReason s 3 else s
    if w.cmd Reg.LEDGER.CMD_SNAP = 1 then { s with ledger := { s.ledger with snapPending := true } } else s
  else if w.within Reg.LEDGER.BANK_CMD 8 then
    (if w.wo = 0 then s else s.setBankAcc b { s.bankAcc b with busClr := true })
  else if 0x100 ≤ w.off ∧ w.off < 0x300 then
    restartAt s b (decide (w.off % 0x40 = 0x0C) && bitOf w.new 31 && !bitOf w.old 31)
  else s

/-- ESTIM: tone sets (R295), OCV tables (R309). -/
def actEstim (s : State) (w : Wr) : State :=
  let p := Pg.ESTIM
  if w.within Reg.ESTIM.SET_CFG 4 then
    let t := w.ix Reg.ESTIM.SET_CFG
    if w.wo = 0 then s.putb p (Reg.ESTIM.SET_CFG_VALID.ix t) false else checkSet s t
  else if w.within Reg.ESTIM.TONE 32 then s.putb p (Reg.ESTIM.SET_CFG_VALID.ix (w.ix Reg.ESTIM.TONE / 8)) false
  else if w.within Reg.ESTIM.OCV_HDR 4 && decide (w.wo ≠ 0) then
    let t := w.ix Reg.ESTIM.OCV_HDR
    requestCommit s (0x11 + t) (.words (w.now Reg.ESTIM.OCV_HDR_TYPE_TAG :: (List.range 21).map (ocvStaged s t)))
  else s

/-! ### Banks and channels -/

/-- Averagers of one configuration register: (index, enable bit, exponent field). -/
def restartChanged (s : State) (w : Wr) (l : List (Nat × Nat × Nat)) : State :=
  l.foldl (fun (s : State) (e : Nat × Nat × Nat) =>
    if (bitOf w.new e.2.1 && !bitOf w.old e.2.1) ||
        decide (bitsOf w.new (e.2.2 + 3) e.2.2 ≠ bitsOf w.old (e.2.2 + 3) e.2.2) then
      avgRestart s (w.page - 0x020) e.1 else s) s

/-- Trackers to be emptied at the next boundary (R199). -/
def clearAt (s : State) (b t : Nat) : State :=
  let bs := s.bank b
  s.setBank b { bs with clears := if bs.clears.contains t then bs.clears else bs.clears ++ [t] }

/-- BANK: a rotation start (R184), averagers (R197), trackers (R199), RETIRE_CLR (R192). A SEED acts at the next boundary
(R203, R207). -/
def actBank (s : State) (w : Wr) : State :=
  let b := w.page - 0x020
  if w.is Reg.BANK.CAL_CFG then
    (if w.now Reg.BANK.CAL_CFG_EN = 1 ∧ w.was Reg.BANK.CAL_CFG_EN = 0 then s.setBank b { s.bank b with startPending := true } else s)
  else if w.within Reg.BANK.CFG 4 then
    let k := w.ix Reg.BANK.CFG
    restartChanged s w [(3 * k, 16, 0), (3 * k + 1, 17, 4), (3 * k + 2, 18, 8)]
  else if w.is Reg.BANK.BUS_CFG then restartChanged s w [(12, 16, 0), (13, 17, 4)]
  else if w.within Reg.BANK.CMD 4 then
    let k := w.ix Reg.BANK.CMD
    let s := if w.cmd Reg.BANK.CMD_CLR_V = 1 then clearAt s b (2 * k) else s
    if w.cmd Reg.BANK.CMD_CLR_I = 1 then clearAt s b (2 * k + 1) else s
  else if w.is Reg.BANK.BUS_CMD then (if w.wo = 0 then s else clearAt s b 8)
  else if w.is Reg.BANK.RETIRE_CLR then
    let bs := s.bank b
    commitRetired (s.setBank b { bs with retireMap := bs.retireMap &&& (w.cmd Reg.BANK.RETIRE_CLR_SLICES ^^^ 0x3FF) })
  else s

/-- A channel's new mating count, PENDING until it is committed where it changed (R168, R171), and PROBE_WEAR at the limits
it reaches. -/
def setMates (s : State) (c n : Nat) : State :=
  let p := Pg.CHAN c
  let was := s.get p Reg.CHAN.MATE_COUNT
  let reach := fun (f : Fld) => decide (was < s.get p f * 1000) && decide (s.get p f * 1000 ≤ n)
  let s' := if n = was then s else (s.put p Reg.CHAN.MATE_COUNT n).putb p Reg.CHAN.MATE_STATUS_PENDING true
  let s' := if reach Reg.CHAN.MATE_LIMIT_WARN then raise (s'.event p 7) p Kind.PROBE_WEAR 0 else s'
  if reach Reg.CHAN.MATE_LIMIT_LIMIT then raise (s'.event p 7) p Kind.PROBE_WEAR 1 else s'

/-- CELL_CMD (R167, R168, R170, R171): a commit stamps the gang with the staged identity and counts a mating on each of its
channels; MATE_RESET sets the count to zero. -/
def actCellCmd (s : State) (w : Wr) : State :=
  let c := w.page - 0x040
  let ids := (List.range 4).map (fun k => s.get w.page (Reg.CHAN.CELL_ID.ix k))
  let s := if w.cmd Reg.CHAN.CELL_CMD_COMMIT = 1 then
      (s.gang c).foldl (fun (s : State) (m : Nat) =>
        let s := s.setChan m { s.chan m with cellId := ids }
        let s := forIdx 4 s (fun s k => putLogged s Org.HW (Pg.CHAN m) (Reg.CHAN.CELL_ID.ix k) (nth 0 ids k))
        setMates s m (satNat 32 (s.get (Pg.CHAN m) Reg.CHAN.MATE_COUNT + 1))) s
    else s
  let s := if w.cmd Reg.CHAN.CELL_CMD_MATE_RESET = 1 then setMates s c 0 else s
  requestCommit s 0x05 (.words (mateCounts s))

/-- CONTROL (R160, R268): a RESUME sets ENABLE, and in OFF the interrupted step goes on; a plain ENABLE never resumes. -/
def actControl (s : State) (w : Wr) : State :=
  let c := w.page - 0x040
  if w.cmd Reg.CHAN.CONTROL_RESUME = 1 then
    let s := if s.cstate c = Ch.OFF then resumeStep s c else s
    s.put w.page Reg.CHAN.CONTROL_ENABLE 1
  else if w.changes Reg.CHAN.CONTROL_ENABLE then s.setChan c { s.chan c with resume := false }
  else s

/-- CHAN: commands (R160, R167, R170, R214, R251, R252, R260). -/
def actChan (s : State) (w : Wr) : State :=
  let c := w.page - 0x040
  if w.is Reg.CHAN.CONTROL then actControl s w
  else if w.is Reg.CHAN.CELL_CMD then actCellCmd s w
  else if w.is Reg.CHAN.ACC_CMD then s.setChan c { s.chan c with clrRun := true }
  else if w.is Reg.CHAN.RCP_CMD then
    let s := if w.cmd Reg.CHAN.RCP_CMD_START = 1 then
      (setRstate s c Rs.VALIDATING).putb w.page Reg.CHAN.RCP_STATUS_RESUME_MISMATCH false else s
    let s := if w.cmd Reg.CHAN.RCP_CMD_CONTINUE = 1 then s.setRecipe c { s.recipe c with cont := true } else s
    if w.cmd Reg.CHAN.RCP_CMD_JUMP = 1 then
      s.setRecipe c { s.recipe c with jump := some (w.cmd Reg.CHAN.RCP_CMD_JUMP_STEP) } else s
  else s

/-! ### All -/

/-- The effect of an accepted write. -/
def actPageWrite (s : State) (w : Wr) : State :=
  if w.off < 0x040 then s
  else match w.kind with
    | .chip => actChip s w
    | .transit => if w.is Reg.TRANSIT.CTRL && w.changes Reg.TRANSIT.CTRL_PERIOD then forIdx 4 s checkSet
        else if w.is Reg.TRANSIT.MARK then (if w.wo = 0 then s else { s with transit := { s.transit with markPending := true } })
        else s
    | .changelog => actChangelog s w
    | .stream => actStream s w
    | .rtc => actRtc s w
    | .timer => actTimer s w
    | .hkseq => actHkseq s w
    | .hkrail => actHkrail s w
    | .backup => actBackup s w
    | .gauge => if w.is Reg.GAUGE.CMD then gaugeFirstUse s else if w.is Reg.GAUGE.DESIGN_CAP then designWritten s else s
    | .engctl => actEngctl s w
    | .otp => actOtp s w
    | .granary => actGranary s w
    | .commons => actCommons s w
    | .ledger => actLedger s w
    | .estim => actEstim s w
    | .bank => actBank s w
    | .chan => actChan s w
    | _ => s

/-- Registers whose write acts even where it changes no bit: RESET_CMD, whose KEY is checked (R72), HALT, the time, ARM,
WAKE_CFG, arming a compare, SEED, GPIO_CFG, TAIL, the Granary window, a retirement of stream records, a tone set (R295). -/
def actsUnchanged (k : PageKind) (off : Nat) : Bool :=
  match k with
  | .chip => decide (off = 0x048)
  | .rtc => decide (off = 0x040 ∨ off = 0x048 ∨ off = 0x050 ∨ off = 0x054 ∨ off = 0x05C ∨ off = 0x060)
  | .timer => decide (off = 0x048 ∨ (0x080 ≤ off ∧ off < 0x100 ∧ (off % 0x10 = 4 ∨ off % 0x10 = 8)))
  | .bank => decide (off = 0x074)
  | .changelog => decide (off = 0x048)
  | .granary => decide (0x200 ≤ off)
  | .stream => decide (0x080 ≤ off ∧ off < 0x100 ∧ off % 0x20 = 0x10)
  | .estim => decide ((0x080 ≤ off ∧ off < 0x180))
  | _ => false

end Sys2Proof.Machine
end

