-- ==== Sys2Proof/Machine/RegWrite.lean ====
section
/-! DEFINITION. A register write from any origin (R26, R28, R30 to R37, R39, R237, R240, R275): availability, key sequences,
rights, locks, ranges and page rules in that order, then the word, its entry and its effect. -/

namespace Sys2Proof.Machine

/-- The outcome of a refused write. -/
def refused (s : State) (w : Wr) (evs : List Nat) : State × WRes :=
  (refusalEffect (refuseAll s w evs) w, resOf evs)

/-! ### LOCK (R30, R31) -/

/-- The address of KEY_FAIL for a failed factory key comparison on a page (R340): the compact page code. -/
def keyFailAddr (page : Nat) : Nat :=
  if page < 0x0C0 then page else if page < 0x300 then 0xC0 + (page - 0x100) else 0xD0 + (page - 0x300)

/-- A LOCK write refused: the sequence in progress is abandoned. -/
def lockRefused (s : State) (w : Wr) : State × WRes := refused (keyDrop s w.page) w [Ev.LOCK_REJECT]

/-- A failed factory key comparison raises KEY_FAIL from the CHIP page (R31). -/
def factoryFail (s : State) (w : Wr) : State × WRes :=
  let r := lockRefused s w
  (raise r.1 Pg.CHIP Kind.KEY_FAIL (keyFailAddr w.page), r.2)

/-- LOCK.STATE takes a value, with its entry where it changes (R30). -/
def setLock (s : State) (w : Wr) (st : Nat) : State × WRes :=
  let was := lockState s w.page
  let s := (keyDrop s w.page).put w.page Reg.HEADER.LOCK_STATE st
  if was = st then (s, .ok) else (logChange s w.o w.page 0x020 (was * 256) (st * 256), .ok)

/-- The first write of a sequence, and the commands LOCK and LOCK_HARD (*Lock transitions*, R31). The factory key is OTP
word 0x96 as the last read of the IDENTITY region left it (R433). -/
def lockFirst (s : State) (w : Wr) (cmd key : Nat) : State × WRes :=
  let st := lockState s w.page
  if cmd = 1 then (if st = 2 then lockRefused s w else setLock s w 1)
  else if cmd = 2 then setLock s w 2
  else if cmd = 3 then
    (if st ≤ 1 ∧ key = 0x55AA then (keyStart s w.page 1, .ok) else lockRefused s w)
  else if 2 ≤ st ∨ s.allOff = false ∨ s.getBit Pg.CHIP Reg.CHIP.STATUS_OTP_FAIL 2 then lockRefused s w
  else if key = keyWord s 0x96 / 65536 % 65536 then (keyStart s w.page 2, .ok)
  else factoryFail s w

/-- The second write of a sequence completes or breaks it (R31). A write with CMD LOCK, LOCK_HARD or UNLOCK between the two
factory-unlock keys is refused and ends the sequence (DEDUCED, log entry 31). -/
def lockSecond (s : State) (w : Wr) (kind cmd key : Nat) : State × WRes :=
  if kind = 1 then (if cmd = 3 ∧ key = 0xAA55 then setLock s w 0 else lockRefused s w)
  else if cmd = 4 ∧ s.allOff ∧ s.getBit Pg.CHIP Reg.CHIP.STATUS_OTP_FAIL 2 = false then
    (if key = keyWord s 0x96 % 65536 then setLock s w 3 else factoryFail s w)
  else lockRefused s w

/-- Is the write one that breaks an unlock sequence: any other host write to the page (R30)? -/
def breaksUnlock (s : State) (w : Wr) : Bool :=
  decide (w.o = Org.HOST) && (match keySeq s w.page with
    | some q => decide (q.kind = 1)
    | none => false)

/-- A write of LOCK: only the host port (R30). Another CMD value has no effect, no event and no entry; as a host write to the
page it still ends an unlock sequence, not a factory-unlock sequence (DESIGN CHOICE, log entry 31). -/
def writeLock (s : State) (w : Wr) : State × WRes :=
  let cmd := w.v % 8
  if w.o ≠ Org.HOST then refused s w [Ev.RIGHT_REJECT]
  else if cmd = 0 ∨ 4 < cmd then (if breaksUnlock s w then keyDrop s w.page else s, .same)
  else match keySeq s w.page with
    | some q => lockSecond s w q.kind cmd (w.v / 65536)
    | none => lockFirst s w cmd (w.v / 65536)

/-! ### Recipe memory (R28, R39, R237, R240) -/

/-- A refused write of recipe memory: the event on the BANK page, the entry at the window. -/
def recipeRefused (s : State) (o b addr v ev : Nat) : State :=
  logReject (s.event (Pg.BANK b) ev) o (addr / 0x400) (addr % 0x400) (s.rd addr).toNat v

/-- The entry of a record since its last one (R39). -/
def logRecord (s : State) (o b r : Nat) : State :=
  let k := b * 256 + r
  let old := Table.get 0 s.recOld k
  if old = 0 then s
  else
    let s := { s with recOld := Table.set 0 s.recOld k 0 }
    (addEntry s o (recAddr b r / 0x400) (recAddr b r % 0x400) (old - 1) (crc32 (recBytes s b r))
      { LogFlags.plain with record := true }).bumpWrap (Pg.BANK b) Reg.HEADER.CHANGE_SEQ

/-- An accepted word of recipe memory: the committed mark follows the CRC where the word at 0x3C is written, and clears at
any other word (R237). A written word holds no error. -/
def recipeStore (s : State) (o b addr v : Nat) : State :=
  let r := (addr / 0x400 - 0x200) % 16 * 16 + addr % 0x400 / 64
  let k := b * 256 + r
  let was := crc32 (recBytes s b r) + 1
  let changed := decide ((s.rd addr).toNat ≠ v)
  let s := if changed && decide (Table.get 0 s.recOld k = 0) then { s with recOld := Table.set 0 s.recOld k was } else s
  let s := { s.wr addr (BitVec.ofNat 32 v) with memErr := Table.set 0 s.memErr addr 0 }
  if addr % 64 = 0x3C then logRecord (setCommitted s b r (recCrcOk s b r)) o b r else setCommitted s b r false

/-- A write of recipe memory. -/
def writeRecipe (s : State) (o addr v : Nat) : State × WRes :=
  let page := addr / 0x400
  let b := (page - 0x200) / 16
  let r := (page - 0x200) % 16 * 16 + addr % 0x400 / 64
  if !mayWrite s o page then (recipeRefused s o b addr v Ev.RIGHT_REJECT, .right)
  else if o ≠ Org.FACTORY ∧ lockState s (Pg.BANK b) ≠ 0 then (recipeRefused s o b addr v Ev.LOCK_REJECT, .lock)
  else if recRunning s b r then (recipeRefused s o b addr v Ev.RIGHT_REJECT, .right)
  else (recipeStore s o b addr v, .ok)

/-! ### FAULT commands (R353, R355, R356) -/

/-- Is the register one of the FAULT commands that follow their own rule? -/
def faultCommand (w : Wr) : Bool :=
  decide (w.kind = .fault) && (w.is Reg.FAULT.CLEAR || w.is Reg.FAULT.TEST_KEY || w.is Reg.FAULT.INJECT)

/-- CLEAR, TEST_KEY and INJECT. -/
def writeFault (s : State) (w : Wr) : State × WRes :=
  if w.is Reg.FAULT.CLEAR then
    (if w.o ≤ Org.TWOWIRE then (clearWrite s w.o w.v, .ok) else refused s w [Ev.RIGHT_REJECT])
  else if w.is Reg.FAULT.TEST_KEY then
    (if w.o = Org.HOST then (testKey s w.v s.fault.testPin, if testKeyOk s w.v s.fault.testPin then .ok else .right)
     else refused s w [Ev.RIGHT_REJECT])
  else (injectWrite s w.o w.v, if injectOk s w.v then .ok else .right)

/-! ### The write -/

/-- An accepted write: the word, its entry, its effect. Where a command shares its register with readable fields, the entry
carries what it left them at (R497). -/
def acceptWrite (s : State) (fs : List FieldDef) (w : Wr) : State :=
  let before := liveWord s (w.page * 0x400 + w.off)
  let s := storeWord s w
  if w.wo = 0 ∨ allWo fs then actPageWrite (entryOf s fs w before) w
  else entryOf (actPageWrite s w) fs w before

/-- The write as its rules see it. -/
def mkWr (s : State) (o : Nat) (k : PageKind) (addr v : Nat) : Wr :=
  let page := addr / 0x400
  let off := addr % 0x400
  let fs := fieldsAt page off
  let old := (s.rd addr).toNat
  ⟨o, page, k, off, old, settled k page off old (storedWord fs old v), woBits fs v, v⟩

/-- Page rules and ranges, then the write. A refusal by a page rule and one by a range each set their bit (R137, R164). A
write that changes nothing, and acts on nothing, makes no entry (R37). -/
def rulesWrite (s : State) (fs : List FieldDef) (w : Wr) : State × WRes :=
  let bit := rangeBit w.kind
  let far := !rangesOk fs w.new
  match rulePage s w with
  | .refuse evs => refused s w (if far && !evs.contains bit then evs ++ [bit] else evs)
  | .ignore => if far then refused s w [bit] else (s, .same)
  | .take =>
    if far then refused s w [bit]
    else if w.new = w.old ∧ w.wo = 0 ∧ actsUnchanged w.kind w.off = false then (s, .same)
    else (acceptWrite s fs w, .ok)

/-- Rights and locks, then the rules. `cmd`: a write that a two-wire command names, which has its write right (R475). -/
def rightsWrite (s : State) (cmd : Bool) (fs : List FieldDef) (w : Wr) : State × WRes :=
  if !cmd && !mayWrite s w.o w.page then (refuseAll s w [Ev.RIGHT_REJECT], .right)
  else if lockRefuses s fs w then refused s w [Ev.LOCK_REJECT]
  else if faultCommand w then writeFault s w
  else rulesWrite s fs w

/-- Is the write one that breaks the test-mode key sequence: any other FAULT page write (R355)? -/
def breaksTest (s : State) (w : Wr) : Bool :=
  decide (w.kind = .fault) && !w.is Reg.FAULT.TEST_KEY && (keySeq s testSeq).isSome

/-- A write of a 32-bit value to a byte address by an origin, and what became of it. -/
def writeCore (s : State) (o : Nat) (cmd : Bool) (addr v : Nat) : State × WRes :=
  let v := v % 2 ^ 32
  if !reachable s addr then (s, .unavail)
  else match pageKind (addr / 0x400) with
    | none => (s, .unavail)
    | some .recipe => writeRecipe s o addr v
    | some k =>
      let fs := fieldsAt (addr / 0x400) (addr % 0x400)
      let w := mkWr s o k addr v
      if readOnly k w.page w.off fs && !keeperOnly s w && decide (w.off ≠ 0x020) then (s, .ro)
      else if breaksTest s w then (testFail s w.o w.off v, .right)
      else if w.off = 0x020 then writeLock s w
      else if breaksUnlock s w then lockRefused s w
      else rightsWrite s cmd fs w

/-- A direct write. -/
def writeReg (s : State) (o addr v : Nat) : State × WRes := writeCore s o false addr v

/-- A write that a two-wire command makes (R475). -/
def commandWrite (s : State) (addr v : Nat) : State × WRes := writeCore s Org.TWOWIRE true addr v

/-- A write by an origin: a main engine's waits for its heartbeat at the next boundary (R275); any other is applied at once. -/
def originWrite (s : State) (o : Origin) (addr v : Nat) : State :=
  match o with
  | .engine n =>
    if n < 10 then { s with staged := s.staged ++ [(Org.ENG n, addr, v % 2 ^ 32)] } else (writeReg s (Org.ENG n) addr v).1
  | _ => (writeReg s (originCode o) addr v).1

/-- The staged writes of the engines whose heartbeat a boundary has found, in engine order; the others are dropped (R36,
R275). -/
def applyStaged (s : State) (alive : Nat → Bool) : State :=
  let l := s.staged
  let s := { s with staged := [] }
  (List.range 10).foldl (fun (s : State) (n : Nat) =>
    if alive n then
      (l.filter (fun e => decide (e.1 = Org.ENG n))).foldl (fun (s : State) (e : Nat × Nat × Nat) => (writeReg s e.1 e.2.1 e.2.2).1) s
    else s) s

end Sys2Proof.Machine
end

