-- ==== Sys2Proof/Machine/HostPort.lean ====
section
/-! DEFINITION. The host port (R449 to R459): which frames a device takes, reads and writes of up to 256 words, broadcasts,
frames held over a boundary, and the response. -/

namespace Sys2Proof.Machine

/-- The bytes of a word, most significant first (R452). -/
def bytesBE (n : Nat) (v : Nat) : List Nat := (bytesLE n v).reverse

/-- The CRC of a request: header and data in transmission order (R452). -/
def requestCrc (q : HostReq) (op : Nat) (data : List Nat) : Nat :=
  crc16 ([op % 256, q.id % 256] ++ bytesBE 3 q.addr ++ [q.len % 256] ++ data.flatMap (bytesBE 4))

/-- The ID field of a request header. -/
def reqId (q : HostReq) : Nat := q.id % 256 / 32

/-- A frame ignored until HCS_N rises (R451, R453). -/
def badFrame (s : State) : State := (s.bump Pg.HOST Reg.HOST.BAD_FRAME).event Pg.HOST 1

/-- What a device does with a complete request before it applies it (R451, R453): ignore it and count it as a bad frame,
stay silent with a CRC error, stay silent, or take it. -/
inductive Take where
  | bad | crcError | silent | take
  deriving DecidableEq, Repr

/-- The verdict on a request with a known OP; `mine`: the frame is addressed to this device, or is a broadcast. Outside FULL a
one-lane frame is received and checked whatever its HCLK (R51; R451 leaves a choice: DESIGN CHOICE, log entry 93). -/
def takeFrame (s : State) (q : HostReq) (op : Nat) (data : List Nat) (mine : Bool) : Take :=
  if !s.reducedOrLater then .silent
  else if (q.four && !s.full) || decide (q.id % 32 ≠ 0) then .bad
  else if !mine then .silent
  else if q.crc = requestCrc q op data then .take
  else .crcError

/-- The outcome of a word in a frame: the index of the first unavailable and of the first refused word. -/
structure WordMarks where
  unavail : Bool
  reject : Bool
  first : Option Nat
  deriving DecidableEq, Repr

/-- No word marked. -/
def WordMarks.none : WordMarks := ⟨false, false, Option.none⟩

/-- Mark word `i`. -/
def WordMarks.mark (m : WordMarks) (i : Nat) (u r : Bool) : WordMarks :=
  ⟨m.unavail || u, m.reject || r, if (u || r) && m.first.isNone then some i else m.first⟩

/-- RESP (*Response word RESP*). -/
def respWord (s : State) (m : WordMarks) (deferred : Bool) : Nat :=
  b2n m.unavail * 2 ^ 13 + b2n m.reject * 2 ^ 12 + b2n deferred * 2 ^ 11 + s.service * 2 ^ 8 +
    (match m.first with
      | some i => i % 256
      | none => 0)

/-- The address of word `i` of a frame. -/
def wordAddr (addr i : Nat) (fixed : Bool) : Nat := (if fixed then addr else addr + 4 * i) % 2 ^ 24

/-- Fetch `n` words from word `i` on. -/
def fetchWords (s : State) (addr : Nat) (fixed : Bool) : Nat → Nat → List Nat → WordMarks → List Nat × WordMarks × State
  | 0, _, l, m => (l.reverse, m, s)
  | n + 1, i, l, m =>
    let a := wordAddr addr i fixed
    let r := readWord s Org.HOST a
    fetchWords r.2 addr fixed n (i + 1) (r.1 :: l) (m.mark i (!reachable s a) false)

/-- Apply the words of a write frame from word `i` on, in transmission order. -/
def applyWords (s : State) (addr : Nat) (fixed : Bool) : List Nat → Nat → WordMarks → WordMarks × State
  | [], _, m => (m, s)
  | v :: l, i, m =>
    let r := writeReg s Org.HOST (wordAddr addr i fixed) v
    applyWords r.1 addr fixed l (i + 1) (m.mark i (decide (r.2 = .unavail)) r.2.refused)

/-- The nibbles of `n` bytes of a word, most significant first (R452). -/
def nibbles (n v : Nat) : List Nat := (bytesBE n v).flatMap (fun b => [b / 16, b % 16])

/-- The nibbles that the device drives from the START nibble on (R452, R454): 0xA, RESP, the data words and the CRC. The wait nibbles
before it, 0x0, are as many as the access takes. -/
def replyNibbles (r : Reply) : List Nat :=
  match r.resp with
  | none => []
  | some w => 0xA :: (nibbles 2 w ++ r.data.flatMap (nibbles 4) ++ nibbles 2 r.crc)

/-- What HIO3 to HIO0 carry in each HCLK cycle of a response from START on (R450, R454): a nibble in a four-lane frame; in a one-lane
frame the bits of each nibble on HIO0, most significant first. -/
def replyCycles (r : Reply) : List Nat :=
  if r.four then replyNibbles r
  else (replyNibbles r).flatMap (fun x => [x / 8 % 2, x / 4 % 2, x / 2 % 2, x % 2])

/-- Answer an addressed frame, in its lane mode (R450). -/
def answer (s : State) (m : WordMarks) (deferred four : Bool) (data : List Nat) : State :=
  let r := respWord s m deferred
  let s := (s.put Pg.HOST Reg.HOST.LAST_RESP_RESP r).bump Pg.HOST Reg.HOST.FRAMES
  { s with reply := ⟨some r, data, crc16 (bytesBE 2 r ++ data.flatMap (bytesBE 4)), four, []⟩ }

/-- The lane mode of an addressed frame (HOST:STATUS.LAST_FOUR). -/
def noteLanes (s : State) (q : HostReq) : State := s.putb Pg.HOST Reg.HOST.STATUS_LAST_FOUR q.four

/-- READ and READ_FIXED (R456). -/
def hostReads (s : State) (q : HostReq) (fixed : Bool) : State :=
  match takeFrame s q (if fixed then 0x22 else 0x21) [] (decide (reqId q = s.strap)) with
  | .bad => badFrame s
  | .crcError => (s.bump Pg.HOST Reg.HOST.CRC_ERR).event Pg.HOST 0
  | .silent => s
  | .take =>
    let s := { noteLanes s q with stream := { s.stream with fetched := [] } }
    let r := fetchWords s q.addr fixed (q.len % 256 + 1) 0 [] WordMarks.none
    answer r.2.2 r.2.1 false q.four r.1

/-- Apply a write frame: an addressed one is answered, a broadcast recorded (R455, R457). -/
def hostApply (s : State) (h : HeldFrame) (deferred : Bool) : State :=
  let r := applyWords s h.addr h.fixed h.data 0 WordMarks.none
  let s := if deferred then r.2.bump Pg.HOST Reg.HOST.DEFERRED else r.2
  if h.bcast then
    (s.put Pg.HOST Reg.HOST.LAST_BCAST_RESP (respWord s r.1 deferred)).bump Pg.HOST Reg.HOST.BCASTS
  else answer s r.1 deferred h.four []

/-- WRITE, WRITE_FIXED and BCAST_WRITE (R455, R457). `late`: the frame arrived less than 2 µs before the next boundary. -/
def hostWrites (s : State) (q : HostReq) (data : List Nat) (late fixed bcast : Bool) : State :=
  let op := if bcast then 0x3B else if fixed then 0x32 else 0x31
  let h : HeldFrame := ⟨s.frame, q.addr, fixed, data, bcast, q.four⟩
  if data.length ≠ q.len % 256 + 1 then s
  else match takeFrame s q op data (bcast || decide (reqId q = s.strap)) with
    | .bad => badFrame s
    | .crcError => (s.bump Pg.HOST Reg.HOST.CRC_ERR).event Pg.HOST 0
    | .silent => s
    | .take =>
      if bcast && !s.flag Pg.HOST Reg.HOST.CFG_BCAST_EN then s
      else
        let s := if bcast then s else noteLanes s q
        if late && s.full then { s with hostHeld := s.hostHeld ++ [h] } else hostApply s h false

/-- The boundary that a held frame waited for has passed, or no boundary comes any more: the frame is applied (R455). -/
def hostDeferred (s : State) : State :=
  match s.hostHeld with
  | [] => s
  | h :: l => if h.frame = s.frame ∧ s.full then s else hostApply { s with hostHeld := l } h true

/-- The opcodes (*Opcodes*). -/
def hostOps : List Nat := [0x21, 0x22, 0x31, 0x32, 0x3B]

/-- Is a frame one that a device ignores: a wrong mark, reserved header bits, an unknown OP, or four lanes outside FULL
(R451, R453)? -/
def invalidFrame (s : State) (mark hdr : Nat) (four : Bool) : Bool :=
  decide (mark ≠ (if four then 0xF else 0x1)) || decide (bitsOf hdr 36 32 ≠ 0) || !hostOps.contains (bitsOf hdr 47 40) ||
    (four && !s.full)

end Sys2Proof.Machine
end

