-- ==== Sys2Proof/Machine/TwoWire.lean ====
section
/-! DEFINITION. The two-wire port (R469 to R482): the status word, command words, ESTOP, the alert response, and transfers as
bus controller. -/

namespace Sys2Proof.Machine

/-- The device's own target address, shifted for reading (1) or writing (0). -/
def ownAddr (s : State) (read : Nat) : Nat := (0x40 + s.strap) * 2 + read

/-- The bytes a target sends, with the check byte of R472 over the whole transfer where PEC_EN = 1. -/
def withPec (s : State) (head : Nat) (bytes : List Nat) : List Nat :=
  if s.flag Pg.TWOWIRE Reg.TWOWIRE.CFG_PEC_EN then bytes ++ [crc8 (head :: bytes)] else bytes

/-- The byte that a reader clocks at place `i` of a transfer: the bytes sent, then 0xFF (R473). -/
def wireByte (r : Reply) (i : Nat) : Nat := nth 0xFF r.wire i

/-- The bytes last sent on the wire. -/
def sendWire (s : State) (l : List Nat) : State := { s with reply := ⟨none, [], 0, false, l⟩ }

/-- A status read (R470, R473): high byte first; in a SAFETY_START that a failed self-test holds too. -/
def statusRead (s : State) : State :=
  if s.reducedOrLater || (s.powered && s.svc.selftestFail) then
    let w := statusWord s
    let l := withPec s (ownAddr s 1) [w / 256 % 256, w % 256]
    (sendWire s l).bump Pg.TWOWIRE Reg.TWOWIRE.READS
  else s

/-- CMD_REJECT with its event (R474, R475). -/
def cmdReject (s : State) : State := (s.latch 2).event Pg.TWOWIRE 1

/-- What a command's write left to say: refused by its page, and ignored on an unavailable page (R475). -/
def noteWrite (r : State × WRes) : State :=
  if r.2.refused then cmdReject (r.1.put Pg.TWOWIRE Reg.TWOWIRE.LAST_CMD_RESULT 3)
  else if r.2 = .unavail then cmdReject r.1
  else r.1

/-- An executed command word (R474, R475): counted, with its outcome. -/
def twCommand (s : State) (word : Nat) (act : State → State) : State :=
  if s.reducedOrLater then
    let s := (s.put Pg.TWOWIRE Reg.TWOWIRE.LAST_CMD_WORD word).put Pg.TWOWIRE Reg.TWOWIRE.LAST_CMD_RESULT 1
    act ((s.bump Pg.TWOWIRE Reg.TWOWIRE.CMDS).event Pg.TWOWIRE 0)
  else s

/-- A write that a command names. -/
def twWrite (s : State) (page off v : Nat) : State := noteWrite (commandWrite s (page * 0x400 + off) v)

/-- The single and lead channels. -/
def leadChans (s : State) : List Nat := (List.range (4 * s.bankCount)).filter (fun c => !s.follower c)

/-- CONTROL of a channel with bits cleared and set. -/
def controlWord (s : State) (c : Nat) : Nat := (s.rd (addrOf (Pg.CHAN c) Reg.CHAN.CONTROL)).toNat

/-- ESTOP (R476): the latch first, then AUTO_RESUME = 0 and ENABLE = 0 on every single and lead channel. -/
def estopCommand (s : State) : State :=
  (leadChans s).foldl (fun (s : State) (c : Nat) =>
    twWrite s (Pg.CHAN c) 0x040 (withBits (withBits (controlWord s c) 2 2 0) 0 0 0)) (s.latch 3)

/-- RESUME (R160, R474): one channel, or every single or lead channel whose LAST_END is INTERRUPTED. While ESTOP = 1 it is refused
(R476), also where it names no channel: the TWOWIRE page then shows the refusal (DESIGN CHOICE, log entry 111). -/
def resumeCommand (s : State) (arg : Nat) : State :=
  let l := if bitOf arg 5 then
      (leadChans s).filter (fun c => decide (s.get (Pg.CHAN c) Reg.CHAN.STATUS_LAST_END = 2))
    else [arg % 32]
  if estop s && l.isEmpty then noteWrite (s.event Pg.TWOWIRE Ev.RIGHT_REJECT, .right)
  else l.foldl (fun (s : State) (c : Nat) => twWrite s (Pg.CHAN c) 0x040 (withBits (controlWord s c) 9 9 1)) s

/-- CHARGE: BACKUP:CHG_CFG.EN (R474). -/
def chargeCommand (s : State) (en : Bool) : State :=
  twWrite s Pg.BACKUP 0x04C (withBits (s.rd (addrOf Pg.BACKUP Reg.BACKUP.CHG_CFG)).toNat 31 31 (b2n en))

/-- ACK: clear latched status bits and ESTOP (R474). -/
def ackCommand (s : State) (arg : Nat) : State := twWrite s Pg.TWOWIRE 0x04C (arg % 16)

/-- Is a command word one that the device acknowledges: OP not reserved, bits [11:8] 0, ARG valid for the OP (*Commands*, R474)? -/
def commandValid (word : Nat) : Bool :=
  let op := word / 4096 % 16
  let arg := word % 256
  decide (word / 256 % 16 = 0) &&
    (if op = 0 ∨ op = 1 ∨ op = 2 ∨ op = 4 ∨ op = 6 then decide (arg = 0)
     else if op = 3 then decide (arg < 64)
     else if op = 5 then decide (arg = 0xA5)
     else if op = 7 then decide (arg < 2)
     else if op = 8 then decide (arg < 16)
     else false)

/-- The command word of the data bytes that a write carried, high byte first, as far as it came (R474). -/
def commandWord (bytes : List Nat) : Nat := nth 0 bytes 0 % 256 * 256 + nth 0 bytes 1 % 256

/-- Did the check byte of a valid command word fail (R472, R474)? -/
def pecFailed (s : State) (bytes : List Nat) : Bool :=
  s.flag Pg.TWOWIRE Reg.TWOWIRE.CFG_PEC_EN && decide (3 ≤ bytes.length) && commandValid (commandWord bytes) &&
    decide (nth 0 bytes 2 ≠ crc8 (ownAddr s 0 :: bytes.take 2))

/-- Is a write transfer to this device discarded: its word is not valid, its check byte failed, it is longer or shorter than two data
bytes with the check byte of R472, or the bus timed out (R474, R479)? -/
def discarded (s : State) (bytes : List Nat) (timedOut : Bool) : Bool :=
  timedOut || decide (bytes.length ≠ 2 + b2n (s.flag Pg.TWOWIRE Reg.TWOWIRE.CFG_PEC_EN)) || !commandValid (commandWord bytes) ||
    pecFailed s bytes

/-- A discarded transfer (R474). -/
def discardCommand (s : State) (bytes : List Nat) : State :=
  let p := Pg.TWOWIRE
  let s' := if pecFailed s bytes then s.bump p Reg.TWOWIRE.PEC_ERR else s
  let s' := s'.bump p Reg.TWOWIRE.CMD_BAD
  cmdReject ((s'.put p Reg.TWOWIRE.LAST_CMD_WORD (commandWord bytes)).put p Reg.TWOWIRE.LAST_CMD_RESULT 2)

/-- An alert-response read (R477): a device with an alert pending answers, and the winner clears it. -/
def alertRead (s : State) (won : Bool) : State :=
  if s.reducedOrLater && s.alert && won then
    { sendWire s (withPec s 0x19 [ownAddr s 0]) with alert := false }
  else s

/-- Has the device a transfer to make as controller: a Crier message first, then an authentication attempt (R478)? -/
def controllerBusy (s : State) : Bool :=
  s.reducedOrLater && (!s.fault.crier.isEmpty || decide (0 < s.backup.tries))

/-- A controller transfer lost arbitration (R478): it is retried later. -/
def arbLost (s : State) : State := (s.bump Pg.TWOWIRE Reg.TWOWIRE.ARB_LOST).event Pg.TWOWIRE 2

/-- SCL low for 25 ms (R479): as controller the transfer counts as lost arbitration; as target it is discarded. -/
def busTimeout (s : State) (controller : Bool) : State :=
  if controller && controllerBusy s then
    arbLost ((s.bump Pg.TWOWIRE Reg.TWOWIRE.BUS_TIMEOUT).event Pg.TWOWIRE 3)
  else s

/-- The bytes of a Crier message that a device sends (*Crier message*). -/
def crierBytes (s : State) (msg sec : Nat) : List Nat :=
  let l := (s.strap % 8) :: (bytesBE 4 msg ++ bytesBE 4 sec)
  0x78 :: (l ++ [crc8 l])

/-- One Crier transfer of the oldest queued message (R350, R351). -/
def crierTransfer (s : State) (lost ack : Bool) : State :=
  match s.fault.crier with
  | [] => s
  | m :: l =>
    if !s.reducedOrLater then s
    else if lost then arbLost s
    else
      let s := sendWire { s with fault := { s.fault with crier := l } } (crierBytes s m.1 m.2)
      s.bump Pg.FAULT (if ack then Reg.FAULT.CRIER_TX else Reg.FAULT.CRIER_NOACK)

/-- A Crier message received at 0x3C (R351); another length is no Crier message. -/
def crierReceived (s : State) (bytes : List Nat) : State :=
  let l := (bytes.drop 1).take 9
  let p := Pg.FAULT
  if s.reducedOrLater = false ∨ bytes.length ≠ 11 ∨ nth 0 bytes 0 ≠ 0x78 then s
  else if nth 0 bytes 10 ≠ crc8 l then s.bump p Reg.FAULT.CRIER_BAD
  else
    let s := s.put p Reg.FAULT.CRIER_LAST_ID_ID (nth 0 bytes 1)
    let s := s.put p Reg.FAULT.CRIER_LAST_MSG (natOfLE ((bytes.drop 2).take 4).reverse)
    let s := s.put p Reg.FAULT.CRIER_LAST_SEC (natOfLE ((bytes.drop 6).take 4).reverse)
    (s.bump p Reg.FAULT.CRIER_RX).event p 3

/-- The bytes of an authentication attempt that the device sends (R396): the challenge written to AUTH_CFG.ADDR, and the address
of the read of the response. -/
def authBytes (s : State) (challenge : List Nat) : List Nat :=
  let a := s.get Pg.BACKUP Reg.BACKUP.AUTH_CFG_ADDR
  2 * a :: (challenge ++ [2 * a + 1])

/-- One authentication attempt (R396, R478): a Crier message that waits goes first. Without an IDENTITY region none is made. -/
def authTransfer (s : State) (lost : Bool) (challenge : List Nat) (response : Option (List Nat)) : State :=
  if s.reducedOrLater && s.fault.crier.isEmpty && decide (0 < s.backup.tries) && decide (s.backup.authUs ≤ s.rcUs) then
    (if s.getBit Pg.CHIP Reg.CHIP.STATUS_OTP_FAIL 2 then authRefused s
     else if lost then arbLost s
     else authAttempt (sendWire s (authBytes s challenge)) challenge response)
  else s

end Sys2Proof.Machine
end

