-- ==== Sys2Proof/Machine/Frame.lean ====
section
/-! DEFINITION. The frame boundary (R58, R81 to R92, R211 to R219): alignment in JOINING, the sequence of a boundary in
FULL, and what the matching of TRANSIT edges does. -/

namespace Sys2Proof.Machine

/-- Act on every lead or single channel. -/
def forLeads (s : State) (f : State → Nat → State) : State :=
  forIdx (4 * s.bankCount) s (fun s c => if s.follower c then s else f s c)

/-! ### Alignment (R56, R82) -/

/-- Alignment as CHIP and TRANSIT show it; EVENT.ALIGNED on becoming aligned. -/
def setAligned (s : State) (b : Bool) : State :=
  let s := if b && !s.flag Pg.TRANSIT Reg.TRANSIT.STATUS_ALIGNED then s.event Pg.TRANSIT 0 else s
  (s.putb Pg.TRANSIT Reg.TRANSIT.STATUS_ALIGNED b).putb Pg.CHIP Reg.CHIP.STATUS_TRANSIT_ALIGNED b

/-- Is the device the transit source (R56)? -/
def isSource (s : State) : Bool := s.flag Pg.TRANSIT Reg.TRANSIT.STATUS_ROLE_ACTIVE

/-- A source drives TRANSIT high from each of its frame boundaries (R85). -/
def drivePulse (s : State) : State := { s with transit := { s.transit with high := isSource s } }

/-- A source that is not aligned is aligned at its first transit (R56). -/
def alignSource (s : State) : State :=
  if isSource s && !s.flag Pg.TRANSIT Reg.TRANSIT.STATUS_ALIGNED then setAligned s true else s

/-- A change of PERIOD takes effect (R82): the device aligns again, and TRANSIT_SKEW is not raised for TRANSIT_WAIT ms. -/
def realign (s : State) : State :=
  let s := (setAligned s false).putb Pg.TRANSIT Reg.TRANSIT.STATUS_REALIGNING false
  { s with transit := { s.transit with
      edge := none, adjust := 0, nextAdjust := 0, inWindowRun := 0, episode := false, missedRun := 0, alignRun := 0
      quietUntilUs := s.rcUs + 1000 * s.get Pg.CHIP Reg.CHIP.START_CFG_TRANSIT_WAIT } }

/-- Raise TRANSIT_SKEW, but not in the time after a change of PERIOD (R82). -/
def raiseSkew (s : State) (a : Nat) : State :=
  if s.rcUs < s.transit.quietUntilUs then s else raise s Pg.TRANSIT Kind.TRANSIT_SKEW a

/-- The nominal length of the frame in progress, with the PERIOD in force. -/
def nominalNow (s : State) : Nat := 5000 * 2 ^ s.getf Pg.TRANSIT Reg.TRANSIT.CTRL_PERIOD

/-- The length of the frame in progress (R89, R90). -/
def frameLen (s : State) : Nat := ((nominalNow s : Int) + s.transit.adjust).toNat

/-! ### The matching of edges (R85, R89) -/

/-- A TRANSIT edge at a follower that is not aligned (R56): `t` is its distance from the edge before, in core cycles. -/
def alignEdge (s : State) (t : Int) : State :=
  let x := s.transit
  let good := decide (x.alignRun ≠ 0) &&
    decide (absI (t - s.nominal) ≤ (s.get Pg.TRANSIT Reg.TRANSIT.ALIGN_CFG_SKEW_WIN : Int))
  let n := if good then x.alignRun + 1 else 1
  let s := { s with transit := { x with alignRun := n } }
  if 8 ≤ n then setAligned s true else s

/-- A TRANSIT edge at an aligned follower: `t` is the sampled rising edge in core cycles after the present boundary; the
edge time is `t` less DELAY_COMP (R85). An edge within a quarter of a period of the present or the coming boundary is
matched to it, to the present one only until its window closes, and in JOINING, where the frames of FULL are still to come, only to
the coming one (R89); a later edge of the window replaces it (DESIGN CHOICE, log entry 73). -/
def matchEdge (s : State) (t : Int) : State :=
  let e := t - s.get Pg.TRANSIT Reg.TRANSIT.ALIGN_CFG_DELAY_COMP
  let p : Int := nominalNow s
  let len : Int := frameLen s
  if 4 * absI e ≤ p then
    (if s.full && !s.transit.closed && decide (4 * t ≤ p) then { s with transit := { s.transit with edge := some e } } else s)
  else if 4 * absI (e - len) ≤ p then { s with transit := { s.transit with nextEdge := some (e - len) } }
  else s

/-- The matching window of the present boundary closes (R89): the length of the frame that begins at the next boundary. SKEW and
SKEW_MAX show the error as measured, before it is taken modulo the period (DESIGN CHOICE, log entry 96). -/
def closeMatch (s : State) : State :=
  let p := Pg.TRANSIT
  let x := { s.transit with closed := true }
  match x.edge with
  | some e =>
    let s := s.puti p Reg.TRANSIT.SKEW_ERROR e
    let s := s.put p Reg.TRANSIT.SKEW_MAX_ABS (max (s.get p Reg.TRANSIT.SKEW_MAX_ABS) (satNat 16 (absI e).toNat))
    let s := s.putb p Reg.TRANSIT.STATUS_FREEWHEEL false
    if absI e ≤ (s.get p Reg.TRANSIT.ALIGN_CFG_SKEW_WIN : Int) then
      let run := x.inWindowRun + 1
      let ep := x.episode && decide (run < 8)
      let s := { s with transit := { x with
        edge := none, nextAdjust := clampInt (-64) 64 e, inWindowRun := run, episode := ep, missedRun := 0 } }
      s.putb p Reg.TRANSIT.STATUS_REALIGNING ep
    else
      let s := { s with transit := { x with
        edge := none, nextAdjust := min (e % (nominalNow s : Int)) 64, inWindowRun := 0, episode := true, missedRun := 0 } }
      let s := (s.bump p Reg.TRANSIT.OUT_OF_WIN).putb p Reg.TRANSIT.STATUS_REALIGNING true
      if x.episode then s else raiseSkew (s.event p 1) 1
  | none =>
    let n := x.missedRun + 1
    let s := { s with transit := { x with nextAdjust := 0, missedRun := n } }
    let s := (s.bump p Reg.TRANSIT.MISSED).putb p Reg.TRANSIT.STATUS_FREEWHEEL true
    if n = 64 then raiseSkew s 2 else s

/-! ### The boundary in FULL -/

/-- What the engines of the banks that posted a heartbeat decided in the frame that ends, by channel (R246, R275). -/
def decideAll (s : State) (ok : Nat → Bool) : State × List (Nat × Option Choice × Option Nat) :=
  (List.range (4 * s.bankCount)).foldl (fun (a : State × List (Nat × Option Choice × Option Nat)) (c : Nat) =>
    if ok (c / 4) then
      let d := decideFrame a.1 c
      (d.1, a.2 ++ [(c, d.2)])
    else a) (s, [])

/-- The next frame begins (R83, R90, R417). -/
def beginFrame (s : State) (len : Nat) : State :=
  let s := { s with
    frame := (s.frame + 1) % 2 ^ 64
    transit := { s.transit with adjust := s.transit.nextAdjust, nextAdjust := 0, edge := s.transit.nextEdge, nextEdge := none, closed := false } }
  tickFrame (s.put Pg.TRANSIT Reg.TRANSIT.LAST_LEN_CYCLES len) len

/-- The banks whose RP_CFG has been written in the frame that ends: R_P takes SEED at this boundary (R203, R207). -/
def seedsHeld (s : State) : List Nat :=
  (List.range s.bankCount).filter (fun b => s.held.any (fun e => decide (e.1 = addrOf (Pg.BANK b) Reg.BANK.RP_CFG_SEED)))

/-- Is an address one of a page's severity maps? -/
def isSeverity (a : Nat) : Bool := decide (0x014 ≤ a % 0x400 ∧ a % 0x400 ≤ 0x01C)

/-- Is an address GANG of a channel? -/
def isGang (a : Nat) : Bool :=
  decide (Pg.CHAN 0 ≤ a / 0x400 ∧ a / 0x400 ≤ Pg.CHAN 31) && decide (a % 0x400 = Reg.CHAN.GANG_SIZE.off)

/-- Accepted writes come into force (R92): all but those that wait for a common start of the sequencer, the severity maps,
which still judge the messages of this boundary, and the gangs, with which the frame that has ended ran. -/
def releaseHeld (s : State) : State :=
  let per := decide (s.getf Pg.TRANSIT Reg.TRANSIT.CTRL_PERIOD ≠ s.get Pg.TRANSIT Reg.TRANSIT.CTRL_PERIOD)
  let s := { s with held := s.held.filter (fun e => decide (e.1 / 0x400 = Pg.HKSEQ) || isSeverity e.1 || isGang e.1) }
  if per then realign s else alignSource s

/-- GANG writes come into force once the frame that has ended is accounted for on the gangs it ran with (R167, R213). -/
def releaseGangs (s : State) : State :=
  let s := { s with held := s.held.filter (fun e => !isGang e.1) }
  forIdx s.bankCount s (fun s b =>
    let q := Pg.CHAN (4 * b + 2)
    if s.get (Pg.CHAN (4 * b)) Reg.CHAN.GANG_SIZE = 2 ∧ s.get q Reg.CHAN.GANG_SIZE ≠ 0 then
      putLogged s Org.HW q Reg.CHAN.GANG_SIZE 0 else s)

/-- The severity maps written in the frame come into force (R341). -/
def releaseSeverity (s : State) : State :=
  { s with held := s.held.filter (fun e => decide (e.1 / 0x400 = Pg.HKSEQ) && !isSeverity e.1) }

/-- SNAP and MARK of the frame that has ended (R84, R232). -/
def snapMark (s : State) (n : Nat) : State :=
  let s := if s.ledger.snapPending then
    { boardSnap s n with ledger := { s.ledger with snapPending := false } } else s
  if s.transit.markPending then
    let s := s.put64 Pg.TRANSIT Reg.TRANSIT.MARK_LO Reg.TRANSIT.MARK_HI s.frame
    { (s.event Pg.TRANSIT 2) with transit := { s.transit with markPending := false } }
  else s

/-- What the frame `n` of `len` cycles gives the accounts: samples and averages, ledger, grading, recipe windows, steps that
ended in it, SNAP and MARK (R176, R211, R218). -/
def accountFrame (s : State) (f : FrameIn) (n len : Nat) : State :=
  let s := forIdx s.bankCount s (fun s b => measureBank (latchBank s b (nth BankIn.none f.banks b)) b n)
  let s := ledgerFrame s n len
  let s := forLeads s (fun s c => gradeFrame s c n)
  let s := forLeads s recipeFrame
  snapMark (closePending s n) n

/-- Contact loss, guards, probes and shorts on the samples of the frame that has ended (R148, R150, R161, R169, R202). Every
criterion is judged before the first reaction is taken. -/
def checkFrame (s : State) : State :=
  let crit := (List.range (4 * s.bankCount)).filter (fun c => (contactCriterion s c).isSome)
  let lost := (List.range (4 * s.bankCount)).filterMap (fun c => (contactOf s c).map (fun a => (c, a)))
  let breached := (leadChans s).map (fun l => (l, guardBreaches s l))
  let s := lost.foldl (fun (s : State) (e : Nat × Nat) => actContact s e.1 e.2) s
  let s := breached.foldl (fun (s : State) (e : Nat × (Bool × Bool × Bool)) => actGuards s e.1 e.2) s
  let s := forIdx (4 * s.bankCount) s countProbe
  let s := forLeads s countZv
  forIdx (4 * s.bankCount) s (fun s c => trackRp s c (crit.contains c))

/-- The clears that waited for the boundary, before any message of the boundary (R353, R354), with the level at the FAULT_N
input where the other devices have released it. -/
def clearsFrame (s : State) (peerLow : Bool) : State :=
  clearsDue (if peerLow then s else publishFaultN { s with fault := { s.fault with peerLow := false } })

/-- FAULT_N pulled low by another device, the safe states that end at the boundary, and then the release of FAULT_N, which
the input sees from then on (R346 to R348, R159). -/
def safeFrame (s : State) (peerLow : Bool) : State :=
  leaveSafe (if peerLow && !s.fault.peerLow then peerFault s else s)

/-- The references of a channel for the frame that begins, before capacity and tokens (R136 to R142). Mode, VREF, pulse and slew
run in every frame; without the heartbeat of the bank's engine the target its loops gave stands (R275). -/
def advanceRef (s : State) (ok : Nat → Bool) (c len : Nat) : State :=
  let s := applyMode s c
  let v := stepVref s c len
  let t := stepPulse v c
  let edge := decide (t.get (Pg.CHAN c) Reg.CHAN.STATUS_PULSE_LEVEL ≠ v.get (Pg.CHAN c) Reg.CHAN.STATUS_PULSE_LEVEL)
  countRetargets s (stepRef t c len (ok (c / 4)) edge) c

/-- A reaction of the boundary comes before a chosen action, which is then not taken (R269): slow-limit trips and ZV shorts of the
channels whose engine has chosen one. On the other channels SLOW_LIMIT_TRIP and CHANNEL_SHORT_ZV bring them. -/
def reactFirst (s : State) (ds : List (Nat × Option Choice × Option Nat)) : State :=
  ds.foldl (fun (s : State) (d : Nat × Option Choice × Option Nat) =>
    if d.2.1.isSome then
      let s := (s.gang d.1).foldl (fun s m => slowTrip (slowTrip s (2 * m)) (2 * m + 1)) s
      if zvShort s d.1 then shortChan s d.1 else s
    else s) s

/-- What the channels do at the boundary, up to their candidate references (R246, R155, R138, R149). A chosen action is taken
before its bank enters HOLD (R269). -/
def regulate (s : State) (ok : Nat → Bool) (ds : List (Nat × Option Choice × Option Nat)) (n len : Nat) : State :=
  let s := ds.foldl (fun (s : State) (d : Nat × Option Choice × Option Nat) => applyDecision s d.1 d.2.1 d.2.2 n) s
  let s := heartbeatBoundary (engineBoundary s) n
  let s := forLeads s endWaiting
  let s := forLeads s (fun s c => actDisable s c n)
  let s := forLeads s actZv
  forLeads s (fun s c => advanceRef s ok c len)

/-- The phases on the frame that has ended: means, balancing (R114 to R116). -/
def phasesFrame (s : State) (imons : List Int) : State :=
  let s := forIdx (8 * s.bankCount) s (fun s p => phaseFrame s p (nth 0 imons p))
  forIdx (4 * s.bankCount) s (fun s c => balanceFrame (countSwitching s c) c (nth 0 imons (2 * c)) (nth 0 imons (2 * c + 1)))

/-- A channel with AUTO_RESUME resumes its interrupted step at the first boundary at which R143 holds (R160, R268). With
ENABLE = 0 it asks no token, so the token of R143 is awaited after ENABLE is set (DEDUCED: log entry 41). A resume that is
refused is not tried again of itself. -/
def autoResume (s : State) (c : Nat) : State :=
  let p := Pg.CHAN c
  let mode := s.get p Reg.CHAN.CONTROL_MODE
  if s.cstate c = Ch.OFF ∧ s.get p Reg.CHAN.STATUS_LAST_END = 2 ∧ s.flag p Reg.CHAN.CONTROL_AUTO_RESUME ∧
      s.flag p Reg.CHAN.CONTROL_ENABLE = false ∧ s.flag p Reg.CHAN.RCP_STATUS_RESUME_MISMATCH = false ∧ mode ≠ 0 ∧
      enableBarred s c = false ∧ startReady s c then
    (if resumeMatches s c then putLogged (resumeStep s c) Org.HW p Reg.CHAN.CONTROL_ENABLE 1
     else (s.putb p Reg.CHAN.RCP_STATUS_RESUME_MISMATCH true).event p (rangeBit .chan))
  else s

/-- The core cycles since the entry to CONNECT of a channel that connects (R124). -/
def connectTime (s : State) (c len : Nat) : State :=
  if s.cstate c = Ch.CONNECT then s.setChan c { s.chan c with connCyc := (s.chan c).connCyc + len } else s

/-- Starts, the Commons, limiters 3 and 4 and switching for the frame that begins (R124, R143, R145, R151, R156, R262). -/
def permit (s : State) (ok : Nat → Bool) (n len : Nat) : State :=
  let s := forIdx (4 * s.bankCount) s (fun s c => connectTime s c len)
  let s := forLeads s tryRun
  let s := forLeads s (fun s c => markWaiting (autoResume s c) c)
  let s := commonsBoundary s len
  let s := connectAll s
  let s := applyLimits s len
  let s := forLeads s (fun s c => if s.modeOff c || decide (s.cstate c = Ch.CONNECT) then s else commitRef s c len)
  let s := forLeads s (fun s c => tryRampEnd s c n)
  let s := forIdx (4 * s.bankCount) s setSwitching
  forLeads s (fun s c => if (s.recipe c).validated && ok (c / 4) then startRecipe s c else s)

/-- Grading for the frame that begins (chapter 11), after the steps that closed and opened at this boundary. -/
def gradeBoundary (s : State) : State :=
  let s := s.ended.foldl (fun (s : State) (e : Nat × Nat) => gradeClose s e.1 e.2) s
  let s := forLeads (s.opened.foldl gradeOpen s) gradeLatch
  let s := { s with ended := [], opened := [] }
  refreshLoad (refreshInUse (forIdx (4 * s.bankCount) s gradeBegin))

/-- The last-fault record of a message that arrived in the frame that has ended (R352), and one that waits from outside
FULL. `due`: it arrived before this boundary. -/
def recordFrame (s : State) (due : Bool) (steps : List Nat) : State :=
  match s.fault.recStart.filter (fun _ => due) with
  | some r =>
    let l := recordBytes s r (s.get Pg.FAULT Reg.FAULT.REC_SEQ + 1) true steps
    requestCommit { s with fault := { s.fault with recStart := none, recSnap := some l } } 0x02 (.bytes l)
  | none => match s.fault.recSnap with
    | some l => if commitOpen s 0x02 then s else requestCommit s 0x02 (.bytes l)
    | none => s

/-- The levels that hold throughout the frame that begins: ISO commanded and the ISO ball (R127, R212). -/
def isoFrame (s : State) (lev : Nat) : State :=
  forIdx (4 * s.bankCount) s (fun s c =>
    let x := s.chan c
    (s.setChan c { x with isoAll := x.iso, isoAny := x.iso }).putb (Pg.PHASE (2 * c)) Reg.PHASE.STATUS_ISO_LEVEL (bitOf lev c))

/-- The shadow of the ledger, and the checkpoints to be made at this boundary (R219, R220, R384). -/
def shadowFrame (s : State) : State :=
  let s := { s with ledger := { s.ledger with shadow := some (makeCkpt s 5 s.frame), prevShadow := s.ledger.shadow, copyUs := s.rcUs } }
  let l := s.ledger.pendingReasons
  l.foldl (fun s r => requestCkpt s (makeCkpt s r s.frame)) { s with ledger := { s.ledger with pendingReasons := [] } }

/-- Messages of one boundary enter the queue in ascending SOURCE order; those that find it full are lost and counted (R339). -/
def sortFifo (s : State) (was : Nat) : State :=
  let l := s.fault.fifo
  let l := l.take was ++ sortBy (fun (a b : Nat × Nat × Nat) => decide (a.1 / 2 ^ 20 < b.1 / 2 ^ 20)) (l.drop was)
  let lost := (l.drop (max was 64)).length
  let s := { s with fault := { s.fault with cycle := false, fifo := l.take (max was 64) } }
  if lost = 0 then s else (s.addCount Pg.FAULT Reg.FAULT.FIFO_LOST lost).event Pg.FAULT 2

/-- One frame boundary in FULL (R92): the frame that ends is accounted for, then the frame that begins is set up. -/
def fullBoundary (s : State) (f : FrameIn) : State :=
  let n := s.frame
  let len := frameLen s
  let s := f.flips.foldl memFlip s
  let s := f.ramEcc.foldl (fun s e => s.bump (Pg.ENG e) Reg.ENG.RAM_ECC) s
  let s := countLimited (countOverdraw s)
  let steps := (List.range 32).filter (stepActive s)
  let was := s.fault.fifo.length
  let due := s.fault.recStart.isSome
  let s := { s with fault := { s.fault with cycle := true } }
  let okB := (List.range 8).map (bankAlive s)
  let okE := (List.range 10).map (fun e => decide ((s.eng e).beat = some s.frame32))
  let ok := fun b => nth false okB b
  let d := decideAll s ok
  let s0 := forLeads d.1 (fun s c => if ok (c / 4) then startRun s c else s)
  let s := applyStaged (beginFrame s0 len) (fun e => nth false okE e)
  let seeded := seedsHeld s
  let s := clearsFrame (releaseHeld s) f.peerLow
  let s := forIdx s.bankCount (accountFrame s f n len) retireFlagged
  let s := forIdx s.bankCount s calFrame
  let s := recordFrame s due steps
  let s := releaseGangs (safeFrame (seeded.foldl seedBank (checkFrame s)) f.peerLow)
  let s := forIdx (8 * s.bankCount) s (fun s p => slowFrame s p (nth 0 f.imons p) len)
  let s := phasesFrame (regulate (reactFirst s d.2) ok d.2 n len) f.imons
  let s := closePending (permit s ok n len) n
  let s := streamBoundary (gradeBoundary s)
  let s := shadowFrame (captureSource (isoFrame s f.isoLevel) 4)
  releaseSeverity (sortFifo (flushLog s) was)

/-! ### The boundary in JOINING (R56, R58) -/

/-- The Commons of a device at its entry to FULL: what its first ring frame carries (R58). -/
def enterRing (s : State) : State :=
  let s := s.putb Pg.COMMONS Reg.COMMONS.STATUS_HOT s.hk.dieWarn
  let s := { s with commons := { s.commons with shares := [], room := [] } }
  newRingFrame (makeUplink (if isKeeper s then { s with keeper := { s.keeper with sent := some s.keeper.rtag } } else s))

/-- The level at the FAULT_N input outside FULL, where its falling edge is no BOARD_FAULT_IN (R60, R348). -/
def readInput (s : State) (low : Bool) : State := publishFaultN { s with fault := { s.fault with peerLow := low } }

/-- A transit in JOINING: the source becomes aligned at its first; an aligned device enters FULL. -/
def joinBoundary (s : State) : State :=
  if s.flag Pg.TRANSIT Reg.TRANSIT.STATUS_ALIGNED then
    let s := { s with transit := { s.transit with edge := s.transit.nextEdge, nextEdge := none, closed := false } }
    drivePulse (enterRing (enterFull s))
  else drivePulse (alignSource s)

/-- Is a reset, or the end of a closed frame, under way, so that no further frame begins (R66, R67, R388)? -/
def frameStopped (s : State) : Bool := s.svc.warmPend.isSome || s.svc.coldPend || s.backup.closed

/-- The frame boundary (R92). -/
def frameBoundary (s : State) (f : FrameIn) : State :=
  if frameStopped s then s
  else if s.full then drivePulse (fullBoundary (readBalls s f) f)
  else if s.inService Svc.JOINING then joinBoundary (readInput (readBalls s f) f.peerLow)
  else s

end Sys2Proof.Machine
end

