-- ==== Sys2Proof/Machine/Cmd.lean ====
section
/-! DEFINITION. How every command ends. A command whose condition does not hold in the state is no event and leaves the
state as it is (log entry 2). What no command touches stands here once: the queue of waiting commands, whose front
`step` has taken before; the OTP's bits, which only an OTP operation programs; the supply of VSYS, which only its own two
events change. -/

namespace Sys2Proof.Machine

/-- What a command answers. -/
abbrev Out : Type := Host.Outcome State Fault Refusal

/-- The end of a command that began in `s` and did its work in `t`: the LOG_OVERFLOW messages that the change log
raised meanwhile are sent (R43, R44). The queue, the OTP and the supply are as before. -/
def finish (s t : State) : Out :=
  .next { flushLog t with pending := s.pending, powered := s.powered, otpA := s.otpA, otpB := s.otpB }

/-- The end of a command that changes the supply of VSYS (R46). -/
def finishSupply (s t : State) : Out :=
  .next { flushLog t with pending := s.pending, otpA := s.otpA, otpB := s.otpB }

/-- The end of an OTP operation: programmed bits are added to the words (R430). -/
def finishOtp (s t : State) : Out := .next { flushLog t with pending := s.pending, powered := s.powered }

/-- A command that is an event only where `b` holds. -/
def takes (s : State) (b : Bool) (act : State → State) : Out := if b then finish s (act s) else .next s

/-- As `takes`, for an event of the boundary at which the frame began: the steps that it ends close there (R213). -/
def takesAtBoundary (s : State) (b : Bool) (act : State → State) : Out := takes s b (fun s => closeAtBoundary s (act s))

/-- One microsecond in which no command waits: the RC oscillator and, in FULL, TICK advance (log entry 3). The transit
pulse of a source, 1 µs long, ends (R85). -/
def idle (s : State) : State :=
  { s with
    rcUs := s.rcUs + 1, transit := { s.transit with high := false }, timer := if s.full then { s.timer with tick := (s.timer.tick + 200) % 2 ^ 56 } else s.timer }

/-- Can an origin access registers: an engine exists and executes? The host and the two-wire port reach what `reachable`
gives them (R26, R50). The factory-test origin is accepted with TEST_MODE = 0 too (DESIGN CHOICE, log entry 92). -/
def originLive (s : State) (o : Origin) : Bool :=
  match o with
  | .engine n => decide (n < 12) && engRuns s n
  | _ => true

/-- A write by an origin to one register, named by page and offset. -/
def writeOf (s : State) (o : Origin) (page off v : Nat) : State :=
  if originLive s o then originWrite s o (page * 0x400 + off) v else s

/-- A read of one register by an origin: the value goes to the reply. -/
def readOf (s : State) (o : Origin) (page off : Nat) : State :=
  if originLive s o then readReply s (originCode o) (page * 0x400 + off) else s

/-- The word of a register with one field changed. -/
def withField (s : State) (page : Nat) (f : Fld) (v : Nat) : Nat := withBits (s.rd (addrOf page f)).toNat f.hi f.lo v

/-- A write that changes one field of a register, the others written back as they read. -/
def writeField (s : State) (o : Origin) (page : Nat) (f : Fld) (v : Nat) : State :=
  writeOf s o page f.off (withField s page f v)

end Sys2Proof.Machine
end

