-- ==== Sys2Proof/Machine/Bringup.lean ====
section
/-! DEFINITION. Commands of bring-up and resets (chapter 3): supply, self-test, clock qualification, PLL, OTP, join, and
the warm and cold resets. -/

namespace Sys2Proof.Machine

/-! ### Supply (R46, R61) -/

/-- VSYS has risen: a cold reset with POWER_ON, the straps sampled. A backup domain without a supply takes its power-on
values with it (R405, R410). -/
def powerUp (s : State) (strap : Nat) : State :=
  let s := coldBuild { s with powered := true, svc := { s.svc with straps := strap } } 0
  let s := if s.rtc.alive then s else rtcPowerOn s
  s.putb Pg.RTC Reg.RTC.STATUS_ON_VBK false

/-- VSYS has fallen (R46): safety and main state are lost; a Granary page write is torn; the backup domain runs on VBK. -/
def powerDown (s : State) : State :=
  let s := (coldBuild (tearEmergency (abandonCommit s)) 0).resetReg Pg.BACKUP Reg.BACKUP.PATH_STATUS.off
  { (s.putb Pg.RTC Reg.RTC.STATUS_ON_VBK true) with
    log := LogState.init, backup := { s.backup with path := false }, rtc := { s.rtc with trickle := none }, reply := Reply.init }

/-- VSYS_POWER_ON (R46, R47, R72): VSYS comes from the path converter or, with the start latch clear, from the start path
(R382). -/
def execVsysPowerOn (strap : Nat) (s : State) : Out :=
  if s.powered = false ∧ strap < 8 ∧ (s.backup.path = true ∨ s.backup.latch = false) then finishSupply s (powerUp s strap) else .next s

/-- VSYS_POWER_LOSS (R46). -/
def execVsysPowerLoss (s : State) : Out :=
  if s.powered then finishSupply s { powerDown s with powered := false } else .next s

/-- REEVE_SELFTEST_DONE (R46, R48, R49, R71, R382, R401): the OTP safety region, the safety engines ENG.10 and ENG.11
running, the pack decision, REDUCED. A device on an insufficient pack sets its start latch and does not go on. `vbak`: VBAK in mV. -/
def selftestDone (s : State) (pass : Bool) (vbak : Nat) : State :=
  if !pass then { s with svc := { s.svc with selftestFail := true } }
  else
    let s := readRegion s 0
    let s := if otpPass s 0 then loadSafety s
      else putLogged (otpFailed s 0) Org.HW Pg.BACKUP Reg.BACKUP.CHG_CFG_EN 0
    let s := gaugeReseed (setEstate (setEstate s 10 Es.RUNNING) 11 Es.RUNNING) vbak
    let s := packStart s vbak
    if s.backup.latch && !s.backup.path then s else enterReduced s

/-- REEVE_SELFTEST_DONE. -/
def execReeveSelftestDone (pass : Bool) (vbak : Nat) (s : State) : Out :=
  takes s (s.inService Svc.SAFETY_START && !s.svc.selftestFail && !rowWaits s) (fun s => selftestDone s pass vbak)

/-! ### REFCLK and the PLL (R52, R77) -/

/-- Is a measured frequency within ±5 % of the set one (R52)? -/
def khzOk (s : State) (khz : Nat) : Bool :=
  let f := s.get Pg.CLOCK Reg.CLOCK.REFCLK_CFG_FREQ_KHZ
  decide (95 * f ≤ 100 * khz ∧ 100 * khz ≤ 105 * f)



/-- The PLL's lock as CLOCK and CHIP show it. -/
def setPll (s : State) (b : Bool) : State :=
  (s.putb Pg.CLOCK Reg.CLOCK.STATUS_PLL_LOCK b).putb Pg.CHIP Reg.CHIP.STATUS_PLL_LOCK b

/-- REFCLK qualifies, which ends a REFCLK_LOSS episode (R52, R500). -/
def qualify (s : State) (khz : Nat) : State :=
  let s := setQual ((s.putb Pg.CLOCK Reg.CLOCK.STATUS_REFCLK_PRESENT true).put Pg.CLOCK Reg.CLOCK.REFCLK_MEAS_KHZ khz) true
  { s with clock := { s.clock with refEpisode := false } }

/-- Has REFCLK been within tolerance without an excursion for 1 ms, counted from HK3 being qualified (R52), or in holdover for
100 µs (R79)? -/
def refWindow (s : State) : Bool :=
  if s.flag Pg.CLOCK Reg.CLOCK.STATUS_HOLDOVER then decide (s.clock.refUs + 100 ≤ s.rcUs)
  else decide (max s.clock.refUs (rail s 2).qualUs + 1000 ≤ s.rcUs)

/-- REFCLK_QUALIFIED (R52, R79): with HK3 qualified, REFCLK has been within tolerance for its window. -/
def execRefclkQualified (khz : Nat) (s : State) : Out :=
  takes s (s.reducedOrLater && railQual s 2 && !s.flag Pg.CLOCK Reg.CLOCK.STATUS_REFCLK_QUAL && refWindow s && khzOk s khz)
    (fun s => qualify s khz)

/-- MAIN_START_ENTRY (R46, R70). -/
def execMainStartEntry (s : State) : Out :=
  takes s (s.inService Svc.REDUCED && !rowWaits s && s.flag Pg.CHIP Reg.CHIP.STATUS_HK_UP &&
    s.flag Pg.CLOCK Reg.CLOCK.STATUS_REFCLK_QUAL &&
    (s.flag Pg.CHIP Reg.CHIP.START_CFG_AUTO_FULL || s.flag Pg.CHIP Reg.CHIP.STATUS_GO_PENDING))
    (fun s => (s.putb Pg.CHIP Reg.CHIP.STATUS_GO_PENDING false).enter Svc.MAIN_START)

/-- PLL_LOCKED (R77, R500). -/
def execPllLocked (s : State) : Out :=
  takes s (s.inService Svc.MAIN_START && !s.flag Pg.CLOCK Reg.CLOCK.STATUS_PLL_LOCK)
    (fun s => { setPll s true with clock := { s.clock with pllEpisode := false } })

/-- PLL_UNLOCK with an address, once per episode (R500). -/
def raisePll (s : State) (a : Nat) : State :=
  if s.clock.pllEpisode then s
  else raise { s with clock := { s.clock with pllEpisode := true } } Pg.CLOCK Kind.PLL_UNLOCK a

/-- REFCLK_LOSS with an address, once per episode (R500). -/
def raiseRef (s : State) (a : Nat) : State :=
  if s.clock.refEpisode then s
  else raise { s with clock := { s.clock with refEpisode := true } } Pg.CLOCK Kind.REFCLK_LOSS a

/-- PLL_LOCK_TIMEOUT (R77): a main-domain restart. -/
def execPllLockTimeout (s : State) : Out :=
  takes s (s.inService Svc.MAIN_START && !s.flag Pg.CLOCK Reg.CLOCK.STATUS_PLL_LOCK) (fun s => mainRestart (raisePll s 1))

/-! ### OTP and engines (R54, R55, R273, R274, R426, R427) -/

/-- The outcome of one region's check. -/
def regionChecked (s : State) (r : Nat) : State :=
  let s := readRegion s r
  if otpPass s r then s.putBit Pg.CHIP Reg.CHIP.STATUS_OTP_FAIL r false else otpFailed s r

/-- One used entry of CUSTOMER (R427): it replaces the reset value of a main-domain register, or is ignored and counted. -/
def customerEntry (s : State) (e : Nat) : State :=
  let w := otpWord s (0xE0 + 2 * e)
  let v := otpWord s (0xE1 + 2 * e)
  let page := bitsOf w 25 16
  let off := bitsOf w 9 0
  if bitOf w 31 = false then s
  else
    let fs := fieldsAt page off
    let old := (s.rd (page * 0x400 + off)).toNat
    let k := (pageKind page).getD .recipe
    let new := settled k page off old (storedWord fs old v)
    let ok := pageIsMain page && decide ((pageKind page).isSome ∧ k ≠ .recipe ∧ off % 4 = 0 ∧ off ≠ 0x020) &&
      fs.any (fun f => decide (f.acc = .rw ∨ f.acc = .rwl)) && !readOnly k page off fs && !factoryField k off &&
      rangesOk fs new && pageRange s ⟨Org.HW, page, k, off, old, new, 0, v⟩ &&
      (!decide (0x014 ≤ off ∧ off ≤ 0x01C) || severityOk k ((off - 0x014) / 4) (storedWord fs old v))
    if !ok then s.bump Pg.OTP Reg.OTP.CUST_IGNORED
    else if s.svc.freshStart then s.wr (page * 0x400 + off) (BitVec.ofNat 32 new)
    else s

/-- Every entry of CUSTOMER, where its region passes: in a start from reset values each takes effect, in any start the
ignored ones are counted. -/
def customerDefaults (s : State) : State := if otpPass s 4 then (List.range 15).foldl customerEntry s else s

/-- The OTP regions of MAIN_START (R54, R55). CHAN_INHIBIT ends where every region passes after a restart. -/
def otpLoaded (s : State) : State :=
  let s := [1, 2, 3, 4].foldl regionChecked s
  let s := loadTrim s (otpPass s 1)
  let s := if otpPass s 2 then loadIdentity s else s
  let s := customerDefaults (loadPatches s (otpPass s 3))
  let s := if s.svc.restarted && (List.range 5).all (otpPass s) then s.putb Pg.CHIP Reg.CHIP.STATUS_CHAN_INHIBIT false else s
  s.putb Pg.CHIP Reg.CHIP.STATUS_OTP_LOADED true

/-- OTP_LOAD_DONE (R54). -/
def execOtpLoadDone (s : State) : Out :=
  takes s (s.inService Svc.MAIN_START && s.flag Pg.CLOCK Reg.CLOCK.STATUS_PLL_LOCK &&
    !s.flag Pg.CHIP Reg.CHIP.STATUS_OTP_LOADED) otpLoaded

/-- The transit role taken at an entry to JOINING (R56, R87): 1 source. -/
def joinRole (s : State) : Bool :=
  let r := s.get Pg.TRANSIT Reg.TRANSIT.CTRL_ROLE
  decide (r = 1) || (decide (r = 0) && decide (s.strap = 0))

/-- Entry to JOINING (R46, R444): the Granary's records where this start follows a loss, the main engines of the member
running (R19), the transit role. An engine that is DEAD stays so (R277). -/
def joinStart (s : State) : State :=
  let s := if s.gran.loadNeeded then granaryLoad s else startCommit s
  let s := s.putb Pg.CHIP Reg.CHIP.STATUS_ENGINES_UP true
  let s := forIdx 10 s (fun s e => if !s.engPresent e then s else if estate s e = Es.DEAD then refreshSuspended s e else refreshSuspended (setEstate s e Es.RUNNING) e)
  let s := s.putb Pg.TRANSIT Reg.TRANSIT.STATUS_ROLE_ACTIVE (joinRole s)
  s.enter Svc.JOINING

/-- ENGINES_BOOTED (R46). -/
def execEnginesBooted (s : State) : Out :=
  takes s (s.inService Svc.MAIN_START && !rowWaits s && s.flag Pg.CHIP Reg.CHIP.STATUS_OTP_LOADED) joinStart

/-- TRANSIT_WAIT_TIMEOUT (R57): once per join. -/
def execTransitWaitTimeout (s : State) : Out :=
  takes s (s.inService Svc.JOINING && !isSource s && !s.flag Pg.TRANSIT Reg.TRANSIT.STATUS_ALIGNED && !s.transit.waitRaised)
    (fun s => raise { s with transit := { s.transit with waitRaised := true } } Pg.TRANSIT Kind.TRANSIT_SKEW 0)

/-! ### Resets (R62 to R67) -/

/-- RESET_CMD_WARM (R62): a RESET_CMD write with the key and CMD WARM. -/
def execResetCmdWarm (o : Origin) (s : State) : Out :=
  takes s true (fun s => writeOf s o Pg.CHIP 0x048 0x5E7A0001)

/-- May RESET_CMD be taken from an origin: the host port, of a device past its self-test (R50, R72)? -/
def coldAccepted (s : State) (o : Origin) : Bool := s.powered && decide (o = .host) && reachable s (Pg.CHIP * 0x400 + 0x048)

/-- RESET_CMD_COLD (R67): the frame in progress is closed with its readings and its length in core cycles. From another
origin the write meets the rules of RESET_CMD. -/
def execResetCmdCold (o : Origin) (f : FrameIn) (len : Nat) (s : State) : Out :=
  takes s true (fun s =>
    if coldAccepted s o then
      let s := logChange s Org.HOST Pg.CHIP 0x048 0 0x5E7A0002
      if s.svc.coldPend then s else coldCommand s f len
    else writeOf s o Pg.CHIP 0x048 0x5E7A0002)

/-- COLD_RESET_EXECUTE (R67, R72). -/
def execColdResetExecute (s : State) : Out :=
  takes s (s.powered && s.svc.coldPend) (fun s => coldBuild (allRailsOff s Org.HW) 1)

/-- WARM_RESET_ENTRY (R66, R218): once no Granary page write is in progress. -/
def execWarmResetEntry (f : FrameIn) (len : Nat) (s : State) : Out :=
  match s.svc.warmPend with
  | some bit => takes s (s.powered && s.gran.busy.isNone && !s.svc.coldPend) (fun s => warmEntry s bit f len)
  | none => .next s

/-- MAIN_RESET_COMPLETE (R46). -/
def execMainResetComplete (s : State) : Out :=
  takes s (s.inService Svc.WARM_RESET && !rowWaits s) (fun s =>
    let s := s.bump Pg.CHIP Reg.CHIP.WARM_COUNT
    if s.flag Pg.CLOCK Reg.CLOCK.STATUS_REFCLK_QUAL then s.enter Svc.MAIN_START else enterReduced s)

/-- CHIP_GO (R70): a write of CONTROL.GO. -/
def execChipGo (o : Origin) (s : State) : Out := takes s true (fun s => writeOf s o Pg.CHIP 0x04C 1)

end Sys2Proof.Machine
end

