-- ==== Sys2Proof/Machine/ClockCmd.lean ====
section
/-! DEFINITION. Commands of the clocks and the transit (chapter 4). -/

namespace Sys2Proof.Machine

/-! ### Holdover (R77 to R80, R500) -/

/-- The PLL enters holdover. -/
def enterHoldover (s : State) : State :=
  if s.flag Pg.CLOCK Reg.CLOCK.STATUS_HOLDOVER then s
  else
    let s := (s.putb Pg.CLOCK Reg.CLOCK.STATUS_HOLDOVER true).event Pg.CLOCK 0
    let s := setPll (s.bump Pg.CLOCK Reg.CLOCK.HOLD_COUNT) false
    { s with clock := { s.clock with holdStartUs := s.rcUs }, rtc := { s.rtc with measLost := true } }

/-- HOLD_MAX at the end of a holdover, in µs of the RC oscillator; a holdover that a main-domain loss or another warm reset
cuts short is not counted (DESIGN CHOICE, log entry 97). -/
def noteHoldover (s : State) : State :=
  s.put Pg.CLOCK Reg.CLOCK.HOLD_MAX (max (s.get Pg.CLOCK Reg.CLOCK.HOLD_MAX) (satNat 32 (s.rcUs - s.clock.holdStartUs)))

/-- REFCLK is lost (R46, R53, R77, R500). -/
def refclkLost (s : State) (khz : Option Nat) : State :=
  let was := s.flag Pg.CLOCK Reg.CLOCK.STATUS_REFCLK_QUAL
  let s := (s.putb Pg.CLOCK Reg.CLOCK.STATUS_REFCLK_PRESENT khz.isSome).put Pg.CLOCK Reg.CLOCK.REFCLK_MEAS_KHZ (satNat 16 (khz.getD 0))
  let s := setQual { s with clock := { s.clock with refUs := s.rcUs } } false
  if s.full then raiseRef (enterHoldover s) 0
  else if s.service = Svc.MAIN_START ∨ s.service = Svc.JOINING then mainRestart (raiseRef s 1)
  else if was then raiseRef s 2
  else s

/-- REFCLK_LOSS (R77): `khz` the measured frequency, none without an edge. -/
def execRefclkLoss (khz : Option Nat) (s : State) : Out :=
  takes s (s.reducedOrLater && (match khz with
    | none => true
    | some k => !khzOk s k)) (fun s => refclkLost s khz)

/-- PLL_UNLOCK (R77): of a PLL that has locked. -/
def execPllUnlock (s : State) : Out :=
  takes s (s.powered && s.flag Pg.CLOCK Reg.CLOCK.STATUS_PLL_LOCK &&
      decide (s.service = Svc.MAIN_START ∨ s.service = Svc.JOINING ∨ s.service = Svc.FULL)) (fun s =>
    if s.full then raisePll (enterHoldover s) 0 else mainRestart (raisePll (setPll s false) 1))

/-- HOLDOVER_END (R79, R500): the PLL has re-locked to a qualified REFCLK. -/
def execHoldoverEnd (s : State) : Out :=
  takes s (s.full && s.flag Pg.CLOCK Reg.CLOCK.STATUS_HOLDOVER && s.flag Pg.CLOCK Reg.CLOCK.STATUS_REFCLK_QUAL) (fun s =>
    let s := setPll (((noteHoldover s).putb Pg.CLOCK Reg.CLOCK.STATUS_HOLDOVER false).event Pg.CLOCK 1) true
    { s with clock := { s.clock with pllEpisode := false } })

/-- Has the holdover lasted CLOCK:HOLDOVER.LIMIT_MS, in µs of the RC oscillator (R80)? -/
def holdoverOver (s : State) : Bool :=
  decide (s.clock.holdStartUs + 1000 * s.get Pg.CLOCK Reg.CLOCK.HOLDOVER_LIMIT_MS ≤ s.rcUs)

/-- HOLDOVER_LIMIT_EXPIRY (R80): a warm trigger with WARM_CLOCK. -/
def execHoldoverLimitExpiry (s : State) : Out :=
  takes s (s.full && s.flag Pg.CLOCK Reg.CLOCK.STATUS_HOLDOVER && holdoverOver s) (fun s => warmTrigger (noteHoldover s) 4)

/-! ### The transit -/

/-- FRAME_BOUNDARY (R92). -/
def execFrameBoundary (f : FrameIn) (s : State) : Out := takes s true (fun s => frameBoundary s f)

/-- TRANSIT_EDGE (R56, R85): `t` counts core cycles, at an aligned follower from its present boundary, else from the edge
before. -/
def execTransitEdge (t : Int) (s : State) : Out :=
  takes s ((s.full || s.inService Svc.JOINING) && !isSource s) (fun s =>
    if s.flag Pg.TRANSIT Reg.TRANSIT.STATUS_ALIGNED then matchEdge s t else alignEdge s t)

/-- TRANSIT_MATCH_WINDOW_CLOSE (R89): a quarter of a period after the present boundary. -/
def execTransitMatchWindowClose (s : State) : Out :=
  takes s (s.full && !isSource s && s.flag Pg.TRANSIT Reg.TRANSIT.STATUS_ALIGNED) closeMatch

/-- A source's reading of its own edge (R88): 2 frames in a row at the opposite level are contention. -/
def contentionCheck (s : State) (opposite : Bool) : State :=
  let n := if opposite then s.transit.contention + 1 else 0
  let s := { s with transit := { s.transit with contention := n } }
  if n = 2 then raiseSkew (s.putb Pg.TRANSIT Reg.TRANSIT.STATUS_CONTENTION true) 3 else s

/-- TRANSIT_CONTENTION_CHECK (R88). -/
def execTransitContentionCheck (opposite : Bool) (s : State) : Out :=
  takes s (s.full && isSource s) (fun s => contentionCheck s opposite)

/-- TRANSIT_MARK (R84): a write of MARK. -/
def execTransitMark (o : Origin) (s : State) : Out := takes s true (fun s => writeOf s o Pg.TRANSIT 0x068 1)

/-- TRANSIT_PERIOD_WRITE (R82): a write of CTRL with PERIOD `value`. -/
def execTransitPeriodWrite (o : Origin) (value : Nat) (s : State) : Out :=
  takes s (decide (value < 4)) (fun s => writeField s o Pg.TRANSIT Reg.TRANSIT.CTRL_PERIOD value)

end Sys2Proof.Machine
end

