-- ==== Sys2Proof/Machine/EngineCmd.lean ====
section
/-! DEFINITION. Commands of the engines and their supervision (chapter 10). -/

namespace Sys2Proof.Machine

/-- Does engine `e` exist and execute in a device past its self-test? -/
def engLive (s : State) (e : Nat) : Bool := s.reducedOrLater && decide (e < 12) && engRuns s e

/-- CYCLES_LAST and CYCLES_MAX of an engine as it posts a heartbeat; how many cycles its work took the spec does not state:
a free value (log entry 72). -/
def showCycles (s : State) (e : Nat) : State :=
  let f := s.fresh
  let n := (Config.engineCycles f.1).toNat
  (f.2.put (Pg.ENG e) Reg.ENG.CYCLES_LAST n).put (Pg.ENG e) Reg.ENG.CYCLES_MAX (max n (f.2.get (Pg.ENG e) Reg.ENG.CYCLES_MAX))

/-- A heartbeat: of a main engine with the number of its frame; of ENG.10 in its sequencer slot (R275, R276). ENG.10 and
ENG.11 count theirs in HEARTBEAT (*ENG function registers*). -/
def postBeat (s : State) (e n : Nat) : State :=
  let s := showCycles s e
  if e < 10 then (s.setEng e { s.eng e with beat := some (n % 2 ^ 32) }).put (Pg.ENG e) Reg.ENG.HEARTBEAT (n % 2 ^ 32)
  else
    let s := s.bumpWrap (Pg.ENG e) Reg.ENG.HEARTBEAT
    if e = 10 then s.setEng 10 { s.eng 10 with slotMiss := 0 } else s

/-- HEARTBEAT_POSTED (R275). -/
def execHeartbeatPosted (e n : Nat) (s : State) : Out := takes s (engLive s e) (fun s => postBeat s e n)

/-- An engine stops within a frame or a slot. With ENG.10 stopped, pack charging is suspended (R285). -/
def haltEngine (s : State) (e cause : Nat) : State :=
  let s := stopEngine s e cause
  if e = 10 then refreshCharge s else s

/-- ENGINE_RAM_ERROR (R276): cause 0x2. -/
def execEngineRamError (e : Nat) (s : State) : Out := takes s (engLive s e) (fun s => haltEngine s e 2)

/-- ENGINE_TRAP (R276): cause 0x3. -/
def execEngineTrap (e : Nat) (s : State) : Out := takes s (engLive s e) (fun s => haltEngine s e 3)

/-- ENG10_SLOT_HEARTBEAT_MISS (R276): cause 0x7 at the end of the second slot without a heartbeat, the miss of which is counted
here (`slotTick` counts the first). -/
def execEng10SlotHeartbeatMiss (s : State) : Out :=
  takes s (engLive s 10 && decide (2 ≤ (s.eng 10).slotMiss)) (fun s =>
    haltEngine (if (s.eng 10).slotMiss = 2 then s.bump (Pg.ENG 10) Reg.ENG.MISSED else s) 10 7)

/-- REEVE_WATCHDOG_EXPIRY (R286): cause 0x8, a missed deadline of the Reeve. -/
def execReeveWatchdogExpiry (s : State) : Out :=
  takes s (engLive s 11) (fun s => haltEngine (s.bump (Pg.ENG 11) Reg.ENG.MISSED) 11 8)

/-- ENGCTL_STOP (R283): an ENGCTL:CMD write with the key and OP STOP. -/
def execEngctlStop (o : Origin) (e : Nat) (s : State) : Out :=
  takes s (decide (e < 16)) (fun s => writeOf s o Pg.ENGCTL 0x054 (0x6B1D0100 + e))

/-- ENGCTL_RESTART (R282): an ENGCTL:CMD write with the key and OP RESTART. -/
def execEngctlRestart (o : Origin) (e : Nat) (s : State) : Out :=
  takes s (decide (e < 16)) (fun s => writeOf s o Pg.ENGCTL 0x054 (0x6B1D0200 + e))

/-- The sequencer's engine has restarted (R285): pack charging may go on, and each qualification window that was open starts
again. -/
def sequencerBack (s : State) : State :=
  let s := refreshCharge s
  (List.range 4).foldl (fun s r =>
    if s.flag Pg.HKRAIL (Reg.HKRAIL.STATUS_PG.ix r) && !railQual s r then setRail s r { rail s r with winUs := s.rcUs } else s) s

/-- ENGINE_RESTART_DONE (R277): the outcome of the restart's RAM test. -/
def execEngineRestartDone (e : Nat) (ramOk : Bool) (s : State) : Out :=
  takes s (s.reducedOrLater && decide (e < 12) && (s.eng e).restarting) (fun s =>
    let s := restartDone s e ramOk
    if e = 10 then sequencerBack s else s)

/-- Is bank `b` still in HOLD at its limit (R281)? -/
def holdOver (s : State) (b : Nat) : Bool :=
  match (s.eng b).holdAt with
  | some h => decide (h + (s.eng b).holdLimit ≤ s.frame)
  | none => false

/-- HOLD_LIMIT_EXPIRY (R281, R287). -/
def execHoldLimitExpiry (b : Nat) (s : State) : Out :=
  takes s (s.full && decide (b < 8) && holdOver s b && reeveRuns s) (fun s =>
    if s.getf Pg.ENGCTL Reg.ENGCTL.CFG_WARM_ON_UNCARRIED = 1 then
      warmTrigger (holdEnds s b (bankInHold s b)) 5
    else holdExpired s b (s.get Pg.TRANSIT Reg.TRANSIT.LAST_LEN_CYCLES))

/-- BANK_HANDBACK (R282). -/
def execBankHandback (b : Nat) (s : State) : Out :=
  takes s (s.full && decide (b < 8) && (s.eng b).handback && (s.eng b).takeover.isNone && engRuns s b && reeveRuns s) (fun s => handBack s b)

end Sys2Proof.Machine
end

