-- ==== Sys2Proof/Machine/PhaseCmd.lean ====
section
/-! DEFINITION. Commands of the power stage (chapter 5): switching cycles, the fast limit, drop-out causes, balancing, and
the start of a stage. What happens within a switching cycle is the sender's: a cycle starts, IMON crosses a threshold. -/

namespace Sys2Proof.Machine

/-- SWITCHING_CYCLE (R106). -/
def execSwitchingCycle (p : Nat) (imonOut : Bool) (s : State) : Out :=
  takes s (s.full && decide (p < 64)) (fun s => switchCycle s p imonOut)

/-- May phase `p` trip positively: it switches and PWM is HIGH (R107)? -/
def mayTripPos (s : State) (p : Nat) : Bool := s.full && decide (p < 64 ∧ (s.phase p).switching ∧ (s.phase p).pwm = .high)

/-- May phase `p` trip negatively: it switches and PWM is MID (R108)? PWM leaves HIGH for MID within each cycle, so HIGH
stands only where a negative trip has driven it there until the end of the cycle (log entry 26). -/
def mayTripNeg (s : State) (p : Nat) : Bool :=
  let x := s.phase p
  s.full && decide (p < 64 ∧ x.switching ∧ x.pwm ≠ .low) && !(x.cycTrip && !x.runPos && decide (x.pwm = .high))

/-- FAST_LIMIT_POS_TRIP (R107). -/
def execFastLimitPosTrip (p : Nat) (s : State) : Out := takes s (mayTripPos s p) (fun s => noteTrip s p true)

/-- FAST_LIMIT_NEG_TRIP (R108). -/
def execFastLimitNegTrip (p : Nat) (s : State) : Out := takes s (mayTripNeg s p) (fun s => noteTrip s p false)

/-- OC_FAST_RUN (R110): cause 1 with address 0x00 for a run that a positive trip completes, cause 2 with 0x01 for a
negative one. -/
def execOcFastRun (p : Nat) (s : State) : Out :=
  takes s (s.full && decide (p < 64) && runCause s p && mayDrop s p (if (s.phase p).runPos then 1 else 2)) (fun s =>
    if (s.phase p).runPos then dropOut s p 1 Kind.OC_FAST 0 else dropOut s p 2 Kind.OC_FAST 1)

/-- IMON_OUT_OF_RANGE (R101): cause 3. -/
def execImonOutOfRange (p : Nat) (s : State) : Out :=
  takes s (s.full && decide (p < 64) && rangeCause s p && mayDrop s p 3) (fun s => dropOut s p 3 Kind.OC_FAST 2)

/-- SLOW_LIMIT_TRIP (R113): cause 5. -/
def execSlowLimitTrip (p : Nat) (s : State) : Out :=
  takesAtBoundary s (s.full && decide (p < 64) && slowCause s p && mayDrop s p 5) (fun s => dropOut s p 5 Kind.OC_SLOW 0)

/-- The mean IMON current of the frame last ended, in mA. -/
def lastImon (s : State) (p : Nat) : Int := (s.phase p).imons.getLastD 0

/-- Is the observation of a channel complete and balancing not yet started (R114)? -/
def observed (s : State) (c : Nat) : Bool :=
  balances s c && decide (64 ≤ (s.chan c).framesSwitching) && !(s.chan c).balStarted

/-- BALANCING_OBSERVATION_DONE (R114, R116): BAL_ACTIVE, EVENT.BAL_START, and the first balancing step. -/
def execBalancingObservationDone (c : Nat) (s : State) : Out :=
  takes s (s.full && decide (c < 32) && observed s c) (fun s =>
    balancePass s c (lastImon s (2 * c)) (lastImon s (2 * c + 1)))

/-- Is the zero capture of channel `c` due: its lead is in CONNECT, at most 17 µs have passed since the connect boundary, and
the zero is not captured (R124)? -/
def zeroDue (s : State) (c : Nat) : Bool :=
  let x := s.chan c
  s.full && decide (c < 32 ∧ s.cstate (s.lead c) = Ch.CONNECT ∧ x.connCyc ≤ 3400) && !x.zeroDone

/-- IMON_ZERO_CAPTURE (R124): each phase captures its zero; a phase in service with a zero outside 1.15 to 1.25 V drops
out. -/
def execImonZeroCapture (c : Nat) (rawA rawB : Int) (s : State) : Out :=
  takes s (zeroDue s c) (fun s =>
    let s := s.setChan c { s.chan c with zeroDone := true }
    dropZeros (captureZero (captureZero s (2 * c) rawA) (2 * c + 1) rawB) c)

/-- ISO_DRIVE_HIGH (R124): 20 µs after the connect boundary, 4000 core cycles, with the zeros captured. -/
def execIsoDriveHigh (c : Nat) (s : State) : Out :=
  takes s (s.full && decide (c < 32 ∧ s.cstate (s.lead c) = Ch.CONNECT ∧ (s.chan c).zeroDone) && !(s.chan c).iso) (fun s =>
    let x := s.chan c
    let s := s.setChan c { x with iso := true, isoAny := true, isoCyc := some (max x.connCyc 4000) }
    s.putb (Pg.PHASE (2 * c)) Reg.PHASE.STATUS_ISO_CMD true)

end Sys2Proof.Machine
end

