-- ==== Sys2Proof/Machine/ChanCmd.lean ====
section
/-! DEFINITION. Commands of the channels (chapter 6): writes of their control registers, cell commits, and the channel
faults that are events of their own. -/

namespace Sys2Proof.Machine

/-- CHAN_ENABLE (R143): a write of CONTROL with ENABLE = 1. -/
def execChanEnable (o : Origin) (c : Nat) (s : State) : Out :=
  takes s (decide (c < 32)) (fun s => writeField s o (Pg.CHAN c) Reg.CHAN.CONTROL_ENABLE 1)

/-- CHAN_DISABLE (R155): a write of CONTROL with ENABLE = 0, or with MODE OFF. -/
def execChanDisable (o : Origin) (c : Nat) (byMode : Bool) (s : State) : Out :=
  takes s (decide (c < 32)) (fun s =>
    if byMode then writeField s o (Pg.CHAN c) Reg.CHAN.CONTROL_MODE 0
    else writeField s o (Pg.CHAN c) Reg.CHAN.CONTROL_ENABLE 0)

/-- CHAN_MODE_WRITE (R138). -/
def execChanModeWrite (o : Origin) (c mode : Nat) (s : State) : Out :=
  takes s (decide (c < 32 ∧ mode < 16)) (fun s => writeField s o (Pg.CHAN c) Reg.CHAN.CONTROL_MODE mode)

/-- CHAN_RESUME (R160): a write of CONTROL with RESUME = 1. -/
def execChanResume (o : Origin) (c : Nat) (s : State) : Out :=
  takes s (decide (c < 32)) (fun s => writeField s o (Pg.CHAN c) Reg.CHAN.CONTROL_RESUME 1)

/-- CHAN_GANG_WRITE (R163). -/
def execChanGangWrite (o : Origin) (c size : Nat) (s : State) : Out :=
  takes s (decide (c < 32 ∧ size < 4)) (fun s => writeField s o (Pg.CHAN c) Reg.CHAN.GANG_SIZE size)

/-- CELL_COMMIT (R167): a write of CELL_CMD with COMMIT = 1. -/
def execCellCommit (o : Origin) (c : Nat) (s : State) : Out :=
  takes s (decide (c < 32)) (fun s => writeOf s o (Pg.CHAN c) 0x0B0 1)

/-- MATE_RESET (R170): a write of CELL_CMD with MATE_RESET = 1 and a key. -/
def execMateReset (o : Origin) (c key : Nat) (s : State) : Out :=
  takes s (decide (c < 32 ∧ key < 65536)) (fun s => writeOf s o (Pg.CHAN c) 0x0B0 (key * 65536 + 2))

/-- CHANNEL_SHORT_RAMP (R147): 32 consecutive tripped cycles during the ramp, in a mode other than ZV. In a gang the lead's
page sends the message, whichever channel's phases tripped (DESIGN CHOICE: log entry 81). -/
def execChannelShortRamp (c : Nat) (s : State) : Out :=
  takes s (s.full && decide (c < 32 ∧ s.cstate c = Ch.RUN ∧ s.cmode (s.lead c) ≠ Mode.ZV ∧ 32 ≤ (s.chan c).tripRun) &&
      (s.chan (s.lead c)).growing)
    (fun s => chanSafe (raise s (Pg.CHAN (s.lead c)) Kind.CHANNEL_SHORT 0) (s.lead c) 1 4)

/-- CHANNEL_SHORT_ZV (R148): 200 ms of frames with the cell at 0 V and the ZV current. -/
def execChannelShortZv (c : Nat) (s : State) : Out :=
  takesAtBoundary s (s.full && decide (c < 32) && zvShort s (s.lead c)) (fun s => shortChan s (s.lead c))

/-- PROBE_RESISTANCE_WEAR (R169). -/
def execProbeResistanceWear (c : Nat) (s : State) : Out :=
  takesAtBoundary s (s.full && decide (c < 32)) (fun s => probeWear s c)

/-- A mating count not yet committed, with no commit of it waiting or open (R171). -/
def mateWaits (s : State) : Bool :=
  !commitOpen s 0x05 && (List.range 32).any (fun c => s.flag (Pg.CHAN c) Reg.CHAN.MATE_STATUS_PENDING)

/-- MATE_RECORD_RETRY (R171): 1 s after its refusal the commit of the mating record is requested again. -/
def execMateRecordRetry (s : State) : Out :=
  takes s (s.powered && mateWaits s && decide (s.gran.mateUs + 1000000 ≤ s.rcUs)) (fun s => requestCommit s 0x05 (.words (mateCounts s)))

end Sys2Proof.Machine
end

