-- ==== Sys2Proof/Machine/BankCmd.lean ====
section
/-! DEFINITION. Commands of the measurement banks (chapter 7): background calibration, slice failures, the trackers and
snapshots, and the housekeeping converter with the thermal shutdown. -/

namespace Sys2Proof.Machine

/-- CAL_STEP_START (R180, R189): the overlap frame has ended, its cross-check is made and the duty is handed over. -/
def execCalStepStart (b : Nat) (s : State) : Out :=
  takesAtBoundary s (s.full && decide (b < 8) && (s.bank b).handoverDue) (fun s => handOver s b)

/-- Has the roving slice of a bank run through its calibration step (R187)? -/
def calDue (s : State) (b : Nat) : Bool :=
  let bs := s.bank b
  bs.calRunning && bs.rover.isSome && decide (202 ≤ bs.stepFrame)

/-- CAL_DONE (R188): the sums of the step's three measurements give the trims, which are checked. -/
def execCalDone (b : Nat) (cal : CalIn) (s : State) : Out :=
  takesAtBoundary s (s.full && decide (b < 8) && calDue s b) (fun s => calFinish s b ((s.bank b).rover.getD 0) cal)

/-- SLICE_FAILURE (R190): a monitor flags a slice in the present frame. It delivers no sample for the frame and is retired at
the boundary that latches it. -/
def execSliceFailure (b k : Nat) (s : State) : Out :=
  takes s (s.full && decide (b < s.bankCount ∧ k < 10) && !sliceRetired s b k && !(s.bank b).flagged.contains k) (fun s =>
    s.setBank b { s.bank b with flagged := (s.bank b).flagged ++ [k] })

/-- CAL_ENABLE_WRITE (R184): a CAL_CFG write. -/
def execCalEnableWrite (o : Origin) (b value : Nat) (s : State) : Out :=
  takes s (decide (b < 8)) (fun s => writeOf s o (Pg.BANK b) 0x040 value)

/-- RETIRE_CLR (R192). -/
def execRetireClr (o : Origin) (b mask : Nat) (s : State) : Out :=
  takes s (decide (b < 8)) (fun s => writeOf s o (Pg.BANK b) 0x3F0 mask)

/-- TRACKER_CLR_V (R199): CMD.CLR_V of the block of channel `c`. -/
def execTrackerClrV (o : Origin) (c : Nat) (s : State) : Out :=
  takes s (decide (c < 32)) (fun s => writeOf s o (Pg.BANK (c / 4)) (0x088 + 64 * (c % 4)) 1)

/-- TRACKER_CLR_I (R199): CMD.CLR_I of the block of channel `c`. -/
def execTrackerClrI (o : Origin) (c : Nat) (s : State) : Out :=
  takes s (decide (c < 32)) (fun s => writeOf s o (Pg.BANK (c / 4)) (0x088 + 64 * (c % 4)) 2)

/-- BUS_TRACKER_CLR (R199). -/
def execBusTrackerClr (o : Origin) (b : Nat) (s : State) : Out :=
  takes s (decide (b < 8)) (fun s => writeOf s o (Pg.BANK b) 0x188 1)

/-- BANK_STATUS_SNAPSHOT_READ (R200): a read of STATUS of the block of cell `k`, or with 4 of the bus block. -/
def execBankStatusSnapshotRead (o : Origin) (b k : Nat) (s : State) : Out :=
  takes s (decide (b < 8 ∧ k < 5)) (fun s => readOf s o (Pg.BANK b) (if k < 4 then 0x08C + 64 * k else 0x18C))

/-- HK_CONVERTER_SLOT (R204): the next of 48 slots is converted. -/
def execHkConverterSlot (raw : Int) (s : State) : Out :=
  takes s s.reducedOrLater (fun s =>
    convResult { s with hk := { s.hk with conv := (s.hk.conv + 1) % 48 } } (s.hk.conv % 48) raw)

/-- THERMAL_SHUTDOWN (R495): OT_DIE 0x01 at S5, and every rail off in FAULTED. -/
def execThermalShutdown (s : State) : Out :=
  takes s s.powered thermalTrip

end Sys2Proof.Machine
end

