-- ==== Sys2Proof/Machine/LedgerCmd.lean ====
section
/-! DEFINITION. Commands of the charge ledger (chapter 8): checkpoints, clears, snapshots and the balance window. -/

namespace Sys2Proof.Machine

/-- The due boundary of the PERIODIC checkpoint (R221): INTERVAL × 1,000 frames after the boundary of the newest committed
one; where a restore has set the frame number beyond it, the frame it was set to (log entry 84). -/
def dueFrame (s : State) : Nat :=
  let n := s.get64 Pg.LEDGER Reg.LEDGER.CKPT_FRAME_LO Reg.LEDGER.CKPT_FRAME_HI +
    s.getf Pg.LEDGER Reg.LEDGER.CKPT_CFG_INTERVAL * 1000
  if n < s.ledger.startFrame then s.ledger.startFrame else n

/-- Is a checkpoint due at boundary `n` with none requested, waiting or in progress? -/
def ckptDue (s : State) (n : Nat) : Bool :=
  s.full && decide (dueFrame s ≤ n) && s.ledger.pendingReasons.isEmpty && !commitOpen s 0x01

/-- PERIODIC_CHECKPOINT (R221). -/
def execPeriodicCheckpoint (s : State) : Out :=
  takes s (ckptDue s s.frame) (fun s => requestCkpt s (makeCkpt s 1 s.frame))

/-- CHECKPOINT_LATE (R221): 1,024 frames after its due boundary, once. -/
def execCheckpointLate (s : State) : Out :=
  takes s (s.full && decide (dueFrame s + 1024 ≤ s.frame) && !s.ledger.late) (fun s =>
    let s := { s with ledger := { s.ledger with late := true } }
    raise (s.putb Pg.LEDGER Reg.LEDGER.STATUS_CKPT_LATE true) Pg.LEDGER Kind.LEDGER_IMBALANCE 0x40)

/-- CKPT_NOW (R220): a CMD write with CKPT_NOW = 1. -/
def execCkptNow (o : Origin) (s : State) : Out := finish s (writeOf s o Pg.LEDGER 0x044 2)

/-- LEDGER_SNAP (R232): a CMD write with SNAP = 1. -/
def execLedgerSnap (o : Origin) (s : State) : Out := finish s (writeOf s o Pg.LEDGER 0x044 1)

/-- CLR_RUN (R214): an ACC_CMD write with CLR_RUN = 1. -/
def execClrRun (o : Origin) (c : Nat) (s : State) : Out :=
  takes s (decide (c < 32)) (fun s => writeOf s o (Pg.CHAN c) 0x154 1)

/-- BUS_CLR (R230): a BANK_CMD write with BUS_CLR = 1. -/
def execBusClr (o : Origin) (b : Nat) (s : State) : Out :=
  takes s (decide (b < 8)) (fun s => writeOf s o Pg.LEDGER (0x134 + 64 * b) 1)

/-- ACC_SNAP_READ (R231). -/
def execAccSnapRead (o : Origin) (c : Nat) (s : State) : Out :=
  takes s (decide (c < 32)) (fun s => readOf s o (Pg.CHAN c) 0x100)

/-- Does an address hold the LO word of a 64-bit pair of the LEDGER page (R233)? -/
def isLoWord (addr : Nat) : Bool := decide (addr / 0x400 = Pg.LEDGER) && !(latches .ledger (addr % 0x400)).isEmpty

/-- LO_WORD_LATCH_READ (R233). -/
def execLoWordLatchRead (o : Origin) (addr : Nat) (s : State) : Out :=
  takes s (isLoWord addr) (fun s => readOf s o (addr / 0x400) (addr % 0x400))

/-- The OPEN header programmed into the erased slot: a written slot that fails its CRC until its checkpoint completes
(R222). -/
def programOpen (s : State) : State :=
  let k := targetSlot s 1
  let w := programHeld s s.gran.held
  let s := setSlot { w.1 with gran := { w.1.gran with held := w.2 } } 1 k (some ⟨nextSeq s 1, false, .openHeader, w.2, s.rtcSec, none⟩)
  { s with ledger := { s.ledger with openNeeded := false, openSlotErased := false } }

/-- OPEN_CHECKPOINT_HEADER (R222): the header, then the OPEN checkpoint that completes it. -/
def execOpenCheckpointHeader (s : State) : Out :=
  takes s (s.full && s.ledger.openNeeded && s.ledger.openSlotErased) (fun s =>
    let s := programOpen s
    requestCkpt s (makeCkpt s 0 s.frame))

/-- BALANCE_WINDOW_CLOSE (R227, R228). -/
def execBalanceWindowClose (b : Nat) (s : State) : Out :=
  takesAtBoundary s (s.full && decide (b < 8) && windowFull s b) (fun s => closeWindow s b)

end Sys2Proof.Machine
end

