-- ==== Sys2Proof/Machine/RecipeCmd.lean ====
section
/-! DEFINITION. Commands of the step tables (chapter 9): record commits, recipe commands, validation, END_INFO. -/

namespace Sys2Proof.Machine

/-- RECIPE_RECORD_COMMIT_WRITE (R237): a write of the word at offset 0x3C of a record. -/
def execRecipeRecordCommitWrite (o : Origin) (b r value : Nat) (s : State) : Out :=
  takes s (decide (b < 8 ∧ r < 256)) (fun s => writeOf s o (recAddr b r / 0x400) (recAddr b r % 0x400 + 0x3C) value)

/-- RCP_START (R260). -/
def execRcpStart (o : Origin) (c : Nat) (s : State) : Out :=
  takes s (decide (c < 32)) (fun s => writeOf s o (Pg.CHAN c) 0x208 1)

/-- The outcome of a validation (R261, R262): REJECTED with the first failure in list order, or the start of the run at
the next boundary. -/
def endValidation (s : State) (c : Nat) : State :=
  let s := countEcc s c ((List.range (listLen s c)).map (stepRec s c) ++ listZones s c)
  match validate s c with
  | some e => rejectList s c e
  | none => s.setRecipe c { s.recipe c with validated := true }

/-- Is a channel's recipe under validation by an engine that runs (R260)? -/
def validating (s : State) (c : Nat) : Bool :=
  s.full && decide (c < 32) && decide (rstate s c = Rs.VALIDATING) && !(s.recipe c).validated &&
    engRuns s (bankEngine s (c / 4))

/-- RECIPE_VALIDATION_DONE (R261, R262). -/
def execRecipeValidationDone (c : Nat) (s : State) : Out := takes s (validating s c) (fun s => endValidation s c)

/-- RCP_CONTINUE (R251). -/
def execRcpContinue (o : Origin) (c : Nat) (s : State) : Out :=
  takes s (decide (c < 32)) (fun s => writeOf s o (Pg.CHAN c) 0x208 2)

/-- RCP_JUMP (R252). -/
def execRcpJump (o : Origin) (c n : Nat) (s : State) : Out :=
  takes s (decide (c < 32 ∧ n < 64)) (fun s => writeOf s o (Pg.CHAN c) 0x208 (4 + 256 * n))

/-- END_INFO_READ (R271). -/
def execEndInfoRead (o : Origin) (c : Nat) (s : State) : Out :=
  takes s (decide (c < 32)) (fun s => readOf s o (Pg.CHAN c) 0x240)

end Sys2Proof.Machine
end

