-- ==== Sys2Proof/Machine/GradeCmd.lean ====
section
/-! DEFINITION. Commands of grading (chapter 11): tone sets, the ends of measurements, publication, OCV tables. -/

namespace Sys2Proof.Machine

/-- TONE_SET_COMMIT (R295): a SET_CFG write with COMMIT = 1. -/
def execToneSetCommit (o : Origin) (t value : Nat) (s : State) : Out :=
  takes s (decide (t < 4)) (fun s => writeOf s o Pg.ESTIM (0x080 + 4 * t) (withBits value 0 0 1))

/-- May a command of the estimator of a channel's bank act: the bank's estimation is not suspended (R284)? -/
def estimates (s : State) (c : Nat) : Bool := s.full && decide (c < 32) && !s.follower c && !suspended s c

/-- IMPEDANCE_WINDOW_CLOSE (R300): the result of a window that has its m frames is queued. The windows that wait were admitted
at the boundary, in channel order (R310). -/
def execImpedanceWindowClose (c : Nat) (s : State) : Out :=
  takes s (s.full && decide (c < 32) && (s.grade c).closing.isSome) (fun s => closeImp s c)

/-- Publish the oldest queued result of a channel, on its page and in the stream (R292). -/
def publishNext (s : State) (c : Nat) : State :=
  match (s.grade c).results with
  | [] => s
  | r :: rest =>
    let s := publish (s.setGrade c { s.grade c with results := rest }) c r
    createRecord s (resultRecord s c r)

/-- RESULT_PUBLISH (R292). -/
def execResultPublish (c : Nat) (s : State) : Out :=
  takes s (s.full && decide (c < 32) && !(s.grade c).results.isEmpty) (fun s => publishNext s c)

/-- DCIR_PULSE_END (R304): at boundary e + W. -/
def execDcirPulseEnd (c : Nat) (s : State) : Out :=
  takes s (s.full && decide (c < 32) && dcirDone s c) (fun s => closeDcir s c)

/-- OCV_RELAXATION_FIT (R305): at the end of the third block. -/
def execOcvRelaxationFit (c : Nat) (s : State) : Out :=
  takes s (estimates s c && ocvDone s c) (fun s => closeOcv s c)

/-- OCV_TABLE_COMMIT (R309): an OCV_HDR write with a type tag and COMMIT = 1. -/
def execOcvTableCommit (o : Origin) (t tag : Nat) (s : State) : Out :=
  takes s (decide (t < 4 ∧ tag < 65536)) (fun s => writeOf s o Pg.ESTIM (0x180 + 0x60 * t) (tag * 65536 + 1))

/-- RES_SNAP_READ (R313). -/
def execResSnapRead (o : Origin) (c : Nat) (s : State) : Out :=
  takes s (decide (c < 32)) (fun s => readOf s o (Pg.RESULT c) 0x040)

end Sys2Proof.Machine
end

