-- ==== Sys2Proof/Machine/CommonsCmd.lean ====
section
/-! DEFINITION. Commands of the Commons (chapter 12): the trains of a frame, returns, freezing, starving, reissue. -/

namespace Sys2Proof.Machine

/-- RING_TRAIN_ORIGINATE (R325): the keeper's train of the frame goes out on COM_OUT. -/
def execRingTrainOriginate (s : State) : Out :=
  takes s (s.full && isKeeper s && s.commons.tx.isNone) (fun s =>
    { s with commons := { s.commons with tx := some (keeperTrain s) } })

/-- ORPHAN_TRAIN_ORIGINATE (R326). -/
def execOrphanTrainOriginate (s : State) : Out :=
  takes s (s.full && !isKeeper s && !s.commons.sync && s.commons.tx.isNone) (fun s =>
    { s with commons := { s.commons with tx := some (orphanTrain s), origin := true } })

/-- A train of eight slots, in range. -/
def trainShape (hdr : Nat) (slots : List Nat) : Bool :=
  decide (hdr < 2 ^ 32 ∧ slots.length = 8) && slots.all (fun w => decide (w < 2 ^ 58))

/-- Receive a train on COM_IN: kept for the next boundary, and forwarded with the own slot's uplink unless the device is
the keeper, which ends it, or already sends a train of its own (R325). -/
def receiveTrain (s : State) (t : Nat × List Nat) : State :=
  { s with commons := { s.commons with
    sync := true, rx := some t, tx := if isKeeper s || s.commons.tx.isSome then s.commons.tx else some (forwardTrain s t) } }

/-- RING_TRAIN_FORWARD (R325): one train is received in a frame. -/
def execRingTrainForward (hdr : Nat) (slots : List Nat) (s : State) : Out :=
  takes s (s.full && trainShape hdr slots && s.commons.rx.isNone) (fun s => receiveTrain s (hdr, slots))

/-- TOKEN_RETURN (R328): the surplus above need goes into the return purse, and the slot reports it. -/
def execTokenReturn (s : State) : Out :=
  takes s (s.full && returnDue s) (fun s => makeUplink (startReturn s))

/-- RING_FREEZE (R330, R331): the device, the keeper, or both. -/
def execRingFreeze (s : State) : Out :=
  takes s (s.full && (freezeDue s || keeperFreezeDue s)) (fun s =>
    let dev := freezeDue s
    let s := if keeperFreezeDue s then freezeKeeper s else s
    makeUplink (if dev then freezeDevice s else s))

/-- One TOKEN_STARVE episode of a channel (R320). -/
def starve (s : State) (c : Nat) : State :=
  let p := Pg.COMMONS
  let s := { s with commons := { s.commons with starving := c :: s.commons.starving } }
  let s := (s.bump p Reg.COMMONS.STARVE_COUNT).event p 3
  raise s p Kind.TOKEN_STARVE (c + 0x40 * b2n (s.flag p Reg.COMMONS.STATUS_FROZEN))

/-- TOKEN_STARVE_DETECT (R320). -/
def execTokenStarveDetect (c : Nat) (s : State) : Out :=
  takesAtBoundary s (s.full && decide (c < 32) && starveDue s c) (fun s => starve s c)

/-- REISSUE (R334): a REISSUE write. -/
def execReissue (o : Origin) (value : Nat) (s : State) : Out := finish s (writeOf s o Pg.COMMONS 0x110 value)

/-- The reissues whose records are committed take effect in order, as far as each may (R334). -/
def applyReissues (s : State) : State :=
  s.keeper.issueDue.foldl (fun s _ => if reissueReady s then applyReissue s else s) s

/-- REISSUE_APPLY (R334): the boundary after the commit of the commons record. -/
def execReissueApply (s : State) : Out :=
  takes s (s.full && isKeeper s && reissueReady s) applyReissues

end Sys2Proof.Machine
end

