-- ==== Sys2Proof/Machine/FaultCmd.lean ====
section
/-! DEFINITION. Commands of faults and safe states (chapter 13): FAULT_N, clears, severity maps, the message FIFO, the
Crier, factory test mode. -/

namespace Sys2Proof.Machine

/-- FAULT_N_LOW_INPUT (R348): a low of more than 100 ns begins at the input; an earlier one has ended before it. -/
def execFaultNLowInput (s : State) : Out :=
  takes s s.powered (fun s => peerFault (if s.fault.peerLow then publishFaultN { s with fault := { s.fault with peerLow := false } } else s))

/-- BOARD_FAULT_AUTOCLEAR (R349): the first boundary at which FAULT_N has been high for 20 µs; the safe states that the entry
held end there (R346). -/
def execBoardFaultAutoclear (s : State) : Out := takesAtBoundary s (autoclearDue s) (fun s => leaveSafe (autoclear s))

/-- FAULT_CLEAR (R353): a CLEAR write. -/
def execFaultClear (o : Origin) (value : Nat) (s : State) : Out := finish s (writeOf s o Pg.FAULT 0x048 value)

/-- SEVERITY_MAP_WRITE (R341): word `n` of a page's severity map. -/
def execSeverityMapWrite (o : Origin) (page n value : Nat) (s : State) : Out :=
  takes s (decide (page < 0x4000 ∧ n < 3)) (fun s => writeOf s o page (0x014 + 4 * n) value)

/-- FIFO_MSG_READ (R339). -/
def execFifoMsgRead (o : Origin) (s : State) : Out := finish s (readOf s o Pg.FAULT 0x064)

/-- CRIER_SEND (R350): one transfer of the oldest message; `lost` arbitration leaves it to be tried again. -/
def execCrierSend (lost ack : Bool) (s : State) : Out :=
  takes s (s.powered && !s.fault.crier.isEmpty) (fun s => crierTransfer s lost ack)

/-- CRIER_RECEIVE (R351): the bytes of a transfer to 0x3C. -/
def execCrierReceive (bytes : List Nat) (s : State) : Out :=
  takes s (s.powered && bytes.all (fun b => decide (b < 256))) (fun s => crierReceived s bytes)

/-- TEST_KEY_WRITE (R355): a TEST_KEY write with the TESTMODE ball at `pin`. -/
def execTestKeyWrite (o : Origin) (value : Nat) (pin : Bool) (s : State) : Out :=
  finish s (writeOf { s with fault := { s.fault with testPin := pin } } o Pg.FAULT 0x0C0 value)

/-- FAULT_INJECT (R356): an INJECT write. -/
def execFaultInject (o : Origin) (value : Nat) (s : State) : Out := finish s (writeOf s o Pg.FAULT 0x0C4 value)

/-- TEST_MODE_EXIT (R357): TESTMODE low for 1 ms. -/
def execTestModeExit (s : State) : Out :=
  takes s (s.powered && s.flag Pg.FAULT Reg.FAULT.STATUS_TEST_MODE) testExit

end Sys2Proof.Machine
end

