-- ==== Sys2Proof/Machine/HkCmd.lean ====
section
/-! DEFINITION. Commands of the housekeeping rails and the sequencer (chapter 14). A slot carries what the rails' comparators
show: which are below OFF_TH, drained, at their current limit. -/

namespace Sys2Proof.Machine

/-- SEQ_SLOT (R362): masks of rails below their off threshold and below 10 % of VSET, and the rails' output currents in 10 mA. -/
def execSeqSlot (low drained : Nat) (amps : List Nat) (s : State) : Out :=
  takes s s.reducedOrLater (fun s => slotTick s low drained amps)

/-- Can the filtered PG of a rail change: its soft start of SS has ended, and the filter's FILT µs have passed (R359)? -/
def pgLive (s : State) (r : Nat) : Bool :=
  (rail s r).seen || decide ((rail s r).onUs + 100 * s.get Pg.HKRAIL (Reg.HKRAIL.SS_SLEW_SS.ix r) +
    seqField s Reg.HKSEQ.CFG_FILT ≤ s.rcUs)

/-- PG_CHANGE (R363): the filtered PG of a rail that is on; `above` tells a PG of 0 above the upper comparator. -/
def execPgChange (r : Nat) (pg above : Bool) (s : State) : Out :=
  takes s (s.powered && decide (r < 4) && railOn s r && pgLive s r && (s.flag Pg.HKRAIL (Reg.HKRAIL.STATUS_PG.ix r) != pg)) (fun s =>
    if pg then pgGood s r else pgBad s r above)

/-- Has PG of rail `r` stayed 1 for QUAL in its present window, with ENG.10 running (R285, R363)? -/
def qualDone (s : State) (r : Nat) : Bool :=
  railOn s r && s.flag Pg.HKRAIL (Reg.HKRAIL.STATUS_PG.ix r) && !railQual s r && decide (estate s 10 = Es.RUNNING) &&
    decide ((rail s r).winUs + 100 * seqField s (Reg.HKSEQ.RAIL_SEQ_QUAL.ix r) ≤ s.rcUs)

/-- RAIL_QUALIFIED (R363): PG has stayed 1 for QUAL. -/
def execRailQualified (r : Nat) (s : State) : Out :=
  takes s (s.powered && decide (r < 4) && qualDone s r) (fun s => qualifyRail s r)

/-- RAIL_START_TIMEOUT (R365): cause 0x4, START_TMO ms after the enable. -/
def execRailStartTimeout (r : Nat) (s : State) : Out :=
  takes s (s.powered && decide (r < 4) && railOn s r && !(rail s r).seen &&
    decide ((rail s r).onUs + 1000 * seqField s (Reg.HKSEQ.RAIL_SEQ_START_TMO.ix r) ≤ s.rcUs)) (fun s => railTrip s 4 r)

/-- RAIL_SOFTSTART_SHORT (R365): cause 0x5, within the soft-start time SS. -/
def execRailSoftstartShort (r : Nat) (s : State) : Out :=
  takes s (s.powered && decide (r < 4) && railOn s r && !(rail s r).seen &&
    decide (s.rcUs ≤ (rail s r).onUs + 100 * s.get Pg.HKRAIL (Reg.HKRAIL.SS_SLEW_SS.ix r))) (fun s => railTrip s 5 r)

/-- Is a criterion of *Rail fault causes* one of this event: 0x1 to 0x3 on a qualified rail; in DOWN, 0x1 and the
loss of PG of a rail of the sequence are R370's? -/
def tripCause (s : State) (r cause : Nat) : Bool :=
  s.powered && decide (r < 4 ∧ 1 ≤ cause ∧ cause ≤ 3) && railOn s r && railQual s r && !(goingDown s && (decide (cause = 1) || inSeq s r))

/-- RAIL_FAULT_TRIP (R366, R367). -/
def execRailFaultTrip (r cause : Nat) (s : State) : Out := takes s (tripCause s r cause) (fun s => railTrip s cause r)

/-- OFF_TIMEOUT (R369). -/
def execOffTimeout (r : Nat) (s : State) : Out :=
  takes s (s.powered && decide (r < 4) && !railOn s r && (rail s r).offWait && !(rail s r).low &&
    decide (4 * s.get Pg.HKRAIL (Reg.HKRAIL.LIMIT_OFF_TMO.ix r) ≤ (rail s r).offSlots)) (fun s => offTimeout s r)

/-- DOWN_RAIL_OVERCURRENT (R370): cause 0x6. -/
def execDownRailOvercurrent (r : Nat) (s : State) : Out :=
  takes s (s.powered && decide (r < 4) && goingDown s && railOn s r) (fun s => downOvercurrent s r)

/-- SEQUENCER_RETRY (R360). -/
def execSequencerRetry (s : State) : Out := takes s (retryDue s) (fun s => enterUp s false)

/-- SEQUENCER_THERMAL_RESTART (R360): every die sensor below 110 °C for 1 s. -/
def execSequencerThermalRestart (s : State) : Out :=
  takes s (thermalDue s) (fun s => enterUp s false)

/-- EMERG_OFF_RESTART (R504): VSYS at or above 7.5 V for 100 ms, which begin after the emergency commit. -/
def execEmergOffRestart (s : State) : Out :=
  takes s (s.reducedOrLater && decide (hkState s = Hq.OFF) && s.flag Pg.HKSEQ Reg.HKSEQ.STATUS_EMERG_OFF &&
    decide (s.hk.abortUs + 100000 ≤ s.rcUs)) (fun s => enterUp s false)

/-- HKSEQ_CMD_UP (R378): a CMD write with KEY 0x5EC0 and OP UP. -/
def execHkseqCmdUp (o : Origin) (s : State) : Out := finish s (writeOf s o Pg.HKSEQ 0x044 0x5EC00001)

/-- HKSEQ_CMD_DOWN (R378): a CMD write with KEY 0x5EC0 and OP DOWN. -/
def execHkseqCmdDown (o : Origin) (s : State) : Out := finish s (writeOf s o Pg.HKSEQ 0x044 0x5EC00002)

/-- RESET_OUTPUT_RELEASE (R371): STRETCH has passed. -/
def execResetOutputRelease (k : Nat) (s : State) : Out :=
  takes s (s.powered && decide (k < 2) && mayRelease s k) (fun s => setReset s k true)

/-- RAIL_EN_WRITE (R372): a CTRL write on a rail. -/
def execRailEnWrite (o : Origin) (r value : Nat) (s : State) : Out :=
  takes s (decide (r < 4)) (fun s => writeOf s o Pg.HKRAIL (0x040 + 32 * r) value)

/-- RAIL_VSET_WRITE (R374). -/
def execRailVsetWrite (o : Origin) (r mv : Nat) (s : State) : Out :=
  takes s (decide (r < 4)) (fun s => writeOf s o Pg.HKRAIL (0x044 + 32 * r) mv)

end Sys2Proof.Machine
end

