-- ==== Sys2Proof/Machine/BackupCmd.lean ====
section
/-! DEFINITION. Commands of the power path, the charger, the pack and its gauge (chapter 15). What a hardware comparator of VIN,
VSYS or VBAK finds within microseconds is the sender's; a slower level of VBAK is judged on the converter's latest result
(DEDUCED, log entry 87). -/

namespace Sys2Proof.Machine

/-- VIN above 6.0 V (R382): the start latch clears, and the path converter carries VSYS unless the battery switch connects the
pack, which VIN takes over from only by hand-back (R385, R386; log entry 102). -/
def pathStart (s : State) : State :=
  let s := { s with backup := { s.backup with latch := false } }
  if s.backup.path || (s.powered && switchOn s) then s
  else
    let s := setSource { s with backup := { s.backup with path := true } } Src.VIN
    if s.reducedOrLater then refreshCharge s else s

/-- PATH_CONVERTER_START (R382). -/
def execPathConverterStart (s : State) : Out := finish s (pathStart s)

/-- START_LATCH_CLEAR (R382): VBAK below 2.0 V. -/
def execStartLatchClear (s : State) : Out := finish s { s with backup := { s.backup with latch := false } }

/-- HANDOVER_START (R383, R384): VIN below VIN_UV for 20 µs. -/
def execHandoverStart (s : State) : Out :=
  takes s (s.powered && s.backup.path && decide (pathSource s = Src.VIN)) handoverBegin

/-- HANDOVER_COMPLETE (R383): the battery switch is sensed fully on. -/
def execHandoverComplete (s : State) : Out :=
  takes s (s.powered && decide (pathSource s = Src.HANDOVER) && switchOn s)
    handoverDone

/-- HANDBACK (R386): VIN above VIN_OK for QUAL, and the converter has taken VSYS. -/
def execHandback (s : State) : Out := takes s (s.powered && handbackDue s) handbackDone

/-- PACK_SHUTDOWN (R388): VBAK at the shutdown level for 100 ms; the frame in progress is closed with `f` and `len`. -/
def execPackShutdown (f : FrameIn) (len : Nat) (s : State) : Out :=
  takes s (s.powered && onPack s && decide (vbak s ≤ shutLevel s) && !s.flag Pg.BACKUP Reg.BACKUP.PATH_STATUS_SHUTDOWN)
    (fun s => packShut s f len)

/-- PACK_SHUTDOWN_FINISH (R388): the sequencer is OFF. -/
def execPackShutdownFinish (s : State) : Out :=
  takes s (s.powered && s.flag Pg.BACKUP Reg.BACKUP.PATH_STATUS_SHUTDOWN && decide (hkState s = Hq.OFF))
    (fun s => packOff (s.putb Pg.BACKUP Reg.BACKUP.PATH_STATUS_SHUTDOWN false))

/-- PACK_CUTOFF (R389): VBAK below the cut-off for 10 µs while the pack carries VSYS. -/
def execPackCutoff (s : State) : Out :=
  takes s (s.powered && switchOn s && !s.backup.path) packOff

/-- EMERGENCY_COMMIT_START (R390, R442, R504): VSYS below 7.5 V for 2 µs. While EMERG_OFF = 1 it starts no emergency commit; the
100 ms of the automatic restart begin anew. -/
def execEmergencyCommitStart (f : FrameIn) (len : Nat) (s : State) : Out :=
  takes s s.powered (fun s =>
    if s.flag Pg.HKSEQ Reg.HKSEQ.STATUS_EMERG_OFF then { s with hk := { s.hk with abortUs := s.rcUs } } else emergencyStart s f len)

/-- EMERGENCY_COMMIT_DONE (R442, R443): the buffer has been committed. -/
def execEmergencyCommitDone (s : State) : Out :=
  takes s (s.powered && s.backup.emerg) (fun s => writeEmergency { s with backup := { s.backup with emerg := false } })

/-- CHARGE_CV_ENTRY (R392): VBAK has reached CELLS × V_CELL. -/
def execChargeCvEntry (s : State) : Out :=
  takes s (s.powered && decide (chgState s = Chg.CC) && decide (cvLevel s ≤ vbak s)) (fun s => setChg s Chg.CV)

/-- CHARGE_DONE (R392, R393, R400): the charge current, of which PACK_I is the mean over 1 s, stays below ITERM. -/
def execChargeDone (s : State) : Out :=
  takes s (s.powered && decide (chgState s = Chg.CV) &&
    decide (s.geti Pg.GAUGE Reg.GAUGE.PACK_I < 10 * (s.get Pg.BACKUP Reg.BACKUP.CHG_CFG_ITERM : Int))) (fun s =>
    gaugeDone (clearChgTime ((setChg s Chg.DONE).event Pg.BACKUP 2)))

/-- CHARGE_RESTART (R392): VBAK has fallen below CELLS × (V_CELL − RECHG). -/
def execChargeRestart (s : State) : Out :=
  takes s (s.powered && decide (chgState s = Chg.DONE) && decide (vbak s < rechargeLevel s)) (fun s => setChg s Chg.CC)

/-- CHARGE_TIMER_EXPIRED (R393). -/
def execChargeTimerExpired (s : State) : Out :=
  takes s (s.powered && decide (chgState s = Chg.CC ∨ chgState s = Chg.CV) &&
    decide (s.get Pg.BACKUP Reg.BACKUP.CHG_TIMER_LIMIT ≤ s.get Pg.BACKUP Reg.BACKUP.CHG_TIME_MINUTES)) (fun s =>
    refreshCharge ({ s with backup := { s.backup with expired := true } }.event Pg.BACKUP 6))

/-- PACK_ABSENT (R394): an open thermistor, or a collapse of the current in CV. -/
def execPackAbsent (collapse : Bool) (s : State) : Out :=
  takes s (s.reducedOrLater && packPresent s && (!collapse || decide (chgState s = Chg.CV ∧ cvLevel s ≤ vbak s + 20 ∧ vbak s ≤ cvLevel s + 20)))
    (fun s => packGone s (b2n collapse))

/-- PACK_PRESENT (R395): the thermistor's ratio and VBAK in their spans for 100 ms. -/
def execPackPresent (s : State) : Out :=
  takes s (s.reducedOrLater && !packPresent s && s.flag Pg.BACKUP Reg.BACKUP.CHG_STATUS_TS_VALID &&
    decide (8000 ≤ vbak s ∧ vbak s ≤ 17600)) packBack

/-- AUTH_START (R396): an AUTH_CMD write with START = 1. -/
def execAuthStart (o : Origin) (s : State) : Out := finish s (writeOf s o Pg.BACKUP 0x0BC 1)

/-- PACK_AUTH_ATTEMPT (R396): the random challenge sent and the pack's answer; `lost` is lost arbitration (R478). -/
def execPackAuthAttempt (lost : Bool) (challenge : List Nat) (response : Option (List Nat)) (s : State) : Out :=
  takes s (s.powered) (fun s => authTransfer s lost challenge response)

/-- GAUGE_UPDATE (R381, R397, R398): the charge of the past second in mC, and the current in mA that the VSYS load and the
unreduced charge current together would draw from VIN. The accounts go on in every powered state and while ENG.10 is stopped. -/
def execGaugeUpdate (mc : Int) (iin : Nat) (s : State) : Out :=
  takes s s.powered (fun s =>
    let s := chargeSecond (gaugeCharge (inputDpm s iin) mc)
    if estate s 10 = Es.RUNNING then gaugeSoc s else s)

/-- May ENG.10 act on the gauge now? -/
def gaugeLive (s : State) : Bool := s.reducedOrLater && decide (estate s 10 = Es.RUNNING)

/-- GAUGE_FORCED_EMPTY (R399): VBAK at or below the shutdown level for 100 ms, with charge counted above q_unus. -/
def execGaugeForcedEmpty (s : State) : Out :=
  takes s (gaugeLive s && decide (vbak s ≤ shutLevel s) && decide ((s.get Pg.GAUGE Reg.GAUGE.Q_UNUSABLE : Int) < s.geti Pg.GAUGE Reg.GAUGE.Q_RAW)) gaugeForced

/-- GAUGE_REST (R401): |PACK_I| below 20 mA for REST_MIN minutes. -/
def execGaugeRest (s : State) : Out :=
  takes s (gaugeLive s && decide (60 * s.get Pg.GAUGE Reg.GAUGE.GAUGE_CFG_REST_MIN ≤ s.gauge.restSec)) gaugeRested

/-- GAUGE_IMP_STEP (R400): a current step of at least 0.1 C, with the voltage step it made. -/
def execGaugeImpStep (dv di : Int) (s : State) : Out :=
  takes s (gaugeLive s && decide (di ≠ 0 ∧ (s.get Pg.GAUGE Reg.GAUGE.DESIGN_CAP_CAP : Int) ≤ 10 * absI di)) (fun s => gaugeStep s dv di)

/-- GAUGE_RELEARN (R402): a GAUGE:CMD write with its key and RELEARN = 1. -/
def execGaugeRelearn (o : Origin) (s : State) : Out := finish s (writeOf s o Pg.GAUGE 0x048 0x6A550001)

end Sys2Proof.Machine
end

