-- ==== Sys2Proof/Machine/RtcCmd.lean ====
section
/-! DEFINITION. Commands of the backup domain: its supply, the RTC, the alarm, WAKE_OUT and the trim measurement (chapter 16). -/

namespace Sys2Proof.Machine

/-- BACKUP_DOMAIN_POWER_ON (R405, R410): VBK returns with VSYS absent. -/
def execBackupDomainPowerOn (s : State) : Out :=
  takes s (!s.powered && !s.rtc.alive) (fun s => (rtcPowerOn s).putb Pg.RTC Reg.RTC.STATUS_ON_VBK true)

/-- BACKUP_DOMAIN_POWER_LOSS (R405): VBK below 1.8 V with VSYS absent; the time, the alarm and WAKE_OUT are gone. -/
def execBackupDomainPowerLoss (s : State) : Out :=
  takes s (!s.powered && s.rtc.alive) (fun s => { (rtcPowerOn s) with rtc := { RtcState.init with alive := false } })

/-- RTC_SECOND (R407, R413): in FULL, CLOCK:RC_MEAS takes the measurement of the past second, `rcKhz`. -/
def execRtcSecond (rcKhz : Nat) (s : State) : Out :=
  takes s (s.rtc.alive && !rtcHalted s) (fun s =>
    rtcTick (if s.full then s.put Pg.CLOCK Reg.CLOCK.RC_MEAS_KHZ (satNat 16 rcKhz) else s))

/-- RTC_TIME_WRITE (R409, R413, R414). -/
def execRtcTimeWrite (o : Origin) (reg : TimeReg) (value : Nat) (s : State) : Out :=
  finish s (writeOf s o Pg.RTC (match reg with
    | .timeSec => 0x048
    | .calTime => 0x050
    | .calDate => 0x054) value)

/-- RTC_HALT_WRITE (R409). -/
def execRtcHaltWrite (o : Origin) (halt : Bool) (s : State) : Out := finish s (writeOf s o Pg.RTC 0x040 (b2n halt))

/-- TIME_SEC_READ (R408). -/
def execTimeSecRead (o : Origin) (s : State) : Out := finish s (readOf s o Pg.RTC 0x048)

/-- CRYSTAL_STOP (R410): no crystal edge for 4 cycles; the time stands until the crystal resumes. -/
def execCrystalStop (s : State) : Out :=
  takes s s.rtc.alive (fun s =>
    let p := Pg.RTC
    let s := { s with rtc := { s.rtc with stood := some (subsec s), crystalStopped := true } }
    ((osfSet s).bump p Reg.RTC.OSC_STOPS).event p 2)

/-- ALARM_ARM_WRITE (R413, R414). -/
def execAlarmArmWrite (o : Origin) (arm : Bool) (s : State) : Out := finish s (writeOf s o Pg.RTC 0x05C (b2n arm))

/-- TRIM_MEAS_START (R412). -/
def execTrimMeasStart (o : Origin) (window : Nat) (apply : Bool) (s : State) : Out :=
  takes s (decide (window < 128)) (fun s => writeOf s o Pg.RTC 0x068 (window * 256 + b2n apply * 2 + 1))

/-- TRIM_MEAS_DONE (R412): the core cycles counted over the window. -/
def execTrimMeasDone (count : Nat) (s : State) : Out :=
  takes s (s.full && measRunning s && !s.rtc.measLost) (fun s => measDone s count)

/-- TRIM_MEAS_ABORT (R412): a holdover, or an exit from FULL, during the window. A new START ends it at its write. -/
def execTrimMeasAbort (s : State) : Out := takes s (measRunning s && (!s.full || s.rtc.measLost)) measAbort

/-- WAKE_RELEASE (R415). -/
def execWakeRelease (o : Origin) (s : State) : Out := finish s (writeField s o Pg.RTC Reg.RTC.WAKE_CFG_RELEASE 1)

/-- WAKE_FORCE (R415). -/
def execWakeForce (o : Origin) (s : State) : Out := finish s (writeField s o Pg.RTC Reg.RTC.WAKE_CFG_FORCE 1)

/-- WAKE_PULSE_END (R415): in MODE 1, WIDTH × 10 ms after the assertion. -/
def execWakePulseEnd (s : State) : Out :=
  takes s (s.rtc.alive && s.flag Pg.RTC Reg.RTC.WAKE_CFG_STATE && s.flag Pg.RTC Reg.RTC.WAKE_CFG_MODE &&
    decide (s.rtc.wakeUs + 10000 * s.get Pg.RTC Reg.RTC.WAKE_CFG_WIDTH ≤ s.rcUs)) (fun s =>
    s.putb Pg.RTC Reg.RTC.WAKE_CFG_STATE false)

end Sys2Proof.Machine
end

