-- ==== Sys2Proof/Machine/TimerCmd.lean ====
section
/-! DEFINITION. Commands of the timer block (chapter 16): compares, captures, TICK, GPIO. -/

namespace Sys2Proof.Machine

/-- COMPARE_ARM (R418): a CMP_HI.k write. -/
def execCompareArm (o : Origin) (k hi : Nat) (s : State) : Out :=
  takes s (decide (k < 8)) (fun s => writeOf s o Pg.TIMER (0x084 + 16 * k) hi)

/-- Is compare `k` armed? -/
def isArmed (s : State) (k : Nat) : Bool := s.full && decide (k < 8) && s.flag Pg.TIMER (Reg.TIMER.CMP_CTRL_ARMED.ix k)

/-- COMPARE_FIRE (R418): TICK equals the armed value. -/
def execCompareFire (k : Nat) (s : State) : Out :=
  takes s (isArmed s k) (fun s => tickFires s k)

/-- Does a pulse of compare `k` run on a GPIO? -/
def pulseRuns (s : State) (k : Nat) : Bool :=
  s.full && (List.range 4).any (fun pin => decide (Table.get none s.timer.pulse pin = some k))

/-- COMPARE_PULSE_END (R418). -/
def execComparePulseEnd (k : Nat) (s : State) : Out := takes s (pulseRuns s k) (fun s => pulseEnds s k)

/-- CAPTURE_EDGE (R420, R422): an edge on the GPIO source of capture `k`: the ball's level changes, and a selected edge is
captured. -/
def execCaptureEdge (k : Nat) (rising : Bool) (s : State) : Out :=
  takes s (s.full && decide (k < 4)) (fun s =>
    let t := edgeLevel s k rising
    if edgeSelected s k rising then capStore t k else t)

/-- CAP_LO_READ (R420). -/
def execCapLoRead (o : Origin) (k : Nat) (s : State) : Out :=
  takes s (decide (k < 4)) (fun s => readOf s o Pg.TIMER (0x100 + 16 * k))

/-- TICK_LO_READ (R417). -/
def execTickLoRead (o : Origin) (s : State) : Out := finish s (readOf s o Pg.TIMER 0x040)

/-- GPIO_CFG_WRITE (R421). -/
def execGpioCfgWrite (o : Origin) (value : Nat) (s : State) : Out := finish s (writeOf s o Pg.TIMER 0x048 value)

end Sys2Proof.Machine
end

