-- ==== Sys2Proof/Machine/MemCmd.lean ====
section
/-! DEFINITION. Commands of the OTP and the Granary (chapter 17). -/

namespace Sys2Proof.Machine

/-- OTP_PROG_WORD (R430): PROG_CMD with the key and OP WORD. -/
def execOtpProgWord (o : Origin) (s : State) : Out := finish s (writeOf s o Pg.OTP 0x04C 0x0F7A0001)

/-- OTP_PROG_CRC (R431). -/
def execOtpProgCrc (o : Origin) (region : Nat) (s : State) : Out :=
  takes s (decide (region < 8)) (fun s => writeOf s o Pg.OTP 0x04C (0x0F7A0002 + 16 * region))

/-- OTP_MARGIN (R432). -/
def execOtpMargin (o : Origin) (region : Nat) (s : State) : Out :=
  takes s (decide (region < 8)) (fun s => writeOf s o Pg.OTP 0x04C (0x0F7A0003 + 16 * region))

/-- OTP_PROG_DONE (R430 to R432): the pulses given, and what the last verify of each half found. -/
def execOtpProgDone (pulses : Nat) (failA failB : List OtpVerify) (s : State) : Out :=
  match s.otpOp with
  | some o => if s.full then finishOtp s (otpDone s o pulses failA failB) else .next s
  | none => .next s

/-- A commit gives up the pages it has programmed and waits for the pool again (R439). -/
def returnCommit (s : State) (r : GReq) (pages : List Nat) : State :=
  let s := queueErase (retire s (pages.filter (pageFails s))) (pages.filter (fun k => !pageFails s k))
  startCommit { s with gran := { s.gran with pend := r :: s.gran.pend } }

/-- The commit in progress completes; `bad` are pages that fail their program verify, those of the commit retired on the way
(R437, R440), others when they are programmed. Where the replacements would leave fewer than 9 erased pages the commit waits
for the pool (R439). The next one starts. -/
def commitDone (s : State) (bad : List Nat) : State :=
  match s.gran.busy with
  | none => s
  | some (r, pages) =>
    let s := { s with gran := { s.gran with busy := none, failing := s.gran.failing ++ bad.filter (fun k => !pageFails s k) } }
    let n := (pages.filter (pageFails s)).length
    if n ≠ 0 ∧ erasedPages s < n + 9 then returnCommit s r pages
    else
      let x := programHeld s pages
      startCommit (finishCommit x.1 r x.2)

/-- GRANARY_COMMIT_DONE (R437, R440). -/
def execGranaryCommitDone (bad : List Nat) (s : State) : Out :=
  takes s (s.powered && s.gran.busy.isSome) (fun s => commitDone s bad)

/-- GRANARY_ERASE_DONE (R437): pending commits go first. -/
def execGranaryEraseDone (s : State) : Out :=
  takes s (s.powered && s.gran.busy.isNone && (nextErase s).isSome) (fun s =>
    startCommit (holdOpen (erasePage s ((nextErase s).getD 0))))

/-- The commit that waits for erased pages (R439). -/
def heldCommit (s : State) : Option GReq :=
  if s.gran.busy.isSome then none
  else match nextCommit s.gran.pend with
    | some (r, _) => if erasedPages s < slotPages r.id + 9 then some r else none
    | none => none

/-- Has the commit that waits for erased pages waited for 1 s (R439)? -/
def heldLong (s : State) : Bool :=
  (heldCommit s).isSome && (match s.gran.waitUs with
    | some t => decide (t + 1000000 ≤ s.rcUs)
    | none => false)

/-- GRANARY_COMMIT_REFUSED (R439): a commit has not been able to start for 1 s. -/
def execGranaryCommitRefused (s : State) : Out :=
  takes s (s.powered && heldLong s) (fun s =>
    match heldCommit s with
    | some r => startCommit (refuseCommit s r)
    | none => s)

/-- The slot of a record that wear management rewrites (R438): not rewritten for 5 years, or on pages 5,000 erase cycles below
the pool's median. -/
def wornSlot (s : State) (id : Nat) : Option (Nat × GSlot) :=
  ([0, 1].filterMap (fun k => (s.gslot id k).map (fun x => (k, x)))).find? (fun e =>
    (decide (e.2.sec + fiveYears ≤ s.rtcSec) || underWorn s e.2.pages) && decide (e.2.pages.length + 9 ≤ erasedPages s))

/-- The page of the log ring, record 0x80, that wear management rewrites (R438). -/
def wornLog (s : State) (id : Nat) : Option LogPage :=
  if id = 0x80 then
    s.gran.logs.find? (fun x => (decide (x.sec + fiveYears ≤ s.rtcSec) || underWorn s [x.page]) && decide (10 ≤ erasedPages s))
  else none

/-- GRANARY_WEAR_REWRITE (R438). -/
def execGranaryWearRewrite (id : Nat) (s : State) : Out :=
  takes s (s.powered && decide (id < 256) && s.gran.busy.isNone && ((wornSlot s id).isSome || (wornLog s id).isSome)) (fun s =>
    match wornSlot s id, wornLog s id with
    | some (k, x), _ => rewriteSlot s id k x
    | none, some x => rewriteLog s x
    | none, none => s)

/-- Send the collected page of persistent entries to be committed (R445). -/
def commitTail (s : State) : State :=
  requestCommit { s with log := { s.log with waiting := some (s.log.persist.take 20), persist := s.log.persist.drop 20, firstUs := s.log.nextUs } } 0x80
    (.bytes [])

/-- LOG_TAIL_COMMIT (R445): 20 entries, or 1 s after the first. -/
def execLogTailCommit (s : State) : Out :=
  takes s (s.powered && s.log.waiting.isNone && !s.log.persist.isEmpty &&
    decide (20 ≤ s.log.persist.length ∨ s.log.firstUs + 1000000 ≤ s.rcUs)) commitTail

/-- CUST_COMMIT (R446): a CUST_CMD write with COMMIT = 1. -/
def execCustCommit (o : Origin) (r len : Nat) (s : State) : Out :=
  takes s (decide (r < 32 ∧ len < 512)) (fun s => writeOf s o Pg.GRANARY 0x068 (0x80000000 + len * 65536 + r))

end Sys2Proof.Machine
end

