-- ==== Sys2Proof/Machine/RegCmd.lean ====
section
/-! DEFINITION. Commands on register pages at large (chapter 2): locks, the change log, read-to-clear fields, and a write of
any register. -/

namespace Sys2Proof.Machine

/-- LOCK_CMD_LOCK (R30). -/
def execLockCmdLock (o : Origin) (page : Nat) (s : State) : Out :=
  takes s (decide (page < 0x4000)) (fun s => writeOf s o page 0x020 1)

/-- LOCK_CMD_LOCK_HARD (R30). -/
def execLockCmdLockHard (o : Origin) (page : Nat) (s : State) : Out :=
  takes s (decide (page < 0x4000)) (fun s => writeOf s o page 0x020 2)

/-- LOCK_CMD_UNLOCK (R31): one write of the two-key sequence. -/
def execLockCmdUnlock (o : Origin) (page key : Nat) (s : State) : Out :=
  takes s (decide (page < 0x4000 ∧ key < 65536)) (fun s => writeOf s o page 0x020 (key * 65536 + 3))

/-- LOCK_CMD_FACTORY_UNLOCK (R30, R31): one write of the factory key's halves. -/
def execLockCmdFactoryUnlock (o : Origin) (page key : Nat) (s : State) : Out :=
  takes s (decide (page < 0x4000 ∧ key < 65536)) (fun s => writeOf s o page 0x020 (key * 65536 + 4))

/-- CHANGELOG_TAIL_WRITE (R498). -/
def execChangelogTailWrite (o : Origin) (value : Nat) (s : State) : Out := finish s (writeOf s o Pg.CHANGELOG 0x048 value)

/-- CHANGELOG_ENTRY_READ (R499): a read of ENTRY.0. -/
def execChangelogEntryRead (o : Origin) (s : State) : Out := finish s (readOf s o Pg.CHANGELOG 0x064)

/-- Does a register hold a read-to-clear field (R4)? -/
def hasRc (addr : Nat) : Bool := (fieldsAt (addr / 0x400) (addr % 0x400)).any (fun f => decide (f.acc = .rc))

/-- READ_CLEAR_FIELD (R4). -/
def execReadClearField (o : Origin) (addr : Nat) (s : State) : Out :=
  takes s (decide (addr < 2 ^ 24) && hasRc addr) (fun s => readOf s o (addr / 0x400) (addr % 0x400))

/-- REGISTER_WRITE (R34): a write of any register by any origin. -/
def execRegisterWrite (o : Origin) (addr value : Nat) (s : State) : Out :=
  takes s (decide (addr < 2 ^ 24)) (fun s => writeOf s o (addr / 0x400) (addr % 0x400) value)

end Sys2Proof.Machine
end

