-- ==== Sys2Proof/Machine/HostCmd.lean ====
section
/-! DEFINITION. Commands of the host port and the stream (chapter 18). -/

namespace Sys2Proof.Machine

/-- HOST_READ (R456). -/
def execHostRead (q : HostReq) (s : State) : Out := finish s (hostReads s q false)

/-- HOST_READ_FIXED (R456). -/
def execHostReadFixed (q : HostReq) (s : State) : Out := finish s (hostReads s q true)

/-- HOST_WRITE (R455). -/
def execHostWrite (q : HostReq) (data : List Nat) (late : Bool) (s : State) : Out :=
  finish s (hostWrites s q data late false false)

/-- HOST_WRITE_FIXED (R455). -/
def execHostWriteFixed (q : HostReq) (data : List Nat) (late : Bool) (s : State) : Out :=
  finish s (hostWrites s q data late true false)

/-- HOST_BCAST_WRITE (R457). -/
def execHostBcastWrite (q : HostReq) (data : List Nat) (late : Bool) (s : State) : Out :=
  finish s (hostWrites s q data late false true)

/-- HOST_WRITE_DEFERRED_APPLY (R455). -/
def execHostWriteDeferredApply (s : State) : Out := takes s (!s.hostHeld.isEmpty) hostDeferred

/-- HOST_FRAME_INVALID (R451, R453). -/
def execHostFrameInvalid (mark hdr : Nat) (four : Bool) (s : State) : Out :=
  takes s (s.reducedOrLater && invalidFrame s mark hdr four) badFrame

/-- HOST_FRAME_ABORTED (R453). -/
def execHostFrameAborted (s : State) : Out :=
  takes s s.reducedOrLater (fun s => (s.bump Pg.HOST Reg.HOST.ABORTED).event Pg.HOST 2)

/-- The write engine moves one record into its region (R462). -/
def moveRecord (s : State) : State :=
  match nextWrite s with
  | some (k, r) => writeRecord (takeRecord s r) k r
  | none => s

/-- STREAM_RECORD_WRITE (R461, R462). -/
def execStreamRecordWrite (s : State) : Out := takes s (s.full && (nextWrite s).isSome) moveRecord

/-- STREAM_DATA_READ (R463): a read of DATA.k; by the host, the first fetch of a frame. -/
def execStreamDataRead (o : Origin) (k : Nat) (s : State) : Out :=
  takes s (decide (k < 4)) (fun s =>
    readOf (if o = .host then { s with stream := { s.stream with fetched := [] } } else s) o Pg.STREAM (0x100 + 4 * k))

/-- STREAM_RETIRE (R464): a RETIRE.k write. -/
def execStreamRetire (o : Origin) (k value : Nat) (s : State) : Out :=
  takes s (decide (k < 4)) (fun s => writeOf s o Pg.STREAM (0x090 + 32 * k) value)

/-- STREAM_ENABLE_WRITE (R466): a CTRL write. -/
def execStreamEnableWrite (o : Origin) (value : Nat) (s : State) : Out := finish s (writeOf s o Pg.STREAM 0x040 value)

/-- STREAM_CONFIG_WRITE (R467): a ROUTE or BUF_CFG write. -/
def execStreamConfigWrite (o : Origin) (route : Bool) (value : Nat) (s : State) : Out :=
  finish s (writeOf s o Pg.STREAM (if route then 0x048 else 0x044) value)

end Sys2Proof.Machine
end

