-- ==== Sys2Proof/Machine/TwoWireCmd.lean ====
section
/-! DEFINITION. Commands of the two-wire bus (chapter 19): status reads, the command words, discarded transfers, the alert
response and bus timeouts. -/

namespace Sys2Proof.Machine

/-- TWOWIRE_STATUS_READ (R473). -/
def execTwowireStatusRead (s : State) : Out := finish s (statusRead s)

/-- TWOWIRE_NOP (R474). -/
def execTwowireNop (s : State) : Out := finish s (twCommand s 0x0000 (fun s => s))

/-- TWOWIRE_ESTOP (R476). -/
def execTwowireEstop (s : State) : Out := finish s (twCommand s 0x1000 estopCommand)

/-- TWOWIRE_FAULT_CLEAR (R353): as FAULT:CLEAR with ALL = 1. -/
def execTwowireFaultClear (s : State) : Out :=
  finish s (twCommand s 0x2000 (fun s => twWrite s Pg.FAULT 0x048 0x80000000))

/-- TWOWIRE_RESUME (R160, R474). -/
def execTwowireResume (arg : Nat) (s : State) : Out :=
  takes s (decide (arg < 64)) (fun s => twCommand s (0x3000 + arg) (fun s => resumeCommand s arg))

/-- TWOWIRE_HK_UP (R378, R474). -/
def execTwowireHkUp (s : State) : Out := finish s (twCommand s 0x4000 (fun s => twWrite s Pg.HKSEQ 0x044 0x5EC00001))

/-- TWOWIRE_HK_DOWN (R378, R474). -/
def execTwowireHkDown (s : State) : Out := finish s (twCommand s 0x50A5 (fun s => twWrite s Pg.HKSEQ 0x044 0x5EC00002))

/-- TWOWIRE_GO (R62, R474). -/
def execTwowireGo (s : State) : Out := finish s (twCommand s 0x6000 (fun s => twWrite s Pg.CHIP 0x04C 1))

/-- TWOWIRE_CHARGE (R474). -/
def execTwowireCharge (en : Bool) (s : State) : Out := finish s (twCommand s (0x7000 + b2n en) (fun s => chargeCommand s en))

/-- TWOWIRE_ACK (R474, R476). -/
def execTwowireAck (arg : Nat) (s : State) : Out :=
  takes s (decide (arg < 16)) (fun s => twCommand s (0x8000 + arg) (fun s => ackCommand s arg))

/-- TWOWIRE_CMD_DISCARD (R472, R474, R479): the data bytes that a write at the device's address carried, the check byte included, and
whether a bus timeout ended it. -/
def execTwowireCmdDiscard (bytes : List Nat) (timedOut : Bool) (s : State) : Out :=
  takes s (s.reducedOrLater && discarded s bytes timedOut) (fun s => discardCommand s bytes)

/-- TWOWIRE_STATUS_WRITE (R476): a write of ones to STATUS. -/
def execTwowireStatusWrite (o : Origin) (value : Nat) (s : State) : Out := finish s (writeOf s o Pg.TWOWIRE 0x04C value)

/-- ALERT_RESPONSE_READ (R477). -/
def execAlertResponseRead (won : Bool) (s : State) : Out := finish s (alertRead s won)

/-- TWOWIRE_BUS_TIMEOUT (R479). -/
def execTwowireBusTimeout (controller : Bool) (s : State) : Out := finish s (busTimeout s controller)

end Sys2Proof.Machine
end

