-- ==== Sys2Proof/Machine/Dispatch.lean ====
section
/-! DEFINITION. One arm per command: a direct call of its meaning. -/

namespace Sys2Proof.Machine

-- The effect of a command on everything but the queue.
def exec (i : Instr) (s : State) : Host.Outcome State Fault Refusal :=
  match i with
  | .vsysPowerOn strap => Sys2Proof.Machine.execVsysPowerOn strap s
  | .vsysPowerLoss => Sys2Proof.Machine.execVsysPowerLoss s
  | .backupDomainPowerOn => Sys2Proof.Machine.execBackupDomainPowerOn s
  | .reeveSelftestDone pass vbak => Sys2Proof.Machine.execReeveSelftestDone pass vbak s
  | .refclkQualified khz => Sys2Proof.Machine.execRefclkQualified khz s
  | .mainStartEntry => Sys2Proof.Machine.execMainStartEntry s
  | .pllLocked => Sys2Proof.Machine.execPllLocked s
  | .pllLockTimeout => Sys2Proof.Machine.execPllLockTimeout s
  | .otpLoadDone => Sys2Proof.Machine.execOtpLoadDone s
  | .enginesBooted => Sys2Proof.Machine.execEnginesBooted s
  | .transitWaitTimeout => Sys2Proof.Machine.execTransitWaitTimeout s
  | .resetCmdWarm o => Sys2Proof.Machine.execResetCmdWarm o s
  | .resetCmdCold o f len => Sys2Proof.Machine.execResetCmdCold o f len s
  | .coldResetExecute => Sys2Proof.Machine.execColdResetExecute s
  | .warmResetEntry f len => Sys2Proof.Machine.execWarmResetEntry f len s
  | .mainResetComplete => Sys2Proof.Machine.execMainResetComplete s
  | .chipGo o => Sys2Proof.Machine.execChipGo o s
  | .refclkLoss khz => Sys2Proof.Machine.execRefclkLoss khz s
  | .pllUnlock => Sys2Proof.Machine.execPllUnlock s
  | .holdoverEnd => Sys2Proof.Machine.execHoldoverEnd s
  | .holdoverLimitExpiry => Sys2Proof.Machine.execHoldoverLimitExpiry s
  | .frameBoundary f => Sys2Proof.Machine.execFrameBoundary f s
  | .transitEdge t => Sys2Proof.Machine.execTransitEdge t s
  | .transitMatchWindowClose => Sys2Proof.Machine.execTransitMatchWindowClose s
  | .transitContentionCheck opposite => Sys2Proof.Machine.execTransitContentionCheck opposite s
  | .transitMark o => Sys2Proof.Machine.execTransitMark o s
  | .transitPeriodWrite o value => Sys2Proof.Machine.execTransitPeriodWrite o value s
  | .heartbeatPosted e n => Sys2Proof.Machine.execHeartbeatPosted e n s
  | .engineRamError e => Sys2Proof.Machine.execEngineRamError e s
  | .engineTrap e => Sys2Proof.Machine.execEngineTrap e s
  | .eng10SlotHeartbeatMiss => Sys2Proof.Machine.execEng10SlotHeartbeatMiss s
  | .reeveWatchdogExpiry => Sys2Proof.Machine.execReeveWatchdogExpiry s
  | .engctlStop o e => Sys2Proof.Machine.execEngctlStop o e s
  | .engctlRestart o e => Sys2Proof.Machine.execEngctlRestart o e s
  | .engineRestartDone e ramOk => Sys2Proof.Machine.execEngineRestartDone e ramOk s
  | .holdLimitExpiry b => Sys2Proof.Machine.execHoldLimitExpiry b s
  | .bankHandback b => Sys2Proof.Machine.execBankHandback b s
  | .switchingCycle p imonOut => Sys2Proof.Machine.execSwitchingCycle p imonOut s
  | .fastLimitPosTrip p => Sys2Proof.Machine.execFastLimitPosTrip p s
  | .fastLimitNegTrip p => Sys2Proof.Machine.execFastLimitNegTrip p s
  | .ocFastRun p => Sys2Proof.Machine.execOcFastRun p s
  | .imonOutOfRange p => Sys2Proof.Machine.execImonOutOfRange p s
  | .slowLimitTrip p => Sys2Proof.Machine.execSlowLimitTrip p s
  | .balancingObservationDone c => Sys2Proof.Machine.execBalancingObservationDone c s
  | .imonZeroCapture c rawA rawB => Sys2Proof.Machine.execImonZeroCapture c rawA rawB s
  | .isoDriveHigh c => Sys2Proof.Machine.execIsoDriveHigh c s
  | .chanEnable o c => Sys2Proof.Machine.execChanEnable o c s
  | .chanDisable o c byMode => Sys2Proof.Machine.execChanDisable o c byMode s
  | .chanModeWrite o c mode => Sys2Proof.Machine.execChanModeWrite o c mode s
  | .chanResume o c => Sys2Proof.Machine.execChanResume o c s
  | .chanGangWrite o c size => Sys2Proof.Machine.execChanGangWrite o c size s
  | .cellCommit o c => Sys2Proof.Machine.execCellCommit o c s
  | .mateReset o c key => Sys2Proof.Machine.execMateReset o c key s
  | .channelShortRamp c => Sys2Proof.Machine.execChannelShortRamp c s
  | .channelShortZv c => Sys2Proof.Machine.execChannelShortZv c s
  | .probeResistanceWear c => Sys2Proof.Machine.execProbeResistanceWear c s
  | .mateRecordRetry => Sys2Proof.Machine.execMateRecordRetry s
  | .calStepStart b => Sys2Proof.Machine.execCalStepStart b s
  | .calDone b cal => Sys2Proof.Machine.execCalDone b cal s
  | .sliceFailure b k => Sys2Proof.Machine.execSliceFailure b k s
  | .calEnableWrite o b value => Sys2Proof.Machine.execCalEnableWrite o b value s
  | .retireClr o b mask => Sys2Proof.Machine.execRetireClr o b mask s
  | .trackerClrV o c => Sys2Proof.Machine.execTrackerClrV o c s
  | .trackerClrI o c => Sys2Proof.Machine.execTrackerClrI o c s
  | .busTrackerClr o b => Sys2Proof.Machine.execBusTrackerClr o b s
  | .bankStatusSnapshotRead o b k => Sys2Proof.Machine.execBankStatusSnapshotRead o b k s
  | .hkConverterSlot raw => Sys2Proof.Machine.execHkConverterSlot raw s
  | .thermalShutdown => Sys2Proof.Machine.execThermalShutdown s
  | .periodicCheckpoint => Sys2Proof.Machine.execPeriodicCheckpoint s
  | .checkpointLate => Sys2Proof.Machine.execCheckpointLate s
  | .ckptNow o => Sys2Proof.Machine.execCkptNow o s
  | .ledgerSnap o => Sys2Proof.Machine.execLedgerSnap o s
  | .clrRun o c => Sys2Proof.Machine.execClrRun o c s
  | .busClr o b => Sys2Proof.Machine.execBusClr o b s
  | .accSnapRead o c => Sys2Proof.Machine.execAccSnapRead o c s
  | .loWordLatchRead o addr => Sys2Proof.Machine.execLoWordLatchRead o addr s
  | .openCheckpointHeader => Sys2Proof.Machine.execOpenCheckpointHeader s
  | .balanceWindowClose b => Sys2Proof.Machine.execBalanceWindowClose b s
  | .recipeRecordCommitWrite o b r value => Sys2Proof.Machine.execRecipeRecordCommitWrite o b r value s
  | .rcpStart o c => Sys2Proof.Machine.execRcpStart o c s
  | .recipeValidationDone c => Sys2Proof.Machine.execRecipeValidationDone c s
  | .rcpContinue o c => Sys2Proof.Machine.execRcpContinue o c s
  | .rcpJump o c n => Sys2Proof.Machine.execRcpJump o c n s
  | .endInfoRead o c => Sys2Proof.Machine.execEndInfoRead o c s
  | .toneSetCommit o t value => Sys2Proof.Machine.execToneSetCommit o t value s
  | .impedanceWindowClose c => Sys2Proof.Machine.execImpedanceWindowClose c s
  | .resultPublish c => Sys2Proof.Machine.execResultPublish c s
  | .dcirPulseEnd c => Sys2Proof.Machine.execDcirPulseEnd c s
  | .ocvRelaxationFit c => Sys2Proof.Machine.execOcvRelaxationFit c s
  | .ocvTableCommit o t tag => Sys2Proof.Machine.execOcvTableCommit o t tag s
  | .resSnapRead o c => Sys2Proof.Machine.execResSnapRead o c s
  | .ringTrainOriginate => Sys2Proof.Machine.execRingTrainOriginate s
  | .orphanTrainOriginate => Sys2Proof.Machine.execOrphanTrainOriginate s
  | .ringTrainForward hdr slots => Sys2Proof.Machine.execRingTrainForward hdr slots s
  | .tokenReturn => Sys2Proof.Machine.execTokenReturn s
  | .ringFreeze => Sys2Proof.Machine.execRingFreeze s
  | .tokenStarveDetect c => Sys2Proof.Machine.execTokenStarveDetect c s
  | .reissue o value => Sys2Proof.Machine.execReissue o value s
  | .reissueApply => Sys2Proof.Machine.execReissueApply s
  | .faultNLowInput => Sys2Proof.Machine.execFaultNLowInput s
  | .boardFaultAutoclear => Sys2Proof.Machine.execBoardFaultAutoclear s
  | .faultClear o value => Sys2Proof.Machine.execFaultClear o value s
  | .severityMapWrite o page n value => Sys2Proof.Machine.execSeverityMapWrite o page n value s
  | .fifoMsgRead o => Sys2Proof.Machine.execFifoMsgRead o s
  | .crierSend lost ack => Sys2Proof.Machine.execCrierSend lost ack s
  | .crierReceive bytes => Sys2Proof.Machine.execCrierReceive bytes s
  | .testKeyWrite o value pin => Sys2Proof.Machine.execTestKeyWrite o value pin s
  | .faultInject o value => Sys2Proof.Machine.execFaultInject o value s
  | .testModeExit => Sys2Proof.Machine.execTestModeExit s
  | .seqSlot low drained amps => Sys2Proof.Machine.execSeqSlot low drained amps s
  | .pgChange r pg above => Sys2Proof.Machine.execPgChange r pg above s
  | .railQualified r => Sys2Proof.Machine.execRailQualified r s
  | .railStartTimeout r => Sys2Proof.Machine.execRailStartTimeout r s
  | .railSoftstartShort r => Sys2Proof.Machine.execRailSoftstartShort r s
  | .railFaultTrip r cause => Sys2Proof.Machine.execRailFaultTrip r cause s
  | .offTimeout r => Sys2Proof.Machine.execOffTimeout r s
  | .downRailOvercurrent r => Sys2Proof.Machine.execDownRailOvercurrent r s
  | .sequencerRetry => Sys2Proof.Machine.execSequencerRetry s
  | .sequencerThermalRestart => Sys2Proof.Machine.execSequencerThermalRestart s
  | .emergOffRestart => Sys2Proof.Machine.execEmergOffRestart s
  | .hkseqCmdUp o => Sys2Proof.Machine.execHkseqCmdUp o s
  | .hkseqCmdDown o => Sys2Proof.Machine.execHkseqCmdDown o s
  | .resetOutputRelease k => Sys2Proof.Machine.execResetOutputRelease k s
  | .railEnWrite o r value => Sys2Proof.Machine.execRailEnWrite o r value s
  | .railVsetWrite o r mv => Sys2Proof.Machine.execRailVsetWrite o r mv s
  | .pathConverterStart => Sys2Proof.Machine.execPathConverterStart s
  | .startLatchClear => Sys2Proof.Machine.execStartLatchClear s
  | .handoverStart => Sys2Proof.Machine.execHandoverStart s
  | .handoverComplete => Sys2Proof.Machine.execHandoverComplete s
  | .handback => Sys2Proof.Machine.execHandback s
  | .packShutdown f len => Sys2Proof.Machine.execPackShutdown f len s
  | .packShutdownFinish => Sys2Proof.Machine.execPackShutdownFinish s
  | .packCutoff => Sys2Proof.Machine.execPackCutoff s
  | .emergencyCommitStart f len => Sys2Proof.Machine.execEmergencyCommitStart f len s
  | .emergencyCommitDone => Sys2Proof.Machine.execEmergencyCommitDone s
  | .chargeCvEntry => Sys2Proof.Machine.execChargeCvEntry s
  | .chargeDone => Sys2Proof.Machine.execChargeDone s
  | .chargeRestart => Sys2Proof.Machine.execChargeRestart s
  | .chargeTimerExpired => Sys2Proof.Machine.execChargeTimerExpired s
  | .packAbsent collapse => Sys2Proof.Machine.execPackAbsent collapse s
  | .packPresent => Sys2Proof.Machine.execPackPresent s
  | .authStart o => Sys2Proof.Machine.execAuthStart o s
  | .packAuthAttempt lost challenge response => Sys2Proof.Machine.execPackAuthAttempt lost challenge response s
  | .gaugeUpdate mc iin => Sys2Proof.Machine.execGaugeUpdate mc iin s
  | .gaugeForcedEmpty => Sys2Proof.Machine.execGaugeForcedEmpty s
  | .gaugeRest => Sys2Proof.Machine.execGaugeRest s
  | .gaugeImpStep dv di => Sys2Proof.Machine.execGaugeImpStep dv di s
  | .gaugeRelearn o => Sys2Proof.Machine.execGaugeRelearn o s
  | .rtcSecond rcKhz => Sys2Proof.Machine.execRtcSecond rcKhz s
  | .rtcTimeWrite o reg value => Sys2Proof.Machine.execRtcTimeWrite o reg value s
  | .rtcHaltWrite o halt => Sys2Proof.Machine.execRtcHaltWrite o halt s
  | .timeSecRead o => Sys2Proof.Machine.execTimeSecRead o s
  | .crystalStop => Sys2Proof.Machine.execCrystalStop s
  | .alarmArmWrite o arm => Sys2Proof.Machine.execAlarmArmWrite o arm s
  | .trimMeasStart o window apply => Sys2Proof.Machine.execTrimMeasStart o window apply s
  | .trimMeasDone count => Sys2Proof.Machine.execTrimMeasDone count s
  | .trimMeasAbort => Sys2Proof.Machine.execTrimMeasAbort s
  | .wakeRelease o => Sys2Proof.Machine.execWakeRelease o s
  | .wakeForce o => Sys2Proof.Machine.execWakeForce o s
  | .wakePulseEnd => Sys2Proof.Machine.execWakePulseEnd s
  | .compareArm o k hi => Sys2Proof.Machine.execCompareArm o k hi s
  | .compareFire k => Sys2Proof.Machine.execCompareFire k s
  | .comparePulseEnd k => Sys2Proof.Machine.execComparePulseEnd k s
  | .captureEdge k rising => Sys2Proof.Machine.execCaptureEdge k rising s
  | .capLoRead o k => Sys2Proof.Machine.execCapLoRead o k s
  | .tickLoRead o => Sys2Proof.Machine.execTickLoRead o s
  | .gpioCfgWrite o value => Sys2Proof.Machine.execGpioCfgWrite o value s
  | .otpProgWord o => Sys2Proof.Machine.execOtpProgWord o s
  | .otpProgCrc o region => Sys2Proof.Machine.execOtpProgCrc o region s
  | .otpMargin o region => Sys2Proof.Machine.execOtpMargin o region s
  | .otpProgDone pulses failA failB => Sys2Proof.Machine.execOtpProgDone pulses failA failB s
  | .granaryCommitDone bad => Sys2Proof.Machine.execGranaryCommitDone bad s
  | .granaryEraseDone => Sys2Proof.Machine.execGranaryEraseDone s
  | .granaryCommitRefused => Sys2Proof.Machine.execGranaryCommitRefused s
  | .granaryWearRewrite id => Sys2Proof.Machine.execGranaryWearRewrite id s
  | .logTailCommit => Sys2Proof.Machine.execLogTailCommit s
  | .custCommit o r len => Sys2Proof.Machine.execCustCommit o r len s
  | .lockCmdLock o page => Sys2Proof.Machine.execLockCmdLock o page s
  | .lockCmdLockHard o page => Sys2Proof.Machine.execLockCmdLockHard o page s
  | .lockCmdUnlock o page key => Sys2Proof.Machine.execLockCmdUnlock o page key s
  | .lockCmdFactoryUnlock o page key => Sys2Proof.Machine.execLockCmdFactoryUnlock o page key s
  | .changelogTailWrite o value => Sys2Proof.Machine.execChangelogTailWrite o value s
  | .changelogEntryRead o => Sys2Proof.Machine.execChangelogEntryRead o s
  | .readClearField o addr => Sys2Proof.Machine.execReadClearField o addr s
  | .hostRead q => Sys2Proof.Machine.execHostRead q s
  | .hostReadFixed q => Sys2Proof.Machine.execHostReadFixed q s
  | .hostWrite q data late => Sys2Proof.Machine.execHostWrite q data late s
  | .hostWriteFixed q data late => Sys2Proof.Machine.execHostWriteFixed q data late s
  | .hostBcastWrite q data late => Sys2Proof.Machine.execHostBcastWrite q data late s
  | .hostWriteDeferredApply => Sys2Proof.Machine.execHostWriteDeferredApply s
  | .hostFrameInvalid mark hdr four => Sys2Proof.Machine.execHostFrameInvalid mark hdr four s
  | .hostFrameAborted => Sys2Proof.Machine.execHostFrameAborted s
  | .streamRecordWrite => Sys2Proof.Machine.execStreamRecordWrite s
  | .streamDataRead o k => Sys2Proof.Machine.execStreamDataRead o k s
  | .streamRetire o k value => Sys2Proof.Machine.execStreamRetire o k value s
  | .streamEnableWrite o value => Sys2Proof.Machine.execStreamEnableWrite o value s
  | .streamConfigWrite o route value => Sys2Proof.Machine.execStreamConfigWrite o route value s
  | .twowireStatusRead => Sys2Proof.Machine.execTwowireStatusRead s
  | .twowireNop => Sys2Proof.Machine.execTwowireNop s
  | .twowireEstop => Sys2Proof.Machine.execTwowireEstop s
  | .twowireFaultClear => Sys2Proof.Machine.execTwowireFaultClear s
  | .twowireResume arg => Sys2Proof.Machine.execTwowireResume arg s
  | .twowireHkUp => Sys2Proof.Machine.execTwowireHkUp s
  | .twowireHkDown => Sys2Proof.Machine.execTwowireHkDown s
  | .twowireGo => Sys2Proof.Machine.execTwowireGo s
  | .twowireCharge en => Sys2Proof.Machine.execTwowireCharge en s
  | .twowireAck arg => Sys2Proof.Machine.execTwowireAck arg s
  | .twowireCmdDiscard bytes timedOut => Sys2Proof.Machine.execTwowireCmdDiscard bytes timedOut s
  | .twowireStatusWrite o value => Sys2Proof.Machine.execTwowireStatusWrite o value s
  | .alertResponseRead won => Sys2Proof.Machine.execAlertResponseRead won s
  | .twowireBusTimeout controller => Sys2Proof.Machine.execTwowireBusTimeout controller s
  | .registerWrite o addr value => Sys2Proof.Machine.execRegisterWrite o addr value s
  | .backupDomainPowerLoss => Sys2Proof.Machine.execBackupDomainPowerLoss s

end Sys2Proof.Machine
end

