-- ==== Sys2Proof/Safety.lean ====
section
/-! DEFINITION. The words in which claims about the device are stated: a step that goes on, what a command gives, what a
command leaves as it was, and room in the change log. -/

namespace Sys2Proof

/-- A state whose step goes on. -/
def stepsOn (s : Machine.State) : Prop := ∃ t, Machine.step s = .next t

/-- A run of `k` steps that neither faults nor is refused. -/
def runsOn : Nat → Machine.State → Prop
  | 0, _ => True
  | k + 1, s => ∃ t, Machine.step s = .next t ∧ runsOn k t

namespace Machine

/-- The command `c` in the state `s` answers a next state, and `P` holds there. -/
def gives (c : Instr) (s : State) (P : State → Prop) : Prop := ∃ t, exec c s = .next t ∧ P t

/-- Room for `n` more change-log entries, persistent ones too, with no LOG_OVERFLOW message waiting (R42 to R44). -/
abbrev logRoom (s : State) (n : Nat) : Prop :=
  s.fault.logPending = [] ∧ s.log.fill + n ≤ 1024 ∧
    s.log.persist.length + n + (if s.log.waiting.isSome then 20 else 0) ≤ 40

/-- Does a list of fields hold bit `k` of the register at `a`? -/
def holdsBit (l : List (Nat × Fld)) (a k : Nat) : Bool :=
  l.any (fun e => decide (a = addrOf e.1 e.2 ∧ e.2.lo ≤ k ∧ k ≤ e.2.hi))

/-- Every register bit is unchanged but those of the listed fields and of the listed pages. -/
def onlyBits (s t : State) (l : List (Nat × Fld)) (ps : List Nat) : Prop :=
  ∀ a k, ps.contains (a / 0x400) = false → holdsBit l a k = false → bitOf (t.rd a).toNat k = bitOf (s.rd a).toNat k

/-- The pages that a fault reaction, FAULT_N, the collector and the change log write: TWOWIRE, FAULT, CHANGELOG, TIMER (its
captures), CHAN and PHASE. -/
def reactionPages : List Nat :=
  [Pg.TWOWIRE, Pg.FAULT, Pg.CHANGELOG, Pg.TIMER] ++ (List.range 32).map Pg.CHAN ++ (List.range 64).map Pg.PHASE

/-- What a fault message of page `p` may change beside the reaction pages: the page's EVENT.FAULT and FAULT_LAST, and
CHIP:STATUS.FAULT_N_IN. -/
def messageFields (p : Nat) : List (Nat × Fld) :=
  [(p, ⟨0x008, 26, 26, 0⟩), (p, Reg.HEADER.FAULT_LAST), (Pg.CHIP, Reg.CHIP.STATUS_FAULT_N_IN)]

/-- Beside registers, `t` differs from `s` at most where a fault message and its reaction write: the change log, the
collector, the phases, the channels and the two-wire alert. -/
abbrev onlyReaction (s t : State) : Prop :=
  { t with regs := s.regs, log := s.log, fault := s.fault, phases := s.phases, chans := s.chans, alert := s.alert } = s

/-- A fault message is said: FAULT_LAST of its page holds the page, the kind, the address and the severity in force, and the
page's EVENT.FAULT is set (R338). -/
abbrev said (s t : State) (p kind a : Nat) : Prop :=
  t.get p Reg.HEADER.FAULT_LAST = faultMsg p kind a (effSeverity s p kind a) ∧ t.get p ⟨0x008, 26, 26, 0⟩ = 1

/-- Every register of the main pages holds its reset value, but for CHANGE_SEQ, which counts the locks that a cold reset
returns to their reset state (R30, R63). -/
def mainAtReset (t : State) : Prop :=
  ∀ a, pageIsMain (a / 0x400) = true → a % 0x400 ≠ 0x024 → t.rd a = resetWord a

/-- No key sequence is in progress that a host write of a page would break (R30, R355). -/
abbrev noKeys (s : State) (page : Nat) : Prop := keySeq s page = none ∧ keySeq s testSeq = none

/-- The register that an access names is there, and no key sequence is in progress that a host write of it would break. -/
abbrev hostReach (s : State) (page off : Nat) : Prop := reachable s (page * 0x400 + off) = true ∧ noKeys s page

/-- Beside registers and the change log, `t` is `s`. -/
abbrev onlyLogged (s t : State) : Prop := { t with regs := s.regs, log := s.log } = s

/-- Where an accepted write leaves its mark: CHANGE_SEQ of its page. The entry itself stands in the CHANGELOG page. -/
abbrev changeSeq (page : Nat) : Nat × Fld := (page, Reg.HEADER.CHANGE_SEQ)

/-- A frame that is addressed to this device, with its CRC over the OP and the data (R449, R452). -/
def ownFrame (s : State) (q : HostReq) (op : Nat) (data : List Nat) : HostReq :=
  { q with id := 32 * s.strap, crc := requestCrc { q with id := 32 * s.strap } op data }

/-- A register that a read leaves as it is and answers as it stands: nothing there clears, latches or moves with a read, and
the HOST page, which a frame itself changes, is left out. -/
def plainRead (s : State) (a : Nat) : Bool :=
  reachable s a && !(fieldsAt (a / 0x400) (a % 0x400)).any (fun f => decide (f.acc = .rc)) &&
    (match pageKind (a / 0x400) with
      | some k => (latches k (a % 0x400)).isEmpty && !latched k (a % 0x400) && !decide (k = .host) &&
          !(decide (k = .fault) && decide (a % 0x400 = 0x064)) &&
          !(decide (k = .stream) && decide (0x100 ≤ a % 0x400) && decide (a % 0x400 < 0x110)) &&
          !(decide (k = .timer) && decide (0x100 ≤ a % 0x400) && decide (a % 0x400 < 0x140))
      | none => false)

/-- Two host writes in turn: what became of each, and the state after both. -/
def twoWrites (s : State) (a v b w : Nat) : WRes × WRes × State :=
  let r := writeReg s Org.HOST a v
  let r2 := writeReg r.1 Org.HOST b w
  (r.2, r2.2, r2.1)

/-- `t` answers a write frame whose words left `u`: RESP tells words unavailable and words refused, the first such word, and
the service state; LAST_RESP shows RESP, the response holds it with its CRC on four lanes or one, and FRAMES counts (R450 to
R455). The queue, the
supply and the OTP are those of `s`. -/
abbrev answersWrite (s u t : State) (four unavail reject deferred : Bool) (first : Nat) : Prop :=
  bitOf (t.get Pg.HOST Reg.HOST.LAST_RESP_RESP) 13 = unavail ∧ bitOf (t.get Pg.HOST Reg.HOST.LAST_RESP_RESP) 12 = reject ∧
    bitOf (t.get Pg.HOST Reg.HOST.LAST_RESP_RESP) 11 = deferred ∧ bitsOf (t.get Pg.HOST Reg.HOST.LAST_RESP_RESP) 10 8 = u.service ∧
    bitsOf (t.get Pg.HOST Reg.HOST.LAST_RESP_RESP) 7 0 = first ∧
    t.reply = ⟨some (t.get Pg.HOST Reg.HOST.LAST_RESP_RESP), [], crc16 (bytesBE 2 (t.get Pg.HOST Reg.HOST.LAST_RESP_RESP)), four, []⟩ ∧
    t.get Pg.HOST Reg.HOST.FRAMES = min (2 ^ 32 - 1) (u.get Pg.HOST Reg.HOST.FRAMES + 1) ∧
    onlyBits u t [(Pg.HOST, Reg.HOST.LAST_RESP), (Pg.HOST, Reg.HOST.FRAMES), (Pg.HOST, Reg.HOST.DEFERRED)] [] ∧
    { t with regs := s.regs, reply := s.reply } =
      { u with regs := s.regs, reply := s.reply, pending := s.pending, powered := s.powered, otpA := s.otpA, otpB := s.otpB }

/-- `t` answers a write frame of two words, of which `r` says what became. -/
abbrev answersTwo (s t : State) (q : HostReq) (r : WRes × WRes × State) : Prop :=
  answersWrite s r.2.2 t q.four (decide (r.1 = .unavail) || decide (r.2.1 = .unavail)) (r.1.refused || r.2.1.refused) false
    (if decide (r.1 = .unavail) || r.1.refused then 0 else if decide (r.2.1 = .unavail) || r.2.1.refused then 1 else 0)

/-- An executed command word leaves it in LAST_CMD with RESULT 1, counts it, and sets EVENT bit 0 (R474, R475). -/
abbrev commandDone (s t : State) (word : Nat) : Prop :=
  t.get Pg.TWOWIRE Reg.TWOWIRE.LAST_CMD_WORD = word ∧ t.get Pg.TWOWIRE Reg.TWOWIRE.LAST_CMD_RESULT = 1 ∧
    t.get Pg.TWOWIRE Reg.TWOWIRE.CMDS = min (2 ^ 32 - 1) (s.get Pg.TWOWIRE Reg.TWOWIRE.CMDS + 1) ∧
    t.get Pg.TWOWIRE ⟨0x008, 0, 0, 0⟩ = 1

/-- The fields that `commandDone` speaks of. -/
def commandFields : List (Nat × Fld) :=
  [(Pg.TWOWIRE, Reg.TWOWIRE.LAST_CMD), (Pg.TWOWIRE, Reg.TWOWIRE.CMDS), (Pg.TWOWIRE, ⟨0x008, 0, 0, 0⟩)]

/-- CONTROL of every single and lead channel can be reached and holds no value out of range. -/
def leadsOk (s : State) : Bool :=
  (leadChans s).all (fun c => reachable s (Pg.CHAN c * 0x400 + 0x040) &&
    rangesOk (fieldsAt (Pg.CHAN c) 0x040) (s.rd (addrOf (Pg.CHAN c) Reg.CHAN.CONTROL)).toNat)

end Machine

end Sys2Proof
end

