-- ==== Sys2Proof/Certificates/Slice0/Obligations.lean ====
section
/-! DEFINITION. The statements about the device, family by family, each from the rules its docstring and OBLIGATIONS.json
name. Where a statement concludes `∃ t, exec c s = .next t ∧ …`, the command c in the state s answers a next state. -/

open Sys2Proof Sys2Proof.Machine

/-- For every command and state, a step with the command at the front of the queue is exec of the command on the state
  with the queue's rest. The queue is the model's (log entry 1). -/
def Obligations.StepRunsFront : Prop :=
  ∀ (c : Instr) (rest : List Instr) (s : State), s.pending = c :: rest →
      step s = exec c { s with pending := rest }

/-- On an empty queue a step answers a next state in which the RC oscillator has advanced by one microsecond; in FULL TICK
  has advanced by 200 core cycles modulo 2^56, elsewhere it stands; the TRANSIT output, which a boundary drives high,
  is low again; nothing else has changed. That time passes on an empty queue is the model's choice (log entry 3).
  Rests on R61, R85, R417. -/
def Obligations.IdleStepOnlyLetsTimePass : Prop :=
  ∀ (s : State), s.pending = [] →
      ∃ t, step s = .next t ∧ t.rcUs = s.rcUs + 1 ∧ t.timer.tick = (if s.full then (s.timer.tick + 200) % 2 ^ 56 else
        s.timer.tick) ∧ t.transit.high = false ∧
        { t with rcUs := s.rcUs, timer := { t.timer with tick := s.timer.tick }, transit := { t.transit with high := s.transit.high } }
        = s

/-- For every state, whatever command waits at the front of its queue with whatever operands, step answers a next state,
  and the queue of that state is the rest of the queue before. Rests on R40. -/
def Obligations.EveryStepGoesOn : Prop :=
  ∀ (s : State),
      ∃ t, step s = .next t ∧ t.pending = s.pending.tail

/-- After reset the device is powered, in SAFETY_START, at frame 0, with cause POWER_ON, FAULT_N driven low and the chip
  safe state held, every channel OFF, of the pages that carry a LOCK register the OTP and BANK pages locked and every
  other unlocked, no active fault entry, an empty change log and an empty queue; the register file is in its canonical
  form. Rests on R46, R60, R61, R63, R33. -/
def Obligations.ResetState : Prop :=
  State.reset.powered = true ∧ State.reset.service = Svc.SAFETY_START ∧ State.reset.frame = 0 ∧
  State.reset.get Pg.CHIP Reg.CHIP.RESET_CAUSE = 1 ∧ State.reset.flag Pg.FAULT Reg.FAULT.STATUS_FAULT_N_OUT = true ∧
  State.reset.flag Pg.FAULT Reg.FAULT.STATUS_CHIP_SAFE = true ∧ (∀ c < 32, State.reset.cstate c = Ch.OFF) ∧
  (∀ p < 0x4000, pageKind p ≠ some .recipe → fieldsAt p 0x020 ≠ [] → lockState State.reset p = if p = Pg.OTP ∨
    pageKind p = some .bank then 1 else 0) ∧
  State.reset.fault.active = [] ∧ State.reset.log.fill = 0 ∧ State.reset.pending = [] ∧
  Table.wf resetWord State.reset.regs = true

/-- For every state and every step that answers a next state, each physical bit of the OTP that was programmed is
  programmed after it, in both arrays, whatever the command, the operation in progress and its failed bits. Rests on
  R423, R430, R431. -/
def Obligations.OtpBitsStayProgrammed : Prop :=
  ∀ (s t : State), step s = .next t →
      ∀ a k, (bitOf (Table.get 0 s.otpA a) k = true → bitOf (Table.get 0 t.otpA a) k = true) ∧ (bitOf (Table.get 0
        s.otpB a) k = true → bitOf (Table.get 0 t.otpB a) k = true)

/-- In every step that answers a next state, a device that had supply and has none had VSYS_POWER_LOSS at the front of its
  queue, and one that had none and has supply had VSYS_POWER_ON there. Every other command leaves the supply as it is,
  in every state. Rests on R46, R61. -/
def Obligations.OnlyVsysChangesTheSupply : Prop :=
  ∀ (s t : State), step s = .next t →
      (s.powered = true → t.powered = false → s.pending.head? = some .vsysPowerLoss) ∧
      (s.powered = false → t.powered = true → ∃ strap, s.pending.head? = some (.vsysPowerOn strap))

/-- In every step that answers a next state, the OTP's two arrays are as before unless OTP_PROG_DONE was at the front of
  the queue of a device in FULL with an operation under way. Rests on R430, R431, R432, R433. -/
def Obligations.OnlyProgrammingChangesTheOtp : Prop :=
  ∀ (s t : State), step s = .next t →
  s.otpOp = none ∨ s.full = false ∨ (∀ a b c, s.pending.head? ≠ some (.otpProgDone a b c)) →
      t.otpA = s.otpA ∧ t.otpB = s.otpB

/-- For every state, every origin that can read and every LO word of a 64-bit pair of the LEDGER page that is reachable:
  the read completes, answers the LO word, and from then on, in every state that holds the same latched words and in
  which the HI word is reachable, a read of HI by that origin answers the value HI had at the read of LO. The register
  file is as before. A next state is stated for LO_WORD_LATCH_READ. -/
def Obligations.LoWordsLatchTheirHiWords : Prop :=
  ∀ (s : State) (o : Origin) (addr : Nat), isLoWord addr = true → reachable s addr = true → originLive s o = true →
  logRoom s 0 →
      ∃ t, Sys2Proof.Machine.exec (.loWordLatchRead o addr) s = .next t ∧
      t.reply.data = [liveWord s addr] ∧
      (∀ u : State, u.snaps = t.snaps → reachable u (addr + 4) = true → (readWord u (originCode o) (addr + 4)).1 =
        liveWord s (addr + 4)) ∧
      onlyBits s t [] [] ∧ { t with regs := s.regs, snaps := s.snaps, reply := s.reply } = s

/-- For every state, every origin that can read and every channel whose END_INFO is reachable: the read completes and
  answers END_INFO, and in every later state that holds the same latched words and in which the register is reachable,
  a read by that origin of each of the nine offsets 0x244 to 0x264 answers the value it had at the read of END_INFO.
  The register file is as before. A next state is stated for END_INFO_READ. -/
def Obligations.EndInfoReadLatchesItsBlock : Prop :=
  ∀ (s : State) (o : Origin) (c : Nat), c < 32 → reachable s (Pg.CHAN c * 0x400 + 0x240) = true →
  originLive s o = true → logRoom s 0 →
      ∃ t, Sys2Proof.Machine.exec (.endInfoRead o c) s = .next t ∧
      t.reply.data = [liveWord s (Pg.CHAN c * 0x400 + 0x240)] ∧
      (∀ j < 9, ∀ u : State, u.snaps = t.snaps → reachable u (Pg.CHAN c * 0x400 + 0x244 + 4 * j) = true → (readWord u
        (originCode o) (Pg.CHAN c * 0x400 + 0x244 + 4 * j)).1 = liveWord s (Pg.CHAN c * 0x400 + 0x244 + 4 * j)) ∧
      onlyBits s t [] [] ∧ { t with regs := s.regs, snaps := s.snaps, reply := s.reply } = s

/-- For every state in which RESET_CMD is reachable and no unlock sequence runs on its page, a write of RESET_CMD by any
  origin code but the host port's, or with a KEY other than 0x5E7A, is refused for lack of right: EVENT.RIGHT_REJECT
  of the CHIP page is set, an entry is logged, and nothing else changes: no reset is triggered. Rests on R72, R34. -/
def Obligations.ResetCommandNeedsHostAndKey : Prop :=
  ∀ (s : State) (o v : Nat), reachable s 0x48 = true → noKeys s Pg.CHIP → o ≠ Org.HOST ∨ bitsOf v 31 16 ≠ 0x5E7A →
  v < 2 ^ 32 → logRoom s 1 →
      (writeReg s o 0x48 v).2 = .right ∧
      (writeReg s o 0x48 v).1.get Pg.CHIP ⟨0x008, Ev.RIGHT_REJECT, Ev.RIGHT_REJECT, 0⟩ = 1 ∧
      (writeReg s o 0x48 v).1.log.fill = s.log.fill + 1 ∧
      onlyBits s (writeReg s o 0x48 v).1 [(Pg.CHIP, ⟨0x008, Ev.RIGHT_REJECT, Ev.RIGHT_REJECT, 0⟩)] [Pg.CHANGELOG] ∧
      onlyLogged s (writeReg s o 0x48 v).1

/-- A write of a register of a page that the origin may not write is refused: it sets the page's EVENT.RIGHT_REJECT and
  makes an entry, and nothing else changes; a write of an unreachable address changes nothing at all; a REGISTER_WRITE
  of a running main engine is only held in its stage, with its word, until the boundary. A next state is stated for
  REGISTER_WRITE. Rests on R26, R34, R275. -/
def Obligations.WritesOutsideRightsHaveNoEffect : Prop :=
  (∀ (s : State) (o addr v : Nat) (k : PageKind), reachable s addr = true → pageKind (addr / 0x400) = some k →
  k ≠ .recipe → readOnly k (addr / 0x400) (addr % 0x400) (fieldsAt (addr / 0x400) (addr % 0x400)) = false →
  addr % 0x400 ≠ 0x020 → noKeys s (addr / 0x400) → mayWrite s o (addr / 0x400) = false → logRoom s 1 →
      (writeReg s o addr v).2 = .right ∧
      (writeReg s o addr v).1.get (addr / 0x400) ⟨0x008, Ev.RIGHT_REJECT, Ev.RIGHT_REJECT, 0⟩ = 1 ∧
      onlyBits s (writeReg s o addr v).1 [(addr / 0x400, ⟨0x008, Ev.RIGHT_REJECT, Ev.RIGHT_REJECT, 0⟩)] [Pg.CHANGELOG]
        ∧
      onlyLogged s (writeReg s o addr v).1) ∧
  (∀ (s : State) (o addr v : Nat), reachable s addr = false →
      writeReg s o addr v = (s, .unavail)) ∧
  (∀ (s : State) (n addr v : Nat), n < 10 → engRuns s n = true → addr < 2 ^ 24 → addr % 4 = 0 → logRoom s 0 →
      ∃ t, Sys2Proof.Machine.exec (.registerWrite (.engine n) addr v) s = .next t ∧
      t.staged = s.staged ++ [(Org.ENG n, addr, v % 2 ^ 32)] ∧ onlyBits s t [] [] ∧
      { t with regs := s.regs, staged := s.staged } = s) ∧
  (∀ (s : State), reachable s 0x4C = true → keySeq s Pg.CHIP = none →
  s.flag Pg.CHIP Reg.CHIP.STATUS_GO_PENDING = false → logRoom s 1 →
      ∃ t, Sys2Proof.Machine.exec (.registerWrite .host 0x4C 1) s = .next t ∧
      t.flag Pg.CHIP Reg.CHIP.STATUS_GO_PENDING = true ∧
      onlyBits s t [(Pg.CHIP, Reg.CHIP.STATUS_GO_PENDING), (Pg.CHIP, Reg.HEADER.CHANGE_SEQ)] [Pg.CHANGELOG] ∧
      onlyLogged s t)

/-- From the host port, on a page that carries a LOCK register (every page but the recipe windows), with no key sequence
  of the page in progress: LOCK of a page not hard-locked leaves it locked and LOCK_HARD leaves it hard-locked, each
  with CHANGE_SEQ and its entry where the state changes, and nothing else. The first key of UNLOCK on an unlocked or
  locked page starts a sequence with the frame and the RC time; its second key in time leaves the page unlocked and
  ends the sequence. FACTORY_UNLOCK with every channel off and the IDENTITY region not failed starts with the upper
  half of the factory key and ends, with the lower half, factory-unlocked. Which key is compared before IDENTITY has
  been read is the model's choice (log entry 71). A next state is stated for LOCK_CMD_LOCK, LOCK_CMD_LOCK_HARD,
  LOCK_CMD_UNLOCK, LOCK_CMD_FACTORY_UNLOCK. Rests on R30, R31, R63. -/
def Obligations.LocksAndKeys : Prop :=
  (∀ (s : State) (p : Nat), p < 0x4000 → pageKind p ≠ some .recipe → hostReach s p 0x020 → lockState s p ≠ 2 →
  logRoom s 1 →
      ∃ t, Sys2Proof.Machine.exec (.lockCmdLock .host p) s = .next t ∧
      t.log.fill = s.log.fill + (if lockState s p = 1 then 0 else 1) ∧ lockState t p = 1 ∧
      onlyBits s t [(p, Reg.HEADER.LOCK_STATE), changeSeq p] [Pg.CHANGELOG] ∧
      onlyLogged s { t with keys := s.keys }) ∧
  (∀ (s : State) (p : Nat), p < 0x4000 → pageKind p ≠ some .recipe → hostReach s p 0x020 → logRoom s 1 →
      ∃ t, Sys2Proof.Machine.exec (.lockCmdLockHard .host p) s = .next t ∧
      t.log.fill = s.log.fill + (if lockState s p = 2 then 0 else 1) ∧ lockState t p = 2 ∧
      onlyBits s t [(p, Reg.HEADER.LOCK_STATE), changeSeq p] [Pg.CHANGELOG] ∧
      onlyLogged s { t with keys := s.keys }) ∧
  (∀ (s : State) (p : Nat), p < 0x4000 → pageKind p ≠ some .recipe → hostReach s p 0x020 → lockState s p ≤ 1 →
  logRoom s 0 →
      ∃ t, Sys2Proof.Machine.exec (.lockCmdUnlock .host p 0x55AA) s = .next t ∧
      keySeq t p = some ⟨1, s.frame, s.rcUs, !s.full⟩ ∧ onlyBits s t [] [] ∧
      { t with regs := s.regs, keys := s.keys } = s) ∧
  (∀ (s : State) (p : Nat), p < 0x4000 → pageKind p ≠ some .recipe → reachable s (p * 0x400 + 0x020) = true →
  (keySeq s p).map (fun q => q.kind) = some 1 → keySeq s testSeq = none → logRoom s 1 →
      ∃ t, Sys2Proof.Machine.exec (.lockCmdUnlock .host p 0xAA55) s = .next t ∧
      lockState t p = 0 ∧ keySeq t p = none ∧ onlyBits s t [(p, Reg.HEADER.LOCK_STATE), changeSeq p] [Pg.CHANGELOG] ∧
      onlyLogged s { t with keys := s.keys }) ∧
  (∀ (s : State) (p : Nat), p < 0x4000 → pageKind p ≠ some .recipe → hostReach s p 0x020 → lockState s p ≤ 1 →
  s.allOff = true → s.getBit Pg.CHIP Reg.CHIP.STATUS_OTP_FAIL 2 = false → logRoom s 0 →
      ∃ t, Sys2Proof.Machine.exec (.lockCmdFactoryUnlock .host p (keyWord s 0x96 / 65536 % 65536)) s = .next t ∧
      keySeq t p = some ⟨2, s.frame, s.rcUs, !s.full⟩ ∧ onlyBits s t [] [] ∧
      { t with regs := s.regs, keys := s.keys } = s) ∧
  (∀ (s : State) (p : Nat), p < 0x4000 → pageKind p ≠ some .recipe → reachable s (p * 0x400 + 0x020) = true →
  (keySeq s p).map (fun q => q.kind) = some 2 → keySeq s testSeq = none → s.allOff = true →
  s.getBit Pg.CHIP Reg.CHIP.STATUS_OTP_FAIL 2 = false → logRoom s 1 →
      ∃ t, Sys2Proof.Machine.exec (.lockCmdFactoryUnlock .host p (keyWord s 0x96 % 65536)) s = .next t ∧
      lockState t p = 3 ∧ keySeq t p = none ∧ onlyBits s t [(p, Reg.HEADER.LOCK_STATE), changeSeq p] [Pg.CHANGELOG] ∧
      onlyLogged s { t with keys := s.keys })

/-- A host write of TAIL, with MIRROR 0, to an index ahead of TAIL by fewer than FILL entries moves TAIL there, and one to
  HEAD empties the ring; the change log holds HEAD less TAIL, modulo 1,024, entries then, and nothing else changes. A
  read of ENTRY.0 answers it and latches the five words after it. A read of a register with read-to-clear fields
  answers it and leaves those fields 0 and every other bit as it was; FIFO_MSG, whose read takes a message, has its
  own statement. A next state is stated for CHANGELOG_TAIL_WRITE, CHANGELOG_ENTRY_READ, READ_CLEAR_FIELD. Rests on R4,
  R42, R498, R499. -/
def Obligations.TheChangeLogIsConsumed : Prop :=
  (∀ (s : State) (v d : Nat), v < 1024 → hostReach s Pg.CHANGELOG 0x048 →
  s.flag Pg.CHANGELOG Reg.CHANGELOG.CTRL_MIRROR = false →
  d = (v + 1024 - s.get Pg.CHANGELOG Reg.CHANGELOG.TAIL_TAIL) % 1024 →
  v = s.get Pg.CHANGELOG Reg.CHANGELOG.HEAD_HEAD ∨ (1 ≤ d ∧ d < s.log.fill) → logRoom s 0 →
      ∃ t, Sys2Proof.Machine.exec (.changelogTailWrite .host v) s = .next t ∧
      t.get Pg.CHANGELOG Reg.CHANGELOG.TAIL_TAIL = v ∧
      t.log.fill = (s.get Pg.CHANGELOG Reg.CHANGELOG.HEAD_HEAD + 1024 - v) % 1024 ∧
      onlyBits s t [(Pg.CHANGELOG, Reg.CHANGELOG.TAIL_TAIL)] [] ∧
      { t with regs := s.regs, log := { t.log with fill := s.log.fill } } = s) ∧
  (∀ (s : State) (o : Origin), reachable s (Pg.CHANGELOG * 0x400 + 0x064) = true → originLive s o = true →
  logRoom s 0 →
      ∃ t, Sys2Proof.Machine.exec (.changelogEntryRead o) s = .next t ∧
      t.reply.data = [liveWord s (Pg.CHANGELOG * 0x400 + 0x064)] ∧
      (∀ j < 5, Table.get 0 t.snaps (snapKey (originCode o) (Pg.CHANGELOG * 0x400 + 0x068 + 4 * j)) = liveWord s
        (Pg.CHANGELOG * 0x400 + 0x068 + 4 * j)) ∧
      onlyBits s t [] [] ∧ { t with regs := s.regs, snaps := s.snaps, reply := s.reply } = s) ∧
  (∀ (s : State) (o : Origin) (a : Nat), reachable s a = true → originLive s o = true → hasRc a = true →
  a ≠ Pg.FAULT * 0x400 + 0x064 → logRoom s 0 →
      ∃ t, Sys2Proof.Machine.exec (.readClearField o a) s = .next t ∧
      t.reply.data = [liveWord s a] ∧
      ((fieldsAt (a / 0x400) (a % 0x400)).filter (fun f => decide (f.acc = .rc))).all (fun f => decide (t.get (a /
        0x400) ⟨a % 0x400, f.hi, f.lo, 0⟩ = 0)) = true ∧
      onlyBits s t (((fieldsAt (a / 0x400) (a % 0x400)).filter (fun f => decide (f.acc = .rc))).map (fun f => (a /
        0x400, ⟨a % 0x400, f.hi, f.lo, 0⟩))) [] ∧
      { t with regs := s.regs, reply := s.reply } = s)

/-- Without supply, and with the path converter running or the start latch clear, VSYS_POWER_ON answers a state with
  supply, in SAFETY_START, with RESET_CAUSE holding POWER_ON alone, IDENT.ID_STRAP the strap sampled, and frame number
  0. With supply, VSYS_POWER_LOSS answers a state without it, with RTC:STATUS.ON_VBK set, the path converter off and
  frame number 0. A pending cold reset that executes answers SAFETY_START with RESET_CAUSE holding COLD_CMD alone,
  IDENT.ID_STRAP the levels that the straps show by then, every housekeeping rail off and the slots of the Granary
  kept. In each the OTP and the queue are as before, and every register of the main pages is at its reset value. A
  next state is stated for VSYS_POWER_ON, VSYS_POWER_LOSS, COLD_RESET_EXECUTE. Rests on R46, R63, R67, R72. -/
def Obligations.SupplyStartsAndEndsTheDevice : Prop :=
  (∀ (s : State) (strap : Nat), s.powered = false → strap < 8 → s.backup.path = true ∨ s.backup.latch = false →
      ∃ t, Sys2Proof.Machine.exec (.vsysPowerOn strap) s = .next t ∧
      t.powered = true ∧ t.service = Svc.SAFETY_START ∧ t.strap = strap ∧ t.svc.straps = strap ∧
      t.get Pg.CHIP Reg.CHIP.RESET_CAUSE = 1 ∧ t.frame = 0 ∧ mainAtReset t ∧ t.otpA = s.otpA ∧ t.otpB = s.otpB ∧
      t.pending = s.pending) ∧
  (∀ (s : State), s.powered = true →
      ∃ t, Sys2Proof.Machine.exec .vsysPowerLoss s = .next t ∧
      t.powered = false ∧ t.service = Svc.SAFETY_START ∧ t.flag Pg.RTC Reg.RTC.STATUS_ON_VBK = true ∧
      t.backup.path = false ∧ t.frame = 0 ∧ mainAtReset t ∧ t.otpA = s.otpA ∧ t.otpB = s.otpB ∧
      t.pending = s.pending) ∧
  (∀ (s : State), s.powered = true → s.svc.coldPend = true →
      ∃ t, Sys2Proof.Machine.exec .coldResetExecute s = .next t ∧
      t.powered = true ∧ t.service = Svc.SAFETY_START ∧ t.svc.coldPend = false ∧
      (s.svc.straps < 8 → t.strap = s.svc.straps) ∧ t.get Pg.CHIP Reg.CHIP.RESET_CAUSE = 2 ∧ t.frame = 0 ∧
      mainAtReset t ∧ t.gran.slots = s.gran.slots ∧ (∀ r < 4, railOn t r = false) ∧ t.otpA = s.otpA ∧
      t.otpB = s.otpB ∧ t.pending = s.pending)

/-- In SAFETY_START a failed self-test only notes the failure and the device stays; one that passes, with the OTP safety
  region valid and the power path up, leaves REDUCED with ENG.10 and ENG.11 running. REFCLK within 5 % of its set
  frequency without an excursion for its window (1 ms from HK3 being qualified, 100 µs in holdover) on a qualified HK3
  sets the qualification, the presence, the measured frequency and CHIP:STATUS.REFCLK_OK and nothing else. MAIN_START
  is entered from REDUCED with housekeeping up, REFCLK qualified and AUTO_FULL or a pending GO, which it clears. The
  PLL's lock sets PLL_LOCK in CLOCK and CHIP and nothing else. A next state is stated for REEVE_SELFTEST_DONE,
  REFCLK_QUALIFIED, MAIN_START_ENTRY, PLL_LOCKED. Rests on R46, R49, R52, R70, R71, R77. -/
def Obligations.SafetyStartGoesOn : Prop :=
  (∀ (s : State) (v : Nat), s.inService Svc.SAFETY_START = true → s.svc.selftestFail = false → rowWaits s = false →
  logRoom s 0 →
      ∃ t, Sys2Proof.Machine.exec (.reeveSelftestDone false v) s = .next t ∧
      t.svc.selftestFail = true ∧ onlyBits s t [] [] ∧
      { t with regs := s.regs, svc := { t.svc with selftestFail := s.svc.selftestFail } } = s) ∧
  (∀ (s : State) (v : Nat), s.inService Svc.SAFETY_START = true → s.svc.selftestFail = false → rowWaits s = false →
  otpPass s 0 = true → s.backup.path = true →
      ∃ t, Sys2Proof.Machine.exec (.reeveSelftestDone true v) s = .next t ∧
      t.service = Svc.REDUCED ∧ estate t 10 = Es.RUNNING ∧ estate t 11 = Es.RUNNING) ∧
  (∀ (s : State) (khz : Nat), s.reducedOrLater = true → railQual s 2 = true → refWindow s = true →
  s.flag Pg.CLOCK Reg.CLOCK.STATUS_REFCLK_QUAL = false → khz < 65536 →
  95 * s.get Pg.CLOCK Reg.CLOCK.REFCLK_CFG_FREQ_KHZ ≤ 100 * khz →
  100 * khz ≤ 105 * s.get Pg.CLOCK Reg.CLOCK.REFCLK_CFG_FREQ_KHZ → logRoom s 0 →
      ∃ t, Sys2Proof.Machine.exec (.refclkQualified khz) s = .next t ∧
      t.flag Pg.CLOCK Reg.CLOCK.STATUS_REFCLK_QUAL = true ∧ t.flag Pg.CLOCK Reg.CLOCK.STATUS_REFCLK_PRESENT = true ∧
      t.flag Pg.CHIP Reg.CHIP.STATUS_REFCLK_OK = true ∧ t.get Pg.CLOCK Reg.CLOCK.REFCLK_MEAS_KHZ = khz ∧
      onlyBits s t [(Pg.CLOCK, Reg.CLOCK.STATUS_REFCLK_QUAL), (Pg.CLOCK, Reg.CLOCK.STATUS_REFCLK_PRESENT), (Pg.CLOCK,
        Reg.CLOCK.REFCLK_MEAS_KHZ), (Pg.CHIP, Reg.CHIP.STATUS_REFCLK_OK)] [] ∧
      t.clock.refEpisode = false ∧
      { t with regs := s.regs, clock := { t.clock with refEpisode := s.clock.refEpisode } } = s) ∧
  (∀ (s : State), s.inService Svc.REDUCED = true → rowWaits s = false → s.flag Pg.CHIP Reg.CHIP.STATUS_HK_UP = true →
  s.flag Pg.CLOCK Reg.CLOCK.STATUS_REFCLK_QUAL = true →
  s.flag Pg.CHIP Reg.CHIP.START_CFG_AUTO_FULL = true ∨ s.flag Pg.CHIP Reg.CHIP.STATUS_GO_PENDING = true →
  logRoom s 0 →
      ∃ t, Sys2Proof.Machine.exec .mainStartEntry s = .next t ∧
      t.service = Svc.MAIN_START ∧ t.flag Pg.CHIP Reg.CHIP.STATUS_GO_PENDING = false ∧
      onlyBits s t [(Pg.CHIP, Reg.CHIP.STATUS_SERVICE), (Pg.CHIP, Reg.CHIP.STATUS_GO_PENDING), (Pg.CHIP, ⟨0x008, 0, 0,
        0⟩), (Pg.TWOWIRE, Reg.TWOWIRE.STATUS_LATCHED)] [] ∧
      { t with regs := s.regs, alert := s.alert } = s) ∧
  (∀ (s : State), s.inService Svc.MAIN_START = true → s.flag Pg.CLOCK Reg.CLOCK.STATUS_PLL_LOCK = false →
  logRoom s 0 →
      ∃ t, Sys2Proof.Machine.exec .pllLocked s = .next t ∧
      t.flag Pg.CLOCK Reg.CLOCK.STATUS_PLL_LOCK = true ∧ t.flag Pg.CHIP Reg.CHIP.STATUS_PLL_LOCK = true ∧
      onlyBits s t [(Pg.CLOCK, Reg.CLOCK.STATUS_PLL_LOCK), (Pg.CHIP, Reg.CHIP.STATUS_PLL_LOCK)] [] ∧
      { t with regs := s.regs, clock := s.clock } = s)

/-- In MAIN_START without a lock, PLL_LOCK_TIMEOUT restarts the main domain: REDUCED, with the start marked a restart and
  no warm reset pending. With the PLL locked the OTP load sets OTP_LOADED, and after it ENGINES_BOOTED enters JOINING
  with ENGINES_UP. In JOINING a follower that is not aligned raises TRANSIT_SKEW with address 0 once when its wait
  runs out. A next state is stated for PLL_LOCK_TIMEOUT, OTP_LOAD_DONE, ENGINES_BOOTED, TRANSIT_WAIT_TIMEOUT. Rests on
  R46, R54, R56, R57, R64, R77, R500. -/
def Obligations.MainStartJoins : Prop :=
  (∀ (s : State), s.inService Svc.MAIN_START = true → rowWaits s = false →
  s.flag Pg.CLOCK Reg.CLOCK.STATUS_PLL_LOCK = false →
      ∃ t, Sys2Proof.Machine.exec .pllLockTimeout s = .next t ∧
      t.service = Svc.REDUCED ∧ t.svc.restarted = true ∧ t.svc.warmPend = none ∧ t.otpA = s.otpA ∧ t.otpB = s.otpB ∧
      t.pending = s.pending ∧ t.rcUs = s.rcUs) ∧
  (∀ (s : State), s.inService Svc.MAIN_START = true → s.flag Pg.CLOCK Reg.CLOCK.STATUS_PLL_LOCK = true →
  s.flag Pg.CHIP Reg.CHIP.STATUS_OTP_LOADED = false →
      ∃ t, Sys2Proof.Machine.exec .otpLoadDone s = .next t ∧
      t.flag Pg.CHIP Reg.CHIP.STATUS_OTP_LOADED = true ∧ t.otpA = s.otpA ∧ t.otpB = s.otpB ∧ t.pending = s.pending) ∧
  (∀ (s : State), s.inService Svc.MAIN_START = true → rowWaits s = false →
  s.flag Pg.CHIP Reg.CHIP.STATUS_OTP_LOADED = true →
      ∃ t, Sys2Proof.Machine.exec .enginesBooted s = .next t ∧
      t.service = Svc.JOINING ∧ t.flag Pg.CHIP Reg.CHIP.STATUS_ENGINES_UP = true ∧ t.otpA = s.otpA ∧ t.otpB = s.otpB ∧
      t.pending = s.pending) ∧
  (∀ (s : State), s.inService Svc.JOINING = true → isSource s = false →
  s.flag Pg.TRANSIT Reg.TRANSIT.STATUS_ALIGNED = false → s.transit.waitRaised = false →
      ∃ t, Sys2Proof.Machine.exec .transitWaitTimeout s = .next t ∧
      said s t Pg.TRANSIT Kind.TRANSIT_SKEW 0 ∧ t.transit.waitRaised = true ∧
      onlyBits s t (messageFields Pg.TRANSIT) reactionPages ∧ onlyReaction s { t with transit := s.transit })

/-- From the host port: GO sets GO_PENDING; RESET_CMD WARM in MAIN_START, JOINING or FULL holds a warm reset with cause
  bit 3; RESET_CMD COLD of a device past its self-test makes a cold reset pending. WARM_RESET_ENTRY with no Granary
  page write in progress enters WARM_RESET; MAIN_RESET_COMPLETE then counts the warm reset and goes to MAIN_START
  where REFCLK is qualified, else to REDUCED. A next state is stated for CHIP_GO, RESET_CMD_WARM, RESET_CMD_COLD,
  WARM_RESET_ENTRY, MAIN_RESET_COMPLETE. Rests on R46, R62, R63, R64, R66, R67, R70. -/
def Obligations.ResetCommandsTakeEffect : Prop :=
  (∀ (s : State), reachable s 0x4C = true → keySeq s Pg.CHIP = none →
  s.flag Pg.CHIP Reg.CHIP.STATUS_GO_PENDING = false → logRoom s 1 →
      ∃ t, Sys2Proof.Machine.exec (.chipGo .host) s = .next t ∧
      t.flag Pg.CHIP Reg.CHIP.STATUS_GO_PENDING = true ∧
      onlyBits s t [(Pg.CHIP, Reg.CHIP.STATUS_GO_PENDING), (Pg.CHIP, Reg.HEADER.CHANGE_SEQ)] [Pg.CHANGELOG] ∧
      { t with regs := s.regs, log := s.log } = s) ∧
  (∀ (s : State), reachable s 0x48 = true → keySeq s Pg.CHIP = none →
  s.service = Svc.MAIN_START ∨ s.service = Svc.JOINING ∨ s.service = Svc.FULL → s.svc.warmPend = none →
  s.svc.coldPend = false →
      ∃ t, Sys2Proof.Machine.exec (.resetCmdWarm .host) s = .next t ∧
      t.svc.warmPend = some 3 ∧
      onlyBits s t [(Pg.CHIP, Reg.HEADER.CHANGE_SEQ), (Pg.CHIP, Reg.CHIP.STATUS_FAULT_N_IN)] reactionPages ∧
      onlyReaction s { t with svc := { t.svc with warmPend := none } }) ∧
  (∀ (s : State) (f : FrameIn) (len : Nat), s.powered = true → reachable s 0x48 = true →
      ∃ t, Sys2Proof.Machine.exec (.resetCmdCold .host f len) s = .next t ∧
      t.svc.coldPend = true ∧ t.powered = true ∧ t.service = s.service ∧ t.otpA = s.otpA ∧ t.otpB = s.otpB ∧
      t.pending = s.pending) ∧
  (∀ (s : State) (f : FrameIn) (len bit : Nat), s.powered = true → s.svc.warmPend = some bit →
  s.svc.coldPend = false → s.gran.busy = none →
      ∃ t, Sys2Proof.Machine.exec (.warmResetEntry f len) s = .next t ∧
      t.service = Svc.WARM_RESET ∧ t.svc.warmPend = none ∧ t.svc.warmDone = true ∧ t.otpA = s.otpA ∧ t.otpB = s.otpB ∧
      t.pending = s.pending) ∧
  (∀ (s : State), s.inService Svc.WARM_RESET = true → rowWaits s = false →
      ∃ t, Sys2Proof.Machine.exec .mainResetComplete s = .next t ∧
      t.service = (if s.flag Pg.CLOCK Reg.CLOCK.STATUS_REFCLK_QUAL then Svc.MAIN_START else Svc.REDUCED) ∧
      t.get Pg.CHIP Reg.CHIP.WARM_COUNT = min (s.get Pg.CHIP Reg.CHIP.WARM_COUNT + 1) (2 ^ Reg.CHIP.WARM_COUNT.width -
        1))

/-- In FULL and not in holdover, a REFCLK that is lost and a PLL that unlocks each enter holdover: CLOCK:STATUS.HOLDOVER
  is set, PLL_LOCK cleared in CLOCK and CHIP, HOLD_COUNT may advance and EVENT bit 0 be set; for REFCLK its
  qualification and CHIP:STATUS.REFCLK_OK are cleared and REFCLK_MEAS shows the frequency measured, 0 without an edge.
  The first of an episode is said with address 0. With REFCLK qualified the end of the holdover clears HOLDOVER, sets
  PLL_LOCK in both pages and EVENT bit 1, and HOLD_MAX takes the longer of itself and the time in holdover. Once
  LIMIT_MS has passed, the limit leaves a warm reset waiting with cause bit 4. A next state is stated for REFCLK_LOSS,
  PLL_UNLOCK, HOLDOVER_END, HOLDOVER_LIMIT_EXPIRY. Rests on R46, R77, R79, R80, R500. -/
def Obligations.HoldoverAndItsEnd : Prop :=
  (∀ (s : State) (khz : Option Nat), s.full = true → s.flag Pg.CLOCK Reg.CLOCK.STATUS_HOLDOVER = false →
  ((∀ k, khz = some k → khzOk s k = false)) → s.clock.refEpisode = false →
      ∃ t, Sys2Proof.Machine.exec (.refclkLoss khz) s = .next t ∧
      t.flag Pg.CLOCK Reg.CLOCK.STATUS_HOLDOVER = true ∧ t.flag Pg.CLOCK Reg.CLOCK.STATUS_REFCLK_QUAL = false ∧
      t.flag Pg.CHIP Reg.CHIP.STATUS_REFCLK_OK = false ∧ t.flag Pg.CLOCK Reg.CLOCK.STATUS_PLL_LOCK = false ∧
      t.flag Pg.CLOCK Reg.CLOCK.STATUS_REFCLK_PRESENT = khz.isSome ∧ said s t Pg.CLOCK Kind.REFCLK_LOSS 0 ∧
      t.service = Svc.FULL ∧ t.get Pg.CLOCK Reg.CLOCK.REFCLK_MEAS_KHZ = min (khz.getD 0) 65535 ∧
      onlyBits s t ([(Pg.CLOCK, Reg.CLOCK.STATUS_HOLDOVER), (Pg.CLOCK, Reg.CLOCK.STATUS_PLL_LOCK), (Pg.CLOCK,
        Reg.CLOCK.STATUS_REFCLK_QUAL), (Pg.CLOCK, Reg.CLOCK.STATUS_REFCLK_PRESENT), (Pg.CLOCK,
        Reg.CLOCK.REFCLK_MEAS_KHZ), (Pg.CHIP, Reg.CHIP.STATUS_PLL_LOCK), (Pg.CHIP, Reg.CHIP.STATUS_REFCLK_OK),
        (Pg.CLOCK, Reg.CLOCK.HOLD_COUNT), (Pg.CLOCK, ⟨0x008, 0, 0, 0⟩)] ++ messageFields Pg.CLOCK) reactionPages ∧
      onlyReaction s { t with clock := s.clock, rtc := { t.rtc with measLost := s.rtc.measLost } }) ∧
  (∀ (s : State), s.full = true → s.flag Pg.CLOCK Reg.CLOCK.STATUS_PLL_LOCK = true →
  s.flag Pg.CLOCK Reg.CLOCK.STATUS_HOLDOVER = false → s.clock.pllEpisode = false →
      ∃ t, Sys2Proof.Machine.exec .pllUnlock s = .next t ∧
      t.flag Pg.CLOCK Reg.CLOCK.STATUS_HOLDOVER = true ∧ t.flag Pg.CLOCK Reg.CLOCK.STATUS_PLL_LOCK = false ∧
      t.flag Pg.CHIP Reg.CHIP.STATUS_PLL_LOCK = false ∧ said s t Pg.CLOCK Kind.PLL_UNLOCK 0 ∧ t.service = Svc.FULL ∧
      onlyBits s t ([(Pg.CLOCK, Reg.CLOCK.STATUS_HOLDOVER), (Pg.CLOCK, Reg.CLOCK.STATUS_PLL_LOCK), (Pg.CHIP,
        Reg.CHIP.STATUS_PLL_LOCK), (Pg.CLOCK, Reg.CLOCK.HOLD_COUNT), (Pg.CLOCK, ⟨0x008, 0, 0, 0⟩)] ++ messageFields
        Pg.CLOCK) reactionPages ∧
      onlyReaction s { t with clock := s.clock, rtc := { t.rtc with measLost := s.rtc.measLost } }) ∧
  (∀ (s : State), s.full = true → s.flag Pg.CLOCK Reg.CLOCK.STATUS_HOLDOVER = true →
  s.flag Pg.CLOCK Reg.CLOCK.STATUS_REFCLK_QUAL = true → logRoom s 0 →
      ∃ t, Sys2Proof.Machine.exec .holdoverEnd s = .next t ∧
      t.flag Pg.CLOCK Reg.CLOCK.STATUS_HOLDOVER = false ∧ t.flag Pg.CLOCK Reg.CLOCK.STATUS_PLL_LOCK = true ∧
      t.flag Pg.CHIP Reg.CHIP.STATUS_PLL_LOCK = true ∧
      t.get Pg.CLOCK Reg.CLOCK.HOLD_MAX = max (s.get Pg.CLOCK Reg.CLOCK.HOLD_MAX) (satNat 32 (s.rcUs -
        s.clock.holdStartUs)) ∧
      t.clock.pllEpisode = false ∧ t.get Pg.CLOCK ⟨0x008, 1, 1, 0⟩ = 1 ∧
      onlyBits s t [(Pg.CLOCK, Reg.CLOCK.STATUS_HOLDOVER), (Pg.CLOCK, Reg.CLOCK.STATUS_PLL_LOCK), (Pg.CHIP,
        Reg.CHIP.STATUS_PLL_LOCK), (Pg.CLOCK, Reg.CLOCK.HOLD_MAX), (Pg.CLOCK, ⟨0x008, 1, 1, 0⟩)] [] ∧
      { t with regs := s.regs, clock := { t.clock with pllEpisode := s.clock.pllEpisode } } = s) ∧
  (∀ (s : State), s.full = true → s.flag Pg.CLOCK Reg.CLOCK.STATUS_HOLDOVER = true →
  s.clock.holdStartUs + 1000 * s.get Pg.CLOCK Reg.CLOCK.HOLDOVER_LIMIT_MS ≤ s.rcUs → s.svc.warmPend = none →
  s.svc.coldPend = false →
      ∃ t, Sys2Proof.Machine.exec .holdoverLimitExpiry s = .next t ∧
      t.svc.warmPend = some 4 ∧ t.service = Svc.FULL ∧
      t.get Pg.CLOCK Reg.CLOCK.HOLD_MAX = max (s.get Pg.CLOCK Reg.CLOCK.HOLD_MAX) (satNat 32 (s.rcUs -
        s.clock.holdStartUs)) ∧
      onlyBits s t [(Pg.CLOCK, Reg.CLOCK.HOLD_MAX), (Pg.CHIP, Reg.CHIP.STATUS_FAULT_N_IN)] reactionPages ∧
      onlyReaction s { t with svc := { t.svc with warmPend := none } })

/-- In JOINING a transit source that is not aligned becomes aligned at FRAME_BOUNDARY, with CHIP:STATUS.TRANSIT_ALIGNED;
  once it is aligned the next FRAME_BOUNDARY enters FULL. The two-boundary reading is the model's own (log entry 4). A
  next state is stated for FRAME_BOUNDARY. Rests on R56, R58, R92. -/
def Obligations.JoiningSourceAligns : Prop :=
  (∀ (s : State) (f : FrameIn), s.inService Svc.JOINING = true → frameStopped s = false → isSource s = true →
  s.flag Pg.TRANSIT Reg.TRANSIT.STATUS_ALIGNED = false →
      ∃ t, Sys2Proof.Machine.exec (.frameBoundary f) s = .next t ∧
      t.flag Pg.TRANSIT Reg.TRANSIT.STATUS_ALIGNED = true ∧ t.flag Pg.CHIP Reg.CHIP.STATUS_TRANSIT_ALIGNED = true ∧
      t.service = Svc.JOINING ∧ t.pending = s.pending ∧ t.otpA = s.otpA ∧ t.otpB = s.otpB) ∧
  (∀ (s : State) (f : FrameIn), s.inService Svc.JOINING = true → frameStopped s = false → isSource s = true →
  s.flag Pg.TRANSIT Reg.TRANSIT.STATUS_ALIGNED = true →
      ∃ t, Sys2Proof.Machine.exec (.frameBoundary f) s = .next t ∧
      t.service = Svc.FULL ∧ t.pending = s.pending ∧ t.otpA = s.otpA ∧ t.otpB = s.otpB)

/-- In FULL, with no reset pending and the frames not closed by a shutdown or an emergency commit, FRAME_BOUNDARY answers
  a next state whose frame number is one more, modulo 2^64, whatever the frame's readings, the engines, the recipes
  and the faults do there. A next state is stated for FRAME_BOUNDARY. Rests on R83, R92, R93. -/
def Obligations.FrameNumberAdvances : Prop :=
  ∀ (s : State) (f : FrameIn), s.full = true → frameStopped s = false →
      ∃ t, Sys2Proof.Machine.exec (.frameBoundary f) s = .next t ∧
      t.frame = (s.frame + 1) % 2 ^ 64 ∧ t.powered = true ∧ t.pending = s.pending ∧ t.otpA = s.otpA ∧ t.otpB = s.otpB

/-- An edge sampled before the match window of an aligned follower's boundary closes, and within a quarter of a period of
  it less the delay compensation, is matched to it; at the close of the window a matched error within SKEW_WIN is
  shown in SKEW.ERROR, steers the next frame and ends any run of missed edges. A source that sees its own edge at the
  opposite level for the second frame in a row shows CONTENTION and says TRANSIT_SKEW with address 3. From the host
  port MARK marks the next boundary's edge, and PERIOD is written with every channel off. A next state is stated for
  TRANSIT_EDGE, TRANSIT_MATCH_WINDOW_CLOSE, TRANSIT_CONTENTION_CHECK, TRANSIT_MARK, TRANSIT_PERIOD_WRITE. Rests on
  R56, R82, R84, R85, R88, R89. -/
def Obligations.TransitWatchesItsEdges : Prop :=
  (∀ (s : State) (d : Int), s.full = true → isSource s = false → s.flag Pg.TRANSIT Reg.TRANSIT.STATUS_ALIGNED = true →
  4 * absI (d - s.get Pg.TRANSIT Reg.TRANSIT.ALIGN_CFG_DELAY_COMP) ≤ nominalNow s → 4 * d ≤ nominalNow s →
  s.transit.closed = false → logRoom s 0 →
      ∃ t, Sys2Proof.Machine.exec (.transitEdge d) s = .next t ∧
      t.transit.edge = some (d - s.get Pg.TRANSIT Reg.TRANSIT.ALIGN_CFG_DELAY_COMP) ∧ onlyBits s t [] [] ∧
      { t with regs := s.regs, transit := { t.transit with edge := s.transit.edge } } = s) ∧
  (∀ (s : State) (e : Int), s.full = true → isSource s = false → s.flag Pg.TRANSIT Reg.TRANSIT.STATUS_ALIGNED = true →
  s.transit.edge = some e → absI e ≤ s.get Pg.TRANSIT Reg.TRANSIT.ALIGN_CFG_SKEW_WIN → logRoom s 0 →
      ∃ t, Sys2Proof.Machine.exec .transitMatchWindowClose s = .next t ∧
      t.geti Pg.TRANSIT Reg.TRANSIT.SKEW_ERROR = e ∧ t.transit.edge = none ∧ t.transit.missedRun = 0 ∧
      t.transit.nextAdjust = clampInt (-64) 64 e ∧
      onlyBits s t [(Pg.TRANSIT, Reg.TRANSIT.SKEW_ERROR), (Pg.TRANSIT, Reg.TRANSIT.SKEW_MAX_ABS), (Pg.TRANSIT,
        Reg.TRANSIT.STATUS_FREEWHEEL), (Pg.TRANSIT, Reg.TRANSIT.STATUS_REALIGNING)] [] ∧
      { t with regs := s.regs, transit := s.transit } = s) ∧
  (∀ (s : State), s.full = true → isSource s = true → s.transit.contention = 1 → s.transit.quietUntilUs ≤ s.rcUs →
      ∃ t, Sys2Proof.Machine.exec (.transitContentionCheck true) s = .next t ∧
      t.flag Pg.TRANSIT Reg.TRANSIT.STATUS_CONTENTION = true ∧ said s t Pg.TRANSIT Kind.TRANSIT_SKEW 3 ∧
      t.transit.contention = 2 ∧
      onlyBits s t ([(Pg.TRANSIT, Reg.TRANSIT.STATUS_CONTENTION)] ++ messageFields Pg.TRANSIT) reactionPages ∧
      onlyReaction s { t with transit := s.transit }) ∧
  (∀ (s : State), reachable s (Pg.TRANSIT * 0x400 + 0x068) = true → keySeq s Pg.TRANSIT = none → logRoom s 1 →
      ∃ t, Sys2Proof.Machine.exec (.transitMark .host) s = .next t ∧
      t.transit.markPending = true ∧ onlyBits s t [(Pg.TRANSIT, Reg.HEADER.CHANGE_SEQ)] [Pg.CHANGELOG] ∧
      { t with regs := s.regs, log := s.log, transit := s.transit } = s) ∧
  (∀ (s : State) (v : Nat), v < 4 → reachable s (Pg.TRANSIT * 0x400 + 0x040) = true → keySeq s Pg.TRANSIT = none →
  lockState s Pg.TRANSIT = 0 → s.allOff = true →
  rangesOk (fieldsAt Pg.TRANSIT 0x040) (withField s Pg.TRANSIT Reg.TRANSIT.CTRL_PERIOD v) = true → logRoom s 1 →
      ∃ t, Sys2Proof.Machine.exec (.transitPeriodWrite .host v) s = .next t ∧
      t.get Pg.TRANSIT Reg.TRANSIT.CTRL_PERIOD = v ∧
      onlyBits s t [(Pg.TRANSIT, Reg.TRANSIT.CTRL_PERIOD), changeSeq Pg.TRANSIT] ([Pg.CHANGELOG, Pg.ESTIM]) ∧
      onlyLogged s { t with held := s.held })

/-- A switching cycle of a phase that switches drives PWM HIGH with no trip in the cycle, shows IMON_RANGE and counts the
  cycles with IMON out of range. A positive trip drives PWM from HIGH to MID, a negative one from MID to HIGH; the
  first trip of a cycle counts TRIP_COUNT, with a saturating counter, and the run of tripped cycles up by one, a
  second one only changes the level. A next state is stated for SWITCHING_CYCLE, FAST_LIMIT_POS_TRIP,
  FAST_LIMIT_NEG_TRIP. Rests on R101, R106, R107, R108, R110. -/
def Obligations.CyclesAndTrips : Prop :=
  (∀ (s : State) (p : Nat) (out : Bool), s.full = true → p < 64 → (s.phase p).switching = true → logRoom s 0 →
      ∃ t, Sys2Proof.Machine.exec (.switchingCycle p out) s = .next t ∧
      (t.phase p).pwm = .high ∧ (t.phase p).cycTrip = false ∧ (t.phase p).cycled = true ∧
      (t.phase p).rangeRun = (if out then (s.phase p).rangeRun + 1 else 0) ∧
      t.flag (Pg.PHASE p) Reg.PHASE.STATUS_IMON_RANGE = out ∧
      onlyBits s t [(Pg.PHASE p, Reg.PHASE.STATUS_IMON_RANGE)] [] ∧ (∀ q, q ≠ p → t.phase q = s.phase q) ∧
      (∀ c, c ≠ p / 2 → t.chan c = s.chan c) ∧
      { t with regs := s.regs, phases := s.phases, chans := s.chans, free := s.free } = s) ∧
  (∀ (s : State) (p : Nat), s.full = true → p < 64 → (s.phase p).switching = true → (s.phase p).pwm = .high →
  (s.phase p).cycTrip = false → logRoom s 0 →
      ∃ t, Sys2Proof.Machine.exec (.fastLimitPosTrip p) s = .next t ∧
      (t.phase p).pwm = .mid ∧ (t.phase p).run = (s.phase p).run + 1 ∧ (t.phase p).runPos = true ∧
      (t.phase p).cycTrip = true ∧
      t.get (Pg.PHASE p) Reg.PHASE.TRIP_COUNT = min (s.get (Pg.PHASE p) Reg.PHASE.TRIP_COUNT + 1) (2 ^
        Reg.PHASE.TRIP_COUNT.width - 1) ∧
      onlyBits s t [(Pg.PHASE p, Reg.PHASE.TRIP_COUNT), (Pg.PHASE p, ⟨0x008, 0, 0, 0⟩)] [] ∧
      (∀ q, q ≠ p → t.phase q = s.phase q) ∧ (∀ c, c ≠ p / 2 → t.chan c = s.chan c) ∧
      { t with regs := s.regs, phases := s.phases, chans := s.chans } = s) ∧
  (∀ (s : State) (p : Nat), s.full = true → p < 64 → (s.phase p).switching = true → (s.phase p).pwm = .mid →
  logRoom s 0 →
      ∃ t, Sys2Proof.Machine.exec (.fastLimitNegTrip p) s = .next t ∧
      (t.phase p).pwm = .high ∧ (t.phase p).runPos = false ∧ (t.phase p).cycTrip = true ∧
      (t.phase p).run = (if (s.phase p).cycTrip then (s.phase p).run else (s.phase p).run + 1) ∧
      onlyBits s t [(Pg.PHASE p, Reg.PHASE.TRIP_COUNT), (Pg.PHASE p, ⟨0x008, 0, 0, 0⟩)] [] ∧
      (∀ q, q ≠ p → t.phase q = s.phase q) ∧ (∀ c, c ≠ p / 2 → t.chan c = s.chan c) ∧
      { t with regs := s.regs, phases := s.phases, chans := s.chans } = s)

/-- In FULL, a phase in service that has not dropped out meets its cause: RUN tripped cycles (cause 1 positive, 2
  negative), four cycles with IMON out of range (3), the slow accumulator at its trip level (5). The phase is then
  DROPPED with the lowest cause, switches no more, and the device's housekeeping, backup, clock, Granary, recipe and
  measurement state is as before. A next state is stated for OC_FAST_RUN, IMON_OUT_OF_RANGE, SLOW_LIMIT_TRIP. Rests on
  R101, R110, R113, R118, R119, R120, R121. -/
def Obligations.PhasesDropOut : Prop :=
  (∀ (s : State) (p : Nat), s.full = true → p < 64 → phaseInService s p = true → runCause s p = true →
  s.flag (Pg.PHASE p) Reg.PHASE.STATUS_DROPPED = false → logRoom s 37 →
      ∃ t, Sys2Proof.Machine.exec (.ocFastRun p) s = .next t ∧
      t.flag (Pg.PHASE p) Reg.PHASE.STATUS_DROPPED = true ∧
      t.get (Pg.PHASE p) Reg.PHASE.STATUS_DROP_CAUSE = (if (s.phase p).runPos then 1 else 2) ∧
      t.get (Pg.PHASE p) Reg.PHASE.DROP_FRAME = s.frame32 ∧ (t.phase p).switching = false ∧
      onlyBits s t [(Pg.CHIP, Reg.CHIP.STATUS_FAULT_N_IN)] reactionPages ∧ onlyReaction s t) ∧
  (∀ (s : State) (p : Nat), s.full = true → p < 64 → phaseInService s p = true → (s.phase p).switching = true →
  4 ≤ (s.phase p).rangeRun → s.flag (Pg.PHASE p) Reg.PHASE.STATUS_DROPPED = false → logRoom s 37 →
      ∃ t, Sys2Proof.Machine.exec (.imonOutOfRange p) s = .next t ∧
      t.flag (Pg.PHASE p) Reg.PHASE.STATUS_DROPPED = true ∧ t.get (Pg.PHASE p) Reg.PHASE.STATUS_DROP_CAUSE = 3 ∧
      t.get (Pg.PHASE p) Reg.PHASE.DROP_FRAME = s.frame32 ∧ (t.phase p).switching = false ∧
      onlyBits s t [(Pg.CHIP, Reg.CHIP.STATUS_FAULT_N_IN)] reactionPages ∧ onlyReaction s t) ∧
  (∀ (s : State) (p : Nat), s.full = true → p < 64 → phaseInService s p = true → slowCause s p = true →
  s.flag (Pg.PHASE p) Reg.PHASE.STATUS_DROPPED = false → logRoom s 37 →
      ∃ t, Sys2Proof.Machine.exec (.slowLimitTrip p) s = .next t ∧
      t.flag (Pg.PHASE p) Reg.PHASE.STATUS_DROPPED = true ∧ t.get (Pg.PHASE p) Reg.PHASE.STATUS_DROP_CAUSE = 5 ∧
      (t.phase p).switching = false ∧ t.get (Pg.PHASE p) Reg.PHASE.DROP_FRAME = s.frame32 ∧
      onlyBits s t [(Pg.CHIP, Reg.CHIP.STATUS_FAULT_N_IN)] reactionPages ∧ onlyReaction s t)

/-- With a connecting channel's zero due, IMON_ZERO_CAPTURE stores each phase's offset from 1.2 V, and where both lie
  within 50 mV nothing drops out. Once the zeros are captured, ISO is driven high: ISO_CMD is set and the channel
  notes it. After 64 frames in which both phases switched, balancing becomes active with EVENT.BAL_START on both
  phases. A next state is stated for IMON_ZERO_CAPTURE, ISO_DRIVE_HIGH, BALANCING_OBSERVATION_DONE. Rests on R114,
  R116, R124, R125. -/
def Obligations.ConnectingAndBalancing : Prop :=
  (∀ (s : State) (c : Nat) (a b : Int), zeroDue s c = true → absI (a - 120000) ≤ 5000 → absI (b - 120000) ≤ 5000 →
  logRoom s 0 →
      ∃ t, Sys2Proof.Machine.exec (.imonZeroCapture c a b) s = .next t ∧
      t.geti (Pg.PHASE (2 * c)) Reg.PHASE.IMON_ZERO_OFFSET = a - 120000 ∧
      t.geti (Pg.PHASE (2 * c + 1)) Reg.PHASE.IMON_ZERO_OFFSET = b - 120000 ∧ (t.chan c).zeroDone = true ∧
      onlyBits s t [(Pg.PHASE (2 * c), Reg.PHASE.IMON_ZERO_OFFSET), (Pg.PHASE (2 * c + 1),
        Reg.PHASE.IMON_ZERO_OFFSET)] [] ∧
      (∀ d, d ≠ c → t.chan d = s.chan d) ∧ { t with regs := s.regs, chans := s.chans } = s) ∧
  (∀ (s : State) (c : Nat), s.full = true → c < 32 → s.cstate (s.lead c) = Ch.CONNECT → (s.chan c).zeroDone = true →
  (s.chan c).iso = false → logRoom s 0 →
      ∃ t, Sys2Proof.Machine.exec (.isoDriveHigh c) s = .next t ∧
      t.flag (Pg.PHASE (2 * c)) Reg.PHASE.STATUS_ISO_CMD = true ∧ (t.chan c).iso = true ∧
      onlyBits s t [(Pg.PHASE (2 * c), Reg.PHASE.STATUS_ISO_CMD)] [] ∧ (∀ d, d ≠ c → t.chan d = s.chan d) ∧
      { t with regs := s.regs, chans := s.chans } = s) ∧
  (∀ (s : State) (c : Nat), s.full = true → c < 32 → balances s c = true → 64 ≤ (s.chan c).framesSwitching →
  s.flag (Pg.PHASE (2 * c)) Reg.PHASE.STATUS_BAL_ACTIVE = false → logRoom s 0 →
      ∃ t, Sys2Proof.Machine.exec (.balancingObservationDone c) s = .next t ∧
      t.flag (Pg.PHASE (2 * c)) Reg.PHASE.STATUS_BAL_ACTIVE = true ∧
      t.flag (Pg.PHASE (2 * c + 1)) Reg.PHASE.STATUS_BAL_ACTIVE = true ∧
      t.get (Pg.PHASE (2 * c)) ⟨0x008, 4, 4, 0⟩ = 1 ∧ t.get (Pg.PHASE (2 * c + 1)) ⟨0x008, 4, 4, 0⟩ = 1 ∧
      onlyBits s t [] [Pg.PHASE (2 * c), Pg.PHASE (2 * c + 1)] ∧
      { t with regs := s.regs, chans := s.chans, free := s.free } = s)

/-- A host write of CONTROL on a channel's lead completes: ENABLE = 1 in OFF with SOURCE = 0, no emergency stop and no
  bar; ENABLE = 0 and MODE OFF with SOURCE = 0; MODE while ENABLE is 0; RESUME after an interrupted step that matches,
  which in OFF starts the channel to resume, its recipe WAITING. A GANG size that the rules admit is stored. Each
  changes its field, CHANGE_SEQ and the change log, and no other register bit. A next state is stated for CHAN_ENABLE,
  CHAN_DISABLE, CHAN_MODE_WRITE, CHAN_RESUME, CHAN_GANG_WRITE. Rests on R137, R138, R143, R155, R159, R160, R164. -/
def Obligations.ChannelsObeyTheHost : Prop :=
  (∀ (s : State) (c : Nat), c < 32 → hostReach s (Pg.CHAN c) 0x040 → s.follower c = false →
  s.get (Pg.CHAN c) Reg.CHAN.CONTROL_ENABLE = 0 → s.get (Pg.CHAN c) Reg.CHAN.CONTROL_SOURCE = 0 →
  s.cstate c = Ch.OFF → estop s = false → startBarred s c = false →
  rangesOk (fieldsAt (Pg.CHAN c) 0x040) (withField s (Pg.CHAN c) Reg.CHAN.CONTROL_ENABLE 1) = true → logRoom s 1 →
      ∃ t, Sys2Proof.Machine.exec (.chanEnable .host c) s = .next t ∧
      t.get (Pg.CHAN c) Reg.CHAN.CONTROL_ENABLE = 1 ∧ (t.chan c).resume = false ∧
      onlyBits s t [(Pg.CHAN c, Reg.CHAN.CONTROL_ENABLE), changeSeq (Pg.CHAN c)] [Pg.CHANGELOG] ∧
      onlyLogged s { t with chans := s.chans }) ∧
  (∀ (s : State) (c : Nat), c < 32 → hostReach s (Pg.CHAN c) 0x040 → s.follower c = false →
  s.get (Pg.CHAN c) Reg.CHAN.CONTROL_ENABLE = 1 →
  rangesOk (fieldsAt (Pg.CHAN c) 0x040) (withField s (Pg.CHAN c) Reg.CHAN.CONTROL_ENABLE 0) = true → logRoom s 1 →
      ∃ t, Sys2Proof.Machine.exec (.chanDisable .host c false) s = .next t ∧
      t.get (Pg.CHAN c) Reg.CHAN.CONTROL_ENABLE = 0 ∧
      onlyBits s t [(Pg.CHAN c, Reg.CHAN.CONTROL_ENABLE), changeSeq (Pg.CHAN c)] [Pg.CHANGELOG] ∧
      onlyLogged s { t with chans := s.chans }) ∧
  (∀ (s : State) (c : Nat), c < 32 → hostReach s (Pg.CHAN c) 0x040 → s.follower c = false →
  s.get (Pg.CHAN c) Reg.CHAN.CONTROL_SOURCE = 0 → s.get (Pg.CHAN c) Reg.CHAN.CONTROL_ENABLE = 0 ∨ estop s = false →
  rangesOk (fieldsAt (Pg.CHAN c) 0x040) (withField s (Pg.CHAN c) Reg.CHAN.CONTROL_MODE 0) = true → logRoom s 1 →
      ∃ t, Sys2Proof.Machine.exec (.chanDisable .host c true) s = .next t ∧
      t.get (Pg.CHAN c) Reg.CHAN.CONTROL_MODE = 0 ∧
      onlyBits s t [(Pg.CHAN c, Reg.CHAN.CONTROL_MODE), changeSeq (Pg.CHAN c)] [Pg.CHANGELOG] ∧ onlyLogged s t) ∧
  (∀ (s : State) (c mode : Nat), c < 32 → mode < 16 → hostReach s (Pg.CHAN c) 0x040 → s.follower c = false →
  s.get (Pg.CHAN c) Reg.CHAN.CONTROL_ENABLE = 0 → s.get (Pg.CHAN c) Reg.CHAN.CONTROL_SOURCE = 0 →
  s.get (Pg.CHAN c) Reg.CHAN.CONTROL_MODE ≠ mode →
  rangesOk (fieldsAt (Pg.CHAN c) 0x040) (withField s (Pg.CHAN c) Reg.CHAN.CONTROL_MODE mode) = true → logRoom s 1 →
      ∃ t, Sys2Proof.Machine.exec (.chanModeWrite .host c mode) s = .next t ∧
      t.get (Pg.CHAN c) Reg.CHAN.CONTROL_MODE = mode ∧
      onlyBits s t [(Pg.CHAN c, Reg.CHAN.CONTROL_MODE), changeSeq (Pg.CHAN c)] [Pg.CHANGELOG] ∧ onlyLogged s t) ∧
  (∀ (s : State) (c : Nat), c < 32 → hostReach s (Pg.CHAN c) 0x040 → s.follower c = false →
  s.get (Pg.CHAN c) Reg.CHAN.STATUS_LAST_END = 2 → resumeMatches s c = true → s.cstate c = Ch.RUN → estop s = false →
  rangesOk (fieldsAt (Pg.CHAN c) 0x040) (s.rd (addrOf (Pg.CHAN c) Reg.CHAN.CONTROL_ENABLE)).toNat = true →
  logRoom s 1 →
      ∃ t, Sys2Proof.Machine.exec (.chanResume .host c) s = .next t ∧
      t.get (Pg.CHAN c) Reg.CHAN.CONTROL_ENABLE = 1 ∧
      onlyBits s t [(Pg.CHAN c, Reg.CHAN.CONTROL_ENABLE), changeSeq (Pg.CHAN c)] [Pg.CHANGELOG] ∧ onlyLogged s t) ∧
  (∀ (s : State) (c : Nat), c < 32 → hostReach s (Pg.CHAN c) 0x040 → s.follower c = false →
  s.get (Pg.CHAN c) Reg.CHAN.STATUS_LAST_END = 2 → resumeMatches s c = true → s.cstate c = Ch.OFF →
  startBarred s c = false → estop s = false →
  rangesOk (fieldsAt (Pg.CHAN c) 0x040) (s.rd (addrOf (Pg.CHAN c) Reg.CHAN.CONTROL_ENABLE)).toNat = true →
  logRoom s 40 →
      ∃ t, Sys2Proof.Machine.exec (.chanResume .host c) s = .next t ∧
      t.get (Pg.CHAN c) Reg.CHAN.CONTROL_ENABLE = 1 ∧ (t.chan c).resume = true ∧
      (s.flag (Pg.CHAN c) Reg.CHAN.CONTROL_SOURCE = true → rstate t c = Rs.WAITING) ∧
      onlyBits s t [] [Pg.CHAN c, Pg.CHANGELOG] ∧
      onlyLogged s { t with chans := s.chans, recipes := s.recipes, held := s.held }) ∧
  (∀ (s : State) (c size : Nat), c < 32 → size < 4 → hostReach s (Pg.CHAN c) 0x080 → lockState s (Pg.CHAN c) = 0 →
  gangOk s c size = true → s.get (Pg.CHAN c) Reg.CHAN.GANG_SIZE ≠ size → logRoom s 1 →
      ∃ t, Sys2Proof.Machine.exec (.chanGangWrite .host c size) s = .next t ∧
      t.get (Pg.CHAN c) Reg.CHAN.GANG_SIZE = size ∧
      onlyBits s t [(Pg.CHAN c, Reg.CHAN.GANG_SIZE), changeSeq (Pg.CHAN c)] [Pg.CHANGELOG] ∧
      onlyLogged s { t with held := s.held })

/-- A host CELL_CMD of a lead in mode OFF takes COMMIT: the staged identity becomes the identity in force of each channel
  of the gang and its mating count goes up by one, PENDING; MATE_RESET with its key sets a count that is not 0 to 0,
  PENDING. A mating record that waits uncommitted is requested again once 1 s has passed since its refusal. A next
  state is stated for CELL_COMMIT, MATE_RESET, MATE_RECORD_RETRY. Rests on R167, R168, R170, R171. -/
def Obligations.CellsAndTheirMatings : Prop :=
  (∀ (s : State) (c : Nat), c < 32 → hostReach s (Pg.CHAN c) 0x0B0 → s.modeOff c = true → s.follower c = false →
      ∃ t, Sys2Proof.Machine.exec (.cellCommit .host c) s = .next t ∧
      (t.chan c).cellId = (List.range 4).map (fun k => s.get (Pg.CHAN c) (Reg.CHAN.CELL_ID.ix k)) ∧
      t.get (Pg.CHAN c) Reg.CHAN.MATE_COUNT = min (s.get (Pg.CHAN c) Reg.CHAN.MATE_COUNT + 1) (2 ^ 32 - 1) ∧
      t.flag (Pg.CHAN c) Reg.CHAN.MATE_STATUS_PENDING = true ∧ t.service = s.service ∧ t.frame = s.frame ∧
      t.phases = s.phases ∧ t.banks = s.banks ∧ t.recipes = s.recipes ∧ t.pending = s.pending) ∧
  (∀ (s : State) (c : Nat), c < 32 → hostReach s (Pg.CHAN c) 0x0B0 → s.modeOff c = true →
  s.get (Pg.CHAN c) Reg.CHAN.MATE_COUNT ≠ 0 → logRoom s 1 →
      ∃ t, Sys2Proof.Machine.exec (.mateReset .host c 0x3C5A) s = .next t ∧
      t.get (Pg.CHAN c) Reg.CHAN.MATE_COUNT = 0 ∧ t.flag (Pg.CHAN c) Reg.CHAN.MATE_STATUS_PENDING = true ∧
      onlyBits s t [(Pg.CHAN c, Reg.CHAN.MATE_COUNT), (Pg.CHAN c, Reg.CHAN.MATE_STATUS_PENDING), changeSeq (Pg.CHAN
        c)] [Pg.CHANGELOG] ∧
      onlyLogged s { t with gran := s.gran }) ∧
  (∀ (s : State), s.powered = true → mateWaits s = true → s.gran.mateUs + 1000000 ≤ s.rcUs → logRoom s 0 →
      ∃ t, Sys2Proof.Machine.exec .mateRecordRetry s = .next t ∧
      commitOpen t 5 = true ∧ onlyBits s t [] [] ∧ { t with regs := s.regs, gran := s.gran } = s)

/-- In FULL, a channel in RUN whose current ramp meets 32 tripped cycles in a row, or that has stayed at 0 V in ZV for 200
  ms, enters SAFE with its gang. A probe whose resistance has stayed high for 256 frames of an active step is said
  once, with EVENT.PROBE_WEAR. A next state is stated for CHANNEL_SHORT_RAMP, CHANNEL_SHORT_ZV, PROBE_RESISTANCE_WEAR.
  Rests on R147, R148, R169. -/
def Obligations.ChannelFaultsOfTheirOwn : Prop :=
  (∀ (s : State) (c : Nat), s.full = true → c < 32 → s.cstate c = Ch.RUN → s.cmode (s.lead c) ≠ Mode.ZV →
  32 ≤ (s.chan c).tripRun → (s.chan (s.lead c)).growing = true → logRoom s 37 →
      ∃ t, Sys2Proof.Machine.exec (.channelShortRamp c) s = .next t ∧
      (∀ m ∈ s.gang c, t.cstate m = Ch.SAFE) ∧ t.cstate c = Ch.SAFE ∧
      onlyBits s t [(Pg.CHIP, Reg.CHIP.STATUS_FAULT_N_IN)] reactionPages ∧ onlyReaction s t) ∧
  (∀ (s : State) (c : Nat), s.full = true → c < 32 → s.cstate c = Ch.RUN → s.cmode (s.lead c) = Mode.ZV →
  200000 ≤ (s.chan (s.lead c)).zvRun * s.periodUs →
      ∃ t, Sys2Proof.Machine.exec (.channelShortZv c) s = .next t ∧
      (∀ m ∈ s.gang c, t.cstate m = Ch.SAFE) ∧ t.cstate c = Ch.SAFE ∧
      onlyBits s t [(Pg.CHIP, Reg.CHIP.STATUS_FAULT_N_IN)] reactionPages ∧ onlyReaction s t) ∧
  (∀ (s : State) (c : Nat), s.full = true → c < 32 → 256 ≤ (s.chan c).probeRun → stepActive s (s.lead c) = true →
  (s.chan c).probeRaised = false →
      ∃ t, Sys2Proof.Machine.exec (.probeResistanceWear c) s = .next t ∧
      t.get (Pg.CHAN c) ⟨0x008, 7, 7, 0⟩ = 1 ∧ (t.chan c).probeRaised = true ∧
      said s t (Pg.CHAN c) Kind.PROBE_WEAR 2 ∧ onlyBits s t [(Pg.CHIP, Reg.CHIP.STATUS_FAULT_N_IN)] reactionPages ∧
      onlyReaction s t)

/-- After an overlap frame CAL_STEP_START hands the duty over: the old owner of the duty becomes the rover and its
  calibration runs. CAL_DONE of a rover that has run its step either stores new trims and marks the rover passed, or
  retires the slice. SLICE_FAILURE flags a slice that is not retired for the frame in progress and changes nothing
  else; the retirement of a slice that holds a duty, which the boundary makes of each flagged slice, sets its bit in
  SLICE_HEALTH.RETIRED, and the rover takes its duty at once. A next state is stated for CAL_STEP_START, CAL_DONE,
  SLICE_FAILURE. Rests on R180, R187, R188, R189, R190, R192, R193, R194. -/
def Obligations.CalibrationAndSlices : Prop :=
  (∀ (s : State) (b r o : Nat), s.full = true → b < 8 → (s.bank b).handoverDue = true → (s.bank b).rover = some r →
  ownerOf s b (s.bank b).nextDuty = some o →
      ∃ t, Sys2Proof.Machine.exec (.calStepStart b) s = .next t ∧
      (t.bank b).rover = some o ∧ (t.bank b).calRunning = true ∧ (t.bank b).handoverDue = false ∧
      roleOf t b r = (s.bank b).nextDuty ∧ (∀ d, d ≠ b → t.bank d = s.bank d) ∧
      onlyBits s t [(Pg.CHIP, Reg.CHIP.STATUS_FAULT_N_IN)] ([Pg.BANK b] ++ reactionPages) ∧
      onlyReaction s { t with banks := s.banks }) ∧
  (∀ (s : State) (b r : Nat) (cal : CalIn), s.full = true → b < 8 → (s.bank b).calRunning = true →
  (s.bank b).rover = some r → 202 ≤ (s.bank b).stepFrame → r < 10 → roleOf s b r = 9 →
      ∃ t, Sys2Proof.Machine.exec (.calDone b cal) s = .next t ∧
      (t.bank b).calRunning = false ∧
      ((t.bank b).rover = some r ∧ (t.bank b).roverPassed = true ∨ sliceRetired t b r = true) ∧
      (∀ d, d ≠ b → t.bank d = s.bank d) ∧
      onlyBits s t [(Pg.CHIP, Reg.CHIP.STATUS_FAULT_N_IN)] ([Pg.BANK b] ++ reactionPages) ∧
      onlyReaction s { t with banks := s.banks, gran := s.gran }) ∧
  -- the boundary that latches the frame retires the flagged slices
  (∀ (s : State) (b k : Nat), s.full = true → b < s.bankCount → k < 10 → sliceRetired s b k = false →
  (s.bank b).flagged.contains k = false → logRoom s 0 →
      ∃ t, Sys2Proof.Machine.exec (.sliceFailure b k) s = .next t ∧
      t.bank b = { s.bank b with flagged := (s.bank b).flagged ++ [k] } ∧ (∀ d, d ≠ b → t.bank d = s.bank d) ∧
      onlyBits s t [] [] ∧ { t with regs := s.regs, banks := s.banks } = s) ∧
  (∀ (s : State) (b k r : Nat), b < 8 → k < 10 → roleOf s b k < 9 → (s.bank b).rover = some r → r < 10 →
  roleOf s b r = 9 →
      sliceRetired (retireSlice s b k) b k = true ∧ roleOf (retireSlice s b k) b r = roleOf s b k ∧
      ((retireSlice s b k).bank b).rover = none ∧
      (retireSlice s b k).getBit (Pg.BANK b) Reg.BANK.SLICE_HEALTH_RETIRED k = true)

/-- A host write of CAL_CFG within its ranges stores the word; CLR_V, CLR_I and the bus tracker's clear note their tracker
  for the next boundary; RETIRE_CLR in a factory-unlocked bank takes the named slices out of the retirement map. A
  host read of a block's STATUS answers its word and latches the twelve words after it. A next state is stated for
  CAL_ENABLE_WRITE, RETIRE_CLR, TRACKER_CLR_V, TRACKER_CLR_I, BUS_TRACKER_CLR, BANK_STATUS_SNAPSHOT_READ. Rests on
  R184, R192, R199, R200. -/
def Obligations.BankCommandsOfTheHost : Prop :=
  (∀ (s : State) (b v : Nat), b < 8 → v < 2 ^ 32 → hostReach s (Pg.BANK b) 0x040 → lockState s (Pg.BANK b) = 0 →
  rangesOk (fieldsAt (Pg.BANK b) 0x040) (storedWord (fieldsAt (Pg.BANK b) 0x040) (s.rd (Pg.BANK b * 0x400 +
    0x040)).toNat v) = true →
  logRoom s 1 →
      ∃ t, Sys2Proof.Machine.exec (.calEnableWrite .host b v) s = .next t ∧
      t.get (Pg.BANK b) Reg.BANK.CAL_CFG_EN = bitsOf v Reg.BANK.CAL_CFG_EN.hi Reg.BANK.CAL_CFG_EN.lo ∧
      onlyBits s t [(Pg.BANK b, ⟨0x040, 31, 0, 0⟩), changeSeq (Pg.BANK b)] [Pg.CHANGELOG] ∧
      onlyLogged s { t with banks := s.banks }) ∧
  (∀ (s : State) (b m : Nat), b < 8 → hostReach s (Pg.BANK b) 0x3F0 → lockState s (Pg.BANK b) = 3 → m < 1024 → m ≠ 0 →
  logRoom s 1 →
      ∃ t, Sys2Proof.Machine.exec (.retireClr .host b m) s = .next t ∧
      (t.bank b).retireMap = (s.bank b).retireMap &&& (m ^^^ 0x3FF) ∧
      onlyBits s t [changeSeq (Pg.BANK b)] [Pg.CHANGELOG] ∧ (∀ d, d ≠ b → t.bank d = s.bank d) ∧
      onlyLogged s { t with banks := s.banks, gran := s.gran }) ∧
  (∀ (s : State) (c : Nat), c < 32 → hostReach s (Pg.BANK (c / 4)) (0x088 + 64 * (c % 4)) → logRoom s 1 →
      ∃ t, Sys2Proof.Machine.exec (.trackerClrV .host c) s = .next t ∧
      (t.bank (c / 4)).clears.contains (2 * (c % 4)) = true ∧
      onlyBits s t [changeSeq (Pg.BANK (c / 4))] [Pg.CHANGELOG] ∧ onlyLogged s { t with banks := s.banks }) ∧
  (∀ (s : State) (c : Nat), c < 32 → hostReach s (Pg.BANK (c / 4)) (0x088 + 64 * (c % 4)) → logRoom s 1 →
      ∃ t, Sys2Proof.Machine.exec (.trackerClrI .host c) s = .next t ∧
      (t.bank (c / 4)).clears.contains (2 * (c % 4) + 1) = true ∧
      onlyBits s t [changeSeq (Pg.BANK (c / 4))] [Pg.CHANGELOG] ∧ onlyLogged s { t with banks := s.banks }) ∧
  (∀ (s : State) (b : Nat), b < 8 → hostReach s (Pg.BANK b) 0x188 → logRoom s 1 →
      ∃ t, Sys2Proof.Machine.exec (.busTrackerClr .host b) s = .next t ∧
      (t.bank b).clears.contains 8 = true ∧ onlyBits s t [changeSeq (Pg.BANK b)] [Pg.CHANGELOG] ∧
      onlyLogged s { t with banks := s.banks }) ∧
  (∀ (s : State) (b k : Nat), b < 8 → k < 4 → reachable s (Pg.BANK b * 0x400 + 0x08C + 64 * k) = true → logRoom s 0 →
      ∃ t, Sys2Proof.Machine.exec (.bankStatusSnapshotRead .host b k) s = .next t ∧
      t.reply.data = [liveWord s (Pg.BANK b * 0x400 + 0x08C + 64 * k)] ∧
      (∀ j < 12, Table.get 0 t.snaps (snapKey 0 (Pg.BANK b * 0x400 + 0x090 + 64 * k + 4 * j)) = liveWord s (Pg.BANK b
        * 0x400 + 0x090 + 64 * k + 4 * j)) ∧
      onlyBits s t [] [] ∧ { t with regs := s.regs, snaps := s.snaps, reply := s.reply } = s)

/-- Past SAFETY_START each HK_CONVERTER_SLOT advances the rotation of 48 slots by one, and the slots of VSYS and VBAK show
  their readings and change nothing else. THERMAL_SHUTDOWN of a powered device whose sequencer is in UP or ON turns
  the four rails off and leaves the sequencer FAULTED. A next state is stated for HK_CONVERTER_SLOT, THERMAL_SHUTDOWN.
  Rests on R204, R495. -/
def Obligations.TheHousekeepingConverter : Prop :=
  (∀ (s : State) (raw : Int), s.reducedOrLater = true → s.hk.conv = 34 → logRoom s 0 →
      ∃ t, Sys2Proof.Machine.exec (.hkConverterSlot raw) s = .next t ∧
      t.hk.conv = 35 ∧ t.get Pg.HKRAIL Reg.HKRAIL.VSYS_VOLTAGE = min raw.toNat 65535 ∧
      onlyBits s t [(Pg.HKRAIL, Reg.HKRAIL.VSYS_VOLTAGE)] [] ∧
      { t with regs := s.regs, hk := { t.hk with conv := s.hk.conv } } = s) ∧
  (∀ (s : State) (raw : Int), s.reducedOrLater = true →
      ∃ t, Sys2Proof.Machine.exec (.hkConverterSlot raw) s = .next t ∧
      t.hk.conv = (s.hk.conv + 1) % 48 ∧ t.frame = s.frame ∧ t.banks = s.banks ∧ t.gran = s.gran ∧ t.rtc = s.rtc ∧
      t.timer = s.timer ∧ t.stream = s.stream ∧ t.pending = s.pending) ∧
  (∀ (s : State), s.powered = true → hkState s = Hq.UP ∨ hkState s = Hq.ON →
      ∃ t, Sys2Proof.Machine.exec .thermalShutdown s = .next t ∧
      (∀ r < 4, railOn t r = false) ∧ hkState t = Hq.FAULTED ∧ t.pending = s.pending)

/-- A due periodic checkpoint, with none requested or under way, is requested: CKPT_BUSY is set and a commit of record 1
  is open. 1,024 frames after its due boundary a checkpoint is late once: CKPT_LATE is set and LEDGER_IMBALANCE said
  with address 0x40. An OPEN checkpoint's header is programmed into its erased slot and its checkpoint requested. A
  full balance window closes and starts again. A next state is stated for PERIODIC_CHECKPOINT, CHECKPOINT_LATE,
  OPEN_CHECKPOINT_HEADER, BALANCE_WINDOW_CLOSE. Rests on R220, R221, R222, R227, R228. -/
def Obligations.CheckpointsAreMade : Prop :=
  (∀ (s : State), s.full = true → dueFrame s ≤ s.frame → s.ledger.pendingReasons = [] → commitOpen s 1 = false →
  logRoom s 0 →
      ∃ t, Sys2Proof.Machine.exec .periodicCheckpoint s = .next t ∧
      t.flag Pg.LEDGER Reg.LEDGER.STATUS_CKPT_BUSY = true ∧ commitOpen t 1 = true ∧
      onlyBits s t [(Pg.LEDGER, Reg.LEDGER.STATUS_CKPT_BUSY)] [] ∧ { t with regs := s.regs, gran := s.gran } = s) ∧
  (∀ (s : State), s.full = true → dueFrame s + 1024 ≤ s.frame → s.ledger.late = false →
      ∃ t, Sys2Proof.Machine.exec .checkpointLate s = .next t ∧
      t.flag Pg.LEDGER Reg.LEDGER.STATUS_CKPT_LATE = true ∧ t.ledger.late = true ∧
      said s t Pg.LEDGER Kind.LEDGER_IMBALANCE 0x40 ∧
      onlyBits s t ([(Pg.LEDGER, Reg.LEDGER.STATUS_CKPT_LATE)] ++ messageFields Pg.LEDGER) reactionPages ∧
      onlyReaction s { t with ledger := s.ledger }) ∧
  (∀ (s : State), s.full = true → s.ledger.openNeeded = true → s.ledger.openSlotErased = true → logRoom s 0 →
      ∃ t, Sys2Proof.Machine.exec .openCheckpointHeader s = .next t ∧
      t.ledger.openNeeded = false ∧ commitOpen t 1 = true ∧ t.flag Pg.LEDGER Reg.LEDGER.STATUS_CKPT_BUSY = true ∧
      onlyBits s t [(Pg.LEDGER, Reg.LEDGER.STATUS_CKPT_BUSY)] [] ∧
      { t with regs := s.regs, gran := s.gran, ledger := s.ledger } = s) ∧
  (∀ (s : State) (b : Nat), s.full = true → b < 8 → s.flag Pg.LEDGER (Reg.LEDGER.BAL_CFG_EN.ix b) = true →
  2 ^ s.get Pg.LEDGER (Reg.LEDGER.BAL_CFG_W.ix b) ≤ s.get Pg.LEDGER (Reg.LEDGER.BAL_STATUS_INCLUDED.ix b) →
      ∃ t, Sys2Proof.Machine.exec (.balanceWindowClose b) s = .next t ∧
      t.get Pg.LEDGER (Reg.LEDGER.BAL_STATUS_INCLUDED.ix b) = 0 ∧ (∀ d, d ≠ b → t.bankAcc d = s.bankAcc d) ∧
      onlyBits s t [(Pg.CHIP, Reg.CHIP.STATUS_FAULT_N_IN)] ([Pg.LEDGER] ++ reactionPages) ∧
      onlyReaction s { t with bankAccs := s.bankAccs })

/-- From the host port CKPT_NOW asks for a checkpoint with reason 3 and SNAP for a snapshot, CLR_RUN and BUS_CLR note
  their account for the next boundary: SNAP, of class V, without an entry, the others each with its entry, and nothing
  else. A read of a channel's ACC_SNAP latches the twenty words after it, and a read of a LO word of the LEDGER page
  latches its HI word. A next state is stated for CKPT_NOW, LEDGER_SNAP, CLR_RUN, BUS_CLR, ACC_SNAP_READ,
  LO_WORD_LATCH_READ. Rests on R214, R220, R230, R231, R232, R233. -/
def Obligations.LedgerCommandsOfTheHost : Prop :=
  (∀ (s : State), hostReach s Pg.LEDGER 0x044 → logRoom s 1 →
      ∃ t, Sys2Proof.Machine.exec (.ckptNow .host) s = .next t ∧
      t.log.fill = s.log.fill + 1 ∧ 3 ∈ t.ledger.pendingReasons ∧
      (∀ r, r ∈ s.ledger.pendingReasons → r ∈ t.ledger.pendingReasons) ∧
      onlyBits s t [changeSeq Pg.LEDGER] [Pg.CHANGELOG] ∧
      onlyLogged s { t with ledger := { t.ledger with pendingReasons := s.ledger.pendingReasons } }) ∧
  (∀ (s : State), hostReach s Pg.LEDGER 0x044 → logRoom s 0 →
      ∃ t, Sys2Proof.Machine.exec (.ledgerSnap .host) s = .next t ∧
      t.ledger.snapPending = true ∧ onlyBits s t [] [] ∧
      { t with regs := s.regs, ledger := { t.ledger with snapPending := s.ledger.snapPending } } = s) ∧
  (∀ (s : State) (c : Nat), c < 32 → hostReach s (Pg.CHAN c) 0x154 → logRoom s 1 →
      ∃ t, Sys2Proof.Machine.exec (.clrRun .host c) s = .next t ∧
      t.log.fill = s.log.fill + 1 ∧ (t.chan c).clrRun = true ∧ onlyBits s t [changeSeq (Pg.CHAN c)] [Pg.CHANGELOG] ∧
      onlyLogged s { t with chans := s.chans }) ∧
  (∀ (s : State) (b : Nat), b < 8 → hostReach s Pg.LEDGER (0x134 + 64 * b) → logRoom s 1 →
      ∃ t, Sys2Proof.Machine.exec (.busClr .host b) s = .next t ∧
      t.log.fill = s.log.fill + 1 ∧ (t.bankAcc b).busClr = true ∧ onlyBits s t [changeSeq Pg.LEDGER] [Pg.CHANGELOG] ∧
      onlyLogged s { t with bankAccs := s.bankAccs }) ∧
  (∀ (s : State) (c : Nat), c < 32 → reachable s (Pg.CHAN c * 0x400 + 0x100) = true → logRoom s 0 →
      ∃ t, Sys2Proof.Machine.exec (.accSnapRead .host c) s = .next t ∧
      t.reply.data = [liveWord s (Pg.CHAN c * 0x400 + 0x100)] ∧
      (∀ j < 20, Table.get 0 t.snaps (snapKey 0 (Pg.CHAN c * 0x400 + 0x104 + 4 * j)) = liveWord s (Pg.CHAN c * 0x400 +
        0x104 + 4 * j)) ∧
      onlyBits s t [] [] ∧ { t with regs := s.regs, snaps := s.snaps, reply := s.reply } = s) ∧
  (∀ (s : State) (addr : Nat), isLoWord addr = true → reachable s addr = true → logRoom s 0 →
      ∃ t, Sys2Proof.Machine.exec (.loWordLatchRead .host addr) s = .next t ∧
      t.reply.data = [liveWord s addr] ∧ Table.get 0 t.snaps (snapKey 0 (addr + 4)) = liveWord s (addr + 4) ∧
      onlyBits s t [] [] ∧ { t with regs := s.regs, snaps := s.snaps, reply := s.reply } = s)

/-- A host write of a record's last word into unlocked recipe memory of a bank that does not run the record stores the
  word, and the record's committed mark follows its CRC. START on an idle lead in mode OFF with SOURCE = 1 puts it to
  VALIDATING; a validation that finds a failure leaves REJECTED with its code, one that finds none notes the list
  validated. CONTINUE and JUMP are noted for the next boundary. A read of END_INFO latches the nine words after it. A
  next state is stated for RECIPE_RECORD_COMMIT_WRITE, RCP_START, RECIPE_VALIDATION_DONE, RCP_CONTINUE, RCP_JUMP,
  END_INFO_READ. Rests on R237, R251, R252, R260, R261, R262, R271. -/
def Obligations.RecipesAreStartedAndValidated : Prop :=
  (∀ (s : State) (b r v : Nat), b < 8 → r < 256 → v < 2 ^ 32 → reachable s (recAddr b r + 0x3C) = true →
  lockState s (Pg.BANK b) = 0 → recRunning s b r = false → logRoom s 1 →
      ∃ t, Sys2Proof.Machine.exec (.recipeRecordCommitWrite .host b r v) s = .next t ∧
      (t.rd (recAddr b r + 0x3C)).toNat = v ∧ committed t b r = recCrcOk t b r ∧
      onlyBits s t [(recAddr b r / 0x400, ⟨recAddr b r % 0x400 + 0x3C, 31, 0, 0⟩), changeSeq (Pg.BANK b)]
        [Pg.CHANGELOG] ∧
      onlyLogged s { t with commits := s.commits, recOld := s.recOld, memErr := s.memErr }) ∧
  (∀ (s : State) (c : Nat), c < 32 → hostReach s (Pg.CHAN c) 0x208 → s.follower c = false → estop s = false →
  startBarred s c = false → s.modeOff c = true → s.flag (Pg.CHAN c) Reg.CHAN.CONTROL_SOURCE = true →
  rstate s c = Rs.IDLE → logRoom s 1 →
      ∃ t, Sys2Proof.Machine.exec (.rcpStart .host c) s = .next t ∧
      rstate t c = Rs.VALIDATING ∧
      onlyBits s t [(Pg.CHAN c, Reg.CHAN.RCP_STATUS_RSTATE), (Pg.CHAN c, Reg.CHAN.RCP_STATUS_RESUME_MISMATCH),
        changeSeq (Pg.CHAN c)] [Pg.CHANGELOG] ∧
      onlyLogged s t) ∧
  (∀ (s : State) (c code bad : Nat), validating s c = true → validate s c = some (code, bad) → code < 16 →
  s.memErr = [] → logRoom s 0 →
      ∃ t, Sys2Proof.Machine.exec (.recipeValidationDone c) s = .next t ∧
      rstate t c = Rs.REJECTED ∧ t.get (Pg.CHAN c) Reg.CHAN.RCP_STATUS_BAD_CODE = code ∧ onlyBits s t [] [Pg.CHAN c] ∧
      { t with regs := s.regs } = s) ∧
  (∀ (s : State) (c : Nat), validating s c = true → validate s c = none → s.memErr = [] → logRoom s 0 →
      ∃ t, Sys2Proof.Machine.exec (.recipeValidationDone c) s = .next t ∧
      (t.recipe c).validated = true ∧ onlyBits s t [] [Pg.CHAN c] ∧
      { t with regs := s.regs, recipes := s.recipes } = s) ∧
  (∀ (s : State) (c : Nat), c < 32 → hostReach s (Pg.CHAN c) 0x208 → s.follower c = false → rstate s c = Rs.HELD →
  logRoom s 1 →
      ∃ t, Sys2Proof.Machine.exec (.rcpContinue .host c) s = .next t ∧
      (t.recipe c).cont = true ∧ onlyBits s t [changeSeq (Pg.CHAN c)] [Pg.CHANGELOG] ∧
      onlyLogged s { t with recipes := s.recipes }) ∧
  (∀ (s : State) (c n : Nat), c < 32 → hostReach s (Pg.CHAN c) 0x208 → s.follower c = false →
  rstate s c = Rs.RUNNING → n < 64 → n < s.get (Pg.CHAN c) Reg.CHAN.RCP_CFG_LEN → logRoom s 1 →
      ∃ t, Sys2Proof.Machine.exec (.rcpJump .host c n) s = .next t ∧
      (t.recipe c).jump = some n ∧ onlyBits s t [changeSeq (Pg.CHAN c)] [Pg.CHANGELOG] ∧
      onlyLogged s { t with recipes := s.recipes }) ∧
  (∀ (s : State) (c : Nat), c < 32 → reachable s (Pg.CHAN c * 0x400 + 0x240) = true → logRoom s 0 →
      ∃ t, Sys2Proof.Machine.exec (.endInfoRead .host c) s = .next t ∧
      t.reply.data = [liveWord s (Pg.CHAN c * 0x400 + 0x240)] ∧
      (∀ j < 9, Table.get 0 t.snaps (snapKey 0 (Pg.CHAN c * 0x400 + 0x244 + 4 * j)) = liveWord s (Pg.CHAN c * 0x400 +
        0x244 + 4 * j)) ∧
      onlyBits s t [] [] ∧ { t with regs := s.regs, snaps := s.snaps, reply := s.reply } = s)

/-- A running main engine's heartbeat is held with the number of its frame and shown in HEARTBEAT, one of ENG.10 or ENG.11
  counts HEARTBEAT up; CYCLES_LAST takes the cycles used, a free value (log entry 72), CYCLES_MAX is at least that,
  and nothing else changes. An uncorrectable RAM error (0x2), a trap (0x3), two missed slots of ENG.10 (0x7) and the
  Reeve's watchdog (0x8) stop the engine: STATE STOPPED, the frame and the cause shown, ENGINE_STALL said with the
  cause as address. A next state is stated for HEARTBEAT_POSTED, ENGINE_RAM_ERROR, ENGINE_TRAP,
  ENG10_SLOT_HEARTBEAT_MISS, REEVE_WATCHDOG_EXPIRY. Rests on R275, R276, R282, R283, R286. -/
def Obligations.HeartbeatsAndStops : Prop :=
  (∀ (s : State) (e n : Nat), engLive s e = true → e < 10 → logRoom s 0 →
      ∃ t, Sys2Proof.Machine.exec (.heartbeatPosted e n) s = .next t ∧
      (t.eng e).beat = some (n % 2 ^ 32) ∧ t.get (Pg.ENG e) Reg.ENG.HEARTBEAT = n % 2 ^ 32 ∧
      t.get (Pg.ENG e) Reg.ENG.CYCLES_LAST ≤ t.get (Pg.ENG e) Reg.ENG.CYCLES_MAX ∧
      onlyBits s t [(Pg.ENG e, Reg.ENG.HEARTBEAT), (Pg.ENG e, Reg.ENG.CYCLES_LAST), (Pg.ENG e, Reg.ENG.CYCLES_MAX)] []
        ∧
      (∀ k, k ≠ e → t.eng k = s.eng k) ∧ { t with regs := s.regs, engs := s.engs, free := s.free } = s) ∧
  (∀ (s : State) (e n : Nat), engLive s e = true → 10 ≤ e → logRoom s 0 →
      ∃ t, Sys2Proof.Machine.exec (.heartbeatPosted e n) s = .next t ∧
      t.get (Pg.ENG e) Reg.ENG.HEARTBEAT = (s.get (Pg.ENG e) Reg.ENG.HEARTBEAT + 1) % 2 ^ 32 ∧
      t.get (Pg.ENG e) Reg.ENG.CYCLES_LAST ≤ t.get (Pg.ENG e) Reg.ENG.CYCLES_MAX ∧
      onlyBits s t [(Pg.ENG e, Reg.ENG.HEARTBEAT), (Pg.ENG e, Reg.ENG.CYCLES_LAST), (Pg.ENG e, Reg.ENG.CYCLES_MAX)] []
        ∧
      { t with regs := s.regs, engs := s.engs, free := s.free } = s) ∧
  (∀ (s : State) (e : Nat), engLive s e = true →
      ∃ t, Sys2Proof.Machine.exec (.engineRamError e) s = .next t ∧
      estate t e = Es.STOPPED ∧ t.get (Pg.ENG e) Reg.ENG.STOP_FRAME = s.frame32 ∧
      t.get (Pg.ENG e) Reg.ENG.STOP_CAUSE_CAUSE = 2 ∧ said s t (Pg.ENG e) Kind.ENGINE_STALL 2 ∧
      onlyBits s t [(Pg.CHIP, Reg.CHIP.STATUS_FAULT_N_IN)] ([Pg.ENG e, Pg.ENGCTL, Pg.BACKUP, Pg.GAUGE] ++
        reactionPages) ∧
      onlyReaction s { t with engs := s.engs }) ∧
  (∀ (s : State) (e : Nat), engLive s e = true →
      ∃ t, Sys2Proof.Machine.exec (.engineTrap e) s = .next t ∧
      estate t e = Es.STOPPED ∧ t.get (Pg.ENG e) Reg.ENG.STOP_FRAME = s.frame32 ∧
      t.get (Pg.ENG e) Reg.ENG.STOP_CAUSE_CAUSE = 3 ∧ said s t (Pg.ENG e) Kind.ENGINE_STALL 3 ∧
      onlyBits s t [(Pg.CHIP, Reg.CHIP.STATUS_FAULT_N_IN)] ([Pg.ENG e, Pg.ENGCTL, Pg.BACKUP, Pg.GAUGE] ++
        reactionPages) ∧
      onlyReaction s { t with engs := s.engs }) ∧
  (∀ (s : State), engLive s 10 = true → 2 ≤ (s.eng 10).slotMiss →
      ∃ t, Sys2Proof.Machine.exec .eng10SlotHeartbeatMiss s = .next t ∧
      estate t 10 = Es.STOPPED ∧ t.get (Pg.ENG 10) Reg.ENG.STOP_CAUSE_CAUSE = 7 ∧
      said s t (Pg.ENG 10) Kind.ENGINE_STALL 7 ∧
      onlyBits s t [(Pg.CHIP, Reg.CHIP.STATUS_FAULT_N_IN)] ([Pg.ENG 10, Pg.ENGCTL, Pg.BACKUP, Pg.GAUGE] ++
        reactionPages) ∧
      onlyReaction s { t with engs := s.engs }) ∧
  (∀ (s : State), engLive s 11 = true →
      ∃ t, Sys2Proof.Machine.exec .reeveWatchdogExpiry s = .next t ∧
      estate t 11 = Es.STOPPED ∧ t.get (Pg.ENG 11) Reg.ENG.STOP_CAUSE_CAUSE = 8 ∧
      said s t (Pg.ENG 11) Kind.ENGINE_STALL 8 ∧
      onlyBits s t [(Pg.CHIP, Reg.CHIP.STATUS_FAULT_N_IN)] ([Pg.ENG 11, Pg.ENGCTL, Pg.GAUGE] ++ reactionPages) ∧
      onlyReaction s { t with engs := s.engs })

/-- From the host port STOP asks a running engine to stop and RESTART puts a stopped one to BOOTING. A restart whose RAM
  test passes leaves RUNNING with EVENT.BOOTED; one that fails leaves DEAD with ENGINE_STALL 6. The hold limit of a
  bank ends its hold with EVENT.HOLD_EXPIRED, by a warm reset where WARM_ON_UNCARRIED is set. A hand-back clears the
  bank's request. A next state is stated for ENGCTL_STOP, ENGCTL_RESTART, ENGINE_RESTART_DONE, HOLD_LIMIT_EXPIRY,
  BANK_HANDBACK. Rests on R277, R281, R282, R283, R287. -/
def Obligations.EnginesRestartAndBanksReturn : Prop :=
  (∀ (s : State) (e : Nat), hostReach s Pg.ENGCTL 0x054 → e ≤ 9 → s.engPresent e = true → estate s e = Es.RUNNING →
  logRoom s 1 →
      ∃ t, Sys2Proof.Machine.exec (.engctlStop .host e) s = .next t ∧
      (t.eng e).stopReq = true ∧ onlyBits s t [changeSeq Pg.ENGCTL] [Pg.CHANGELOG] ∧
      onlyLogged s { t with engs := s.engs }) ∧
  (∀ (s : State) (e : Nat), hostReach s Pg.ENGCTL 0x054 → e ≤ 9 → s.engPresent e = true → estate s e = Es.STOPPED →
  logRoom s 1 →
      ∃ t, Sys2Proof.Machine.exec (.engctlRestart .host e) s = .next t ∧
      estate t e = Es.BOOTING ∧ (t.eng e).restarting = true ∧
      onlyBits s t [changeSeq Pg.ENGCTL] [Pg.CHANGELOG, Pg.ENG e, Pg.ENGCTL, Pg.ESTIM] ∧
      onlyLogged s { t with engs := s.engs }) ∧
  (∀ (s : State) (e : Nat), s.reducedOrLater = true → e < 12 → (s.eng e).restarting = true → logRoom s 0 →
      ∃ t, Sys2Proof.Machine.exec (.engineRestartDone e true) s = .next t ∧
      estate t e = Es.RUNNING ∧ t.get (Pg.ENG e) ⟨0x008, 1, 1, 0⟩ = 1 ∧ (t.eng e).restarting = false ∧
      onlyBits s t [] [Pg.ENG e, Pg.ENGCTL, Pg.ESTIM] ∧ { t with regs := s.regs, engs := s.engs } = s) ∧
  (∀ (s : State) (e : Nat), s.reducedOrLater = true → e < 12 → (s.eng e).restarting = true →
      ∃ t, Sys2Proof.Machine.exec (.engineRestartDone e false) s = .next t ∧
      estate t e = Es.DEAD ∧ (t.eng e).restarting = false ∧ said s t (Pg.ENG e) Kind.ENGINE_STALL 6 ∧
      onlyBits s t [(Pg.CHIP, Reg.CHIP.STATUS_FAULT_N_IN)] ([Pg.ENG e, Pg.ENGCTL, Pg.ESTIM, Pg.BACKUP, Pg.GAUGE] ++
        reactionPages) ∧
      onlyReaction s { t with engs := s.engs }) ∧
  (∀ (s : State) (b h : Nat), s.full = true → b < 8 → (s.eng b).holdAt = some h → h + (s.eng b).holdLimit ≤ s.frame →
  estate s 11 = Es.RUNNING → s.flag Pg.ENGCTL Reg.ENGCTL.CFG_WARM_ON_UNCARRIED = true → s.svc.warmPend = none →
  s.svc.coldPend = false →
      ∃ t, Sys2Proof.Machine.exec (.holdLimitExpiry b) s = .next t ∧
      (t.eng b).holdAt = none ∧ t.get Pg.ENGCTL ⟨0x008, 3, 3, 0⟩ = 1 ∧ t.svc.warmPend = some 5 ∧
      onlyBits s t [(Pg.CHIP, Reg.CHIP.STATUS_FAULT_N_IN)] ([Pg.ENGCTL, Pg.ENG b] ++ reactionPages) ∧
      onlyReaction s { t with svc := { t.svc with warmPend := s.svc.warmPend }, engs := s.engs }) ∧
  (∀ (s : State) (b h : Nat), s.full = true → b < 8 → (s.eng b).holdAt = some h → h + (s.eng b).holdLimit ≤ s.frame →
  estate s 11 = Es.RUNNING → s.flag Pg.ENGCTL Reg.ENGCTL.CFG_WARM_ON_UNCARRIED = false →
      ∃ t, Sys2Proof.Machine.exec (.holdLimitExpiry b) s = .next t ∧
      (t.eng b).holdAt = none ∧ t.get Pg.ENGCTL ⟨0x008, 3, 3, 0⟩ = 1 ∧
      onlyBits s t [(Pg.CHIP, Reg.CHIP.STATUS_FAULT_N_IN)] ([Pg.ENGCTL, Pg.ENG b] ++ reactionPages) ∧
      onlyReaction s { t with engs := s.engs }) ∧
  (∀ (s : State) (b : Nat), s.full = true → b < 8 → (s.eng b).handback = true → (s.eng b).takeover = none →
  estate s 11 = Es.RUNNING → engRuns s b = true →
      ∃ t, Sys2Proof.Machine.exec (.bankHandback b) s = .next t ∧
      (t.eng b).handback = false ∧ (t.eng b).holdAt = none ∧ t.get Pg.ENGCTL ⟨0x008, 2, 2, 0⟩ = 1 ∧
      onlyBits s t [] ([Pg.ENGCTL, Pg.ENG b, Pg.ESTIM] ++ reactionPages) ∧
      onlyReaction s { t with engs := s.engs, recipes := s.recipes, grades := s.grades })

/-- A complete window, pulse or relaxation of a channel is closed: it is no longer under way, and its result, with the TAG
  and index of its step, waits in the channel's queue behind those before it; no other channel's grading changes.
  RESULT_PUBLISH takes the oldest waiting result: its block becomes VALID and not STALE, PUB_FRAME shows the frame,
  RES_SNAP counts up by one. A next state is stated for IMPEDANCE_WINDOW_CLOSE, DCIR_PULSE_END, OCV_RELAXATION_FIT,
  RESULT_PUBLISH. Rests on R292, R298, R300, R304, R305. -/
def Obligations.GradingResultsComeOut : Prop :=
  (∀ (s : State) (c : Nat) (w : ImpWindow), s.full = true → c < 32 → (s.grade c).closing = some w → logRoom s 0 →
      ∃ t, Sys2Proof.Machine.exec (.impedanceWindowClose c) s = .next t ∧
      (t.grade c).closing = none ∧ (t.grade c).results.dropLast = (s.grade c).results ∧
      (t.grade c).results.getLast?.map (fun r => (r.block, r.tag, r.step)) = some (0, (s.grade c).tag, (s.grade
        c).step) ∧
      (∀ d, d ≠ c → t.grade d = s.grade d) ∧ onlyBits s t [] [Pg.RESULT c, Pg.ESTIM] ∧
      { t with regs := s.regs, grades := s.grades, free := s.free } = s) ∧
  (∀ (s : State) (c : Nat), s.full = true → c < 32 → dcirDone s c = true → logRoom s 0 →
      ∃ t, Sys2Proof.Machine.exec (.dcirPulseEnd c) s = .next t ∧
      (t.grade c).dcir = none ∧ (t.grade c).results.dropLast = (s.grade c).results ∧
      (t.grade c).results.getLast?.map (fun r => (r.block, r.tag, r.step)) = some (2, (s.grade c).tag, (s.grade
        c).step) ∧
      (∀ d, d ≠ c → t.grade d = s.grade d) ∧ onlyBits s t [] [Pg.RESULT c, Pg.ESTIM] ∧
      { t with regs := s.regs, grades := s.grades, free := s.free } = s) ∧
  (∀ (s : State) (c : Nat), estimates s c = true → ocvDone s c = true → logRoom s 0 →
      ∃ t, Sys2Proof.Machine.exec (.ocvRelaxationFit c) s = .next t ∧
      (t.grade c).ocv = none ∧ (t.grade c).results.dropLast = (s.grade c).results ∧
      (t.grade c).results.getLast?.map (fun r => (r.block, r.tag, r.step)) = some (3, (s.grade c).tag, (s.grade
        c).step) ∧
      (∀ d, d ≠ c → t.grade d = s.grade d) ∧ onlyBits s t [] [Pg.RESULT c, Pg.ESTIM] ∧
      { t with regs := s.regs, grades := s.grades, free := s.free } = s) ∧
  (∀ (s : State) (c : Nat) (r : GradeResult) (l : List GradeResult), s.full = true → c < 32 →
  (s.grade c).results = r :: l → r.block < 5 → (∀ w ∈ r.words, 0x100 ≤ w.1 ∧ w.1 < 0x400) → logRoom s 0 →
      ∃ t, Sys2Proof.Machine.exec (.resultPublish c) s = .next t ∧
      (t.grade c).results = l ∧ t.getBit (Pg.RESULT c) Reg.RESULT.RES_STATUS_VALID r.block = true ∧
      t.getBit (Pg.RESULT c) Reg.RESULT.RES_STATUS_STALE r.block = false ∧
      t.get (Pg.RESULT c) Reg.RESULT.PUB_FRAME = s.frame32 ∧
      t.get (Pg.RESULT c) Reg.RESULT.RES_SNAP = (s.get (Pg.RESULT c) Reg.RESULT.RES_SNAP + 1) % 2 ^
        Reg.RESULT.RES_SNAP.width ∧
      (∀ d, d ≠ c → t.grade d = s.grade d) ∧ onlyBits s t [] ([Pg.RESULT c, Pg.STREAM] ++ reactionPages) ∧
      onlyReaction s { t with grades := s.grades, stream := s.stream })

/-- A host write of SET_CFG with COMMIT of a tone set not in use stores the word and checks the set: VALID is set exactly
  where FAIL is 0. An OCV table whose points rise is committed under its record. A read of RES_SNAP latches the 108
  words after it. A next state is stated for TONE_SET_COMMIT, OCV_TABLE_COMMIT, RES_SNAP_READ. Rests on R295, R309,
  R313. -/
def Obligations.GradingCommandsOfTheHost : Prop :=
  (∀ (s : State) (k v : Nat), k < 4 → v < 2 ^ 32 → hostReach s Pg.ESTIM (0x080 + 4 * k) → lockState s Pg.ESTIM = 0 →
  s.flag Pg.ESTIM (Reg.ESTIM.SET_CFG_IN_USE.ix k) = false →
  rangesOk (fieldsAt Pg.ESTIM (0x080 + 4 * k)) (storedWord (fieldsAt Pg.ESTIM (0x080 + 4 * k)) (s.rd (Pg.ESTIM * 0x400
    + 0x080 + 4 * k)).toNat (withBits v 0 0 1)) = true →
  logRoom s 1 →
      ∃ t, Sys2Proof.Machine.exec (.toneSetCommit .host k v) s = .next t ∧
      (t.flag Pg.ESTIM (Reg.ESTIM.SET_CFG_VALID.ix k) = true ↔ t.get Pg.ESTIM (Reg.ESTIM.SET_CFG_FAIL.ix k) = 0) ∧
      onlyBits s t [(Pg.ESTIM, ⟨0x080 + 4 * k, 31, 0, 0⟩), (Pg.ESTIM, ⟨0x008, 0, 0, 0⟩), changeSeq Pg.ESTIM]
        [Pg.CHANGELOG] ∧
      onlyLogged s t) ∧
  (∀ (s : State) (k tag : Nat), k < 4 → tag < 65536 → hostReach s Pg.ESTIM (0x180 + 0x60 * k) →
  lockState s Pg.ESTIM = 0 → rising ((List.range 21).map (fun i => ((ocvStaged s k i : Nat) : Int))) = true →
  logRoom s 1 →
      ∃ t, Sys2Proof.Machine.exec (.ocvTableCommit .host k tag) s = .next t ∧
      commitOpen t (0x11 + k) = true ∧ t.get Pg.ESTIM (Reg.ESTIM.OCV_HDR_TYPE_TAG.ix k) = tag ∧
      onlyBits s t [] [Pg.ESTIM, Pg.CHANGELOG] ∧ onlyLogged s { t with gran := s.gran }) ∧
  (∀ (s : State) (c : Nat), c < 32 → reachable s (Pg.RESULT c * 0x400 + 0x040) = true → logRoom s 0 →
      ∃ t, Sys2Proof.Machine.exec (.resSnapRead .host c) s = .next t ∧
      t.reply.data = [liveWord s (Pg.RESULT c * 0x400 + 0x040)] ∧
      (∀ j < 108, Table.get 0 t.snaps (snapKey 0 (Pg.RESULT c * 0x400 + 0x044 + 4 * j)) = liveWord s (Pg.RESULT c *
        0x400 + 0x044 + 4 * j)) ∧
      onlyBits s t [] [] ∧ { t with regs := s.regs, snaps := s.snaps, reply := s.reply } = s)

/-- In FULL with nothing on COM_OUT the keeper sends its train, and another device that has seen no SYNC in the frame an
  orphan train. A received train is kept for the boundary and marks SYNC; a device that is not the keeper and sends
  nothing forwards it with its own slot's uplink and CRC in place of the received ones, every other slot as received.
  Nothing but the Commons state changes. A next state is stated for RING_TRAIN_ORIGINATE, ORPHAN_TRAIN_ORIGINATE,
  RING_TRAIN_FORWARD, TOKEN_RETURN. Rests on R325, R326, R328. -/
def Obligations.RingTrainsPass : Prop :=
  (∀ (s : State), s.full = true → isKeeper s = true → s.commons.tx = none → logRoom s 0 →
      ∃ t, Sys2Proof.Machine.exec .ringTrainOriginate s = .next t ∧
      t.commons.tx = some (keeperTrain s) ∧ onlyBits s t [] [] ∧
      { t with regs := s.regs, commons := { t.commons with tx := none } } = s) ∧
  (∀ (s : State), s.full = true → isKeeper s = false → s.commons.sync = false → s.commons.tx = none → logRoom s 0 →
      ∃ t, Sys2Proof.Machine.exec .orphanTrainOriginate s = .next t ∧
      t.commons.tx = some (orphanTrain s) ∧ t.commons.origin = true ∧ onlyBits s t [] [] ∧
      { t with regs := s.regs, commons := { t.commons with tx := none, origin := s.commons.origin } } = s) ∧
  (∀ (s : State) (h : Nat) (l : List Nat), s.full = true → isKeeper s = false → s.commons.rx = none →
  s.commons.tx = none → h < 2 ^ 32 → l.length = 8 → (∀ w ∈ l, w < 2 ^ 58) → logRoom s 0 →
      ∃ t, Sys2Proof.Machine.exec (.ringTrainForward h l) s = .next t ∧
      t.commons.rx = some (h, l) ∧ t.commons.sync = true ∧ (t.commons.tx.map (fun x => x.1)) = some h ∧
      (∀ k < 8, k ≠ s.strap → (t.commons.tx.map (fun x => nth 0 x.2 k)) = some (nth 0 l k)) ∧ onlyBits s t [] [] ∧
      { t with regs := s.regs, commons := { t.commons with rx := s.commons.rx, tx := s.commons.tx, sync := s.commons.sync } }
        = s) ∧
  (∀ (s : State), s.full = true → returnDue s = true → logRoom s 0 →
      ∃ t, Sys2Proof.Machine.exec .tokenReturn s = .next t ∧
      t.get Pg.COMMONS Reg.COMMONS.HELD + t.get Pg.COMMONS Reg.COMMONS.PURSE = s.get Pg.COMMONS Reg.COMMONS.HELD ∧
      onlyBits s t [] [Pg.COMMONS] ∧ { t with regs := s.regs, commons := s.commons } = s)

/-- A device due to freeze becomes FROZEN and not CLOSED. A starving channel's episode counts STARVE_COUNT with
  EVENT.STARVE and is said as TOKEN_STARVE. A host REISSUE that the keeper may take asks for the commit of the commons
  record; once it is due, and no other waits behind it, REISSUE_APPLY makes the new total the total in force and
  counts ISSUE up by one. A next state is stated for RING_FREEZE, TOKEN_STARVE_DETECT, REISSUE, REISSUE_APPLY. Rests
  on R320, R330, R331, R334. -/
def Obligations.RingFreezesAndStarves : Prop :=
  (∀ (s : State), s.full = true → freezeDue s = true →
      ∃ t, Sys2Proof.Machine.exec .ringFreeze s = .next t ∧
      t.flag Pg.COMMONS Reg.COMMONS.STATUS_FROZEN = true ∧ t.flag Pg.COMMONS Reg.COMMONS.STATUS_CLOSED = false ∧
      onlyBits s t [(Pg.CHIP, Reg.CHIP.STATUS_FAULT_N_IN)] ([Pg.COMMONS] ++ reactionPages) ∧
      onlyReaction s { t with commons := s.commons, keeper := s.keeper }) ∧
  (∀ (s : State) (c : Nat), s.full = true → c < 32 → starveDue s c = true →
  s.flag Pg.COMMONS Reg.COMMONS.STATUS_FROZEN = false →
      ∃ t, Sys2Proof.Machine.exec (.tokenStarveDetect c) s = .next t ∧
      t.commons.starving = c :: s.commons.starving ∧ t.get Pg.COMMONS ⟨0x008, 3, 3, 0⟩ = 1 ∧
      said s t Pg.COMMONS Kind.TOKEN_STARVE c ∧
      onlyBits s t [(Pg.CHIP, Reg.CHIP.STATUS_FAULT_N_IN)] ([Pg.COMMONS] ++ reactionPages) ∧
      onlyReaction s { t with commons := { t.commons with starving := s.commons.starving } }) ∧
  (∀ (s : State) (off : Nat), hostReach s Pg.COMMONS 0x110 → isKeeper s = true → off < 256 →
  off &&& s.get Pg.COMMONS Reg.COMMONS.PRESENT_PRESENT = 0 →
  0 ≤ reserveAfter s (s.get Pg.COMMONS Reg.COMMONS.NEW_TOTAL) off → logRoom s 1 →
      ∃ t, Sys2Proof.Machine.exec (.reissue .host (0x7C1E0000 + 2 ^ Reg.COMMONS.REISSUE_GO.lo + off * 2 ^
        Reg.COMMONS.REISSUE_WRITE_OFF.lo)) s = .next t ∧
      commitOpen t 3 = true ∧ onlyBits s t [changeSeq Pg.COMMONS] [Pg.CHANGELOG] ∧
      onlyLogged s { t with gran := s.gran }) ∧
  (∀ (s : State) (new mask : Nat), s.full = true → isKeeper s = true → s.keeper.issueDue = [(new, mask)] →
  reissueReady s = true → new < 2 ^ Reg.COMMONS.TOTAL.width → logRoom s 1 →
      ∃ t, Sys2Proof.Machine.exec .reissueApply s = .next t ∧
      t.get Pg.COMMONS Reg.COMMONS.TOTAL = new ∧
      t.get Pg.COMMONS Reg.COMMONS.ISSUE = (s.get Pg.COMMONS Reg.COMMONS.ISSUE + 1) % 2 ^ Reg.COMMONS.ISSUE.width ∧
      t.keeper.issueDue = [] ∧ onlyBits s t [] [Pg.COMMONS, Pg.CHANGELOG] ∧
      onlyLogged s { t with keeper := s.keeper })

/-- FAULT_N driven low by another device holds the chip safe state: every active channel is in SAFE and the pin is noted.
  The entry of BOARD_FAULT_IN clears itself where it may, every other entry stays, and beside it only what the safe
  states it held and FAULT_N show changes. A host CLEAR waits for the next boundary in FULL; outside FULL the entries
  it names whose condition does not persist are gone at once. A next state is stated for FAULT_N_LOW_INPUT,
  BOARD_FAULT_AUTOCLEAR, FAULT_CLEAR. Rests on R346, R348, R349, R353. -/
def Obligations.FaultNAndItsClears : Prop :=
  (∀ (s : State), s.powered = true → s.fault.peerLow = false → s.service ≠ Svc.FULL →
      ∃ t, Sys2Proof.Machine.exec .faultNLowInput s = .next t ∧
      t.fault.peerLow = true ∧ onlyBits s t [(Pg.CHIP, Reg.CHIP.STATUS_FAULT_N_IN)] reactionPages ∧
      onlyReaction s t) ∧
  (∀ (s : State), s.full = true → s.fault.peerLow = false →
      ∃ t, Sys2Proof.Machine.exec .faultNLowInput s = .next t ∧
      t.fault.peerLow = true ∧ (∀ c < 4 * s.bankCount, t.cstate c = Ch.SAFE) ∧
      onlyBits s t [(Pg.CHIP, Reg.CHIP.STATUS_FAULT_N_IN)] reactionPages ∧ onlyReaction s t) ∧
  (∀ (s : State), autoclearDue s = true → logRoom s 0 →
      ∃ t, Sys2Proof.Machine.exec .boardFaultAutoclear s = .next t ∧
      Table.get ActiveEntry.none t.fault.active (actKey Pg.FAULT Kind.BOARD_FAULT_IN) = ActiveEntry.none ∧
      (∀ k, k ≠ actKey Pg.FAULT Kind.BOARD_FAULT_IN → Table.get ActiveEntry.none t.fault.active k = Table.get
        ActiveEntry.none s.fault.active k) ∧
      onlyBits s t [(Pg.CHIP, Reg.CHIP.STATUS_FAULT_N_IN)] reactionPages ∧ onlyReaction s t) ∧
  (∀ (s : State) (v : Nat), s.full = true → hostReach s Pg.FAULT 0x048 → v < 2 ^ 32 → logRoom s 0 →
      ∃ t, Sys2Proof.Machine.exec (.faultClear .host v) s = .next t ∧
      t.fault.clears = s.fault.clears ++ [(0, v)] ∧ onlyBits s t [] [] ∧
      { t with regs := s.regs, fault := { t.fault with clears := s.fault.clears } } = s) ∧
  (∀ (s : State), s.powered = true → s.full = false → hostReach s Pg.FAULT 0x048 → logRoom s 1 →
      ∃ t, Sys2Proof.Machine.exec (.faultClear .host 0x80000000) s = .next t ∧
      t.fault.active = s.fault.active.filter (fun e => entryPersists s e.1 e.2) ∧
      onlyBits s t [changeSeq Pg.FAULT, (Pg.FAULT, ⟨0x008, 5, 5, 0⟩)] [Pg.CHANGELOG] ∧
      onlyLogged s { t with fault := { t.fault with active := s.fault.active } })

/-- A host write of a severity map of any page is stored, within the bounds of the kinds that the page raises, with the
  slots that it does not raise at 0. A read of FIFO_MSG takes the oldest message and latches its stamps. A Crier
  transfer that goes through takes the oldest queued broadcast and counts CRIER_TX or, without acknowledge,
  CRIER_NOACK; one that loses arbitration keeps it. A received message with a good check byte shows its ID, message
  and time. A next state is stated for SEVERITY_MAP_WRITE, FIFO_MSG_READ, CRIER_SEND, CRIER_RECEIVE. Rests on R339,
  R341, R350, R351. -/
def Obligations.TheCollectorAndTheCrier : Prop :=
  (∀ (s : State) (p n v : Nat) (k : PageKind), hostReach s p (0x014 + 4 * n) → lockState s p = 0 → n < 3 →
  pageKind p = some k → k ≠ .recipe → severityOk k n v = true → v < 2 ^ 30 → logRoom s 1 →
      ∃ t, Sys2Proof.Machine.exec (.severityMapWrite .host p n v) s = .next t ∧
      (t.rd (p * 0x400 + 0x014 + 4 * n)).toNat = severityWord k n v ∧
      onlyBits s t [(p, ⟨0x014 + 4 * n, 31, 0, 0⟩), changeSeq p] [Pg.CHANGELOG] ∧
      onlyLogged s { t with held := s.held }) ∧
  (∀ (s : State) (m f d : Nat) (l : List (Nat × Nat × Nat)), reachable s (Pg.FAULT * 0x400 + 0x064) = true →
  s.fault.fifo = (m, f, d) :: l → f < 2 ^ 32 → d < 2 ^ 32 → logRoom s 0 →
      ∃ t, Sys2Proof.Machine.exec (.fifoMsgRead .host) s = .next t ∧
      t.reply.data = [m % 2 ^ 32] ∧ t.fault.fifo = l ∧ t.get Pg.FAULT Reg.FAULT.FIFO_FRAME = f ∧
      t.get Pg.FAULT Reg.FAULT.FIFO_SEC = d ∧
      onlyBits s t [(Pg.FAULT, Reg.FAULT.FIFO_FRAME), (Pg.FAULT, Reg.FAULT.FIFO_SEC)] [] ∧
      { t with regs := s.regs, snaps := s.snaps, reply := s.reply, fault := { t.fault with fifo := s.fault.fifo } } =
        s) ∧
  (∀ (s : State) (m : Nat × Nat) (l : List (Nat × Nat)) (ack : Bool), s.reducedOrLater = true →
  s.fault.crier = m :: l → logRoom s 0 →
      ∃ t, Sys2Proof.Machine.exec (.crierSend false ack) s = .next t ∧
      t.fault.crier = l ∧ t.reply.wire = crierBytes s m.1 m.2 ∧
      t.get Pg.FAULT Reg.FAULT.CRIER_TX = (if ack then min (2 ^ 32 - 1) (s.get Pg.FAULT Reg.FAULT.CRIER_TX + 1) else
        s.get Pg.FAULT Reg.FAULT.CRIER_TX) ∧
      t.get Pg.FAULT Reg.FAULT.CRIER_NOACK = (if ack then s.get Pg.FAULT Reg.FAULT.CRIER_NOACK else min (2 ^ 32 - 1)
        (s.get Pg.FAULT Reg.FAULT.CRIER_NOACK + 1)) ∧
      onlyBits s t [(Pg.FAULT, Reg.FAULT.CRIER_TX), (Pg.FAULT, Reg.FAULT.CRIER_NOACK)] [] ∧
      { t with regs := s.regs, reply := s.reply, fault := { t.fault with crier := s.fault.crier } } = s) ∧
  (∀ (s : State) (ack : Bool), s.reducedOrLater = true → s.fault.crier ≠ [] → logRoom s 0 →
      ∃ t, Sys2Proof.Machine.exec (.crierSend true ack) s = .next t ∧
      onlyBits s t [(Pg.TWOWIRE, Reg.TWOWIRE.ARB_LOST), (Pg.TWOWIRE, ⟨0x008, 2, 2, 0⟩)] [] ∧
      t.get Pg.TWOWIRE ⟨0x008, 2, 2, 0⟩ = 1 ∧ { t with regs := s.regs } = s) ∧
  (∀ (s : State) (id : Nat) (l : List Nat), s.reducedOrLater = true → l.length = 8 → id < 8 → (∀ b ∈ l, b < 256) →
  logRoom s 0 →
      ∃ t, Sys2Proof.Machine.exec (.crierReceive ([0x78, id] ++ l ++ [crc8 (id :: l)])) s = .next t ∧
      t.get Pg.FAULT Reg.FAULT.CRIER_LAST_ID_ID = id ∧
      t.get Pg.FAULT Reg.FAULT.CRIER_LAST_MSG = natOfLE (l.take 4).reverse ∧
      t.get Pg.FAULT Reg.FAULT.CRIER_LAST_SEC = natOfLE (l.drop 4).reverse ∧ t.get Pg.FAULT ⟨0x008, 3, 3, 0⟩ = 1 ∧
      onlyBits s t [] [Pg.FAULT] ∧ { t with regs := s.regs } = s)

/-- With TESTMODE high the first key of the host starts the sequence; the second, with every channel idle, sets TEST_MODE
  with EVENT.TEST_ENTER. In test mode a host INJECT that the rules admit completes. TESTMODE low for 1 ms ends test
  mode. A next state is stated for TEST_KEY_WRITE, FAULT_INJECT, TEST_MODE_EXIT. Rests on R355, R356, R357. -/
def Obligations.FactoryTestMode : Prop :=
  (∀ (s : State), reachable s (Pg.FAULT * 0x400 + 0x0C0) = true → keySeq s testSeq = none → keySeq s Pg.FAULT = none →
  logRoom s 0 →
      ∃ t, Sys2Proof.Machine.exec (.testKeyWrite .host 0x7E57 true) s = .next t ∧
      (keySeq t testSeq).isSome = true ∧ t.fault.testPin = true ∧ onlyBits s t [] [] ∧
      { t with regs := s.regs, keys := s.keys, fault := { t.fault with testPin := s.fault.testPin } } = s) ∧
  (∀ (s : State), reachable s (Pg.FAULT * 0x400 + 0x0C0) = true → (keySeq s testSeq).isSome = true →
  keySeq s Pg.FAULT = none → channelsIdle s = true → logRoom s 1 →
      ∃ t, Sys2Proof.Machine.exec (.testKeyWrite .host 0xC0DE true) s = .next t ∧
      t.flag Pg.FAULT Reg.FAULT.STATUS_TEST_MODE = true ∧ t.get Pg.FAULT ⟨0x008, 7, 7, 0⟩ = 1 ∧
      onlyBits s t [(Pg.FAULT, Reg.FAULT.STATUS_TEST_MODE), (Pg.FAULT, ⟨0x008, 7, 7, 0⟩), changeSeq Pg.FAULT]
        [Pg.CHANGELOG] ∧
      onlyLogged s { t with keys := s.keys, fault := { t.fault with testPin := s.fault.testPin } }) ∧
  (∀ (s : State) (v : Nat), hostReach s Pg.FAULT 0x0C4 → v < 2 ^ 32 → injectOk s v = true →
      ∃ t, Sys2Proof.Machine.exec (.faultInject .host v) s = .next t ∧
      t.frame = s.frame ∧ t.banks = s.banks ∧ t.gran.slots = s.gran.slots ∧ t.rtc = s.rtc ∧ t.timer = s.timer ∧
      t.pending = s.pending ∧ t.get Pg.FAULT ⟨0x008, 0, 0, 0⟩ = 1) ∧
  (∀ (s : State), s.powered = true → s.flag Pg.FAULT Reg.FAULT.STATUS_TEST_MODE = true → logRoom s 1 →
      ∃ t, Sys2Proof.Machine.exec .testModeExit s = .next t ∧
      t.flag Pg.FAULT Reg.FAULT.STATUS_TEST_MODE = false ∧ t.fault.testPin = false ∧
      onlyBits s t [(Pg.FAULT, Reg.FAULT.STATUS_TEST_MODE), changeSeq Pg.FAULT] [Pg.CHANGELOG] ∧
      onlyLogged s { t with fault := { t.fault with testPin := s.fault.testPin } })

/-- With no common start due, a slot while the sequencer is ON and ENG.10 runs advances the slot count by one, shown up to
  63, and touches the HKRAIL page, the rails and ENG.10's slot count and MISSED only; in UP it switches on each rail
  of the sequence whose ON_DLY names the new slot. PG rising for the first time ends a rail's soft start: VREF is at
  the target and SLEW_DONE is set. PG falling before qualification outside a power-down counts a failed window, and
  the third is not reached. A rail whose PG has stood for QUAL is qualified; outside UP nothing but its bit, the time
  of it and HK_UP changes. A next state is stated for SEQ_SLOT, PG_CHANGE, RAIL_QUALIFIED. Rests on R285, R359, R360,
  R362, R363, R364. -/
def Obligations.SlotsAndPowerGood : Prop :=
  (∀ (s : State) (low drained : Nat) (amps : List Nat), s.reducedOrLater = true → estate s 10 = Es.RUNNING →
  hkState s = Hq.ON → s.hk.start = false → logRoom s 0 →
      ∃ t, Sys2Proof.Machine.exec (.seqSlot low drained amps) s = .next t ∧
      t.hk.slot = s.hk.slot + 1 ∧ t.get Pg.HKSEQ Reg.HKSEQ.STATUS_SLOT = min 63 (s.hk.slot + 1) ∧
      (t.eng 10).slotMiss = (s.eng 10).slotMiss + 1 ∧
      onlyBits s t [(Pg.HKSEQ, Reg.HKSEQ.STATUS_SLOT), (Pg.ENG 10, Reg.ENG.MISSED)] [Pg.HKRAIL] ∧
      { t with regs := s.regs, engs := s.engs, hk := { t.hk with rails := s.hk.rails, slot := s.hk.slot } } = s) ∧
  (∀ (s : State) (low drained : Nat) (amps : List Nat) (r : Nat), s.reducedOrLater = true → estate s 10 = Es.RUNNING →
  hkState s = Hq.UP → s.hk.start = false → r < 4 → inSeq s r = true → railOn s r = false →
  seqField s (Reg.HKSEQ.RAIL_SEQ_ON_DLY.ix r) = s.hk.slot + 1 → logRoom s 4 →
      ∃ t, Sys2Proof.Machine.exec (.seqSlot low drained amps) s = .next t ∧
      railOn t r = true ∧ railQual t r = false ∧ t.flag Pg.HKRAIL (Reg.HKRAIL.STATUS_SLEW_DONE.ix r) = false ∧
      t.get Pg.HKRAIL (Reg.HKRAIL.CTRL_EN.ix r) = 1 ∧
      (rail t r).target = s.get Pg.HKRAIL (Reg.HKRAIL.VSET_VOLTAGE.ix r) ∧ hkState t = Hq.UP ∧
      onlyBits s t [(Pg.CHIP, Reg.CHIP.STATUS_HK_UP), (Pg.HKSEQ, Reg.HKSEQ.STATUS_SLOT), (Pg.ENG 10, Reg.ENG.MISSED)]
        [Pg.HKRAIL, Pg.CHANGELOG] ∧
      onlyLogged s { t with engs := s.engs, hk := { t.hk with rails := s.hk.rails, slot := s.hk.slot } }) ∧
  (∀ (s : State) (r : Nat) (above : Bool), s.powered = true → r < 4 → railOn s r = true →
  s.flag Pg.HKRAIL (Reg.HKRAIL.STATUS_PG.ix r) = false → (rail s r).seen = false → (rail s r).retarget = false →
  pgLive s r = true → logRoom s 0 →
      ∃ t, Sys2Proof.Machine.exec (.pgChange r true above) s = .next t ∧
      (rail t r).seen = true ∧ (rail t r).vref = (rail s r).target * 100 ∧
      t.flag Pg.HKRAIL (Reg.HKRAIL.STATUS_PG.ix r) = true ∧
      t.get Pg.HKRAIL (Reg.HKRAIL.VREF_VOLTAGE.ix r) = (rail s r).target % 2 ^ 16 ∧
      t.flag Pg.HKRAIL (Reg.HKRAIL.STATUS_SLEW_DONE.ix r) = true ∧ t.get Pg.HKRAIL ⟨0x008, 0, 0, 0⟩ = 1 ∧
      onlyBits s t [(Pg.HKRAIL, Reg.HKRAIL.STATUS_PG.ix r), (Pg.HKRAIL, Reg.HKRAIL.VREF_VOLTAGE.ix r), (Pg.HKRAIL,
        Reg.HKRAIL.STATUS_SLEW_DONE.ix r), (Pg.HKRAIL, ⟨0x008, 0, 0, 0⟩)] [] ∧
      { t with regs := s.regs, hk := { t.hk with rails := s.hk.rails } } = s) ∧
  (∀ (s : State) (r : Nat) (above : Bool), s.powered = true → r < 4 → railOn s r = true → railQual s r = false →
  s.flag Pg.HKRAIL (Reg.HKRAIL.STATUS_PG.ix r) = true → (rail s r).fails < 2 → goingDown s = false →
  pgLive s r = true → logRoom s 0 →
      ∃ t, Sys2Proof.Machine.exec (.pgChange r false above) s = .next t ∧
      (rail t r).fails = (rail s r).fails + 1 ∧ t.flag Pg.HKRAIL (Reg.HKRAIL.STATUS_PG.ix r) = false ∧
      t.get Pg.HKSEQ ⟨0x048, 2 * r + 1, 2 * r, 0⟩ = min 3 (s.get Pg.HKSEQ ⟨0x048, 2 * r + 1, 2 * r, 0⟩ + 1) ∧
      t.get Pg.HKSEQ ⟨0x008, 3, 3, 0⟩ = 1 ∧
      onlyBits s t [(Pg.HKRAIL, Reg.HKRAIL.STATUS_PG.ix r), (Pg.HKSEQ, ⟨0x048, 2 * r + 1, 2 * r, 0⟩), (Pg.HKSEQ,
        ⟨0x008, 3, 3, 0⟩)] [] ∧
      { t with regs := s.regs, hk := { t.hk with rails := s.hk.rails } } = s) ∧
  (∀ (s : State) (r : Nat), s.powered = true → r < 4 → qualDone s r = true → hkState s ≠ Hq.UP → logRoom s 0 →
      ∃ t, Sys2Proof.Machine.exec (.railQualified r) s = .next t ∧
      railQual t r = true ∧ (rail t r).qualUs = s.rcUs ∧
      onlyBits s t [(Pg.HKRAIL, Reg.HKRAIL.STATUS_QUALIFIED.ix r), (Pg.CHIP, Reg.CHIP.STATUS_HK_UP)] [] ∧
      { t with regs := s.regs, hk := { t.hk with rails := s.hk.rails } } = s)

/-- In REDUCED and outside DOWN, a start timeout (cause 4), a short in soft start (5) and a trip of a qualified rail
  (causes 1 to 3) switch every rail off, drive both reset outputs low and say RAIL_FAULT with the cause in the high
  digit and the rail in the low one; a sequencer in UP or ON is then FAULTED with ABORT_CAUSE 1 and that rail, and any
  other stays. An output not below OFF_TH in its time shows OFF_RESULT 2 and says OFF_TIMEOUT. An overcurrent of a
  rail still on in DOWN switches that rail off, shows OFF_RESULT 1 and says RAIL_FAULT with cause 6. A next state is
  stated for RAIL_START_TIMEOUT, RAIL_SOFTSTART_SHORT, RAIL_FAULT_TRIP, OFF_TIMEOUT, DOWN_RAIL_OVERCURRENT. Rests on
  R365, R366, R367, R369, R370. -/
def Obligations.RailFaultsShutTheRails : Prop :=
  (∀ (s : State) (r : Nat), s.service = Svc.REDUCED → s.powered = true → r < 4 → railOn s r = true →
  (rail s r).seen = false → (rail s r).onUs + 1000 * seqField s (Reg.HKSEQ.RAIL_SEQ_START_TMO.ix r) ≤ s.rcUs →
  hkState s ≠ Hq.DOWN → logRoom s 4 →
      ∃ t, Sys2Proof.Machine.exec (.railStartTimeout r) s = .next t ∧
      (∀ j < 4, railOn t j = false) ∧ t.hk.rst1 = false ∧ t.hk.rst2 = false ∧
      said s t Pg.HKRAIL Kind.RAIL_FAULT (0x40 + r) ∧
      (hkState s = Hq.UP ∨ hkState s = Hq.ON → hkState t = Hq.FAULTED ∧ t.get Pg.HKSEQ Reg.HKSEQ.STATUS_ABORT_CAUSE =
        1 ∧ t.get Pg.HKSEQ Reg.HKSEQ.STATUS_ABORT_RAIL = r ∧ t.get Pg.HKSEQ ⟨0x008, 1, 1, 0⟩ = 1) ∧
      (hkState s ≠ Hq.UP → hkState s ≠ Hq.ON → hkState t = hkState s) ∧
      onlyBits s t [(Pg.CHIP, Reg.CHIP.STATUS_FAULT_N_IN), (Pg.CHIP, Reg.CHIP.STATUS_HK_UP), (Pg.CHIP,
        Reg.CHIP.STATUS_REFCLK_OK), (Pg.CLOCK, ⟨0x048, 31, 0, 0⟩), (Pg.CLOCK, Reg.CLOCK.REFCLK_MEAS_KHZ)] ([Pg.HKRAIL,
        Pg.HKSEQ] ++ reactionPages) ∧
      onlyReaction s { t with hk := s.hk, clock := s.clock }) ∧
  (∀ (s : State) (r : Nat), s.service = Svc.REDUCED → s.powered = true → r < 4 → railOn s r = true →
  (rail s r).seen = false → hkState s ≠ Hq.DOWN →
  s.rcUs ≤ (rail s r).onUs + 100 * s.get Pg.HKRAIL (Reg.HKRAIL.SS_SLEW_SS.ix r) → logRoom s 4 →
      ∃ t, Sys2Proof.Machine.exec (.railSoftstartShort r) s = .next t ∧
      (∀ j < 4, railOn t j = false) ∧ t.hk.rst1 = false ∧ t.hk.rst2 = false ∧
      said s t Pg.HKRAIL Kind.RAIL_FAULT (0x50 + r) ∧
      (hkState s = Hq.UP ∨ hkState s = Hq.ON → hkState t = Hq.FAULTED ∧ t.get Pg.HKSEQ Reg.HKSEQ.STATUS_ABORT_CAUSE =
        1 ∧ t.get Pg.HKSEQ Reg.HKSEQ.STATUS_ABORT_RAIL = r ∧ t.get Pg.HKSEQ ⟨0x008, 1, 1, 0⟩ = 1) ∧
      (hkState s ≠ Hq.UP → hkState s ≠ Hq.ON → hkState t = hkState s) ∧
      onlyBits s t [(Pg.CHIP, Reg.CHIP.STATUS_FAULT_N_IN), (Pg.CHIP, Reg.CHIP.STATUS_HK_UP), (Pg.CHIP,
        Reg.CHIP.STATUS_REFCLK_OK), (Pg.CLOCK, ⟨0x048, 31, 0, 0⟩), (Pg.CLOCK, Reg.CLOCK.REFCLK_MEAS_KHZ)] ([Pg.HKRAIL,
        Pg.HKSEQ] ++ reactionPages) ∧
      onlyReaction s { t with hk := s.hk, clock := s.clock }) ∧
  (∀ (s : State) (r cause : Nat), s.service = Svc.REDUCED → s.powered = true → r < 4 → 1 ≤ cause ∧ cause ≤ 3 →
  railOn s r = true → railQual s r = true → hkState s ≠ Hq.DOWN → logRoom s 4 →
      ∃ t, Sys2Proof.Machine.exec (.railFaultTrip r cause) s = .next t ∧
      (∀ j < 4, railOn t j = false) ∧
      (∀ j < 4, railOn s j = true → t.flag Pg.HKRAIL (Reg.HKRAIL.STATUS_DISCHARGING.ix j) = true) ∧
      t.hk.rst1 = false ∧ t.hk.rst2 = false ∧ said s t Pg.HKRAIL Kind.RAIL_FAULT (0x10 * cause + r) ∧
      (hkState s = Hq.UP ∨ hkState s = Hq.ON → hkState t = Hq.FAULTED ∧ t.get Pg.HKSEQ Reg.HKSEQ.STATUS_ABORT_CAUSE =
        1 ∧ t.get Pg.HKSEQ Reg.HKSEQ.STATUS_ABORT_RAIL = r ∧ t.get Pg.HKSEQ ⟨0x008, 1, 1, 0⟩ = 1) ∧
      (hkState s ≠ Hq.UP → hkState s ≠ Hq.ON → hkState t = hkState s) ∧
      onlyBits s t [(Pg.CHIP, Reg.CHIP.STATUS_FAULT_N_IN), (Pg.CHIP, Reg.CHIP.STATUS_HK_UP), (Pg.CHIP,
        Reg.CHIP.STATUS_REFCLK_OK), (Pg.CLOCK, ⟨0x048, 31, 0, 0⟩), (Pg.CLOCK, Reg.CLOCK.REFCLK_MEAS_KHZ)] ([Pg.HKRAIL,
        Pg.HKSEQ] ++ reactionPages) ∧
      onlyReaction s { t with hk := s.hk, clock := s.clock }) ∧
  (∀ (s : State) (r : Nat), s.service = Svc.REDUCED → s.powered = true → r < 4 → railOn s r = false →
  (rail s r).offWait = true → (rail s r).low = false →
  4 * s.get Pg.HKRAIL (Reg.HKRAIL.LIMIT_OFF_TMO.ix r) ≤ (rail s r).offSlots → logRoom s 4 →
      ∃ t, Sys2Proof.Machine.exec (.offTimeout r) s = .next t ∧
      (rail t r).timedOut = true ∧ (rail t r).offWait = false ∧ t.get Pg.HKSEQ ⟨0x068, 2 * r + 1, 2 * r, 0⟩ = 2 ∧
      said s t Pg.HKSEQ Kind.OFF_TIMEOUT r ∧
      onlyBits s t [(Pg.CHIP, Reg.CHIP.STATUS_FAULT_N_IN), (Pg.CHIP, Reg.CHIP.STATUS_HK_UP), (Pg.CHIP,
        Reg.CHIP.STATUS_REFCLK_OK), (Pg.CLOCK, ⟨0x048, 31, 0, 0⟩), (Pg.CLOCK, Reg.CLOCK.REFCLK_MEAS_KHZ)] ([Pg.HKRAIL,
        Pg.HKSEQ] ++ reactionPages) ∧
      onlyReaction s { t with hk := s.hk, clock := s.clock }) ∧
  (∀ (s : State) (r : Nat), s.service = Svc.REDUCED → s.powered = true → r < 4 → goingDown s = true →
  railOn s r = true → logRoom s 4 →
      ∃ t, Sys2Proof.Machine.exec (.downRailOvercurrent r) s = .next t ∧
      railOn t r = false ∧ t.get Pg.HKSEQ ⟨0x068, 2 * r + 1, 2 * r, 0⟩ = 1 ∧
      said s t Pg.HKRAIL Kind.RAIL_FAULT (0x60 + r) ∧ hkState t = Hq.DOWN ∧
      (∀ j < 4, j ≠ r → railOn t j = railOn s j) ∧
      onlyBits s t [(Pg.CHIP, Reg.CHIP.STATUS_FAULT_N_IN), (Pg.CHIP, Reg.CHIP.STATUS_HK_UP), (Pg.CHIP,
        Reg.CHIP.STATUS_REFCLK_OK), (Pg.CLOCK, ⟨0x048, 31, 0, 0⟩), (Pg.CLOCK, Reg.CLOCK.REFCLK_MEAS_KHZ)] ([Pg.HKRAIL,
        Pg.HKSEQ] ++ reactionPages) ∧
      onlyReaction s { t with hk := s.hk, clock := s.clock })

/-- 100 ms after the abort a retry within CFG.RETRY with every output low, a thermal restart with every die sensor below
  110 °C for 1 s and the end of an emergency off each enter UP with EMERG_OFF clear and a common start due, and change
  nothing else but the rails' failed windows and HK_UP. A host CMD UP in OFF does so and clears FAILS; a host CMD DOWN
  in ON or UP enters DOWN with the results cleared. A reset output is released when every rail of its mask has been
  qualified for STRETCH. In ON a host write of EN = 1 starts a rail, and a VSET of HK1 or HK3 within its range is
  stored, while one of HK2 or HK4 changes nothing; none touches another rail. A next state is stated for
  SEQUENCER_RETRY, SEQUENCER_THERMAL_RESTART, EMERG_OFF_RESTART, HKSEQ_CMD_UP, HKSEQ_CMD_DOWN, RESET_OUTPUT_RELEASE,
  RAIL_EN_WRITE, RAIL_VSET_WRITE. Rests on R360, R368, R371, R372, R374, R378, R504. -/
def Obligations.SequencesStartAndStop : Prop :=
  (∀ (s : State), s.reducedOrLater = true → hkState s = Hq.FAULTED →
  s.get Pg.HKSEQ Reg.HKSEQ.STATUS_ABORT_CAUSE = 1 ∨ s.get Pg.HKSEQ Reg.HKSEQ.STATUS_ABORT_CAUSE = 2 →
  s.get Pg.HKSEQ Reg.HKSEQ.STATUS_CONSEC_ABORTS ≤ seqField s Reg.HKSEQ.CFG_RETRY →
  (List.range 4).all (fun r => (rail s r).low) = true → s.hk.abortUs + 100000 ≤ s.rcUs → logRoom s 0 →
      ∃ t, Sys2Proof.Machine.exec .sequencerRetry s = .next t ∧
      hkState t = Hq.UP ∧ t.hk.start = true ∧ t.flag Pg.HKSEQ Reg.HKSEQ.STATUS_EMERG_OFF = false ∧
      t.flag Pg.CHIP Reg.CHIP.STATUS_HK_UP = false ∧ (∀ r < 4, (rail t r).fails = 0) ∧
      onlyBits s t [(Pg.HKSEQ, Reg.HKSEQ.STATUS_STATE), (Pg.HKSEQ, Reg.HKSEQ.STATUS_EMERG_OFF), (Pg.CHIP,
        Reg.CHIP.STATUS_HK_UP)] [] ∧
      { t with regs := s.regs, hk := { t.hk with start := s.hk.start, rails := s.hk.rails } } = s) ∧
  (∀ (s : State), s.reducedOrLater = true → hkState s = Hq.FAULTED → s.get Pg.HKSEQ Reg.HKSEQ.STATUS_ABORT_CAUSE = 3 →
  dieCool s = true → logRoom s 0 →
      ∃ t, Sys2Proof.Machine.exec .sequencerThermalRestart s = .next t ∧
      hkState t = Hq.UP ∧ t.hk.start = true ∧ t.flag Pg.HKSEQ Reg.HKSEQ.STATUS_EMERG_OFF = false ∧
      onlyBits s t [(Pg.HKSEQ, Reg.HKSEQ.STATUS_STATE), (Pg.HKSEQ, Reg.HKSEQ.STATUS_EMERG_OFF), (Pg.CHIP,
        Reg.CHIP.STATUS_HK_UP)] [] ∧
      { t with regs := s.regs, hk := { t.hk with start := s.hk.start, rails := s.hk.rails } } = s) ∧
  (∀ (s : State), s.reducedOrLater = true → hkState s = Hq.OFF → s.flag Pg.HKSEQ Reg.HKSEQ.STATUS_EMERG_OFF = true →
  s.hk.abortUs + 100000 ≤ s.rcUs → logRoom s 0 →
      ∃ t, Sys2Proof.Machine.exec .emergOffRestart s = .next t ∧
      hkState t = Hq.UP ∧ t.hk.start = true ∧ t.flag Pg.HKSEQ Reg.HKSEQ.STATUS_EMERG_OFF = false ∧
      onlyBits s t [(Pg.HKSEQ, Reg.HKSEQ.STATUS_STATE), (Pg.HKSEQ, Reg.HKSEQ.STATUS_EMERG_OFF), (Pg.CHIP,
        Reg.CHIP.STATUS_HK_UP)] [] ∧
      { t with regs := s.regs, hk := { t.hk with start := s.hk.start, rails := s.hk.rails } } = s) ∧
  (∀ (s : State), hostReach s Pg.HKSEQ 0x044 → lockState s Pg.HKSEQ = 0 → hkState s = Hq.OFF → logRoom s 1 →
      ∃ t, Sys2Proof.Machine.exec (.hkseqCmdUp .host) s = .next t ∧
      hkState t = Hq.UP ∧ t.hk.start = true ∧ t.get Pg.HKSEQ Reg.HKSEQ.STATUS_FAILS = 0 ∧
      onlyBits s t [(Pg.HKSEQ, Reg.HKSEQ.STATUS), (Pg.HKSEQ, Reg.HKSEQ.STATUS_FAILS), (Pg.CHIP,
        Reg.CHIP.STATUS_HK_UP), changeSeq Pg.HKSEQ] [Pg.CHANGELOG] ∧
      onlyLogged s { t with hk := { t.hk with start := s.hk.start, rails := s.hk.rails } }) ∧
  (∀ (s : State), hostReach s Pg.HKSEQ 0x044 → lockState s Pg.HKSEQ = 0 → hkState s = Hq.ON ∨ hkState s = Hq.UP →
  logRoom s 1 →
      ∃ t, Sys2Proof.Machine.exec (.hkseqCmdDown .host) s = .next t ∧
      hkState t = Hq.DOWN ∧ t.hk.start = true ∧ t.get Pg.HKSEQ Reg.HKSEQ.OFF_RESULT_RESULT = 0 ∧
      onlyBits s t [(Pg.HKSEQ, Reg.HKSEQ.STATUS_STATE), (Pg.HKSEQ, Reg.HKSEQ.OFF_RESULT_RESULT), (Pg.CHIP,
        Reg.CHIP.STATUS_HK_UP), changeSeq Pg.HKSEQ] [Pg.CHANGELOG] ∧
      t.hk.downReq = some (Org.HOST, s.get Pg.HKSEQ Reg.HKSEQ.OFF_RESULT_RESULT) ∧
      onlyLogged s { t with hk := { t.hk with start := s.hk.start, downReq := s.hk.downReq } }) ∧
  (∀ (s : State) (k : Nat), s.powered = true → k < 2 → mayRelease s k = true → logRoom s 0 →
      ∃ t, Sys2Proof.Machine.exec (.resetOutputRelease k) s = .next t ∧
      (if k = 0 then t.hk.rst1 else t.hk.rst2) = true ∧
      (if k = 0 then t.hk.rst2 = s.hk.rst2 else t.hk.rst1 = s.hk.rst1) ∧ onlyBits s t [] [] ∧
      { t with regs := s.regs, hk := { t.hk with rst1 := s.hk.rst1, rst2 := s.hk.rst2 } } = s) ∧
  (∀ (s : State) (r d : Nat), hostReach s Pg.HKRAIL (0x040 + 32 * r) → lockState s Pg.HKRAIL = 0 → r < 4 → d < 2 →
  hkState s = Hq.ON → railOn s r = false → s.get Pg.HKRAIL (Reg.HKRAIL.CTRL_EN.ix r) = 0 → logRoom s 3 →
      ∃ t, Sys2Proof.Machine.exec (.railEnWrite .host r (2 * d + 1)) s = .next t ∧
      railOn t r = true ∧ railQual t r = false ∧ (rail t r).target = s.get Pg.HKRAIL (Reg.HKRAIL.VSET_VOLTAGE.ix r) ∧
      t.get Pg.HKRAIL (Reg.HKRAIL.CTRL_EN.ix r) = 1 ∧ t.get Pg.HKRAIL (Reg.HKRAIL.CTRL_DISCH.ix r) = d ∧
      (∀ j < 4, j ≠ r → railOn t j = railOn s j ∧ rail t j = rail s j) ∧
      onlyBits s t [(Pg.CHIP, Reg.CHIP.STATUS_HK_UP)] [Pg.HKRAIL, Pg.CHANGELOG] ∧
      onlyLogged s { t with hk := { t.hk with rails := s.hk.rails } }) ∧
  (∀ (s : State) (r mv : Nat), hostReach s Pg.HKRAIL (0x044 + 32 * r) → lockState s Pg.HKRAIL = 0 → r = 0 ∨ r = 2 →
  (if r = 0 then 4500 ≤ mv ∧ mv ≤ 5500 else if s.flag Pg.FAULT Reg.FAULT.STATUS_TEST_MODE then 600 ≤ mv ∧ mv ≤ 1200
    else 800 ≤ mv ∧ mv ≤ 900) →
  logRoom s 1 →
      ∃ t, Sys2Proof.Machine.exec (.railVsetWrite .host r mv) s = .next t ∧
      t.get Pg.HKRAIL (Reg.HKRAIL.VSET_VOLTAGE.ix r) = mv ∧
      onlyBits s t [(Pg.HKRAIL, Reg.HKRAIL.VSET_VOLTAGE.ix r), changeSeq Pg.HKRAIL] [Pg.CHANGELOG] ∧
      onlyLogged s { t with held := s.held }) ∧
  (∀ (s : State) (r mv : Nat), reachable s (Pg.HKRAIL * 0x400 + (0x044 + 32 * r)) = true → r = 1 ∨ r = 3 →
  logRoom s 0 →
      ∃ t, Sys2Proof.Machine.exec (.railVsetWrite .host r mv) s = .next t ∧
      onlyBits s t [] [] ∧ { t with regs := s.regs } = s)

/-- VIN returning clears the start latch, and VIN carries VSYS from then on unless the path converter runs already or the
  battery switch connects the pack (log entry 102); a falling pack clears the latch alone. A hand-over from VIN takes
  the converter off, counts, sets its event and says VIN_UV; sensed on, the pack carries VSYS, the hand-back window
  open at once where VIN is good again; a hand-back due after QUAL returns it to VIN with the outage in ms and the
  charge time cleared. A pack shutdown in REDUCED shows SHUTDOWN and takes a sequence in UP or ON down; at OFF, and at
  the hardware cut-off at any time, the battery switch opens and the start latch is set. A next state is stated for
  PATH_CONVERTER_START, START_LATCH_CLEAR, HANDOVER_START, HANDOVER_COMPLETE, HANDBACK, PACK_SHUTDOWN,
  PACK_SHUTDOWN_FINISH, PACK_CUTOFF. Rests on R381, R382, R383, R384, R386, R388, R389. -/
def Obligations.ThePowerPath : Prop :=
  (∀ (s : State), s.backup.path = false → s.powered = false ∨ switchOn s = false → s.reducedOrLater = false →
  logRoom s 0 →
      ∃ t, Sys2Proof.Machine.exec .pathConverterStart s = .next t ∧
      pathSource t = Src.VIN ∧ t.backup.path = true ∧ t.backup.latch = false ∧
      onlyBits s t [(Pg.BACKUP, Reg.BACKUP.PATH_STATUS_SOURCE)] [] ∧
      { t with regs := s.regs, backup := { t.backup with path := s.backup.path, latch := s.backup.latch } } = s) ∧
  (∀ (s : State), s.backup.path = false → switchOn s = false → s.reducedOrLater = true → packPresent s = false →
  logRoom s 0 →
      ∃ t, Sys2Proof.Machine.exec .pathConverterStart s = .next t ∧
      pathSource t = Src.VIN ∧ t.backup.path = true ∧ t.backup.latch = false ∧ chgState t = Chg.ABSENT ∧
      onlyBits s t [(Pg.BACKUP, Reg.BACKUP.PATH_STATUS), (Pg.BACKUP, Reg.BACKUP.CHG_STATUS_STATE)] [] ∧
      { t with regs := s.regs, backup := { t.backup with path := s.backup.path, latch := s.backup.latch } } = s) ∧
  (∀ (s : State), s.backup.path = true ∨ (s.powered = true ∧ switchOn s = true) → logRoom s 0 →
      ∃ t, Sys2Proof.Machine.exec .pathConverterStart s = .next t ∧
      t.backup.latch = false ∧ onlyBits s t [] [] ∧
      { t with regs := s.regs, backup := { t.backup with latch := s.backup.latch } } = s) ∧
  (∀ (s : State), logRoom s 0 →
      ∃ t, Sys2Proof.Machine.exec .startLatchClear s = .next t ∧
      t.backup.latch = false ∧ onlyBits s t [] [] ∧
      { t with regs := s.regs, backup := { t.backup with latch := s.backup.latch } } = s) ∧
  (∀ (s : State), s.powered = true → s.backup.path = true → pathSource s = Src.VIN → s.service = Svc.REDUCED →
  s.fault.logPending = [] → logRoom s 4 →
      ∃ t, Sys2Proof.Machine.exec .handoverStart s = .next t ∧
      pathSource t = Src.HANDOVER ∧ t.backup.path = false ∧ t.backup.handUs = s.rcUs ∧
      t.flag Pg.BACKUP Reg.BACKUP.PATH_STATUS_BAT_SW = (packPresent s && decide (cutLevel s ≤ vbak s)) ∧
      t.get Pg.BACKUP ⟨0x008, 0, 0, 0⟩ = 1 ∧
      said s t Pg.BACKUP Kind.VIN_UV (if packPresent s && decide (cutLevel s ≤ vbak s) then 0 else 1) ∧
      t.get Pg.BACKUP Reg.BACKUP.HANDOVERS = min (2 ^ 32 - 1) (s.get Pg.BACKUP Reg.BACKUP.HANDOVERS + 1) ∧
      chgState t = (if packPresent s then Chg.ON_PACK else Chg.ABSENT) ∧
      onlyBits s t [(Pg.CHIP, Reg.CHIP.STATUS_FAULT_N_IN)] ([Pg.BACKUP] ++ reactionPages) ∧
      onlyReaction s { t with backup := { t.backup with path := s.backup.path, handUs := s.backup.handUs } }) ∧
  (∀ (s : State), s.full = true → s.backup.path = true → pathSource s = Src.VIN → s.powered = true →
      ∃ t, Sys2Proof.Machine.exec .handoverStart s = .next t ∧
      pathSource t = Src.HANDOVER ∧ t.ledger.pendingReasons.contains 2 = true ∧
      onlyBits s t [(Pg.CHIP, Reg.CHIP.STATUS_FAULT_N_IN)] ([Pg.BACKUP] ++ reactionPages) ∧
      onlyReaction s
        { t with backup := { t.backup with path := s.backup.path, handUs := s.backup.handUs }, ledger := { t.ledger with pendingReasons := s.ledger.pendingReasons } })
        ∧
  (∀ (s : State), s.powered = true → pathSource s = Src.HANDOVER →
  s.flag Pg.BACKUP Reg.BACKUP.PATH_STATUS_BAT_SW = true → logRoom s 0 →
      ∃ t, Sys2Proof.Machine.exec .handoverComplete s = .next t ∧
      pathSource t = (if s.flag Pg.BACKUP Reg.BACKUP.PATH_STATUS_VIN_GOOD then Src.WINDOW else Src.PACK) ∧
      onlyBits s t [(Pg.BACKUP, Reg.BACKUP.PATH_STATUS_SOURCE)] [] ∧
      { t with regs := s.regs, backup := { t.backup with winUs := s.backup.winUs } } = s) ∧
  (∀ (s : State), s.powered = true → handbackDue s = true → logRoom s 0 →
      ∃ t, Sys2Proof.Machine.exec .handback s = .next t ∧
      pathSource t = Src.VIN ∧ t.backup.path = true ∧ t.get Pg.BACKUP ⟨0x008, 1, 1, 0⟩ = 1 ∧
      t.get Pg.BACKUP Reg.BACKUP.LAST_OUTAGE = min (2 ^ 32 - 1) ((s.rcUs - s.backup.handUs) / 1000) ∧
      t.get Pg.BACKUP Reg.BACKUP.CHG_TIME_MINUTES = 0 ∧
      onlyBits s t [(Pg.BACKUP, Reg.BACKUP.PATH_STATUS), (Pg.BACKUP, Reg.BACKUP.CHG_STATUS_STATE), (Pg.BACKUP,
        Reg.BACKUP.LAST_OUTAGE), (Pg.BACKUP, Reg.BACKUP.CHG_TIME_MINUTES), (Pg.BACKUP, ⟨0x008, 1, 1, 0⟩)] [] ∧
      { t with regs := s.regs, backup := { t.backup with path := s.backup.path, chgSec := s.backup.chgSec } } = s) ∧
  (∀ (s : State) (f : FrameIn) (len : Nat), s.powered = true → s.service = Svc.REDUCED → onPack s = true →
  s.flag Pg.BACKUP Reg.BACKUP.PATH_STATUS_SHUTDOWN = false → hkState s = Hq.ON ∨ hkState s = Hq.UP →
  vbak s ≤ shutLevel s → (List.range 32).all (fun c => (s.chan c).endPending.isNone) = true → logRoom s 0 →
      ∃ t, Sys2Proof.Machine.exec (.packShutdown f len) s = .next t ∧
      t.flag Pg.BACKUP Reg.BACKUP.PATH_STATUS_SHUTDOWN = true ∧ hkState t = Hq.DOWN ∧ t.hk.start = true ∧
      onlyBits s t [(Pg.BACKUP, Reg.BACKUP.PATH_STATUS_SHUTDOWN), (Pg.HKSEQ, Reg.HKSEQ.STATUS_STATE), (Pg.HKSEQ,
        Reg.HKSEQ.OFF_RESULT_RESULT), (Pg.CHIP, Reg.CHIP.STATUS_HK_UP)] [] ∧
      { t with regs := s.regs, hk := { t.hk with start := s.hk.start, downReq := s.hk.downReq } } = s) ∧
  (∀ (s : State), s.powered = true → s.flag Pg.BACKUP Reg.BACKUP.PATH_STATUS_SHUTDOWN = true → hkState s = Hq.OFF →
  logRoom s 0 →
      ∃ t, Sys2Proof.Machine.exec .packShutdownFinish s = .next t ∧
      t.flag Pg.BACKUP Reg.BACKUP.PATH_STATUS_BAT_SW = false ∧
      t.flag Pg.BACKUP Reg.BACKUP.PATH_STATUS_SHUTDOWN = false ∧ t.backup.latch = true ∧ t.backup.path = false ∧
      onlyBits s t [(Pg.BACKUP, Reg.BACKUP.PATH_STATUS_BAT_SW), (Pg.BACKUP, Reg.BACKUP.PATH_STATUS_SHUTDOWN)] [] ∧
      { t with regs := s.regs, backup := { t.backup with path := s.backup.path, latch := s.backup.latch } } = s) ∧
  (∀ (s : State), s.powered = true → s.flag Pg.BACKUP Reg.BACKUP.PATH_STATUS_BAT_SW = true → s.backup.path = false →
  logRoom s 0 →
      ∃ t, Sys2Proof.Machine.exec .packCutoff s = .next t ∧
      t.flag Pg.BACKUP Reg.BACKUP.PATH_STATUS_BAT_SW = false ∧ t.backup.latch = true ∧
      onlyBits s t [(Pg.BACKUP, Reg.BACKUP.PATH_STATUS_BAT_SW)] [] ∧
      { t with regs := s.regs, backup := { t.backup with latch := s.backup.latch } } = s)

/-- In REDUCED the emergency commit switches every rail off, drives both reset outputs low, leaves the sequencer in OFF
  with EMERG_OFF set and stops the commit in progress; the main domain being down, REDUCED stays. Its end commits the
  checkpoint of its buffer, where 8 pages pass their verify, as the newest copy of its record, and the buffered log
  entries, empties the buffer and clears the mark that it runs; no other record changes. A next state is stated for
  EMERGENCY_COMMIT_START, EMERGENCY_COMMIT_DONE. Rests on R67, R390, R442, R504. -/
def Obligations.TheEmergencyCommit : Prop :=
  (∀ (s : State) (f : FrameIn) (len : Nat), s.powered = true → s.service = Svc.REDUCED →
  s.flag Pg.HKSEQ Reg.HKSEQ.STATUS_EMERG_OFF = false →
  (List.range 32).all (fun c => (s.chan c).endPending.isNone) = true → logRoom s 8 →
      ∃ t, Sys2Proof.Machine.exec (.emergencyCommitStart f len) s = .next t ∧
      (∀ r < 4, railOn t r = false) ∧ hkState t = Hq.OFF ∧ t.flag Pg.HKSEQ Reg.HKSEQ.STATUS_EMERG_OFF = true ∧
      t.hk.start = false ∧ t.hk.rst1 = false ∧ t.hk.rst2 = false ∧ t.backup.emerg = true ∧ t.gran.busy = none ∧
      t.service = Svc.REDUCED ∧
      onlyBits s t [(Pg.CHIP, Reg.CHIP.STATUS_HK_UP), (Pg.CHIP, Reg.CHIP.STATUS_REFCLK_OK), (Pg.FAULT,
        Reg.FAULT.REC_SKIPPED), (Pg.FAULT, Reg.FAULT.STATUS_REC_BUSY)] [Pg.HKRAIL, Pg.HKSEQ, Pg.CLOCK, Pg.GRANARY,
        Pg.CHANGELOG] ∧
      onlyLogged s
        { t with hk := s.hk, backup := { t.backup with emerg := s.backup.emerg, closed := s.backup.closed }, gran := s.gran, fault := { t.fault with recSnap := s.fault.recSnap, recStart := s.fault.recStart } })
        ∧
  (∀ (s : State), s.powered = true → s.backup.emerg = true → logRoom s 0 →
      ∃ t, Sys2Proof.Machine.exec .emergencyCommitDone s = .next t ∧
      t.backup.emerg = false ∧ t.gran.emergCkpt = none ∧ t.gran.emergLog = [] ∧
      (∀ c, s.gran.emergCkpt = some c → (programPages s 8).2.length = 8 → (newestOf (t.gwritten 1)).map (fun x =>
        (x.seq, x.valid, x.payload)) = some (nextSeq s 1, true, .ckpt c)) ∧
      (s.gran.emergCkpt = none → t.gwritten 1 = s.gwritten 1) ∧ (∀ id, id ≠ 1 → t.gwritten id = s.gwritten id) ∧
      (s.gran.emergLog = [] → t.gran.logs = s.gran.logs) ∧ onlyBits s t [(Pg.GRANARY, Reg.GRANARY.RETIRED)] [] ∧
      { t with regs := s.regs, gran := s.gran, backup := { t.backup with emerg := s.backup.emerg } } = s)

/-- CC ends in CV and DONE restarts in CC, each changing CHG_STATUS.STATE and, on VIN, the battery switch only. The end of
  CV is DONE: Q_RAW takes FCC, the empty mark, HELD and RELEARN_REQ are cleared and so is CHG_TIME. An expired timer
  stops charging with its event. A pack removed is absent: PRESENT clear, the switch open, PACK_ABSENT said with 0 for
  an open thermistor and 1 for a collapsed current. A pack that returns is present with CHG_TIME 0. A host AUTH_CMD
  starts three attempts with AUTH_OK clear; a matching answer sets AUTH_OK, one with no answer and attempts left takes
  one away and sets the next 100 ms later, and lost arbitration counts ARB_LOST and takes none. A next state is stated
  for CHARGE_CV_ENTRY, CHARGE_RESTART, CHARGE_DONE, CHARGE_TIMER_EXPIRED, PACK_ABSENT, PACK_PRESENT, AUTH_START,
  PACK_AUTH_ATTEMPT. Rests on R391, R392, R393, R394, R395, R396, R400. -/
def Obligations.ChargingAndThePack : Prop :=
  (∀ (s : State), s.powered = true → chgState s = Chg.CC → cvLevel s ≤ vbak s → logRoom s 0 →
      ∃ t, Sys2Proof.Machine.exec .chargeCvEntry s = .next t ∧
      chgState t = Chg.CV ∧ (s.backup.path = true → t.flag Pg.BACKUP Reg.BACKUP.PATH_STATUS_BAT_SW = true) ∧
      onlyBits s t ([(Pg.BACKUP, Reg.BACKUP.CHG_STATUS_STATE)] ++ (if s.backup.path then [(Pg.BACKUP,
        Reg.BACKUP.PATH_STATUS_BAT_SW)] else [])) [] ∧
      { t with regs := s.regs, backup := { t.backup with done := s.backup.done } } = s) ∧
  (∀ (s : State), s.powered = true → chgState s = Chg.DONE → vbak s < rechargeLevel s → logRoom s 0 →
      ∃ t, Sys2Proof.Machine.exec .chargeRestart s = .next t ∧
      chgState t = Chg.CC ∧ t.backup.done = false ∧
      (s.backup.path = true → t.flag Pg.BACKUP Reg.BACKUP.PATH_STATUS_BAT_SW = true) ∧
      onlyBits s t ([(Pg.BACKUP, Reg.BACKUP.CHG_STATUS_STATE)] ++ (if s.backup.path then [(Pg.BACKUP,
        Reg.BACKUP.PATH_STATUS_BAT_SW)] else [])) [] ∧
      { t with regs := s.regs, backup := { t.backup with done := s.backup.done } } = s) ∧
  (∀ (s : State), s.powered = true → chgState s = Chg.CV → s.flag Pg.GAUGE Reg.GAUGE.STATUS_EMPTY_MARK = false →
  s.geti Pg.GAUGE Reg.GAUGE.PACK_I < 10 * (s.get Pg.BACKUP Reg.BACKUP.CHG_CFG_ITERM : Int) → logRoom s 0 →
      ∃ t, Sys2Proof.Machine.exec .chargeDone s = .next t ∧
      chgState t = Chg.DONE ∧ t.backup.done = true ∧ t.get Pg.BACKUP ⟨0x008, 2, 2, 0⟩ = 1 ∧
      t.get Pg.BACKUP Reg.BACKUP.CHG_TIME_MINUTES = 0 ∧
      t.get Pg.GAUGE Reg.GAUGE.Q_RAW = s.get Pg.GAUGE Reg.GAUGE.FCC ∧ t.flag Pg.GAUGE Reg.GAUGE.STATUS_HELD = false ∧
      t.flag Pg.GAUGE Reg.GAUGE.STATUS_RELEARN_REQ = false ∧
      onlyBits s t [(Pg.BACKUP, Reg.BACKUP.CHG_STATUS_STATE), (Pg.BACKUP, Reg.BACKUP.PATH_STATUS_BAT_SW), (Pg.BACKUP,
        Reg.BACKUP.PATH_STATUS_DPM), (Pg.BACKUP, Reg.BACKUP.CHG_TIME_MINUTES), (Pg.BACKUP, ⟨0x008, 2, 2, 0⟩),
        (Pg.GAUGE, Reg.GAUGE.Q_RAW), (Pg.GAUGE, Reg.GAUGE.STATUS)] [] ∧
      { t with regs := s.regs, backup := { t.backup with chgSec := s.backup.chgSec, done := s.backup.done } } = s) ∧
  (∀ (s : State), s.powered = true → chgState s = Chg.CC ∨ chgState s = Chg.CV →
  s.get Pg.BACKUP Reg.BACKUP.CHG_TIMER_LIMIT ≤ s.get Pg.BACKUP Reg.BACKUP.CHG_TIME_MINUTES → packPresent s = true →
  s.backup.path = true → s.flag Pg.BACKUP Reg.BACKUP.CHG_CFG_EN = true → s.backup.authFail = false → logRoom s 0 →
      ∃ t, Sys2Proof.Machine.exec .chargeTimerExpired s = .next t ∧
      chgState t = Chg.TIMER_EXPIRED ∧ t.backup.expired = true ∧
      t.flag Pg.BACKUP Reg.BACKUP.PATH_STATUS_BAT_SW = false ∧ t.get Pg.BACKUP ⟨0x008, 6, 6, 0⟩ = 1 ∧
      onlyBits s t [(Pg.BACKUP, Reg.BACKUP.CHG_STATUS_STATE), (Pg.BACKUP, Reg.BACKUP.PATH_STATUS_BAT_SW), (Pg.BACKUP,
        Reg.BACKUP.PATH_STATUS_DPM), (Pg.BACKUP, ⟨0x008, 6, 6, 0⟩)] [] ∧
      { t with regs := s.regs, backup := { t.backup with expired := s.backup.expired } } = s) ∧
  (∀ (s : State) (collapse : Bool), s.reducedOrLater = true → packPresent s = true →
  collapse = false ∨ (chgState s = Chg.CV ∧ cvLevel s ≤ vbak s + 20 ∧ vbak s ≤ cvLevel s + 20) → logRoom s 4 →
      ∃ t, Sys2Proof.Machine.exec (.packAbsent collapse) s = .next t ∧
      packPresent t = false ∧ chgState t = Chg.ABSENT ∧ t.flag Pg.BACKUP Reg.BACKUP.PATH_STATUS_BAT_SW = false ∧
      t.backup.tries = 0 ∧ t.gauge.markOk = false ∧ t.get Pg.BACKUP ⟨0x008, 4, 4, 0⟩ = 1 ∧
      said s t Pg.BACKUP Kind.PACK_ABSENT (if collapse then 1 else 0) ∧
      onlyBits s t [(Pg.CHIP, Reg.CHIP.STATUS_FAULT_N_IN)] ([Pg.BACKUP] ++ reactionPages) ∧
      onlyReaction s
        { t with backup := { t.backup with tries := s.backup.tries, done := s.backup.done }, gauge := { t.gauge with markOk := s.gauge.markOk } })
        ∧
  (∀ (s : State), s.reducedOrLater = true → packPresent s = false →
  s.flag Pg.BACKUP Reg.BACKUP.CHG_STATUS_TS_VALID = true → 8000 ≤ vbak s ∧ vbak s ≤ 17600 →
  s.flag Pg.BACKUP Reg.BACKUP.AUTH_CFG_EN = false → s.flag Pg.BACKUP Reg.BACKUP.PACK_T_VALID = false → logRoom s 0 →
      ∃ t, Sys2Proof.Machine.exec .packPresent s = .next t ∧
      packPresent t = true ∧ t.get Pg.BACKUP Reg.BACKUP.CHG_TIME_MINUTES = 0 ∧ t.backup.expired = false ∧
      t.backup.authFail = false ∧ t.hk.zoneFresh = true ∧ t.get Pg.GAUGE Reg.GAUGE.STATUS_CONFIDENCE = 0 ∧
      onlyBits s t [(Pg.BACKUP, Reg.BACKUP.CHG_STATUS), (Pg.BACKUP, Reg.BACKUP.PATH_STATUS_BAT_SW), (Pg.BACKUP,
        Reg.BACKUP.PATH_STATUS_DPM), (Pg.BACKUP, Reg.BACKUP.CHG_TIME_MINUTES), (Pg.BACKUP, ⟨0x008, 4, 4, 0⟩),
        (Pg.GAUGE, Reg.GAUGE.Q_RAW), (Pg.GAUGE, Reg.GAUGE.STATUS_CONFIDENCE)] [] ∧
      { t with regs := s.regs, hk := { t.hk with zoneFresh := s.hk.zoneFresh }, backup := { t.backup with chgSec := s.backup.chgSec, expired := s.backup.expired, authFail := s.backup.authFail, done := s.backup.done }, gauge := s.gauge }
        = s) ∧
  (∀ (s : State), hostReach s Pg.BACKUP 0x0BC → lockState s Pg.BACKUP = 0 →
  s.flag Pg.BACKUP Reg.BACKUP.AUTH_CFG_EN = true → packPresent s = true →
  s.getBit Pg.CHIP Reg.CHIP.STATUS_OTP_FAIL 2 = false → logRoom s 1 →
      ∃ t, Sys2Proof.Machine.exec (.authStart .host) s = .next t ∧
      t.backup.tries = 3 ∧ t.backup.authFail = false ∧ t.flag Pg.BACKUP Reg.BACKUP.CHG_STATUS_AUTH_OK = false ∧
      onlyBits s t [(Pg.BACKUP, Reg.BACKUP.CHG_STATUS), (Pg.BACKUP, Reg.BACKUP.PATH_STATUS_BAT_SW), (Pg.BACKUP,
        Reg.BACKUP.PATH_STATUS_DPM), changeSeq Pg.BACKUP] [Pg.CHANGELOG] ∧
      onlyLogged s
        { t with backup := { t.backup with tries := s.backup.tries, authFail := s.backup.authFail, authUs := s.backup.authUs, done := s.backup.done } })
        ∧
  (∀ (s : State) (l : List Nat), s.reducedOrLater = true → 0 < s.backup.tries → s.fault.crier = [] →
  s.backup.authUs ≤ s.rcUs → s.getBit Pg.CHIP Reg.CHIP.STATUS_OTP_FAIL 2 = false → logRoom s 0 →
      ∃ t, Sys2Proof.Machine.exec (.packAuthAttempt false l (some (aes128 (packKey s) l))) s = .next t ∧
      t.flag Pg.BACKUP Reg.BACKUP.CHG_STATUS_AUTH_OK = true ∧ t.backup.tries = 0 ∧ t.reply.wire = authBytes s l ∧
      t.backup.authFail = false ∧ t.get Pg.BACKUP ⟨0x008, 5, 5, 0⟩ = 1 ∧
      onlyBits s t [(Pg.BACKUP, Reg.BACKUP.CHG_STATUS), (Pg.BACKUP, Reg.BACKUP.PATH_STATUS_BAT_SW), (Pg.BACKUP,
        Reg.BACKUP.PATH_STATUS_DPM), (Pg.BACKUP, ⟨0x008, 5, 5, 0⟩)] [] ∧
      { t with regs := s.regs, backup := { t.backup with tries := s.backup.tries, authFail := s.backup.authFail, done := s.backup.done }, reply := s.reply }
        = s) ∧
  (∀ (s : State) (l : List Nat), s.reducedOrLater = true → 1 < s.backup.tries → s.fault.crier = [] →
  s.backup.authUs ≤ s.rcUs → s.getBit Pg.CHIP Reg.CHIP.STATUS_OTP_FAIL 2 = false → logRoom s 0 →
      ∃ t, Sys2Proof.Machine.exec (.packAuthAttempt false l none) s = .next t ∧
      t.backup.tries = s.backup.tries - 1 ∧ t.backup.authUs = s.rcUs + 100000 ∧ t.reply.wire = authBytes s l ∧
      onlyBits s t [] [] ∧
      { t with regs := s.regs, backup := { t.backup with tries := s.backup.tries, authUs := s.backup.authUs }, reply := s.reply }
        = s) ∧
  (∀ (s : State) (l : List Nat) (r : Option (List Nat)), s.reducedOrLater = true → 0 < s.backup.tries →
  s.fault.crier = [] → s.backup.authUs ≤ s.rcUs → s.getBit Pg.CHIP Reg.CHIP.STATUS_OTP_FAIL 2 = false → logRoom s 0 →
      ∃ t, Sys2Proof.Machine.exec (.packAuthAttempt true l r) s = .next t ∧
      t.get Pg.TWOWIRE Reg.TWOWIRE.ARB_LOST = min (2 ^ 32 - 1) (s.get Pg.TWOWIRE Reg.TWOWIRE.ARB_LOST + 1) ∧
      t.get Pg.TWOWIRE ⟨0x008, 2, 2, 0⟩ = 1 ∧
      onlyBits s t [(Pg.TWOWIRE, Reg.TWOWIRE.ARB_LOST), (Pg.TWOWIRE, ⟨0x008, 2, 2, 0⟩)] [] ∧
      { t with regs := s.regs } = s)

/-- In every powered state a second's charge is added to Q_RAW, modulo 2^32, and PACK_I shows it while ENG.10 runs; DPM
  shows whether the charge is reduced for the input limit; while ENG.10 is stopped the count goes on and no other
  gauge register moves. A forced empty sets Q_RAW to q_unus, SOC to 0, FORCED_EMPTY and the empty mark. A rest of
  REST_MIN minutes raises CONFIDENCE to at least 1. A current step of at least 0.1 C sets the present band valid and,
  where it was not, stores the step resistance. RELEARN by the host returns FCC to the design capacity, CYCLES and
  LEARN_COUNT to 0 and empties the impedance table. A next state is stated for GAUGE_UPDATE, GAUGE_FORCED_EMPTY,
  GAUGE_REST, GAUGE_IMP_STEP, GAUGE_RELEARN. Rests on R397, R398, R399, R400, R401, R402. -/
def Obligations.TheGauge : Prop :=
  (∀ (s : State) (mc : Int) (iin : Nat), s.powered = true → estate s 10 ≠ Es.RUNNING → logRoom s 0 →
      ∃ t, Sys2Proof.Machine.exec (.gaugeUpdate mc iin) s = .next t ∧
      t.get Pg.GAUGE Reg.GAUGE.Q_RAW = ((s.geti Pg.GAUGE Reg.GAUGE.Q_RAW + mc) % 2 ^ 32).toNat ∧
      t.gauge.discharged = s.gauge.discharged + (-mc).toNat ∧
      t.flag Pg.BACKUP Reg.BACKUP.PATH_STATUS_DPM = (s.backup.path && decide (chgState s = Chg.CC ∨ chgState s =
        Chg.CV) && decide (inputLimit s < iin)) ∧
      onlyBits s t [(Pg.GAUGE, Reg.GAUGE.Q_RAW), (Pg.BACKUP, Reg.BACKUP.PATH_STATUS_DPM), (Pg.BACKUP,
        Reg.BACKUP.CHG_TIME_MINUTES)] [] ∧
      { t with regs := s.regs, gauge := { t.gauge with loads := s.gauge.loads, discharged := s.gauge.discharged, restSec := s.gauge.restSec }, backup := { t.backup with chgSec := s.backup.chgSec } }
        = s) ∧
  (∀ (s : State) (mc : Int) (iin : Nat), s.powered = true → estate s 10 = Es.RUNNING →
  s.gauge.discharged + (-mc).toNat < s.get Pg.GAUGE Reg.GAUGE.FCC → logRoom s 0 →
      ∃ t, Sys2Proof.Machine.exec (.gaugeUpdate mc iin) s = .next t ∧
      t.get Pg.GAUGE Reg.GAUGE.Q_RAW = ((s.geti Pg.GAUGE Reg.GAUGE.Q_RAW + mc) % 2 ^ 32).toNat ∧
      t.gauge.loads.getLast? = some mc ∧ t.geti Pg.GAUGE Reg.GAUGE.PACK_I = max (-2 ^ 15) (min (2 ^ 15 - 1) mc) ∧
      onlyBits s t [(Pg.BACKUP, Reg.BACKUP.PATH_STATUS_DPM), (Pg.BACKUP, Reg.BACKUP.CHG_TIME_MINUTES)] [Pg.GAUGE] ∧
      { t with regs := s.regs, free := s.free, gauge := s.gauge, backup := { t.backup with chgSec := s.backup.chgSec } }
        = s) ∧
  (∀ (s : State), gaugeLive s = true → vbak s ≤ shutLevel s →
  (s.get Pg.GAUGE Reg.GAUGE.Q_UNUSABLE : Int) < s.geti Pg.GAUGE Reg.GAUGE.Q_RAW → logRoom s 0 →
      ∃ t, Sys2Proof.Machine.exec .gaugeForcedEmpty s = .next t ∧
      t.get Pg.GAUGE Reg.GAUGE.Q_RAW = s.get Pg.GAUGE Reg.GAUGE.Q_UNUSABLE ∧ t.get Pg.GAUGE Reg.GAUGE.SOC_SOC = 0 ∧
      t.flag Pg.GAUGE Reg.GAUGE.STATUS_FORCED_EMPTY = true ∧ t.flag Pg.GAUGE Reg.GAUGE.STATUS_EMPTY_MARK = true ∧
      t.gauge.markOk = true ∧
      onlyBits s t [(Pg.GAUGE, Reg.GAUGE.Q_RAW), (Pg.GAUGE, Reg.GAUGE.SOC_SOC), (Pg.GAUGE,
        Reg.GAUGE.STATUS_FORCED_EMPTY), (Pg.GAUGE, Reg.GAUGE.STATUS_EMPTY_MARK), (Pg.GAUGE, ⟨0x008, 0, 0, 0⟩),
        (Pg.GAUGE, ⟨0x008, 4, 4, 0⟩)] [] ∧
      { t with regs := s.regs, gauge := { t.gauge with markOk := s.gauge.markOk } } = s) ∧
  (∀ (s : State), gaugeLive s = true → 60 * s.get Pg.GAUGE Reg.GAUGE.GAUGE_CFG_REST_MIN ≤ s.gauge.restSec →
  logRoom s 0 →
      ∃ t, Sys2Proof.Machine.exec .gaugeRest s = .next t ∧
      t.get Pg.GAUGE Reg.GAUGE.STATUS_CONFIDENCE = max 1 (s.get Pg.GAUGE Reg.GAUGE.STATUS_CONFIDENCE) ∧
      onlyBits s t [(Pg.GAUGE, Reg.GAUGE.Q_RAW), (Pg.GAUGE, Reg.GAUGE.STATUS_CONFIDENCE)] [] ∧ t.gauge.restSec = 0 ∧
      { t with regs := s.regs, gauge := { t.gauge with restSec := s.gauge.restSec } } = s) ∧
  (∀ (s : State) (dv di : Nat) (k : Nat), gaugeLive s = true → 0 < di →
  s.get Pg.GAUGE Reg.GAUGE.DESIGN_CAP_CAP ≤ 10 * di → k = min 7 (s.get Pg.GAUGE Reg.GAUGE.SOC_SOC_RAW * 8 / 10000) →
  impValid s k = false → dv * 10000 % di = 0 → dv * 10000 / di < 2 ^ 16 → logRoom s 0 →
      ∃ t, Sys2Proof.Machine.exec (.gaugeImpStep dv di) s = .next t ∧
      impValid t k = true ∧ t.get Pg.GAUGE (Reg.GAUGE.IMP_RES.ix k) = dv * 10000 / di ∧
      (∀ j < 8, j ≠ k → t.get Pg.GAUGE (Reg.GAUGE.IMP.ix j) = s.get Pg.GAUGE (Reg.GAUGE.IMP.ix j)) ∧
      onlyBits s t [(Pg.GAUGE, Reg.GAUGE.IMP.ix k), (Pg.GAUGE, Reg.GAUGE.STATUS_CONFIDENCE)] [] ∧
      { t with regs := s.regs, gran := s.gran } = s) ∧
  (∀ (s : State), hostReach s Pg.GAUGE 0x048 → lockState s Pg.GAUGE = 0 → logRoom s 1 →
      ∃ t, Sys2Proof.Machine.exec (.gaugeRelearn .host) s = .next t ∧
      t.get Pg.GAUGE Reg.GAUGE.FCC = s.get Pg.GAUGE Reg.GAUGE.DESIGN_CAP_CAP * 3600 % 2 ^ 32 ∧
      t.get Pg.GAUGE Reg.GAUGE.CYCLES = 0 ∧ t.get Pg.GAUGE Reg.GAUGE.LEARN_COUNT = 0 ∧
      (∀ k < 8, t.get Pg.GAUGE (Reg.GAUGE.IMP.ix k) = 0) ∧ t.get Pg.GAUGE Reg.GAUGE.STATUS_CONFIDENCE = 0 ∧
      t.gauge.markOk = false ∧ onlyBits s t [] [Pg.GAUGE, Pg.CHANGELOG] ∧
      onlyLogged s
        { t with gauge := { t.gauge with markOk := s.gauge.markOk, discharged := s.gauge.discharged }, gran := s.gran })

/-- With VSYS absent the backup domain's supply returns it to its first-use state and its loss ends it; the registers of
  the RTC page alone change. A second of a running RTC advances TIME_SEC by one with both calendar views, and in FULL
  shows the RC oscillator's measured frequency; where the armed alarm matches, the alarm fires: ARM is 0 again,
  ALARM_FIRED and EVENT bit 0 are set, and WAKE_OUT where EN is set. A host write of one of the three views under
  HALT, with no alarm armed, sets all three; with HALT 0 it sets WRITE_REJECTED and makes an entry, and nothing else
  changes but RANGE_REJECT, which a value out of a field's range may set. HALT stops the time at the SUBSEC it has,
  and its end starts the second anew, or at SUBSEC 0 while the crystal stands. A read of TIME_SEC answers it and
  latches SUBSEC and both calendar words. A stopped crystal sets OSF, counts OSC_STOPS and sets EVENT bit 2. ARM of an
  alarm in the future arms it and fires nothing. A next state is stated for BACKUP_DOMAIN_POWER_ON,
  BACKUP_DOMAIN_POWER_LOSS, RTC_SECOND, RTC_TIME_WRITE, RTC_HALT_WRITE, TIME_SEC_READ, CRYSTAL_STOP, ALARM_ARM_WRITE.
  Rests on R405, R407, R408, R409, R410, R413, R414. -/
def Obligations.TheRtcKeepsTime : Prop :=
  (∀ (s : State), s.powered = false → s.rtc.alive = false → logRoom s 0 →
      ∃ t, Sys2Proof.Machine.exec .backupDomainPowerOn s = .next t ∧
      t.rtc.alive = true ∧ t.flag Pg.RTC Reg.RTC.STATUS_OSF = true ∧ t.flag Pg.RTC Reg.RTC.STATUS_ON_VBK = true ∧
      t.get Pg.RTC Reg.RTC.TIME_SEC = 0 ∧ onlyBits s t [] [Pg.RTC] ∧
      { t with regs := s.regs, snaps := s.snaps, rtc := s.rtc } = s) ∧
  (∀ (s : State), s.powered = false → s.rtc.alive = true → logRoom s 0 →
      ∃ t, Sys2Proof.Machine.exec .backupDomainPowerLoss s = .next t ∧
      t.rtc.alive = false ∧ t.flag Pg.RTC Reg.RTC.WAKE_CFG_STATE = false ∧
      t.flag Pg.RTC Reg.RTC.ALARM_CTRL_ARM = false ∧ onlyBits s t [] [Pg.RTC] ∧
      { t with regs := s.regs, snaps := s.snaps, rtc := s.rtc } = s) ∧
  (∀ (s : State) (khz : Nat), s.rtc.alive = true → rtcHalted s = false → s.rtcSec + 1 < 2 ^ 32 →
  s.flag Pg.RTC Reg.RTC.ALARM_CTRL_ARM = false ∨ s.get Pg.RTC Reg.RTC.ALARM ≠ s.rtcSec + 1 → logRoom s 0 →
      ∃ t, Sys2Proof.Machine.exec (.rtcSecond khz) s = .next t ∧
      t.get Pg.RTC Reg.RTC.TIME_SEC = s.rtcSec + 1 ∧ t.get Pg.RTC Reg.RTC.CAL_TIME = calTimeOf (s.rtcSec + 1) ∧
      t.get Pg.RTC Reg.RTC.CAL_DATE = calDateOf (s.rtcSec + 1) ∧ t.rtc.secUs = s.rcUs ∧ t.rtc.stood = none ∧
      (s.full = true → t.get Pg.CLOCK Reg.CLOCK.RC_MEAS_KHZ = min khz 65535) ∧
      onlyBits s t ([(Pg.RTC, Reg.RTC.TIME_SEC), (Pg.RTC, Reg.RTC.CAL_TIME), (Pg.RTC, Reg.RTC.CAL_DATE)] ++ (if s.full
        then [(Pg.CLOCK, Reg.CLOCK.RC_MEAS_KHZ)] else [])) [] ∧
      { t with regs := s.regs, rtc := { t.rtc with secUs := s.rtc.secUs, stood := s.rtc.stood, trim := s.rtc.trim, cycle := s.rtc.cycle, nextTrim := s.rtc.nextTrim, crystalStopped := s.rtc.crystalStopped } }
        = s) ∧
  (∀ (s : State) (khz : Nat), s.rtc.alive = true → rtcHalted s = false → s.rtcSec + 1 < 2 ^ 32 →
  s.flag Pg.RTC Reg.RTC.ALARM_CTRL_ARM = true → s.get Pg.RTC Reg.RTC.ALARM = s.rtcSec + 1 → s.full = false →
  logRoom s 1 →
      ∃ t, Sys2Proof.Machine.exec (.rtcSecond khz) s = .next t ∧
      t.get Pg.RTC Reg.RTC.TIME_SEC = s.rtcSec + 1 ∧ t.flag Pg.RTC Reg.RTC.ALARM_CTRL_ARM = false ∧
      t.flag Pg.RTC Reg.RTC.STATUS_ALARM_FIRED = true ∧ t.get Pg.RTC ⟨0x008, 0, 0, 0⟩ = 1 ∧
      (s.flag Pg.RTC Reg.RTC.WAKE_CFG_EN = true → t.flag Pg.RTC Reg.RTC.WAKE_CFG_STATE = true) ∧
      onlyBits s t [(Pg.RTC, Reg.RTC.TIME_SEC), (Pg.RTC, Reg.RTC.CAL_TIME), (Pg.RTC, Reg.RTC.CAL_DATE), (Pg.RTC,
        Reg.RTC.ALARM_CTRL_ARM), (Pg.RTC, Reg.RTC.STATUS_ALARM_FIRED), (Pg.RTC, Reg.RTC.WAKE_CFG_STATE), (Pg.RTC,
        ⟨0x008, 0, 0, 0⟩), changeSeq Pg.RTC] [Pg.CHANGELOG] ∧
      onlyLogged s { t with rtc := s.rtc }) ∧
  (∀ (s : State) (reg : TimeReg) (v x : Nat),
  hostReach s Pg.RTC (if reg = .timeSec then 0x048 else if reg = .calTime then 0x050 else 0x054) →
  lockState s Pg.RTC = 0 → rtcHalted s = true → v < 2 ^ 32 →
  rtcWriteSecond s (if reg = .timeSec then 0x048 else if reg = .calTime then 0x050 else 0x054) v = some x →
  s.flag Pg.RTC Reg.RTC.ALARM_CTRL_ARM = false → logRoom s 1 →
      ∃ t, Sys2Proof.Machine.exec (.rtcTimeWrite .host reg v) s = .next t ∧
      t.get Pg.RTC Reg.RTC.TIME_SEC = x ∧ t.get Pg.RTC Reg.RTC.CAL_TIME = calTimeOf x ∧
      t.get Pg.RTC Reg.RTC.CAL_DATE = calDateOf x ∧ t.rtc.written = true ∧
      onlyBits s t [(Pg.RTC, Reg.RTC.TIME_SEC), (Pg.RTC, Reg.RTC.CAL_TIME), (Pg.RTC, Reg.RTC.CAL_DATE), changeSeq
        Pg.RTC] [Pg.CHANGELOG] ∧
      onlyLogged s { t with snaps := s.snaps, rtc := { t.rtc with written := s.rtc.written } }) ∧
  (∀ (s : State) (reg : TimeReg) (v : Nat),
  hostReach s Pg.RTC (if reg = .timeSec then 0x048 else if reg = .calTime then 0x050 else 0x054) →
  lockState s Pg.RTC = 0 → rtcHalted s = false → v < 2 ^ 32 → logRoom s 1 →
      ∃ t, Sys2Proof.Machine.exec (.rtcTimeWrite .host reg v) s = .next t ∧
      t.flag Pg.RTC Reg.RTC.STATUS_WRITE_REJECTED = true ∧ t.log.fill = s.log.fill + 1 ∧
      onlyBits s t [(Pg.RTC, Reg.RTC.STATUS_WRITE_REJECTED), (Pg.RTC, ⟨0x008, 3, 3, 0⟩)] [Pg.CHANGELOG] ∧
      onlyLogged s t) ∧
  (∀ (s : State), hostReach s Pg.RTC 0x040 → lockState s Pg.RTC = 0 → logRoom s 1 →
      ∃ t, Sys2Proof.Machine.exec (.rtcHaltWrite .host true) s = .next t ∧
      rtcHalted t = true ∧ t.rtc.stood = some (subsec s) ∧
      onlyBits s t [(Pg.RTC, Reg.RTC.CTRL_HALT), changeSeq Pg.RTC] [Pg.CHANGELOG] ∧
      onlyLogged s { t with rtc := { t.rtc with stood := s.rtc.stood } }) ∧
  (∀ (s : State), hostReach s Pg.RTC 0x040 → lockState s Pg.RTC = 0 → logRoom s 1 →
      ∃ t, Sys2Proof.Machine.exec (.rtcHaltWrite .host false) s = .next t ∧
      rtcHalted t = false ∧ t.rtc.stood = (if s.rtc.crystalStopped then some 0 else none) ∧ t.rtc.secUs = s.rcUs ∧
      onlyBits s t [(Pg.RTC, Reg.RTC.CTRL_HALT), changeSeq Pg.RTC] [Pg.CHANGELOG] ∧
      onlyLogged s
        { t with rtc := { t.rtc with stood := s.rtc.stood, secUs := s.rtc.secUs, trim := s.rtc.trim, cycle := s.rtc.cycle, nextTrim := s.rtc.nextTrim } })
        ∧
  (∀ (s : State) (o : Origin), reachable s (Pg.RTC * 0x400 + 0x048) = true → originLive s o = true → logRoom s 0 →
      ∃ t, Sys2Proof.Machine.exec (.timeSecRead o) s = .next t ∧
      t.reply.data = [liveWord s (Pg.RTC * 0x400 + 0x048)] ∧
      (∀ j < 3, Table.get 0 t.snaps (snapKey (originCode o) (Pg.RTC * 0x400 + 0x04C + 4 * j)) = liveWord s (Pg.RTC *
        0x400 + 0x04C + 4 * j)) ∧
      onlyBits s t [] [] ∧ { t with regs := s.regs, snaps := s.snaps, reply := s.reply } = s) ∧
  (∀ (s : State), s.rtc.alive = true → logRoom s 0 →
      ∃ t, Sys2Proof.Machine.exec .crystalStop s = .next t ∧
      t.flag Pg.RTC Reg.RTC.STATUS_OSF = true ∧
      t.get Pg.RTC Reg.RTC.OSC_STOPS = min (2 ^ 32 - 1) (s.get Pg.RTC Reg.RTC.OSC_STOPS + 1) ∧
      t.get Pg.RTC ⟨0x008, 2, 2, 0⟩ = 1 ∧ t.rtc.stood = some (subsec s) ∧ t.rtc.crystalStopped = true ∧
      t.rtc.written = false ∧
      onlyBits s t [(Pg.RTC, Reg.RTC.STATUS_OSF), (Pg.RTC, Reg.RTC.OSC_STOPS), (Pg.RTC, ⟨0x008, 2, 2, 0⟩)] [] ∧
      { t with regs := s.regs, rtc := { t.rtc with stood := s.rtc.stood, crystalStopped := s.rtc.crystalStopped, written := s.rtc.written } }
        = s) ∧
  (∀ (s : State), hostReach s Pg.RTC 0x05C → lockState s Pg.RTC = 0 → s.rtcSec < s.get Pg.RTC Reg.RTC.ALARM →
  logRoom s 1 →
      ∃ t, Sys2Proof.Machine.exec (.alarmArmWrite .host true) s = .next t ∧
      t.flag Pg.RTC Reg.RTC.ALARM_CTRL_ARM = true ∧
      onlyBits s t [(Pg.RTC, Reg.RTC.ALARM_CTRL_ARM), changeSeq Pg.RTC] [Pg.CHANGELOG] ∧ onlyLogged s t)

/-- In FULL, with no measurement running, an accepted START runs one over its WINDOW, spoilt from the start where a
  holdover goes on. At its end, if no holdover or exit from FULL has spoilt it and the count is not 0, the count
  stands in MEAS_COUNT, the measured error, truncated to 1 ppb, in MEAS_ERR, STATE is 2 and EVENT bit 1 set; without
  APPLY nothing else changes. One that is spoilt ends with STATE 3 and nothing published. RELEASE of a host write
  takes WAKE_OUT back; FORCE asserts it; in MODE 1 it ends WIDTH × 10 ms after its assertion. A next state is stated
  for TRIM_MEAS_START, TRIM_MEAS_DONE, TRIM_MEAS_ABORT, WAKE_RELEASE, WAKE_FORCE, WAKE_PULSE_END. Rests on R411, R412,
  R415. -/
def Obligations.TrimAndWakeOut : Prop :=
  (∀ (s : State) (w : Nat), hostReach s Pg.RTC 0x068 → lockState s Pg.RTC = 0 → s.full = true →
  measRunning s = false → 1 ≤ w ∧ w ≤ 100 →
  rangesOk (fieldsAt Pg.RTC 0x068) (w * 256 + s.get Pg.RTC Reg.RTC.TRIM_MEAS_STATE * 65536) = true → logRoom s 1 →
      ∃ t, Sys2Proof.Machine.exec (.trimMeasStart .host w false) s = .next t ∧
      measRunning t = true ∧ t.rtc.measWindow = w ∧ t.rtc.measLost = s.flag Pg.CLOCK Reg.CLOCK.STATUS_HOLDOVER ∧
      onlyBits s t [(Pg.RTC, ⟨0x068, 31, 0, 0⟩), changeSeq Pg.RTC] [Pg.CHANGELOG] ∧
      onlyLogged s { t with rtc := { t.rtc with measWindow := s.rtc.measWindow, measLost := s.rtc.measLost } }) ∧
  (∀ (s : State) (n : Nat), s.full = true → measRunning s = true → s.rtc.measLost = false →
  s.flag Pg.RTC Reg.RTC.TRIM_MEAS_APPLY = false → 0 < n → n < 2 ^ 64 → logRoom s 0 →
      ∃ t, Sys2Proof.Machine.exec (.trimMeasDone n) s = .next t ∧
      t.get Pg.RTC Reg.RTC.MEAS_COUNT_LO = n % 2 ^ 32 ∧ t.get Pg.RTC Reg.RTC.MEAS_COUNT_HI = n / 2 ^ 32 ∧
      t.geti Pg.RTC Reg.RTC.MEAS_ERR = max (-2 ^ 31) (min (2 ^ 31 - 1) (truncR ((ratN (s.rtc.measWindow * 200000000) /
        ratN n - 1) * 1000000000))) ∧
      t.get Pg.RTC Reg.RTC.TRIM_MEAS_STATE = 2 ∧ t.get Pg.RTC ⟨0x008, 1, 1, 0⟩ = 1 ∧
      onlyBits s t [(Pg.RTC, Reg.RTC.MEAS_COUNT_LO), (Pg.RTC, Reg.RTC.MEAS_COUNT_HI), (Pg.RTC, Reg.RTC.MEAS_ERR),
        (Pg.RTC, Reg.RTC.MEAS_SUGGEST_CODE), (Pg.RTC, Reg.RTC.TRIM_MEAS_STATE), (Pg.RTC, ⟨0x008, 1, 1, 0⟩)] [] ∧
      { t with regs := s.regs, free := s.free } = s) ∧
  (∀ (s : State), measRunning s = true → s.full = false ∨ s.rtc.measLost = true → logRoom s 0 →
      ∃ t, Sys2Proof.Machine.exec .trimMeasAbort s = .next t ∧
      t.get Pg.RTC Reg.RTC.TRIM_MEAS_STATE = 3 ∧ onlyBits s t [(Pg.RTC, Reg.RTC.TRIM_MEAS_STATE)] [] ∧
      { t with regs := s.regs, rtc := { t.rtc with measLost := s.rtc.measLost } } = s) ∧
  (∀ (s : State), hostReach s Pg.RTC 0x060 → lockState s Pg.RTC = 0 →
  rangesOk (fieldsAt Pg.RTC 0x060) (withField s Pg.RTC Reg.RTC.WAKE_CFG_RELEASE 1) = true → logRoom s 1 →
      ∃ t, Sys2Proof.Machine.exec (.wakeRelease .host) s = .next t ∧
      t.flag Pg.RTC Reg.RTC.WAKE_CFG_STATE = false ∧
      onlyBits s t [(Pg.RTC, Reg.RTC.WAKE_CFG_STATE), changeSeq Pg.RTC] [Pg.CHANGELOG] ∧ onlyLogged s t) ∧
  (∀ (s : State), hostReach s Pg.RTC 0x060 → lockState s Pg.RTC = 0 →
  rangesOk (fieldsAt Pg.RTC 0x060) (withField s Pg.RTC Reg.RTC.WAKE_CFG_FORCE 1) = true → logRoom s 1 →
      ∃ t, Sys2Proof.Machine.exec (.wakeForce .host) s = .next t ∧
      t.flag Pg.RTC Reg.RTC.WAKE_CFG_STATE = true ∧ t.rtc.wakeUs = s.rcUs ∧
      onlyBits s t [(Pg.RTC, Reg.RTC.WAKE_CFG_STATE), (Pg.RTC, Reg.RTC.WAKE_CFG_FORCE), changeSeq Pg.RTC]
        [Pg.CHANGELOG] ∧
      onlyLogged s { t with rtc := { t.rtc with wakeUs := s.rtc.wakeUs } }) ∧
  (∀ (s : State), s.rtc.alive = true → s.flag Pg.RTC Reg.RTC.WAKE_CFG_STATE = true →
  s.flag Pg.RTC Reg.RTC.WAKE_CFG_MODE = true → s.rtc.wakeUs + 10000 * s.get Pg.RTC Reg.RTC.WAKE_CFG_WIDTH ≤ s.rcUs →
  logRoom s 0 →
      ∃ t, Sys2Proof.Machine.exec .wakePulseEnd s = .next t ∧
      t.flag Pg.RTC Reg.RTC.WAKE_CFG_STATE = false ∧ onlyBits s t [(Pg.RTC, Reg.RTC.WAKE_CFG_STATE)] [] ∧
      { t with regs := s.regs } = s)

/-- In FULL a host write of CMP_HI of an enabled compare arms the 56-bit value; one ahead of TICK waits. At the value, no
  compare of a lower index being armed with it on the same GPIO, TICK has reached it, the compare is disarmed with its
  event, and its ACTION acts on its GPIO if that is an output: no action, set, clear, toggle, or a pulse against INIT
  that ends WIDTH cycles later back at INIT. An edge that an enabled capture selects stores TICK in it, marks it FULL
  with its event, and OVERRUN where it was full. Reads of CAP_LO and TICK_LO answer and latch their HI words; that of
  CAP_LO empties the capture. A host write of GPIO_CFG drives each output at its INIT level. A next state is stated
  for COMPARE_ARM, COMPARE_FIRE, COMPARE_PULSE_END, CAPTURE_EDGE, CAP_LO_READ, TICK_LO_READ, GPIO_CFG_WRITE. Rests on
  R417, R418, R419, R420, R421. -/
def Obligations.TimersAndGpio : Prop :=
  (∀ (s : State) (k hi : Nat), k < 8 → hi < 2 ^ 24 → hostReach s Pg.TIMER (0x084 + 16 * k) →
  lockState s Pg.TIMER = 0 → s.flag Pg.TIMER (Reg.TIMER.CMP_CTRL_EN.ix k) = true →
  s.timer.tick < s.get Pg.TIMER (Reg.TIMER.CMP_LO.ix k) + 2 ^ 32 * hi → logRoom s 1 →
      ∃ t, Sys2Proof.Machine.exec (.compareArm .host k hi) s = .next t ∧
      t.flag Pg.TIMER (Reg.TIMER.CMP_CTRL_ARMED.ix k) = true ∧
      t.flag Pg.TIMER (Reg.TIMER.CMP_CTRL_LATE.ix k) = false ∧
      armedValue t k = s.get Pg.TIMER (Reg.TIMER.CMP_LO.ix k) + 2 ^ 32 * hi ∧
      (∀ j, j ≠ k → armedValue t j = armedValue s j) ∧
      onlyBits s t [(Pg.TIMER, Reg.TIMER.CMP_HI.ix k), (Pg.TIMER, Reg.TIMER.CMP_CTRL_ARMED.ix k), (Pg.TIMER,
        Reg.TIMER.CMP_CTRL_LATE.ix k), changeSeq Pg.TIMER] [Pg.CHANGELOG] ∧
      onlyLogged s { t with timer := { t.timer with armed := s.timer.armed } }) ∧
  (∀ (s : State) (k a pin : Nat), s.full = true → k < 8 → s.flag Pg.TIMER (Reg.TIMER.CMP_CTRL_ARMED.ix k) = true →
  a = s.get Pg.TIMER (Reg.TIMER.CMP_CTRL_ACTION.ix k) → pin = s.get Pg.TIMER (Reg.TIMER.CMP_CTRL_PIN.ix k) →
  gpioOut s pin = true → firesWith s k = [k] → logRoom s 0 →
      ∃ t, Sys2Proof.Machine.exec (.compareFire k) s = .next t ∧
      t.flag Pg.TIMER (Reg.TIMER.CMP_CTRL_ARMED.ix k) = false ∧ t.get Pg.TIMER ⟨0x008, k, k, 0⟩ = 1 ∧
      t.timer.tick = (tickTo s (armedValue s k)).timer.tick ∧
      bitOf t.timer.out pin = (if a = 0 then bitOf s.timer.out pin else if a = 4 then !gpioInit s pin else if a = 1
        then true else if a = 2 then false else !bitOf s.timer.out pin) ∧
      (∀ j < 4, j ≠ pin → bitOf t.timer.out j = bitOf s.timer.out j) ∧
      (a = 4 → Table.get none t.timer.pulse pin = some k) ∧
      onlyBits s t [(Pg.TIMER, Reg.TIMER.CMP_CTRL_ARMED.ix k), (Pg.TIMER, ⟨0x008, k, k, 0⟩)] [] ∧
      { t with regs := s.regs, timer := { t.timer with tick := s.timer.tick, out := s.timer.out, pulse := s.timer.pulse, pulseEnd := s.timer.pulseEnd } }
        = s) ∧
  (∀ (s : State) (k pin : Nat), s.full = true → pin < 4 → Table.get none s.timer.pulse pin = some k →
  (List.range 4).all (fun j => decide (j = pin) || decide (Table.get none s.timer.pulse j ≠ some k)) = true →
  logRoom s 0 →
      ∃ t, Sys2Proof.Machine.exec (.comparePulseEnd k) s = .next t ∧
      bitOf t.timer.out pin = gpioInit s pin ∧ Table.get none t.timer.pulse pin = none ∧
      t.timer.tick = (tickTo s (Table.get 0 s.timer.pulseEnd pin)).timer.tick ∧
      (∀ j < 4, j ≠ pin → bitOf t.timer.out j = bitOf s.timer.out j) ∧ onlyBits s t [] [] ∧
      { t with regs := s.regs, timer := { t.timer with tick := s.timer.tick, out := s.timer.out, pulse := s.timer.pulse } }
        = s) ∧
  (∀ (s : State) (k : Nat) (rising : Bool), s.full = true → k < 4 → edgeSelected s k rising = true →
  s.timer.tick < 2 ^ 56 → logRoom s 0 →
      ∃ t, Sys2Proof.Machine.exec (.captureEdge k rising) s = .next t ∧
      t.get Pg.TIMER (Reg.TIMER.CAP_LO.ix k) = s.timer.tick % 2 ^ 32 ∧
      t.get Pg.TIMER (Reg.TIMER.CAP_HI_TICK.ix k) = s.timer.tick / 2 ^ 32 ∧
      t.flag Pg.TIMER (Reg.TIMER.CAP_CTRL_FULL.ix k) = true ∧ t.get Pg.TIMER ⟨0x008, 8 + k, 8 + k, 0⟩ = 1 ∧
      (s.flag Pg.TIMER (Reg.TIMER.CAP_CTRL_FULL.ix k) = true → t.flag Pg.TIMER (Reg.TIMER.CAP_CTRL_OVERRUN.ix k) =
        true) ∧
      onlyBits s t [(Pg.TIMER, Reg.TIMER.CAP_LO.ix k), (Pg.TIMER, Reg.TIMER.CAP_HI_TICK.ix k), (Pg.TIMER,
        Reg.TIMER.CAP_CTRL_FULL.ix k), (Pg.TIMER, Reg.TIMER.CAP_CTRL_OVERRUN.ix k), (Pg.TIMER, ⟨0x008, 8 + k, 8 + k,
        0⟩), (Pg.TIMER, ⟨0x008, 12 + k, 12 + k, 0⟩)] [] ∧
      { t with regs := s.regs, timer := { t.timer with ext := s.timer.ext } } = s) ∧
  (∀ (s : State) (o : Origin) (k : Nat), k < 4 → reachable s (Pg.TIMER * 0x400 + 0x100 + 16 * k) = true →
  originLive s o = true → logRoom s 0 →
      ∃ t, Sys2Proof.Machine.exec (.capLoRead o k) s = .next t ∧
      t.reply.data = [liveWord s (Pg.TIMER * 0x400 + 0x100 + 16 * k)] ∧
      t.flag Pg.TIMER (Reg.TIMER.CAP_CTRL_FULL.ix k) = false ∧
      Table.get 0 t.snaps (snapKey (originCode o) (Pg.TIMER * 0x400 + 0x104 + 16 * k)) = liveWord s (Pg.TIMER * 0x400
        + 0x104 + 16 * k) ∧
      onlyBits s t [(Pg.TIMER, Reg.TIMER.CAP_CTRL_FULL.ix k)] [] ∧
      { t with regs := s.regs, snaps := s.snaps, reply := s.reply } = s) ∧
  (∀ (s : State) (o : Origin), reachable s (Pg.TIMER * 0x400 + 0x040) = true → originLive s o = true → logRoom s 0 →
      ∃ t, Sys2Proof.Machine.exec (.tickLoRead o) s = .next t ∧
      t.reply.data = [s.timer.tick % 2 ^ 32] ∧
      Table.get 0 t.snaps (snapKey (originCode o) (Pg.TIMER * 0x400 + 0x044)) = s.timer.tick / 2 ^ 32 % 2 ^ 24 ∧
      onlyBits s t [] [] ∧ { t with regs := s.regs, snaps := s.snaps, reply := s.reply } = s) ∧
  (∀ (s : State) (v : Nat), hostReach s Pg.TIMER 0x048 → lockState s Pg.TIMER = 0 → v < 2 ^ 16 →
  rangesOk (fieldsAt Pg.TIMER 0x048) (storedWord (fieldsAt Pg.TIMER 0x048) (s.rd (Pg.TIMER * 0x400 + 0x048)).toNat v)
    = true →
  logRoom s 1 →
      ∃ t, Sys2Proof.Machine.exec (.gpioCfgWrite .host v) s = .next t ∧
      (∀ k < 4, gpioOut t k = bitOf v (4 * k) ∧ (bitOf v (4 * k) = true → bitOf t.timer.out k = bitOf v (4 * k + 2)) ∧
        (bitOf v (4 * k) = false → bitOf t.timer.out k = bitOf s.timer.out k)) ∧
      onlyBits s t [(Pg.TIMER, Reg.TIMER.GPIO_CFG), changeSeq Pg.TIMER] [Pg.CHANGELOG] ∧
      onlyLogged s { t with timer := { t.timer with out := s.timer.out, pulse := s.timer.pulse } })

/-- A host PROG_CMD that nothing refuses (R429 to R431) begins its operation: WORD of PROG_ADDR with PROG_DATA, CRC of a
  region's next empty CRC word with the region's CRC-32, MARGIN of a region: BUSY is set, with CHANGE_SEQ and the
  entry, and nothing else changes; the array is as before. When a programming operation completes in FULL with every
  bit programmed, the word holds its old bits and the data's, BUSY is 0, RESULT 0, EVENT bit 0 set and PROG_COUNT one
  more; with failed bits RESULT is 2, EVENT bit 1 set and, for a WORD, PULSES 8. A margin read keeps the weak bits it
  found and shows in WEAK how many programmed logical bits of the region pass on one physical bit only, with RESULT 0.
  A next state is stated for OTP_PROG_WORD, OTP_PROG_CRC, OTP_MARGIN, OTP_PROG_DONE. Rests on R423, R429, R430, R431,
  R432. -/
def Obligations.TheOtpIsProgrammed : Prop :=
  (∀ (s : State), hostReach s Pg.OTP 0x04C → otpRefusal s 0x0F7A0001 = none → logRoom s 1 →
      ∃ t, Sys2Proof.Machine.exec (.otpProgWord .host) s = .next t ∧
      t.log.fill = s.log.fill + 1 ∧
      t.otpOp = some ⟨1, s.get Pg.OTP Reg.OTP.PROG_ADDR_ADDR, s.get Pg.OTP Reg.OTP.PROG_DATA⟩ ∧
      t.flag Pg.OTP Reg.OTP.PROG_STATUS_BUSY = true ∧
      onlyBits s t [(Pg.OTP, Reg.OTP.PROG_STATUS_BUSY), changeSeq Pg.OTP] [Pg.CHANGELOG] ∧
      onlyLogged s { t with otpOp := s.otpOp }) ∧
  (∀ (s : State) (r c : Nat), r < 5 → hostReach s Pg.OTP 0x04C → otpRefusal s (0x0F7A0002 + 16 * r) = none →
  c = (otpRegion r).2 → logRoom s 1 →
      ∃ t, Sys2Proof.Machine.exec (.otpProgCrc .host r) s = .next t ∧
      t.log.fill = s.log.fill + 1 ∧
      t.otpOp = some ⟨2, if otpWord s c = 0 then c else c + 1, crc32Words (otpContent s r)⟩ ∧
      t.flag Pg.OTP Reg.OTP.PROG_STATUS_BUSY = true ∧
      onlyBits s t [(Pg.OTP, Reg.OTP.PROG_STATUS_BUSY), changeSeq Pg.OTP] [Pg.CHANGELOG] ∧
      onlyLogged s { t with otpOp := s.otpOp }) ∧
  (∀ (s : State) (r : Nat), r < 5 → hostReach s Pg.OTP 0x04C → otpRefusal s (0x0F7A0003 + 16 * r) = none →
  logRoom s 1 →
      ∃ t, Sys2Proof.Machine.exec (.otpMargin .host r) s = .next t ∧
      t.log.fill = s.log.fill + 1 ∧ t.otpOp = some ⟨3, r, 0⟩ ∧ t.flag Pg.OTP Reg.OTP.PROG_STATUS_BUSY = true ∧
      onlyBits s t [(Pg.OTP, Reg.OTP.PROG_STATUS_BUSY), changeSeq Pg.OTP] [Pg.CHANGELOG] ∧
      onlyLogged s { t with otpOp := s.otpOp }) ∧
  (∀ (s : State) (o : OtpOp) (pulses : Nat) (failA failB : List OtpVerify), s.full = true → s.otpOp = some o →
  o.op = 1 ∨ o.op = 2 → o.data < 2 ^ 32 → o.data &&& ((verifyOf failA o.addr).1 ||| (verifyOf failA o.addr).2) = 0 →
  o.data &&& ((verifyOf failB o.addr).1 ||| (verifyOf failB o.addr).2) = 0 → logRoom s 0 →
      ∃ t, Sys2Proof.Machine.exec (.otpProgDone pulses failA failB) s = .next t ∧
      otpWord t o.addr = (otpWord s o.addr ||| o.data) ∧ (∀ a, a ≠ o.addr → otpWord t a = otpWord s a) ∧
      t.otpOp = none ∧ t.flag Pg.OTP Reg.OTP.PROG_STATUS_BUSY = false ∧ t.get Pg.OTP Reg.OTP.PROG_STATUS_RESULT = 0 ∧
      t.get Pg.OTP ⟨0x008, 0, 0, 0⟩ = 1 ∧
      t.get Pg.OTP Reg.OTP.PROG_COUNT = min (2 ^ 32 - 1) (s.get Pg.OTP Reg.OTP.PROG_COUNT + 1) ∧
      onlyBits s t [(Pg.OTP, Reg.OTP.PROG_STATUS), (Pg.OTP, Reg.OTP.PROG_COUNT), (Pg.OTP, ⟨0x008, 0, 0, 0⟩)] [] ∧
      { t with regs := s.regs, otpA := s.otpA, otpB := s.otpB, otpWeakA := s.otpWeakA, otpWeakB := s.otpWeakB, otpOp := s.otpOp }
        = s) ∧
  (∀ (s : State) (o : OtpOp) (pulses : Nat) (failA failB : List OtpVerify), s.full = true → s.otpOp = some o →
  o.op = 1 ∨ o.op = 2 →
  o.data &&& ((verifyOf failA o.addr).1 ||| (verifyOf failA o.addr).2 ||| (verifyOf failB o.addr).1 ||| (verifyOf
    failB o.addr).2) ≠ 0 →
  logRoom s 0 →
      ∃ t, Sys2Proof.Machine.exec (.otpProgDone pulses failA failB) s = .next t ∧
      t.otpOp = none ∧ t.flag Pg.OTP Reg.OTP.PROG_STATUS_BUSY = false ∧ t.get Pg.OTP Reg.OTP.PROG_STATUS_RESULT = 2 ∧
      (o.op = 1 → t.get Pg.OTP Reg.OTP.PROG_STATUS_PULSES = 8) ∧ t.get Pg.OTP ⟨0x008, 1, 1, 0⟩ = 1 ∧
      (∀ a, a ≠ o.addr → otpWord t a = otpWord s a) ∧
      onlyBits s t [(Pg.OTP, Reg.OTP.PROG_STATUS), (Pg.OTP, Reg.OTP.PROG_COUNT), (Pg.OTP, ⟨0x008, 1, 1, 0⟩)] [] ∧
      { t with regs := s.regs, otpA := s.otpA, otpB := s.otpB, otpWeakA := s.otpWeakA, otpWeakB := s.otpWeakB, otpOp := s.otpOp }
        = s) ∧
  (∀ (s : State) (r pulses : Nat) (failA failB : List OtpVerify), s.full = true → s.otpOp = some ⟨3, r, 0⟩ →
  logRoom s 0 →
      ∃ t, Sys2Proof.Machine.exec (.otpProgDone pulses failA failB) s = .next t ∧
      t.otpOp = none ∧ t.flag Pg.OTP Reg.OTP.PROG_STATUS_BUSY = false ∧ t.get Pg.OTP Reg.OTP.PROG_STATUS_RESULT = 0 ∧
      t.otpWeakA = marginHalf s.otpWeakA r failA ∧ t.otpWeakB = marginHalf s.otpWeakB r failB ∧
      t.get Pg.OTP Reg.OTP.PROG_STATUS_WEAK = min 65535 (otpWeak t r) ∧ t.otpA = s.otpA ∧ t.otpB = s.otpB ∧
      onlyBits s t [(Pg.OTP, Reg.OTP.PROG_STATUS), (Pg.OTP, ⟨0x008, 0, 0, 0⟩)] [] ∧
      { t with regs := s.regs, otpWeakA := s.otpWeakA, otpWeakB := s.otpWeakB, otpOp := s.otpOp } = s)

/-- The end of a commit of the gauge's record, with no failed page or with erased pages to replace those that fail, frees
  the pages' engine, counts COMMITS with EVENT bit 0, counts the pages retired, and the record's newest good copy then
  is the one committed, of a sequence one higher. With nothing else waiting a completed erase leaves its page erased
  with one more erase cycle and takes it from the queue. A commit of the gauge's record that has waited 1 s for erased
  pages is refused with LOW_POOL and EVENT bit 2 and waits no more. A slot, or a page of the log ring, due for wear
  management is rewritten unchanged on the least-worn pages that pass their verify. With 20 persistent entries, or 1 s
  after the first, the log tail's page is sent to be committed. A customer's commit of 1 to 500 bytes, with none under
  way, sets RESULT 3 and is requested. Nothing else changes but the pages' bookkeeping. A next state is stated for
  GRANARY_COMMIT_DONE, GRANARY_ERASE_DONE, GRANARY_COMMIT_REFUSED, GRANARY_WEAR_REWRITE, LOG_TAIL_COMMIT, CUST_COMMIT.
  Rests on R434, R436, R437, R438, R439, R440, R445, R446. -/
def Obligations.TheGranaryCommits : Prop :=
  (∀ (s : State) (l pages bad : List Nat), s.powered = true → s.gran.busy = some (⟨6, .words l⟩, pages) →
  s.gran.pend = [] →
  pages.filter (fun k => pageFails s k || bad.contains k) = [] ∨ (pages.filter (fun k => pageFails s k || bad.contains
    k)).length + 9 ≤ erasedPages s →
  logRoom s 0 →
      ∃ t, Sys2Proof.Machine.exec (.granaryCommitDone bad) s = .next t ∧
      t.gran.busy = none ∧
      (newestOf (t.gwritten 6)).map (fun x => (x.seq, x.valid, x.payload)) = some (nextSeq s 6, true, .words l) ∧
      t.get Pg.GRANARY Reg.GRANARY.COMMITS = min (2 ^ 32 - 1) (s.get Pg.GRANARY Reg.GRANARY.COMMITS + 1) ∧
      t.get Pg.GRANARY ⟨0x008, 0, 0, 0⟩ = 1 ∧ (∀ id, id ≠ 6 → t.gwritten id = s.gwritten id) ∧
      onlyBits s t [(Pg.GRANARY, Reg.GRANARY.COMMITS), (Pg.GRANARY, Reg.GRANARY.RETIRED), (Pg.GRANARY, ⟨0x008, 0, 0,
        0⟩)] [] ∧
      { t with regs := s.regs, gran := s.gran } = s) ∧
  (∀ (s : State) (n : Nat), s.powered = true → s.gran.busy = none → s.gran.pend = [] → s.gran.held = [] →
  s.ledger.openNeeded = false → nextErase s = some n → logRoom s 0 →
      ∃ t, Sys2Proof.Machine.exec .granaryEraseDone s = .next t ∧
      gpage t n = ⟨0, (gpage s n).count + 1⟩ ∧ t.gran.erase = s.gran.erase.erase n ∧
      (∀ k, k ≠ n → gpage t k = gpage s k) ∧ onlyBits s t [] [] ∧
      { t with regs := s.regs, gran := { t.gran with pages := s.gran.pages, erase := s.gran.erase, slots := s.gran.slots } }
        = s) ∧
  (∀ (s : State) (l : List Nat), s.powered = true → s.gran.pend = [⟨6, .words l⟩] → heldLong s = true → logRoom s 0 →
      ∃ t, Sys2Proof.Machine.exec .granaryCommitRefused s = .next t ∧
      t.gran.pend = [] ∧ t.gran.busy = none ∧ t.flag Pg.GRANARY Reg.GRANARY.STATUS_LOW_POOL = true ∧
      t.get Pg.GRANARY ⟨0x008, 2, 2, 0⟩ = 1 ∧
      onlyBits s t [(Pg.GRANARY, Reg.GRANARY.STATUS_LOW_POOL), (Pg.GRANARY, ⟨0x008, 2, 2, 0⟩)] [] ∧
      { t with regs := s.regs, gran := { t.gran with pend := s.gran.pend, waitUs := s.gran.waitUs } } = s) ∧
  (∀ (s : State) (id k : Nat) (x : GSlot), s.powered = true → id < 256 → s.gran.busy = none →
  wornSlot s id = some (k, x) → logRoom s 0 →
      ∃ t, Sys2Proof.Machine.exec (.granaryWearRewrite id) s = .next t ∧
      t.gslot id k = some { x with pages := (programPages s x.pages.length).2, sec := s.rtcSec } ∧
      (∀ j, j ≠ id → t.gwritten j = s.gwritten j) ∧ onlyBits s t [(Pg.GRANARY, Reg.GRANARY.RETIRED)] [] ∧
      { t with regs := s.regs, gran := { t.gran with slots := s.gran.slots, pages := s.gran.pages, erase := s.gran.erase } }
        = s) ∧
  (∀ (s : State) (x : LogPage), s.powered = true → s.gran.busy = none → wornSlot s 0x80 = none →
  wornLog s 0x80 = some x → logRoom s 0 →
      ∃ t, Sys2Proof.Machine.exec (.granaryWearRewrite 0x80) s = .next t ∧
      t.gran.logs = s.gran.logs.map (fun y => if y = x then
        { x with page := nth 0 (programPages s 1).2 0, sec := s.rtcSec } else y) ∧
      (∀ j, t.gwritten j = s.gwritten j) ∧ onlyBits s t [(Pg.GRANARY, Reg.GRANARY.RETIRED)] [] ∧
      { t with regs := s.regs, gran := { t.gran with logs := s.gran.logs, pages := s.gran.pages, erase := s.gran.erase } }
        = s) ∧
  (∀ (s : State), s.powered = true → s.log.waiting = none →
  20 ≤ s.log.persist.length ∨ (1 ≤ s.log.persist.length ∧ s.log.firstUs + 1000000 ≤ s.rcUs) → logRoom s 0 →
      ∃ t, Sys2Proof.Machine.exec .logTailCommit s = .next t ∧
      t.log.waiting = some (s.log.persist.take 20) ∧ t.log.persist = s.log.persist.drop 20 ∧
      commitOpen t 0x80 = true ∧ onlyBits s t [] [] ∧
      { t with regs := s.regs, gran := s.gran, log := { t.log with waiting := s.log.waiting, persist := s.log.persist, firstUs := s.log.firstUs } }
        = s) ∧
  (∀ (s : State) (r n : Nat), r < 32 → 1 ≤ n ∧ n ≤ 500 → hostReach s Pg.GRANARY 0x068 → lockState s Pg.GRANARY = 0 →
  s.get Pg.GRANARY Reg.GRANARY.CUST_STATUS_RESULT ≠ 3 → logRoom s 1 →
      ∃ t, Sys2Proof.Machine.exec (.custCommit .host r n) s = .next t ∧
      t.get Pg.GRANARY Reg.GRANARY.CUST_STATUS_RESULT = 3 ∧ commitOpen t (0x20 + r) = true ∧
      onlyBits s t [(Pg.GRANARY, Reg.GRANARY.CUST_STATUS_RESULT), changeSeq Pg.GRANARY] [Pg.CHANGELOG] ∧
      onlyLogged s { t with gran := s.gran })

/-- A READ or READ_FIXED of this device with a good CRC, in a lane mode it takes, of registers that a read leaves alone
  answers their words with RESP and its CRC, in the lane mode of the request, counts in FRAMES, and changes nothing
  else. One with a bad CRC counts in CRC_ERR and is not answered. A WRITE of two words makes the two writes at ADDR
  and ADDR + 4, a WRITE_FIXED both at ADDR, and is answered, in the lane mode of the frame, with what became of them;
  a frame that comes less than 2 µs before a boundary in FULL is held and answered when it is applied, with DEFERRED.
  A broadcast write is applied where BCAST_EN = 1, with no response, RESP going to LAST_BCAST. An invalid frame counts
  in BAD_FRAME, an aborted one in ABORTED, each with its event and with nothing else changed. Whether a frame whose
  HCLK breaks the limits is received is the model's choice (log entry 93). A next state is stated for HOST_READ,
  HOST_READ_FIXED, HOST_WRITE, HOST_WRITE_FIXED, HOST_WRITE_DEFERRED_APPLY, HOST_BCAST_WRITE, HOST_FRAME_INVALID,
  HOST_FRAME_ABORTED. Rests on R449, R451, R452, R453, R455, R456, R457. -/
def Obligations.HostFrames : Prop :=
  (∀ (s : State) (q : HostReq), s.reducedOrLater = true → s.strap < 8 → (q.four = true → s.full = true) →
  (List.range (q.len % 256 + 1)).all (fun i => plainRead s (wordAddr q.addr i false)) = true → logRoom s 0 →
      ∃ t, Sys2Proof.Machine.exec (.hostRead (ownFrame s q 0x21 [])) s = .next t ∧
      t.reply = ⟨some (s.service * 256), (List.range (q.len % 256 + 1)).map (fun i => liveWord s (wordAddr q.addr i
        false)), crc16 ([s.service, 0] ++ ((List.range (q.len % 256 + 1)).map (fun i => liveWord s (wordAddr q.addr i
        false))).flatMap (bytesBE 4)), q.four, []⟩ ∧
      t.get Pg.HOST Reg.HOST.LAST_RESP_RESP = s.service * 256 ∧
      t.get Pg.HOST Reg.HOST.FRAMES = min (2 ^ 32 - 1) (s.get Pg.HOST Reg.HOST.FRAMES + 1) ∧
      t.flag Pg.HOST Reg.HOST.STATUS_LAST_FOUR = q.four ∧
      onlyBits s t [(Pg.HOST, Reg.HOST.LAST_RESP_RESP), (Pg.HOST, Reg.HOST.FRAMES), (Pg.HOST,
        Reg.HOST.STATUS_LAST_FOUR)] [] ∧
      { t with regs := s.regs, reply := s.reply, stream := { t.stream with fetched := s.stream.fetched } } = s) ∧
  (∀ (s : State) (q : HostReq), s.reducedOrLater = true → s.strap < 8 → (q.four = true → s.full = true) →
  plainRead s (wordAddr q.addr 0 true) = true → logRoom s 0 →
      ∃ t, Sys2Proof.Machine.exec (.hostReadFixed (ownFrame s q 0x22 [])) s = .next t ∧
      t.reply.data = List.replicate (q.len % 256 + 1) (liveWord s (wordAddr q.addr 0 true)) ∧
      t.reply.resp = some (s.service * 256) ∧ t.reply.four = q.four ∧
      t.get Pg.HOST Reg.HOST.LAST_RESP_RESP = s.service * 256 ∧
      t.get Pg.HOST Reg.HOST.FRAMES = min (2 ^ 32 - 1) (s.get Pg.HOST Reg.HOST.FRAMES + 1) ∧
      t.flag Pg.HOST Reg.HOST.STATUS_LAST_FOUR = q.four ∧
      onlyBits s t [(Pg.HOST, Reg.HOST.LAST_RESP_RESP), (Pg.HOST, Reg.HOST.FRAMES), (Pg.HOST,
        Reg.HOST.STATUS_LAST_FOUR)] [] ∧
      { t with regs := s.regs, reply := s.reply, stream := { t.stream with fetched := s.stream.fetched } } = s) ∧
  (∀ (s : State) (q : HostReq), s.reducedOrLater = true → s.strap < 8 → (q.four = true → s.full = true) →
  q.id = 32 * s.strap → q.crc ≠ requestCrc q 0x21 [] → logRoom s 0 →
      ∃ t, Sys2Proof.Machine.exec (.hostRead q) s = .next t ∧
      t.get Pg.HOST Reg.HOST.CRC_ERR = min (2 ^ 32 - 1) (s.get Pg.HOST Reg.HOST.CRC_ERR + 1) ∧
      t.get Pg.HOST ⟨0x008, 0, 0, 0⟩ = 1 ∧
      onlyBits s t [(Pg.HOST, Reg.HOST.CRC_ERR), (Pg.HOST, ⟨0x008, 0, 0, 0⟩)] [] ∧ { t with regs := s.regs } = s) ∧
  (∀ (s : State) (q : HostReq) (v w : Nat), s.reducedOrLater = true → s.strap < 8 → (q.four = true → s.full = true) →
  q.len = 1 →
  (twoWrites (noteLanes s q) (wordAddr q.addr 0 false) v (wordAddr q.addr 1 false) w).2.2.fault.logPending = [] →
      ∃ t, Sys2Proof.Machine.exec (.hostWrite (ownFrame s q 0x31 [v, w]) [v, w] false) s = .next t ∧
      answersTwo s t q (twoWrites (noteLanes s q) (wordAddr q.addr 0 false) v (wordAddr q.addr 1 false) w)) ∧
  (∀ (s : State) (q : HostReq) (v w : Nat), s.reducedOrLater = true → s.strap < 8 → (q.four = true → s.full = true) →
  q.len = 1 →
  (twoWrites (noteLanes s q) (wordAddr q.addr 0 true) v (wordAddr q.addr 0 true) w).2.2.fault.logPending = [] →
      ∃ t, Sys2Proof.Machine.exec (.hostWriteFixed (ownFrame s q 0x32 [v, w]) [v, w] false) s = .next t ∧
      answersTwo s t q (twoWrites (noteLanes s q) (wordAddr q.addr 0 true) v (wordAddr q.addr 0 true) w)) ∧
  (∀ (s : State) (q : HostReq) (v : Nat), s.full = true → s.strap < 8 → q.len = 0 → logRoom s 0 →
      ∃ t, Sys2Proof.Machine.exec (.hostWrite (ownFrame s q 0x31 [v]) [v] true) s = .next t ∧
      t.hostHeld = s.hostHeld ++ [⟨s.frame, q.addr, false, [v], false, q.four⟩] ∧
      t.flag Pg.HOST Reg.HOST.STATUS_LAST_FOUR = q.four ∧ onlyBits s t [(Pg.HOST, Reg.HOST.STATUS_LAST_FOUR)] [] ∧
      { t with regs := s.regs, hostHeld := s.hostHeld } = s) ∧
  (∀ (s : State) (h : HeldFrame) (l : List HeldFrame) (v : Nat), s.hostHeld = h :: l →
  h.frame ≠ s.frame ∨ s.full = false → h.data = [v] → h.bcast = false →
  (writeReg { s with hostHeld := l } Org.HOST (wordAddr h.addr 0 h.fixed) v).1.fault.logPending = [] →
      ∃ t, Sys2Proof.Machine.exec .hostWriteDeferredApply s = .next t ∧
      answersWrite s ((writeReg { s with hostHeld := l } Org.HOST (wordAddr h.addr 0 h.fixed) v).1) t h.four (decide
        ((writeReg { s with hostHeld := l } Org.HOST (wordAddr h.addr 0 h.fixed) v).2 = .unavail)) (writeReg
        { s with hostHeld := l } Org.HOST (wordAddr h.addr 0 h.fixed) v).2.refused true 0 ∧
      t.get Pg.HOST Reg.HOST.DEFERRED = min (2 ^ 32 - 1) ((writeReg { s with hostHeld := l } Org.HOST (wordAddr h.addr
        0 h.fixed) v).1.get Pg.HOST Reg.HOST.DEFERRED + 1)) ∧
  (∀ (s : State) (q : HostReq) (v : Nat), s.reducedOrLater = true → (q.four = true → s.full = true) → q.id % 32 = 0 →
  q.len = 0 → q.crc = requestCrc q 0x3B [v] → s.flag Pg.HOST Reg.HOST.CFG_BCAST_EN = true →
  (writeReg s Org.HOST (wordAddr q.addr 0 false) v).1.fault.logPending = [] →
  (writeReg s Org.HOST (wordAddr q.addr 0 false) v).2 = .ok →
      ∃ t, Sys2Proof.Machine.exec (.hostBcastWrite q [v] false) s = .next t ∧
      t.get Pg.HOST Reg.HOST.LAST_BCAST_RESP = (writeReg s Org.HOST (wordAddr q.addr 0 false) v).1.service * 256 ∧
      t.get Pg.HOST Reg.HOST.BCASTS = min (2 ^ 32 - 1) ((writeReg s Org.HOST (wordAddr q.addr 0 false) v).1.get
        Pg.HOST Reg.HOST.BCASTS + 1) ∧
      onlyBits (writeReg s Org.HOST (wordAddr q.addr 0 false) v).1 t [(Pg.HOST, Reg.HOST.LAST_BCAST), (Pg.HOST,
        Reg.HOST.BCASTS)] [] ∧
      { t with regs := s.regs } =
        { (writeReg s Org.HOST (wordAddr q.addr 0 false) v).1 with regs := s.regs, pending := s.pending, powered := s.powered, otpA := s.otpA, otpB := s.otpB })
        ∧
  (∀ (s : State) (mark hdr : Nat) (four : Bool), s.reducedOrLater = true →
  mark ≠ (if four then 0xF else 0x1) ∨ bitsOf hdr 36 32 ≠ 0 ∨ ¬ bitsOf hdr 47 40 ∈ [0x21, 0x22, 0x31, 0x32, 0x3B] ∨
    (four = true ∧ s.full = false) →
  logRoom s 0 →
      ∃ t, Sys2Proof.Machine.exec (.hostFrameInvalid mark hdr four) s = .next t ∧
      t.get Pg.HOST Reg.HOST.BAD_FRAME = min (2 ^ 32 - 1) (s.get Pg.HOST Reg.HOST.BAD_FRAME + 1) ∧
      t.get Pg.HOST ⟨0x008, 1, 1, 0⟩ = 1 ∧
      onlyBits s t [(Pg.HOST, Reg.HOST.BAD_FRAME), (Pg.HOST, ⟨0x008, 1, 1, 0⟩)] [] ∧ { t with regs := s.regs } = s) ∧
  (∀ (s : State), s.reducedOrLater = true → logRoom s 0 →
      ∃ t, Sys2Proof.Machine.exec .hostFrameAborted s = .next t ∧
      t.get Pg.HOST Reg.HOST.ABORTED = min (2 ^ 32 - 1) (s.get Pg.HOST Reg.HOST.ABORTED + 1) ∧
      t.get Pg.HOST ⟨0x008, 2, 2, 0⟩ = 1 ∧
      onlyBits s t [(Pg.HOST, Reg.HOST.ABORTED), (Pg.HOST, ⟨0x008, 2, 2, 0⟩)] [] ∧ { t with regs := s.regs } = s)

/-- With STREAM reachable: a host READ_FIXED frame of DATA.k answers the unretired words of channel k's region in order,
  the oldest first, 0 beyond the newest; a READ frame over several DATA registers answers the oldest word of each,
  since each is fetched once; a read outside a frame answers the oldest word to the host port and 0 to every other
  origin that can read; none retires a word. A next state is stated for HOST_READ_FIXED, HOST_READ, STREAM_DATA_READ. -/
def Obligations.DataReadsTheRegion : Prop :=
  (∀ (s : State) (q : HostReq) (k : Nat), s.reducedOrLater = true → s.strap < 8 → (q.four = true → s.full = true) →
  k < 4 → q.addr = Pg.STREAM * 0x400 + 0x100 + 4 * k → reachable s q.addr = true → logRoom s 0 →
      ∃ t, Sys2Proof.Machine.exec (.hostReadFixed (ownFrame s q 0x22 [])) s = .next t ∧
      t.reply.data = (List.range (q.len % 256 + 1)).map (fun i => nth 0 (regionWords s k) i) ∧
      t.stream.regions = s.stream.regions) ∧
  (∀ (s : State) (q : HostReq) (k : Nat), s.reducedOrLater = true → s.strap < 8 → (q.four = true → s.full = true) →
  q.addr = Pg.STREAM * 0x400 + 0x100 + 4 * k → k + q.len % 256 < 4 → reachable s (Pg.STREAM * 0x400 + 0x100) = true →
  logRoom s 0 →
      ∃ t, Sys2Proof.Machine.exec (.hostRead (ownFrame s q 0x21 [])) s = .next t ∧
      t.reply.data = (List.range (q.len % 256 + 1)).map (fun i => nth 0 (regionWords s (k + i)) 0) ∧
      t.stream.regions = s.stream.regions) ∧
  (∀ (s : State) (o : Origin) (k : Nat), k < 4 → reachable s (Pg.STREAM * 0x400 + 0x100 + 4 * k) = true →
  originLive s o = true → logRoom s 0 →
      ∃ t, Sys2Proof.Machine.exec (.streamDataRead o k) s = .next t ∧
      t.stream.regions = s.stream.regions ∧ t.reply.data = [if o = .host then nth 0 (regionWords s k) 0 else 0] ∧
      onlyBits s t [] [] ∧
      { t with regs := s.regs, reply := s.reply, stream := { t.stream with fetched := s.stream.fetched } } = s)

/-- For every origin that may write the STREAM page, the host port and factory test mode, with d = (r − RETIRED_SEQ.k)
  modulo 2^32: for d from 1 up to the number of records in the region, the write removes the d oldest records, sets
  RETIRED_SEQ to r, counts their words in WORD_COUNT and leaves FILL at the region's words; for d = 0 or d of 2^31 or
  more nothing changes; any other d sets EVENT.RANGE_REJECT and makes an entry, the region staying. Nothing else
  changes. A next state is stated for STREAM_RETIRE. -/
def Obligations.RetireRemovesRecords : Prop :=
  (∀ (s : State) (o : Origin) (k r d : Nat), k < 4 → r < 2 ^ 32 →
  reachable s (Pg.STREAM * 0x400 + 0x090 + 32 * k) = true → originLive s o = true →
  mayWrite s (originCode o) Pg.STREAM = true → (o = .host → keySeq s Pg.STREAM = none) →
  d = (r + 2 ^ 32 - s.get Pg.STREAM (Reg.STREAM.RETIRED_SEQ.ix k)) % 2 ^ 32 → 1 ≤ d ∧ d < 2 ^ 31 →
  d ≤ (sregion s k).length → (regionWords s k).length < 8192 → logRoom s 0 →
      ∃ t, Sys2Proof.Machine.exec (.streamRetire o k r) s = .next t ∧
      sregion t k = (sregion s k).drop d ∧ t.get Pg.STREAM (Reg.STREAM.RETIRED_SEQ.ix k) = r ∧
      t.get Pg.STREAM (Reg.STREAM.WORD_COUNT.ix k) = min (2 ^ 32 - 1) (s.get Pg.STREAM (Reg.STREAM.WORD_COUNT.ix k) +
        ((regionWords s k).length - (regionWords t k).length)) ∧
      t.get Pg.STREAM (Reg.STREAM.FILL_WORDS.ix k) = (regionWords t k).length ∧
      (∀ j, j ≠ k → sregion t j = sregion s j) ∧
      onlyBits s t [(Pg.STREAM, Reg.STREAM.RETIRED_SEQ.ix k), (Pg.STREAM, Reg.STREAM.WORD_COUNT.ix k), (Pg.STREAM,
        Reg.STREAM.FILL.ix k), (Pg.STREAM, Reg.STREAM.STATUS), (Pg.STREAM, ⟨0x008, k, k, 0⟩)] [] ∧
      { t with regs := s.regs, stream := { t.stream with regions := s.stream.regions } } = s) ∧
  (∀ (s : State) (o : Origin) (k r d : Nat), k < 4 → r < 2 ^ 32 →
  reachable s (Pg.STREAM * 0x400 + 0x090 + 32 * k) = true → originLive s o = true →
  mayWrite s (originCode o) Pg.STREAM = true → (o = .host → keySeq s Pg.STREAM = none) →
  d = (r + 2 ^ 32 - s.get Pg.STREAM (Reg.STREAM.RETIRED_SEQ.ix k)) % 2 ^ 32 → d = 0 ∨ 2 ^ 31 ≤ d → logRoom s 0 →
      ∃ t, Sys2Proof.Machine.exec (.streamRetire o k r) s = .next t ∧
      onlyBits s t [] [] ∧ { t with regs := s.regs } = s) ∧
  (∀ (s : State) (o : Origin) (k r d : Nat), k < 4 → r < 2 ^ 32 →
  reachable s (Pg.STREAM * 0x400 + 0x090 + 32 * k) = true → originLive s o = true →
  mayWrite s (originCode o) Pg.STREAM = true → (o = .host → keySeq s Pg.STREAM = none) →
  d = (r + 2 ^ 32 - s.get Pg.STREAM (Reg.STREAM.RETIRED_SEQ.ix k)) % 2 ^ 32 → 1 ≤ d ∧ d < 2 ^ 31 →
  (sregion s k).length < d → logRoom s 1 →
      ∃ t, Sys2Proof.Machine.exec (.streamRetire o k r) s = .next t ∧
      t.get Pg.STREAM ⟨0x008, 5, 5, 0⟩ = 1 ∧ sregion t k = sregion s k ∧
      onlyBits s t [(Pg.STREAM, ⟨0x008, 5, 5, 0⟩)] [Pg.CHANGELOG] ∧ onlyLogged s t)

/-- The write engine moves the oldest waiting record into its channel's region with its header, TYPE, SOURCE, LENGTH,
  DROPS and SEQ, before its body; SEQ and REC_COUNT count, FILL shows the region's words, and the record leaves its
  queue. Channels enabled all at once start at the next boundary; channels disabled lose their region and their
  queues, SEQ and RETIRED_SEQ staying. ROUTE, and a BUF_CFG of sizes 0 to 16 that sum to 16 or less and hold HIGH, are
  stored while no channel is enabled. A next state is stated for STREAM_RECORD_WRITE, STREAM_ENABLE_WRITE,
  STREAM_CONFIG_WRITE. Rests on R461, R462, R466, R467. -/
def Obligations.TheStream : Prop :=
  (∀ (s : State) (k : Nat) (r : SRec), s.full = true → nextWrite s = some (k, r) → r.src < 0x2A → logRoom s 0 →
      ∃ t, Sys2Proof.Machine.exec .streamRecordWrite s = .next t ∧
      sregion t k = sregion s k ++ [(s.get Pg.STREAM (Reg.STREAM.SEQ.ix k), (r.typ * 2 ^ 24 + r.src * 2 ^ 16 +
        (r.body.length + 2) * 2 ^ 8 + min 255 (Table.get 0 s.stream.lost r.src)) :: s.get Pg.STREAM (Reg.STREAM.SEQ.ix
        k) :: r.body)] ∧
      squeue t r.src = (squeue s r.src).drop 1 ∧
      t.get Pg.STREAM (Reg.STREAM.SEQ.ix k) = (s.get Pg.STREAM (Reg.STREAM.SEQ.ix k) + 1) % 2 ^ 32 ∧
      t.get Pg.STREAM (Reg.STREAM.REC_COUNT.ix k) = min (2 ^ 32 - 1) (s.get Pg.STREAM (Reg.STREAM.REC_COUNT.ix k) + 1)
        ∧
      t.get Pg.STREAM (Reg.STREAM.FILL_WORDS.ix k) = (regionWords t k).length ∧ Table.get 0 t.stream.lost r.src = 0 ∧
      (∀ j, j ≠ k → sregion t j = sregion s j) ∧
      onlyBits s t [(Pg.STREAM, Reg.STREAM.SEQ.ix k), (Pg.STREAM, Reg.STREAM.REC_COUNT.ix k), (Pg.STREAM,
        Reg.STREAM.FILL.ix k), (Pg.STREAM, Reg.STREAM.STATUS), (Pg.STREAM, ⟨0x008, k, k, 0⟩)] [] ∧
      { t with regs := s.regs, stream := { t.stream with queues := s.stream.queues, regions := s.stream.regions, lost := s.stream.lost, raised := s.stream.raised } }
        = s) ∧
  (∀ (s : State) (v : Nat), 0 < v ∧ v < 16 → hostReach s Pg.STREAM 0x040 → s.get Pg.STREAM Reg.STREAM.CTRL_EN = 0 →
  s.stream.starts = [] →
  (List.range 4).all (fun k => !bitOf v k || decide (0 < bitsOf (s.get Pg.STREAM Reg.STREAM.BUF_CFG) (8 * k + 4) (8 *
    k))) = true →
  logRoom s 1 →
      ∃ t, Sys2Proof.Machine.exec (.streamEnableWrite .host v) s = .next t ∧
      t.get Pg.STREAM Reg.STREAM.CTRL_EN = v ∧ t.stream.starts = (List.range 4).filter (fun k => bitOf v k) ∧
      onlyBits s t [(Pg.STREAM, Reg.STREAM.CTRL_EN), changeSeq Pg.STREAM] [Pg.CHANGELOG] ∧
      onlyLogged s { t with stream := { t.stream with starts := s.stream.starts } }) ∧
  (∀ (s : State), hostReach s Pg.STREAM 0x040 → s.get Pg.STREAM Reg.STREAM.CTRL_EN ≠ 0 → logRoom s 1 →
      ∃ t, Sys2Proof.Machine.exec (.streamEnableWrite .host 0) s = .next t ∧
      t.get Pg.STREAM Reg.STREAM.CTRL_EN = 0 ∧
      (∀ k < 4, s.getBit Pg.STREAM Reg.STREAM.CTRL_EN k = true → sregion t k = [] ∧ (∀ src < 0x2A, routeChan s
        (routeOf src) = k → squeue t src = [])) ∧
      (∀ k < 4, s.getBit Pg.STREAM Reg.STREAM.CTRL_EN k = false → sregion t k = sregion s k ∧ (∀ src < 0x2A, routeChan
        s (routeOf src) = k → squeue t src = squeue s src)) ∧
      onlyBits s t ([(Pg.STREAM, Reg.STREAM.CTRL_EN), (Pg.STREAM, Reg.STREAM.STATUS), changeSeq Pg.STREAM] ++
        (List.range 4).flatMap (fun k => [(Pg.STREAM, Reg.STREAM.FILL.ix k), (Pg.STREAM, Reg.STREAM.REC_COUNT.ix k),
        (Pg.STREAM, Reg.STREAM.WORD_COUNT.ix k)])) [Pg.CHANGELOG] ∧
      onlyLogged s { t with free := s.free, stream := s.stream }) ∧
  (∀ (s : State) (v : Nat), hostReach s Pg.STREAM 0x048 → s.get Pg.STREAM Reg.STREAM.CTRL_EN = 0 → v &&& 0x7777 = v →
  logRoom s 1 →
      ∃ t, Sys2Proof.Machine.exec (.streamConfigWrite .host true v) s = .next t ∧
      t.get Pg.STREAM Reg.STREAM.ROUTE &&& 0x7777 = v ∧
      onlyBits s t [(Pg.STREAM, Reg.STREAM.ROUTE), changeSeq Pg.STREAM] [Pg.CHANGELOG] ∧ onlyLogged s t) ∧
  (∀ (s : State) (a b c d : Nat), hostReach s Pg.STREAM 0x044 → lockState s Pg.STREAM = 0 →
  s.get Pg.STREAM Reg.STREAM.CTRL_EN = 0 → a + b + c + d ≤ 16 →
  (List.range 4).all (fun k => decide (nth 0 [a, b, c, d] k = 0) || decide (s.get Pg.STREAM (Reg.STREAM.MARKS_HIGH.ix
    k) ≤ nth 0 [a, b, c, d] k * 16)) = true →
  logRoom s 1 →
      ∃ t, Sys2Proof.Machine.exec (.streamConfigWrite .host false (a + b * 256 + c * 65536 + d * 16777216)) s = .next
        t ∧
      t.get Pg.STREAM Reg.STREAM.BUF_CFG_SIZE0 = a ∧ t.get Pg.STREAM Reg.STREAM.BUF_CFG_SIZE1 = b ∧
      t.get Pg.STREAM Reg.STREAM.BUF_CFG_SIZE2 = c ∧ t.get Pg.STREAM Reg.STREAM.BUF_CFG_SIZE3 = d ∧
      onlyBits s t [(Pg.STREAM, Reg.STREAM.BUF_CFG), changeSeq Pg.STREAM] [Pg.CHANGELOG] ∧ onlyLogged s t)

/-- From REDUCED on. A status read sends the status word, high byte first, with its check byte where PEC_EN = 1, bytes
  clocked after these reading 0xFF, and counts in READS. A write transfer whose word is not valid, whose check byte
  fails, whose length is not the one expected or which the bus timeout ends is discarded: it shows RESULT 2 and counts
  in CMD_BAD and, where its check byte failed, in PEC_ERR, with CMD_REJECT; any other is none of the kind and
  TWOWIRE_CMD_DISCARD changes nothing. A host write to STATUS clears the latched bits it names. The winner of an alert
  response sends its address and clears its alert. A bus timeout as controller counts in BUS_TIMEOUT and ARB_LOST. A
  next state is stated for TWOWIRE_STATUS_READ, TWOWIRE_CMD_DISCARD, TWOWIRE_STATUS_WRITE, ALERT_RESPONSE_READ,
  TWOWIRE_BUS_TIMEOUT. Rests on R470, R472, R473, R474, R477, R479. -/
def Obligations.TheTwoWirePort : Prop :=
  (∀ (s : State), s.reducedOrLater = true → logRoom s 0 →
      ∃ t, Sys2Proof.Machine.exec .twowireStatusRead s = .next t ∧
      t.reply.wire = [statusWord s / 256 % 256, statusWord s % 256] ++ (if s.flag Pg.TWOWIRE Reg.TWOWIRE.CFG_PEC_EN
        then [crc8 [(0x40 + s.strap) * 2 + 1, statusWord s / 256 % 256, statusWord s % 256]] else []) ∧
      (∀ i, t.reply.wire.length ≤ i → wireByte t.reply i = 0xFF) ∧
      t.get Pg.TWOWIRE Reg.TWOWIRE.READS = min (2 ^ 32 - 1) (s.get Pg.TWOWIRE Reg.TWOWIRE.READS + 1) ∧
      onlyBits s t [(Pg.TWOWIRE, Reg.TWOWIRE.READS)] [] ∧ { t with regs := s.regs, reply := s.reply } = s) ∧
  (∀ (s : State) (l : List Nat) (timedOut : Bool), s.reducedOrLater = true → discarded s l timedOut = true →
  logRoom s 0 →
      ∃ t, Sys2Proof.Machine.exec (.twowireCmdDiscard l timedOut) s = .next t ∧
      t.get Pg.TWOWIRE Reg.TWOWIRE.LAST_CMD_WORD = commandWord l ∧ t.get Pg.TWOWIRE Reg.TWOWIRE.LAST_CMD_RESULT = 2 ∧
      t.get Pg.TWOWIRE Reg.TWOWIRE.CMD_BAD = min (2 ^ 32 - 1) (s.get Pg.TWOWIRE Reg.TWOWIRE.CMD_BAD + 1) ∧
      t.get Pg.TWOWIRE Reg.TWOWIRE.PEC_ERR = (if pecFailed s l then min (2 ^ 32 - 1) (s.get Pg.TWOWIRE
        Reg.TWOWIRE.PEC_ERR + 1) else s.get Pg.TWOWIRE Reg.TWOWIRE.PEC_ERR) ∧
      t.getBit Pg.TWOWIRE Reg.TWOWIRE.STATUS_LATCHED 2 = true ∧ t.get Pg.TWOWIRE ⟨0x008, 1, 1, 0⟩ = 1 ∧
      onlyBits s t [(Pg.TWOWIRE, Reg.TWOWIRE.LAST_CMD), (Pg.TWOWIRE, Reg.TWOWIRE.CMD_BAD), (Pg.TWOWIRE,
        Reg.TWOWIRE.PEC_ERR), (Pg.TWOWIRE, ⟨Reg.TWOWIRE.STATUS_LATCHED.off, 2, 2, 0⟩), (Pg.TWOWIRE, ⟨0x008, 1, 1, 0⟩)]
        [] ∧
      { t with regs := s.regs, alert := s.alert } = s) ∧
  (∀ (s : State) (l : List Nat) (timedOut : Bool), s.reducedOrLater = true → discarded s l timedOut = false →
  logRoom s 0 →
      ∃ t, Sys2Proof.Machine.exec (.twowireCmdDiscard l timedOut) s = .next t ∧
      onlyBits s t [] [] ∧ { t with regs := s.regs } = s) ∧
  (∀ (s : State) (v : Nat), hostReach s Pg.TWOWIRE 0x04C → logRoom s 0 →
      ∃ t, Sys2Proof.Machine.exec (.twowireStatusWrite .host v) s = .next t ∧
      t.get Pg.TWOWIRE Reg.TWOWIRE.STATUS_LATCHED = s.get Pg.TWOWIRE Reg.TWOWIRE.STATUS_LATCHED &&& (15 - v % 16) ∧
      onlyBits s t [(Pg.TWOWIRE, Reg.TWOWIRE.STATUS_LATCHED)] [] ∧ { t with regs := s.regs } = s) ∧
  (∀ (s : State) (won : Bool), s.reducedOrLater = true → s.alert = true → logRoom s 0 →
      ∃ t, Sys2Proof.Machine.exec (.alertResponseRead won) s = .next t ∧
      t.alert = !won ∧
      (won = true → t.reply.wire = [(0x40 + s.strap) * 2] ++ (if s.flag Pg.TWOWIRE Reg.TWOWIRE.CFG_PEC_EN then [crc8
        [0x19, (0x40 + s.strap) * 2]] else [])) ∧
      onlyBits s t [] [] ∧ { t with regs := s.regs, alert := s.alert, reply := s.reply } = s) ∧
  (∀ (s : State), s.reducedOrLater = true → s.fault.crier ≠ [] ∨ 0 < s.backup.tries → logRoom s 0 →
      ∃ t, Sys2Proof.Machine.exec (.twowireBusTimeout true) s = .next t ∧
      t.get Pg.TWOWIRE Reg.TWOWIRE.BUS_TIMEOUT = min (2 ^ 32 - 1) (s.get Pg.TWOWIRE Reg.TWOWIRE.BUS_TIMEOUT + 1) ∧
      t.get Pg.TWOWIRE Reg.TWOWIRE.ARB_LOST = min (2 ^ 32 - 1) (s.get Pg.TWOWIRE Reg.TWOWIRE.ARB_LOST + 1) ∧
      t.get Pg.TWOWIRE ⟨0x008, 2, 2, 0⟩ = 1 ∧ t.get Pg.TWOWIRE ⟨0x008, 3, 3, 0⟩ = 1 ∧
      onlyBits s t [(Pg.TWOWIRE, Reg.TWOWIRE.BUS_TIMEOUT), (Pg.TWOWIRE, Reg.TWOWIRE.ARB_LOST), (Pg.TWOWIRE, ⟨0x008, 2,
        2, 0⟩), (Pg.TWOWIRE, ⟨0x008, 3, 3, 0⟩)] [] ∧
      { t with regs := s.regs } = s) ∧
  (∀ (s : State), logRoom s 0 →
      ∃ t, Sys2Proof.Machine.exec (.twowireBusTimeout false) s = .next t ∧
      onlyBits s t [] [] ∧ { t with regs := s.regs } = s)

/-- From REDUCED on. Each command word is recorded in LAST_CMD with RESULT 1, counted in CMDS and sets its event; then NOP
  changes nothing; ESTOP sets its latch and, with CONTROL of every single and lead channel reachable and in range,
  leaves ENABLE and AUTO_RESUME 0 on each; FAULT_CLEAR outside FULL, where no active entry persists, leaves none
  active, and in FULL waits for the boundary; RESUME of a channel that may resume sets its ENABLE, and in OFF starts
  it to resume, and with ARG bit 5 and no interrupted channel changes nothing, unless ESTOP = 1, when it is refused
  with RESULT 3 (DESIGN CHOICE, log entry 111); HK_UP in OFF and HK_DOWN in UP or ON move the sequence; GO sets
  GO_PENDING; CHARGE stores CHG_CFG.EN; ACK clears the latched bits it names. A next state is stated for TWOWIRE_NOP,
  TWOWIRE_ESTOP, TWOWIRE_FAULT_CLEAR, TWOWIRE_RESUME, TWOWIRE_HK_UP, TWOWIRE_HK_DOWN, TWOWIRE_GO, TWOWIRE_CHARGE,
  TWOWIRE_ACK. Rests on R474, R475, R476. -/
def Obligations.TheTwoWireCommands : Prop :=
  (∀ (s : State), s.reducedOrLater = true → logRoom s 0 →
      ∃ t, Sys2Proof.Machine.exec .twowireNop s = .next t ∧
      commandDone s t 0x0000 ∧ onlyBits s t commandFields [] ∧ { t with regs := s.regs } = s) ∧
  (∀ (s : State), s.reducedOrLater = true → leadsOk s = true → logRoom s 32 →
      ∃ t, Sys2Proof.Machine.exec .twowireEstop s = .next t ∧
      commandDone s t 0x1000 ∧ t.getBit Pg.TWOWIRE Reg.TWOWIRE.STATUS_LATCHED 3 = true ∧
      (∀ c ∈ leadChans s, t.get (Pg.CHAN c) Reg.CHAN.CONTROL_ENABLE = 0 ∧ t.get (Pg.CHAN c)
        Reg.CHAN.CONTROL_AUTO_RESUME = 0) ∧
      onlyBits s t (commandFields ++ [(Pg.TWOWIRE, ⟨Reg.TWOWIRE.STATUS_LATCHED.off, 3, 3, 0⟩)] ++ (leadChans
        s).flatMap (fun c => [(Pg.CHAN c, Reg.CHAN.CONTROL_ENABLE), (Pg.CHAN c, Reg.CHAN.CONTROL_AUTO_RESUME),
        changeSeq (Pg.CHAN c)])) [Pg.CHANGELOG] ∧
      onlyLogged s { t with chans := s.chans }) ∧
  (∀ (s : State), s.reducedOrLater = true → s.full = false → keySeq s testSeq = none →
  s.fault.active.all (fun e => !entryPersists s e.1 e.2) = true → logRoom s 1 →
      ∃ t, Sys2Proof.Machine.exec .twowireFaultClear s = .next t ∧
      commandDone s t 0x2000 ∧ t.fault.active = [] ∧
      onlyBits s t (commandFields ++ [changeSeq Pg.FAULT]) [Pg.CHANGELOG] ∧
      onlyLogged s { t with fault := { t.fault with active := s.fault.active } }) ∧
  (∀ (s : State), s.full = true → keySeq s testSeq = none → logRoom s 0 →
      ∃ t, Sys2Proof.Machine.exec .twowireFaultClear s = .next t ∧
      commandDone s t 0x2000 ∧ t.fault.clears = s.fault.clears ++ [(Org.TWOWIRE, 0x80000000)] ∧
      onlyBits s t commandFields [] ∧
      { t with regs := s.regs, fault := { t.fault with clears := s.fault.clears } } = s) ∧
  (∀ (s : State) (c : Nat), s.reducedOrLater = true → c < 32 → reachable s (Pg.CHAN c * 0x400 + 0x040) = true →
  s.follower c = false → s.get (Pg.CHAN c) Reg.CHAN.STATUS_LAST_END = 2 → resumeMatches s c = true →
  s.cstate c = Ch.RUN → estop s = false →
  rangesOk (fieldsAt (Pg.CHAN c) 0x040) (s.rd (addrOf (Pg.CHAN c) Reg.CHAN.CONTROL_ENABLE)).toNat = true →
  logRoom s 1 →
      ∃ t, Sys2Proof.Machine.exec (.twowireResume c) s = .next t ∧
      commandDone s t (0x3000 + c) ∧ t.get (Pg.CHAN c) Reg.CHAN.CONTROL_ENABLE = 1 ∧
      onlyBits s t (commandFields ++ [(Pg.CHAN c, Reg.CHAN.CONTROL_ENABLE), changeSeq (Pg.CHAN c)]) [Pg.CHANGELOG] ∧
      onlyLogged s t) ∧
  (∀ (s : State) (c : Nat), s.reducedOrLater = true → c < 32 → reachable s (Pg.CHAN c * 0x400 + 0x040) = true →
  s.follower c = false → s.get (Pg.CHAN c) Reg.CHAN.STATUS_LAST_END = 2 → resumeMatches s c = true →
  s.cstate c = Ch.OFF → startBarred s c = false → estop s = false →
  rangesOk (fieldsAt (Pg.CHAN c) 0x040) (s.rd (addrOf (Pg.CHAN c) Reg.CHAN.CONTROL_ENABLE)).toNat = true →
  logRoom s 40 →
      ∃ t, Sys2Proof.Machine.exec (.twowireResume c) s = .next t ∧
      commandDone s t (0x3000 + c) ∧ t.get (Pg.CHAN c) Reg.CHAN.CONTROL_ENABLE = 1 ∧ (t.chan c).resume = true ∧
      onlyBits s t commandFields [Pg.CHAN c, Pg.CHANGELOG] ∧
      onlyLogged s { t with chans := s.chans, recipes := s.recipes, held := s.held }) ∧
  (∀ (s : State) (a : Nat), s.reducedOrLater = true → 32 ≤ a ∧ a < 64 → estop s = false →
  (leadChans s).all (fun c => decide (s.get (Pg.CHAN c) Reg.CHAN.STATUS_LAST_END ≠ 2)) = true → logRoom s 0 →
      ∃ t, Sys2Proof.Machine.exec (.twowireResume a) s = .next t ∧
      commandDone s t (0x3000 + a) ∧ onlyBits s t commandFields [] ∧ { t with regs := s.regs } = s) ∧
  (∀ (s : State) (a : Nat), s.reducedOrLater = true → 32 ≤ a ∧ a < 64 → estop s = true →
  (leadChans s).all (fun c => decide (s.get (Pg.CHAN c) Reg.CHAN.STATUS_LAST_END ≠ 2)) = true → logRoom s 0 →
      ∃ t, Sys2Proof.Machine.exec (.twowireResume a) s = .next t ∧
      t.get Pg.TWOWIRE Reg.TWOWIRE.LAST_CMD_WORD = 0x3000 + a ∧ t.get Pg.TWOWIRE Reg.TWOWIRE.LAST_CMD_RESULT = 3 ∧
      t.get Pg.TWOWIRE ⟨0x008, Ev.RIGHT_REJECT, Ev.RIGHT_REJECT, 0⟩ = 1 ∧
      onlyBits s t (commandFields ++ [(Pg.TWOWIRE, ⟨0x008, 1, 1, 0⟩), (Pg.TWOWIRE, ⟨0x008, Ev.RIGHT_REJECT,
        Ev.RIGHT_REJECT, 0⟩), (Pg.TWOWIRE, ⟨Reg.TWOWIRE.STATUS_LATCHED.off, 2, 2, 0⟩)]) [] ∧
      { t with regs := s.regs, alert := s.alert } = s) ∧
  (∀ (s : State), s.reducedOrLater = true → lockState s Pg.HKSEQ = 0 → hkState s = Hq.OFF → logRoom s 1 →
      ∃ t, Sys2Proof.Machine.exec .twowireHkUp s = .next t ∧
      commandDone s t 0x4000 ∧ hkState t = Hq.UP ∧ t.hk.start = true ∧
      onlyBits s t (commandFields ++ [(Pg.HKSEQ, Reg.HKSEQ.STATUS), (Pg.HKSEQ, Reg.HKSEQ.STATUS_FAILS), (Pg.CHIP,
        Reg.CHIP.STATUS_HK_UP), changeSeq Pg.HKSEQ]) [Pg.CHANGELOG] ∧
      onlyLogged s { t with hk := { t.hk with start := s.hk.start, rails := s.hk.rails } }) ∧
  (∀ (s : State), s.reducedOrLater = true → lockState s Pg.HKSEQ = 0 → hkState s = Hq.ON ∨ hkState s = Hq.UP →
  logRoom s 1 →
      ∃ t, Sys2Proof.Machine.exec .twowireHkDown s = .next t ∧
      commandDone s t 0x50A5 ∧ hkState t = Hq.DOWN ∧ t.hk.start = true ∧
      t.get Pg.HKSEQ Reg.HKSEQ.OFF_RESULT_RESULT = 0 ∧
      onlyBits s t (commandFields ++ [(Pg.HKSEQ, Reg.HKSEQ.STATUS_STATE), (Pg.HKSEQ, Reg.HKSEQ.OFF_RESULT_RESULT),
        (Pg.CHIP, Reg.CHIP.STATUS_HK_UP), changeSeq Pg.HKSEQ]) [Pg.CHANGELOG] ∧
      t.hk.downReq = some (Org.TWOWIRE, s.get Pg.HKSEQ Reg.HKSEQ.OFF_RESULT_RESULT) ∧
      onlyLogged s { t with hk := { t.hk with start := s.hk.start, downReq := s.hk.downReq } }) ∧
  (∀ (s : State), s.reducedOrLater = true → s.flag Pg.CHIP Reg.CHIP.STATUS_GO_PENDING = false → logRoom s 1 →
      ∃ t, Sys2Proof.Machine.exec .twowireGo s = .next t ∧
      commandDone s t 0x6000 ∧ t.flag Pg.CHIP Reg.CHIP.STATUS_GO_PENDING = true ∧
      onlyBits s t (commandFields ++ [(Pg.CHIP, Reg.CHIP.STATUS_GO_PENDING), changeSeq Pg.CHIP]) [Pg.CHANGELOG] ∧
      onlyLogged s t) ∧
  (∀ (s : State) (en : Bool), s.reducedOrLater = true → lockState s Pg.BACKUP = 0 →
  rangesOk (fieldsAt Pg.BACKUP 0x04C) (s.rd (addrOf Pg.BACKUP Reg.BACKUP.CHG_CFG)).toNat = true → logRoom s 1 →
      ∃ t, Sys2Proof.Machine.exec (.twowireCharge en) s = .next t ∧
      commandDone s t (0x7000 + b2n en) ∧ t.flag Pg.BACKUP Reg.BACKUP.CHG_CFG_EN = en ∧
      (en = false → s.flag Pg.BACKUP Reg.BACKUP.CHG_CFG_EN = true → packPresent s = true → s.backup.path = true →
        chgState t = Chg.DISABLED) ∧
      onlyBits s t (commandFields ++ [(Pg.BACKUP, Reg.BACKUP.CHG_CFG_EN), (Pg.BACKUP, Reg.BACKUP.CHG_STATUS_STATE),
        (Pg.BACKUP, Reg.BACKUP.PATH_STATUS_BAT_SW), (Pg.BACKUP, Reg.BACKUP.PATH_STATUS_DPM), changeSeq Pg.BACKUP])
        [Pg.CHANGELOG] ∧
      onlyLogged s { t with backup := { t.backup with expired := s.backup.expired, done := s.backup.done } }) ∧
  (∀ (s : State) (a : Nat), s.reducedOrLater = true → a < 16 → logRoom s 0 →
      ∃ t, Sys2Proof.Machine.exec (.twowireAck a) s = .next t ∧
      commandDone s t (0x8000 + a) ∧
      t.get Pg.TWOWIRE Reg.TWOWIRE.STATUS_LATCHED = s.get Pg.TWOWIRE Reg.TWOWIRE.STATUS_LATCHED &&& (15 - a) ∧
      onlyBits s t (commandFields ++ [(Pg.TWOWIRE, Reg.TWOWIRE.STATUS_LATCHED)]) [] ∧ { t with regs := s.regs } = s)
end

