-- ==== Sys2Proof/Laws/Bits.lean ====
section
/-! SUPPORT. Bit fields: what a field reads after it, or another field of the same word, has been written. -/

namespace Sys2Proof.Machine

theorem bitsOf_lt (n hi lo : Nat) : bitsOf n hi lo < 2 ^ (hi - lo + 1) := Nat.mod_lt _ (by positivity)

/-- A field is the quotient of the word's low part. -/
theorem bitsOf_eq_mod_div {hi lo : Nat} (n : Nat) (h : lo ≤ hi) : bitsOf n hi lo = n % 2 ^ (hi + 1) / 2 ^ lo := by
  have e : hi + 1 = lo + (hi - lo + 1) := by omega
  rw [bitsOf, e, pow_add 2 lo, Nat.mod_mul_right_div_self]

theorem withBits_split {hi lo : Nat} (n v : Nat) (h : lo ≤ hi) :
    withBits n hi lo v = (n / 2 ^ (hi + 1) * 2 ^ (hi - lo + 1) + v % 2 ^ (hi - lo + 1)) * 2 ^ lo + n % 2 ^ lo := by
  have e : hi + 1 = (hi - lo + 1) + lo := by omega
  have p : 2 ^ (hi + 1) = 2 ^ (hi - lo + 1) * 2 ^ lo := by rw [← pow_add]; congr 1
  simp only [withBits]
  rw [p]
  ring

theorem mul_add_mod_div (a b c : Nat) (h : 0 < b) : (a * b + c % b) / b = a := by
  rw [Nat.add_comm, Nat.add_mul_div_right _ _ h, Nat.div_eq_of_lt (Nat.mod_lt _ h), Nat.zero_add]

theorem withBits_div_lo {hi lo : Nat} (n v : Nat) (h : lo ≤ hi) :
    withBits n hi lo v / 2 ^ lo = n / 2 ^ (hi + 1) * 2 ^ (hi - lo + 1) + v % 2 ^ (hi - lo + 1) := by
  rw [withBits_split n v h, mul_add_mod_div _ _ _ (by positivity)]

/-- A field that has been written reads the low bits of the value. -/
theorem bitsOf_withBits {hi lo : Nat} (n v : Nat) (h : lo ≤ hi) :
    bitsOf (withBits n hi lo v) hi lo = v % 2 ^ (hi - lo + 1) := by
  rw [bitsOf, withBits_div_lo n v h, Nat.add_comm, Nat.add_mul_mod_self_right, Nat.mod_mod]

theorem withBits_mod_lo {hi lo : Nat} (n v : Nat) (h : lo ≤ hi) : withBits n hi lo v % 2 ^ lo = n % 2 ^ lo := by
  rw [withBits_split n v h, Nat.add_comm, Nat.add_mul_mod_self_right, Nat.mod_mod]

theorem withBits_div_hi {hi lo : Nat} (n v : Nat) (h : lo ≤ hi) : withBits n hi lo v / 2 ^ (hi + 1) = n / 2 ^ (hi + 1) := by
  have e : hi + 1 = lo + (hi - lo + 1) := by omega
  have p : 2 ^ (hi + 1) = 2 ^ lo * 2 ^ (hi - lo + 1) := by rw [← pow_add]; congr 1
  have hp : 0 < 2 ^ (hi - lo + 1) := by positivity
  conv_lhs => rw [p]
  rw [← Nat.div_div_eq_div_mul, withBits_div_lo n v h, Nat.add_comm, Nat.add_mul_div_right _ _ hp,
    Nat.div_eq_of_lt (Nat.mod_lt _ hp), Nat.zero_add]

/-- A field below the one written reads as before. -/
theorem bitsOf_withBits_below {hi lo hi' lo' : Nat} (n v : Nat) (h : lo ≤ hi) (h' : lo' ≤ hi') (d : hi' < lo) :
    bitsOf (withBits n hi lo v) hi' lo' = bitsOf n hi' lo' := by
  rw [bitsOf_eq_mod_div _ h', bitsOf_eq_mod_div _ h', ← Nat.mod_mod_of_dvd _ (pow_dvd_pow 2 (show hi' + 1 ≤ lo by omega)),
    withBits_mod_lo n v h, Nat.mod_mod_of_dvd _ (pow_dvd_pow 2 (show hi' + 1 ≤ lo by omega))]

/-- A field above the one written reads as before. -/
theorem bitsOf_withBits_above {hi lo hi' lo' : Nat} (n v : Nat) (h : lo ≤ hi) (d : hi < lo') :
    bitsOf (withBits n hi lo v) hi' lo' = bitsOf n hi' lo' := by
  have e : lo' = (hi + 1) + (lo' - (hi + 1)) := by omega
  have p : 2 ^ lo' = 2 ^ (hi + 1) * 2 ^ (lo' - (hi + 1)) := by rw [← pow_add]; congr 1
  simp only [bitsOf]
  rw [p, ← Nat.div_div_eq_div_mul, ← Nat.div_div_eq_div_mul, withBits_div_hi n v h]

/-- Writing a field of a 32-bit word gives a 32-bit word. -/
theorem withBits_lt {hi lo n : Nat} (v : Nat) (h : lo ≤ hi) (h32 : hi < 32) (hn : n < 2 ^ 32) :
    withBits n hi lo v < 2 ^ 32 := by
  have p : 2 ^ 32 = 2 ^ (hi + 1) * 2 ^ (31 - hi) := by rw [← pow_add]; congr 1; omega
  have hp : 0 < 2 ^ (hi + 1) := by positivity
  have : withBits n hi lo v / 2 ^ (hi + 1) < 2 ^ (31 - hi) := by
    rw [withBits_div_hi n v h, Nat.div_lt_iff_lt_mul hp, Nat.mul_comm, ← p]; exact hn
  rw [p, Nat.mul_comm]
  exact (Nat.div_lt_iff_lt_mul hp).mp this

theorem b2n_mod_two (b : Bool) : b2n b % 2 = b2n b := by cases b <;> rfl

@[simp] theorem b2n_true : b2n true = 1 := rfl
@[simp] theorem b2n_false : b2n false = 0 := rfl

end Sys2Proof.Machine
end

