-- ==== Sys2Proof/Laws/Table.lean ====
section
/-! SUPPORT. Sparse tables: read after write, and that every table operation keeps the canonical form. -/

namespace Sys2Proof.Machine

variable {α : Type}

theorem Table.get_erase_same (d : α) (t : Table α) (k : Nat) : Table.get d (Table.erase t k) k = d := by
  induction t with
  | nil => rfl
  | cons e t ih =>
    obtain ⟨k', v⟩ := e
    by_cases h : k' = k <;> simp [Table.erase, Table.get, h, ih]

theorem Table.get_erase_ne (d : α) (t : Table α) {k j : Nat} (h : j ≠ k) :
    Table.get d (Table.erase t k) j = Table.get d t j := by
  induction t with
  | nil => rfl
  | cons e t ih =>
    obtain ⟨k', v⟩ := e
    by_cases h1 : k' = k
    · simp [Table.erase, Table.get, h1, ih, Ne.symm h]
    · simp [Table.erase, Table.get, h1, ih]

theorem Table.get_insert_same (d : α) (t : Table α) (k : Nat) (v : α) (h : ∀ e ∈ t, e.1 ≠ k) :
    Table.get d (Table.insert t k v) k = v := by
  induction t with
  | nil => simp [Table.insert, Table.get]
  | cons e t ih =>
    obtain ⟨k', v'⟩ := e
    have hk : k' ≠ k := h (k', v') (by simp)
    have ih := ih (fun e he => h e (by simp [he]))
    by_cases h1 : k < k' <;> simp [Table.insert, Table.get, h1, hk, ih]

theorem Table.get_insert_ne (d : α) (t : Table α) {k j : Nat} (v : α) (h : j ≠ k) :
    Table.get d (Table.insert t k v) j = Table.get d t j := by
  induction t with
  | nil => simp [Table.insert, Table.get, Ne.symm h]
  | cons e t ih =>
    obtain ⟨k', v'⟩ := e
    by_cases h1 : k < k' <;> simp [Table.insert, Table.get, h1, Ne.symm h, ih]

theorem Table.erase_keys (t : Table α) (k : Nat) : ∀ e ∈ Table.erase t k, e.1 ≠ k := by
  induction t with
  | nil => simp [Table.erase]
  | cons e t ih =>
    obtain ⟨k', v⟩ := e
    by_cases h : k' = k
    · simpa [Table.erase, h] using ih
    · intro e he
      simp only [Table.erase, h, if_false, List.mem_cons] at he
      rcases he with rfl | he
      · exact h
      · exact ih e he

variable [DecidableEq α]

/-- A key reads the value last written to it. -/
theorem Table.get_set_same (d : α) (t : Table α) (k : Nat) (v : α) : Table.get d (Table.set d t k v) k = v := by
  unfold Table.set
  split
  · rename_i h; rw [h]; exact Table.get_erase_same d t k
  · exact Table.get_insert_same d _ k v (Table.erase_keys t k)

/-- A write leaves every other key as it was, whatever default the other key has. -/
theorem Table.get_set_ne (d d' : α) (t : Table α) {k j : Nat} (v : α) (h : j ≠ k) :
    Table.get d' (Table.set d t k v) j = Table.get d' t j := by
  unfold Table.set
  split
  · exact Table.get_erase_ne d' t h
  · rw [Table.get_insert_ne d' _ v h, Table.get_erase_ne d' t h]

omit [DecidableEq α] in
/-- Strictly rising keys, as a relation between any two entries. -/
theorem Table.sorted_iff (t : Table α) : Table.sorted t = true ↔ t.Pairwise (fun a b => a.1 < b.1) := by
  induction t with
  | nil => simp [Table.sorted]
  | cons e t ih =>
    obtain ⟨a, v⟩ := e
    cases t with
    | nil => simp [Table.sorted]
    | cons f t =>
      obtain ⟨b, w⟩ := f
      simp only [Table.sorted, Bool.and_eq_true, decide_eq_true_eq, ih, List.pairwise_cons, List.mem_cons, forall_eq_or_imp]
      constructor
      · rintro ⟨h, h1, h2⟩
        exact ⟨⟨h, fun e he => Nat.lt_trans h (h1 e he)⟩, h1, h2⟩
      · rintro ⟨⟨h, _⟩, h1, h2⟩
        exact ⟨h, h1, h2⟩

omit [DecidableEq α] in
theorem Table.erase_sublist (t : Table α) (k : Nat) : (Table.erase t k).Sublist t := by
  induction t with
  | nil => exact List.Sublist.slnil
  | cons e t ih =>
    obtain ⟨k', v⟩ := e
    by_cases h : k' = k
    · simpa [Table.erase, h] using ih.cons (k', v)
    · simpa [Table.erase, h] using ih.cons_cons (k', v)

omit [DecidableEq α] in
theorem Table.mem_insert (t : Table α) (k : Nat) (v : α) (e : Nat × α) :
    e ∈ Table.insert t k v → e = (k, v) ∨ e ∈ t := by
  induction t with
  | nil => simp [Table.insert]
  | cons f t ih =>
    obtain ⟨k', v'⟩ := f
    by_cases h : k < k'
    · simp [Table.insert, h]
    · simp only [Table.insert, h, if_false, List.mem_cons]
      rintro (rfl | he)
      · exact Or.inr (Or.inl rfl)
      · rcases ih he with h1 | h1
        · exact Or.inl h1
        · exact Or.inr (Or.inr h1)

omit [DecidableEq α] in
theorem Table.insert_pairwise (t : Table α) (k : Nat) (v : α) (h : ∀ e ∈ t, e.1 ≠ k)
    (s : t.Pairwise (fun a b => a.1 < b.1)) : (Table.insert t k v).Pairwise (fun a b => a.1 < b.1) := by
  induction t with
  | nil => simp [Table.insert]
  | cons f t ih =>
    obtain ⟨k', v'⟩ := f
    rw [List.pairwise_cons] at s
    by_cases h1 : k < k'
    · simp only [Table.insert, if_pos h1]
      refine List.pairwise_cons.mpr ⟨fun e he => ?_, List.pairwise_cons.mpr s⟩
      rcases List.mem_cons.mp he with rfl | he
      · exact h1
      · exact Nat.lt_trans h1 (s.1 e he)
    · simp only [Table.insert, h1, if_false, List.pairwise_cons]
      refine ⟨fun e he => ?_, ih (fun e he => h e (by simp [he])) s.2⟩
      rcases Table.mem_insert t k v e he with rfl | he
      · have : k' ≠ k := h (k', v') (by simp)
        show k' < k; omega
      · exact s.1 e he

/-- A write keeps a table's canonical form. -/
theorem Table.wf_set (d : Nat → α) (t : Table α) (k : Nat) (v : α) (h : Table.wf d t = true) :
    Table.wf d (Table.set (d k) t k v) = true := by
  simp only [Table.wf, Bool.and_eq_true, Table.sorted_iff, List.all_eq_true, decide_eq_true_eq] at h ⊢
  have hs := h.1.sublist (Table.erase_sublist t k)
  have hd : ∀ e ∈ Table.erase t k, e.2 ≠ d e.1 := fun e he => h.2 e ((Table.erase_sublist t k).subset he)
  unfold Table.set
  split
  · exact ⟨hs, hd⟩
  · rename_i hv
    refine ⟨Table.insert_pairwise _ k v (Table.erase_keys t k) hs, fun e he => ?_⟩
    rcases Table.mem_insert _ k v e he with rfl | he
    · exact hv
    · exact hd e he

/-- Dropping entries keeps a table's canonical form. -/
theorem Table.wf_filter (d : Nat → α) (t : Table α) (p : Nat × α → Bool) (h : Table.wf d t = true) :
    Table.wf d (t.filter p) = true := by
  simp only [Table.wf, Bool.and_eq_true, Table.sorted_iff, List.all_eq_true, decide_eq_true_eq] at h ⊢
  exact ⟨h.1.sublist List.filter_sublist, fun e he => h.2 e (List.mem_of_mem_filter he)⟩

end Sys2Proof.Machine
end

