-- ==== Sys2Proof/Laws/State.lean ====
section
/-! SUPPORT. What each update of the state leaves as it was, field by field, and what the register operations read back. No
later proof unfolds a record update. -/

namespace Sys2Proof.Machine

variable (s : State)

@[simp] theorem State.wr_rest (a : Nat) (w : Word) :
    (s.wr a w).held = s.held ∧ (s.wr a w).powered = s.powered ∧ (s.wr a w).frame = s.frame ∧
    (s.wr a w).free = s.free ∧ (s.wr a w).rcUs = s.rcUs ∧ (s.wr a w).svc = s.svc ∧ (s.wr a w).log = s.log ∧
    (s.wr a w).fault = s.fault ∧ (s.wr a w).clock = s.clock ∧ (s.wr a w).transit = s.transit ∧
    (s.wr a w).phases = s.phases ∧ (s.wr a w).chans = s.chans ∧ (s.wr a w).banks = s.banks ∧
    (s.wr a w).accs = s.accs ∧ (s.wr a w).bankAccs = s.bankAccs ∧ (s.wr a w).ledger = s.ledger ∧
    (s.wr a w).recipes = s.recipes ∧ (s.wr a w).commits = s.commits ∧ (s.wr a w).recOld = s.recOld ∧
    (s.wr a w).memErr = s.memErr ∧ (s.wr a w).opened = s.opened ∧ (s.wr a w).ended = s.ended ∧
    (s.wr a w).events = s.events ∧ (s.wr a w).engs = s.engs ∧ (s.wr a w).grades = s.grades ∧
    (s.wr a w).commons = s.commons ∧ (s.wr a w).keeper = s.keeper ∧ (s.wr a w).hk = s.hk ∧
    (s.wr a w).backup = s.backup ∧ (s.wr a w).gauge = s.gauge ∧ (s.wr a w).rtc = s.rtc ∧ (s.wr a w).timer = s.timer ∧
    (s.wr a w).otpA = s.otpA ∧ (s.wr a w).otpB = s.otpB ∧ (s.wr a w).otpOp = s.otpOp ∧ (s.wr a w).gran = s.gran ∧
    (s.wr a w).stream = s.stream ∧ (s.wr a w).alert = s.alert ∧ (s.wr a w).reply = s.reply ∧
    (s.wr a w).hostHeld = s.hostHeld ∧ (s.wr a w).staged = s.staged ∧ (s.wr a w).snaps = s.snaps ∧
    (s.wr a w).keys = s.keys ∧ (s.wr a w).pending = s.pending :=
  by repeat' constructor

@[simp] theorem State.put_rest (p : Nat) (f : Fld) (v : Nat) :
    (s.put p f v).held = s.held ∧ (s.put p f v).powered = s.powered ∧ (s.put p f v).frame = s.frame ∧
    (s.put p f v).free = s.free ∧ (s.put p f v).rcUs = s.rcUs ∧ (s.put p f v).svc = s.svc ∧
    (s.put p f v).log = s.log ∧ (s.put p f v).fault = s.fault ∧ (s.put p f v).clock = s.clock ∧
    (s.put p f v).transit = s.transit ∧ (s.put p f v).phases = s.phases ∧ (s.put p f v).chans = s.chans ∧
    (s.put p f v).banks = s.banks ∧ (s.put p f v).accs = s.accs ∧ (s.put p f v).bankAccs = s.bankAccs ∧
    (s.put p f v).ledger = s.ledger ∧ (s.put p f v).recipes = s.recipes ∧ (s.put p f v).commits = s.commits ∧
    (s.put p f v).recOld = s.recOld ∧ (s.put p f v).memErr = s.memErr ∧ (s.put p f v).opened = s.opened ∧
    (s.put p f v).ended = s.ended ∧ (s.put p f v).events = s.events ∧ (s.put p f v).engs = s.engs ∧
    (s.put p f v).grades = s.grades ∧ (s.put p f v).commons = s.commons ∧ (s.put p f v).keeper = s.keeper ∧
    (s.put p f v).hk = s.hk ∧ (s.put p f v).backup = s.backup ∧ (s.put p f v).gauge = s.gauge ∧
    (s.put p f v).rtc = s.rtc ∧ (s.put p f v).timer = s.timer ∧ (s.put p f v).otpA = s.otpA ∧
    (s.put p f v).otpB = s.otpB ∧ (s.put p f v).otpOp = s.otpOp ∧ (s.put p f v).gran = s.gran ∧
    (s.put p f v).stream = s.stream ∧ (s.put p f v).alert = s.alert ∧ (s.put p f v).reply = s.reply ∧
    (s.put p f v).hostHeld = s.hostHeld ∧ (s.put p f v).staged = s.staged ∧ (s.put p f v).snaps = s.snaps ∧
    (s.put p f v).keys = s.keys ∧ (s.put p f v).pending = s.pending :=
  by repeat' constructor

@[simp] theorem State.puti_rest (p : Nat) (f : Fld) (v : Int) :
    (s.puti p f v).held = s.held ∧ (s.puti p f v).powered = s.powered ∧ (s.puti p f v).frame = s.frame ∧
    (s.puti p f v).free = s.free ∧ (s.puti p f v).rcUs = s.rcUs ∧ (s.puti p f v).svc = s.svc ∧
    (s.puti p f v).log = s.log ∧ (s.puti p f v).fault = s.fault ∧ (s.puti p f v).clock = s.clock ∧
    (s.puti p f v).transit = s.transit ∧ (s.puti p f v).phases = s.phases ∧ (s.puti p f v).chans = s.chans ∧
    (s.puti p f v).banks = s.banks ∧ (s.puti p f v).accs = s.accs ∧ (s.puti p f v).bankAccs = s.bankAccs ∧
    (s.puti p f v).ledger = s.ledger ∧ (s.puti p f v).recipes = s.recipes ∧ (s.puti p f v).commits = s.commits ∧
    (s.puti p f v).recOld = s.recOld ∧ (s.puti p f v).memErr = s.memErr ∧ (s.puti p f v).opened = s.opened ∧
    (s.puti p f v).ended = s.ended ∧ (s.puti p f v).events = s.events ∧ (s.puti p f v).engs = s.engs ∧
    (s.puti p f v).grades = s.grades ∧ (s.puti p f v).commons = s.commons ∧ (s.puti p f v).keeper = s.keeper ∧
    (s.puti p f v).hk = s.hk ∧ (s.puti p f v).backup = s.backup ∧ (s.puti p f v).gauge = s.gauge ∧
    (s.puti p f v).rtc = s.rtc ∧ (s.puti p f v).timer = s.timer ∧ (s.puti p f v).otpA = s.otpA ∧
    (s.puti p f v).otpB = s.otpB ∧ (s.puti p f v).otpOp = s.otpOp ∧ (s.puti p f v).gran = s.gran ∧
    (s.puti p f v).stream = s.stream ∧ (s.puti p f v).alert = s.alert ∧ (s.puti p f v).reply = s.reply ∧
    (s.puti p f v).hostHeld = s.hostHeld ∧ (s.puti p f v).staged = s.staged ∧ (s.puti p f v).snaps = s.snaps ∧
    (s.puti p f v).keys = s.keys ∧ (s.puti p f v).pending = s.pending :=
  by repeat' constructor

@[simp] theorem State.putSat_rest (p : Nat) (f : Fld) (v : Int) :
    (s.putSat p f v).held = s.held ∧ (s.putSat p f v).powered = s.powered ∧ (s.putSat p f v).frame = s.frame ∧
    (s.putSat p f v).free = s.free ∧ (s.putSat p f v).rcUs = s.rcUs ∧ (s.putSat p f v).svc = s.svc ∧
    (s.putSat p f v).log = s.log ∧ (s.putSat p f v).fault = s.fault ∧ (s.putSat p f v).clock = s.clock ∧
    (s.putSat p f v).transit = s.transit ∧ (s.putSat p f v).phases = s.phases ∧ (s.putSat p f v).chans = s.chans ∧
    (s.putSat p f v).banks = s.banks ∧ (s.putSat p f v).accs = s.accs ∧ (s.putSat p f v).bankAccs = s.bankAccs ∧
    (s.putSat p f v).ledger = s.ledger ∧ (s.putSat p f v).recipes = s.recipes ∧ (s.putSat p f v).commits = s.commits ∧
    (s.putSat p f v).recOld = s.recOld ∧ (s.putSat p f v).memErr = s.memErr ∧ (s.putSat p f v).opened = s.opened ∧
    (s.putSat p f v).ended = s.ended ∧ (s.putSat p f v).events = s.events ∧ (s.putSat p f v).engs = s.engs ∧
    (s.putSat p f v).grades = s.grades ∧ (s.putSat p f v).commons = s.commons ∧ (s.putSat p f v).keeper = s.keeper ∧
    (s.putSat p f v).hk = s.hk ∧ (s.putSat p f v).backup = s.backup ∧ (s.putSat p f v).gauge = s.gauge ∧
    (s.putSat p f v).rtc = s.rtc ∧ (s.putSat p f v).timer = s.timer ∧ (s.putSat p f v).otpA = s.otpA ∧
    (s.putSat p f v).otpB = s.otpB ∧ (s.putSat p f v).otpOp = s.otpOp ∧ (s.putSat p f v).gran = s.gran ∧
    (s.putSat p f v).stream = s.stream ∧ (s.putSat p f v).alert = s.alert ∧ (s.putSat p f v).reply = s.reply ∧
    (s.putSat p f v).hostHeld = s.hostHeld ∧ (s.putSat p f v).staged = s.staged ∧ (s.putSat p f v).snaps = s.snaps ∧
    (s.putSat p f v).keys = s.keys ∧ (s.putSat p f v).pending = s.pending :=
  by repeat' constructor

@[simp] theorem State.putb_rest (p : Nat) (f : Fld) (b : Bool) :
    (s.putb p f b).held = s.held ∧ (s.putb p f b).powered = s.powered ∧ (s.putb p f b).frame = s.frame ∧
    (s.putb p f b).free = s.free ∧ (s.putb p f b).rcUs = s.rcUs ∧ (s.putb p f b).svc = s.svc ∧
    (s.putb p f b).log = s.log ∧ (s.putb p f b).fault = s.fault ∧ (s.putb p f b).clock = s.clock ∧
    (s.putb p f b).transit = s.transit ∧ (s.putb p f b).phases = s.phases ∧ (s.putb p f b).chans = s.chans ∧
    (s.putb p f b).banks = s.banks ∧ (s.putb p f b).accs = s.accs ∧ (s.putb p f b).bankAccs = s.bankAccs ∧
    (s.putb p f b).ledger = s.ledger ∧ (s.putb p f b).recipes = s.recipes ∧ (s.putb p f b).commits = s.commits ∧
    (s.putb p f b).recOld = s.recOld ∧ (s.putb p f b).memErr = s.memErr ∧ (s.putb p f b).opened = s.opened ∧
    (s.putb p f b).ended = s.ended ∧ (s.putb p f b).events = s.events ∧ (s.putb p f b).engs = s.engs ∧
    (s.putb p f b).grades = s.grades ∧ (s.putb p f b).commons = s.commons ∧ (s.putb p f b).keeper = s.keeper ∧
    (s.putb p f b).hk = s.hk ∧ (s.putb p f b).backup = s.backup ∧ (s.putb p f b).gauge = s.gauge ∧
    (s.putb p f b).rtc = s.rtc ∧ (s.putb p f b).timer = s.timer ∧ (s.putb p f b).otpA = s.otpA ∧
    (s.putb p f b).otpB = s.otpB ∧ (s.putb p f b).otpOp = s.otpOp ∧ (s.putb p f b).gran = s.gran ∧
    (s.putb p f b).stream = s.stream ∧ (s.putb p f b).alert = s.alert ∧ (s.putb p f b).reply = s.reply ∧
    (s.putb p f b).hostHeld = s.hostHeld ∧ (s.putb p f b).staged = s.staged ∧ (s.putb p f b).snaps = s.snaps ∧
    (s.putb p f b).keys = s.keys ∧ (s.putb p f b).pending = s.pending :=
  by repeat' constructor

@[simp] theorem State.addCount_rest (p : Nat) (f : Fld) (n : Nat) :
    (s.addCount p f n).held = s.held ∧ (s.addCount p f n).powered = s.powered ∧ (s.addCount p f n).frame = s.frame ∧
    (s.addCount p f n).free = s.free ∧ (s.addCount p f n).rcUs = s.rcUs ∧ (s.addCount p f n).svc = s.svc ∧
    (s.addCount p f n).log = s.log ∧ (s.addCount p f n).fault = s.fault ∧ (s.addCount p f n).clock = s.clock ∧
    (s.addCount p f n).transit = s.transit ∧ (s.addCount p f n).phases = s.phases ∧
    (s.addCount p f n).chans = s.chans ∧ (s.addCount p f n).banks = s.banks ∧ (s.addCount p f n).accs = s.accs ∧
    (s.addCount p f n).bankAccs = s.bankAccs ∧ (s.addCount p f n).ledger = s.ledger ∧
    (s.addCount p f n).recipes = s.recipes ∧ (s.addCount p f n).commits = s.commits ∧
    (s.addCount p f n).recOld = s.recOld ∧ (s.addCount p f n).memErr = s.memErr ∧
    (s.addCount p f n).opened = s.opened ∧ (s.addCount p f n).ended = s.ended ∧ (s.addCount p f n).events = s.events ∧
    (s.addCount p f n).engs = s.engs ∧ (s.addCount p f n).grades = s.grades ∧ (s.addCount p f n).commons = s.commons ∧
    (s.addCount p f n).keeper = s.keeper ∧ (s.addCount p f n).hk = s.hk ∧ (s.addCount p f n).backup = s.backup ∧
    (s.addCount p f n).gauge = s.gauge ∧ (s.addCount p f n).rtc = s.rtc ∧ (s.addCount p f n).timer = s.timer ∧
    (s.addCount p f n).otpA = s.otpA ∧ (s.addCount p f n).otpB = s.otpB ∧ (s.addCount p f n).otpOp = s.otpOp ∧
    (s.addCount p f n).gran = s.gran ∧ (s.addCount p f n).stream = s.stream ∧ (s.addCount p f n).alert = s.alert ∧
    (s.addCount p f n).reply = s.reply ∧ (s.addCount p f n).hostHeld = s.hostHeld ∧
    (s.addCount p f n).staged = s.staged ∧ (s.addCount p f n).snaps = s.snaps ∧ (s.addCount p f n).keys = s.keys ∧
    (s.addCount p f n).pending = s.pending :=
  by repeat' constructor

@[simp] theorem State.bump_rest (p : Nat) (f : Fld) :
    (s.bump p f).held = s.held ∧ (s.bump p f).powered = s.powered ∧ (s.bump p f).frame = s.frame ∧
    (s.bump p f).free = s.free ∧ (s.bump p f).rcUs = s.rcUs ∧ (s.bump p f).svc = s.svc ∧ (s.bump p f).log = s.log ∧
    (s.bump p f).fault = s.fault ∧ (s.bump p f).clock = s.clock ∧ (s.bump p f).transit = s.transit ∧
    (s.bump p f).phases = s.phases ∧ (s.bump p f).chans = s.chans ∧ (s.bump p f).banks = s.banks ∧
    (s.bump p f).accs = s.accs ∧ (s.bump p f).bankAccs = s.bankAccs ∧ (s.bump p f).ledger = s.ledger ∧
    (s.bump p f).recipes = s.recipes ∧ (s.bump p f).commits = s.commits ∧ (s.bump p f).recOld = s.recOld ∧
    (s.bump p f).memErr = s.memErr ∧ (s.bump p f).opened = s.opened ∧ (s.bump p f).ended = s.ended ∧
    (s.bump p f).events = s.events ∧ (s.bump p f).engs = s.engs ∧ (s.bump p f).grades = s.grades ∧
    (s.bump p f).commons = s.commons ∧ (s.bump p f).keeper = s.keeper ∧ (s.bump p f).hk = s.hk ∧
    (s.bump p f).backup = s.backup ∧ (s.bump p f).gauge = s.gauge ∧ (s.bump p f).rtc = s.rtc ∧
    (s.bump p f).timer = s.timer ∧ (s.bump p f).otpA = s.otpA ∧ (s.bump p f).otpB = s.otpB ∧
    (s.bump p f).otpOp = s.otpOp ∧ (s.bump p f).gran = s.gran ∧ (s.bump p f).stream = s.stream ∧
    (s.bump p f).alert = s.alert ∧ (s.bump p f).reply = s.reply ∧ (s.bump p f).hostHeld = s.hostHeld ∧
    (s.bump p f).staged = s.staged ∧ (s.bump p f).snaps = s.snaps ∧ (s.bump p f).keys = s.keys ∧
    (s.bump p f).pending = s.pending :=
  by repeat' constructor

@[simp] theorem State.bumpWrap_rest (p : Nat) (f : Fld) :
    (s.bumpWrap p f).held = s.held ∧ (s.bumpWrap p f).powered = s.powered ∧ (s.bumpWrap p f).frame = s.frame ∧
    (s.bumpWrap p f).free = s.free ∧ (s.bumpWrap p f).rcUs = s.rcUs ∧ (s.bumpWrap p f).svc = s.svc ∧
    (s.bumpWrap p f).log = s.log ∧ (s.bumpWrap p f).fault = s.fault ∧ (s.bumpWrap p f).clock = s.clock ∧
    (s.bumpWrap p f).transit = s.transit ∧ (s.bumpWrap p f).phases = s.phases ∧ (s.bumpWrap p f).chans = s.chans ∧
    (s.bumpWrap p f).banks = s.banks ∧ (s.bumpWrap p f).accs = s.accs ∧ (s.bumpWrap p f).bankAccs = s.bankAccs ∧
    (s.bumpWrap p f).ledger = s.ledger ∧ (s.bumpWrap p f).recipes = s.recipes ∧ (s.bumpWrap p f).commits = s.commits ∧
    (s.bumpWrap p f).recOld = s.recOld ∧ (s.bumpWrap p f).memErr = s.memErr ∧ (s.bumpWrap p f).opened = s.opened ∧
    (s.bumpWrap p f).ended = s.ended ∧ (s.bumpWrap p f).events = s.events ∧ (s.bumpWrap p f).engs = s.engs ∧
    (s.bumpWrap p f).grades = s.grades ∧ (s.bumpWrap p f).commons = s.commons ∧ (s.bumpWrap p f).keeper = s.keeper ∧
    (s.bumpWrap p f).hk = s.hk ∧ (s.bumpWrap p f).backup = s.backup ∧ (s.bumpWrap p f).gauge = s.gauge ∧
    (s.bumpWrap p f).rtc = s.rtc ∧ (s.bumpWrap p f).timer = s.timer ∧ (s.bumpWrap p f).otpA = s.otpA ∧
    (s.bumpWrap p f).otpB = s.otpB ∧ (s.bumpWrap p f).otpOp = s.otpOp ∧ (s.bumpWrap p f).gran = s.gran ∧
    (s.bumpWrap p f).stream = s.stream ∧ (s.bumpWrap p f).alert = s.alert ∧ (s.bumpWrap p f).reply = s.reply ∧
    (s.bumpWrap p f).hostHeld = s.hostHeld ∧ (s.bumpWrap p f).staged = s.staged ∧ (s.bumpWrap p f).snaps = s.snaps ∧
    (s.bumpWrap p f).keys = s.keys ∧ (s.bumpWrap p f).pending = s.pending :=
  by repeat' constructor

@[simp] theorem State.put64_rest (p : Nat) (lo hi : Fld) (v : Nat) :
    (s.put64 p lo hi v).held = s.held ∧ (s.put64 p lo hi v).powered = s.powered ∧
    (s.put64 p lo hi v).frame = s.frame ∧ (s.put64 p lo hi v).free = s.free ∧ (s.put64 p lo hi v).rcUs = s.rcUs ∧
    (s.put64 p lo hi v).svc = s.svc ∧ (s.put64 p lo hi v).log = s.log ∧ (s.put64 p lo hi v).fault = s.fault ∧
    (s.put64 p lo hi v).clock = s.clock ∧ (s.put64 p lo hi v).transit = s.transit ∧
    (s.put64 p lo hi v).phases = s.phases ∧ (s.put64 p lo hi v).chans = s.chans ∧
    (s.put64 p lo hi v).banks = s.banks ∧ (s.put64 p lo hi v).accs = s.accs ∧
    (s.put64 p lo hi v).bankAccs = s.bankAccs ∧ (s.put64 p lo hi v).ledger = s.ledger ∧
    (s.put64 p lo hi v).recipes = s.recipes ∧ (s.put64 p lo hi v).commits = s.commits ∧
    (s.put64 p lo hi v).recOld = s.recOld ∧ (s.put64 p lo hi v).memErr = s.memErr ∧
    (s.put64 p lo hi v).opened = s.opened ∧ (s.put64 p lo hi v).ended = s.ended ∧
    (s.put64 p lo hi v).events = s.events ∧ (s.put64 p lo hi v).engs = s.engs ∧
    (s.put64 p lo hi v).grades = s.grades ∧ (s.put64 p lo hi v).commons = s.commons ∧
    (s.put64 p lo hi v).keeper = s.keeper ∧ (s.put64 p lo hi v).hk = s.hk ∧ (s.put64 p lo hi v).backup = s.backup ∧
    (s.put64 p lo hi v).gauge = s.gauge ∧ (s.put64 p lo hi v).rtc = s.rtc ∧ (s.put64 p lo hi v).timer = s.timer ∧
    (s.put64 p lo hi v).otpA = s.otpA ∧ (s.put64 p lo hi v).otpB = s.otpB ∧ (s.put64 p lo hi v).otpOp = s.otpOp ∧
    (s.put64 p lo hi v).gran = s.gran ∧ (s.put64 p lo hi v).stream = s.stream ∧ (s.put64 p lo hi v).alert = s.alert ∧
    (s.put64 p lo hi v).reply = s.reply ∧ (s.put64 p lo hi v).hostHeld = s.hostHeld ∧
    (s.put64 p lo hi v).staged = s.staged ∧ (s.put64 p lo hi v).snaps = s.snaps ∧ (s.put64 p lo hi v).keys = s.keys ∧
    (s.put64 p lo hi v).pending = s.pending :=
  by repeat' constructor

@[simp] theorem State.event_rest (p k : Nat) :
    (s.event p k).held = s.held ∧ (s.event p k).powered = s.powered ∧ (s.event p k).frame = s.frame ∧
    (s.event p k).free = s.free ∧ (s.event p k).rcUs = s.rcUs ∧ (s.event p k).svc = s.svc ∧
    (s.event p k).log = s.log ∧ (s.event p k).fault = s.fault ∧ (s.event p k).clock = s.clock ∧
    (s.event p k).transit = s.transit ∧ (s.event p k).phases = s.phases ∧ (s.event p k).chans = s.chans ∧
    (s.event p k).banks = s.banks ∧ (s.event p k).accs = s.accs ∧ (s.event p k).bankAccs = s.bankAccs ∧
    (s.event p k).ledger = s.ledger ∧ (s.event p k).recipes = s.recipes ∧ (s.event p k).commits = s.commits ∧
    (s.event p k).recOld = s.recOld ∧ (s.event p k).memErr = s.memErr ∧ (s.event p k).opened = s.opened ∧
    (s.event p k).ended = s.ended ∧ (s.event p k).events = s.events ∧ (s.event p k).engs = s.engs ∧
    (s.event p k).grades = s.grades ∧ (s.event p k).commons = s.commons ∧ (s.event p k).keeper = s.keeper ∧
    (s.event p k).hk = s.hk ∧ (s.event p k).backup = s.backup ∧ (s.event p k).gauge = s.gauge ∧
    (s.event p k).rtc = s.rtc ∧ (s.event p k).timer = s.timer ∧ (s.event p k).otpA = s.otpA ∧
    (s.event p k).otpB = s.otpB ∧ (s.event p k).otpOp = s.otpOp ∧ (s.event p k).gran = s.gran ∧
    (s.event p k).stream = s.stream ∧ (s.event p k).alert = s.alert ∧ (s.event p k).reply = s.reply ∧
    (s.event p k).hostHeld = s.hostHeld ∧ (s.event p k).staged = s.staged ∧ (s.event p k).snaps = s.snaps ∧
    (s.event p k).keys = s.keys ∧ (s.event p k).pending = s.pending :=
  by repeat' constructor

@[simp] theorem State.putBit_rest (p : Nat) (f : Fld) (k : Nat) (b : Bool) :
    (s.putBit p f k b).held = s.held ∧ (s.putBit p f k b).powered = s.powered ∧ (s.putBit p f k b).frame = s.frame ∧
    (s.putBit p f k b).free = s.free ∧ (s.putBit p f k b).rcUs = s.rcUs ∧ (s.putBit p f k b).svc = s.svc ∧
    (s.putBit p f k b).log = s.log ∧ (s.putBit p f k b).fault = s.fault ∧ (s.putBit p f k b).clock = s.clock ∧
    (s.putBit p f k b).transit = s.transit ∧ (s.putBit p f k b).phases = s.phases ∧
    (s.putBit p f k b).chans = s.chans ∧ (s.putBit p f k b).banks = s.banks ∧ (s.putBit p f k b).accs = s.accs ∧
    (s.putBit p f k b).bankAccs = s.bankAccs ∧ (s.putBit p f k b).ledger = s.ledger ∧
    (s.putBit p f k b).recipes = s.recipes ∧ (s.putBit p f k b).commits = s.commits ∧
    (s.putBit p f k b).recOld = s.recOld ∧ (s.putBit p f k b).memErr = s.memErr ∧
    (s.putBit p f k b).opened = s.opened ∧ (s.putBit p f k b).ended = s.ended ∧ (s.putBit p f k b).events = s.events ∧
    (s.putBit p f k b).engs = s.engs ∧ (s.putBit p f k b).grades = s.grades ∧ (s.putBit p f k b).commons = s.commons ∧
    (s.putBit p f k b).keeper = s.keeper ∧ (s.putBit p f k b).hk = s.hk ∧ (s.putBit p f k b).backup = s.backup ∧
    (s.putBit p f k b).gauge = s.gauge ∧ (s.putBit p f k b).rtc = s.rtc ∧ (s.putBit p f k b).timer = s.timer ∧
    (s.putBit p f k b).otpA = s.otpA ∧ (s.putBit p f k b).otpB = s.otpB ∧ (s.putBit p f k b).otpOp = s.otpOp ∧
    (s.putBit p f k b).gran = s.gran ∧ (s.putBit p f k b).stream = s.stream ∧ (s.putBit p f k b).alert = s.alert ∧
    (s.putBit p f k b).reply = s.reply ∧ (s.putBit p f k b).hostHeld = s.hostHeld ∧
    (s.putBit p f k b).staged = s.staged ∧ (s.putBit p f k b).snaps = s.snaps ∧ (s.putBit p f k b).keys = s.keys ∧
    (s.putBit p f k b).pending = s.pending :=
  by repeat' constructor

@[simp] theorem State.resetReg_rest (p off : Nat) :
    (s.resetReg p off).held = s.held ∧ (s.resetReg p off).powered = s.powered ∧ (s.resetReg p off).frame = s.frame ∧
    (s.resetReg p off).free = s.free ∧ (s.resetReg p off).rcUs = s.rcUs ∧ (s.resetReg p off).svc = s.svc ∧
    (s.resetReg p off).log = s.log ∧ (s.resetReg p off).fault = s.fault ∧ (s.resetReg p off).clock = s.clock ∧
    (s.resetReg p off).transit = s.transit ∧ (s.resetReg p off).phases = s.phases ∧
    (s.resetReg p off).chans = s.chans ∧ (s.resetReg p off).banks = s.banks ∧ (s.resetReg p off).accs = s.accs ∧
    (s.resetReg p off).bankAccs = s.bankAccs ∧ (s.resetReg p off).ledger = s.ledger ∧
    (s.resetReg p off).recipes = s.recipes ∧ (s.resetReg p off).commits = s.commits ∧
    (s.resetReg p off).recOld = s.recOld ∧ (s.resetReg p off).memErr = s.memErr ∧
    (s.resetReg p off).opened = s.opened ∧ (s.resetReg p off).ended = s.ended ∧ (s.resetReg p off).events = s.events ∧
    (s.resetReg p off).engs = s.engs ∧ (s.resetReg p off).grades = s.grades ∧ (s.resetReg p off).commons = s.commons ∧
    (s.resetReg p off).keeper = s.keeper ∧ (s.resetReg p off).hk = s.hk ∧ (s.resetReg p off).backup = s.backup ∧
    (s.resetReg p off).gauge = s.gauge ∧ (s.resetReg p off).rtc = s.rtc ∧ (s.resetReg p off).timer = s.timer ∧
    (s.resetReg p off).otpA = s.otpA ∧ (s.resetReg p off).otpB = s.otpB ∧ (s.resetReg p off).otpOp = s.otpOp ∧
    (s.resetReg p off).gran = s.gran ∧ (s.resetReg p off).stream = s.stream ∧ (s.resetReg p off).alert = s.alert ∧
    (s.resetReg p off).reply = s.reply ∧ (s.resetReg p off).hostHeld = s.hostHeld ∧
    (s.resetReg p off).staged = s.staged ∧ (s.resetReg p off).snaps = s.snaps ∧ (s.resetReg p off).keys = s.keys ∧
    (s.resetReg p off).pending = s.pending :=
  by repeat' constructor

@[simp] theorem State.setPhase_rest (p : Nat) (x : PhaseState) :
    (s.setPhase p x).regs = s.regs ∧ (s.setPhase p x).held = s.held ∧ (s.setPhase p x).powered = s.powered ∧
    (s.setPhase p x).frame = s.frame ∧ (s.setPhase p x).free = s.free ∧ (s.setPhase p x).rcUs = s.rcUs ∧
    (s.setPhase p x).svc = s.svc ∧ (s.setPhase p x).log = s.log ∧ (s.setPhase p x).fault = s.fault ∧
    (s.setPhase p x).clock = s.clock ∧ (s.setPhase p x).transit = s.transit ∧ (s.setPhase p x).chans = s.chans ∧
    (s.setPhase p x).banks = s.banks ∧ (s.setPhase p x).accs = s.accs ∧ (s.setPhase p x).bankAccs = s.bankAccs ∧
    (s.setPhase p x).ledger = s.ledger ∧ (s.setPhase p x).recipes = s.recipes ∧ (s.setPhase p x).commits = s.commits ∧
    (s.setPhase p x).recOld = s.recOld ∧ (s.setPhase p x).memErr = s.memErr ∧ (s.setPhase p x).opened = s.opened ∧
    (s.setPhase p x).ended = s.ended ∧ (s.setPhase p x).events = s.events ∧ (s.setPhase p x).engs = s.engs ∧
    (s.setPhase p x).grades = s.grades ∧ (s.setPhase p x).commons = s.commons ∧ (s.setPhase p x).keeper = s.keeper ∧
    (s.setPhase p x).hk = s.hk ∧ (s.setPhase p x).backup = s.backup ∧ (s.setPhase p x).gauge = s.gauge ∧
    (s.setPhase p x).rtc = s.rtc ∧ (s.setPhase p x).timer = s.timer ∧ (s.setPhase p x).otpA = s.otpA ∧
    (s.setPhase p x).otpB = s.otpB ∧ (s.setPhase p x).otpOp = s.otpOp ∧ (s.setPhase p x).gran = s.gran ∧
    (s.setPhase p x).stream = s.stream ∧ (s.setPhase p x).alert = s.alert ∧ (s.setPhase p x).reply = s.reply ∧
    (s.setPhase p x).hostHeld = s.hostHeld ∧ (s.setPhase p x).staged = s.staged ∧ (s.setPhase p x).snaps = s.snaps ∧
    (s.setPhase p x).keys = s.keys ∧ (s.setPhase p x).pending = s.pending :=
  by repeat' constructor

@[simp] theorem State.setChan_rest (c : Nat) (x : ChanState) :
    (s.setChan c x).regs = s.regs ∧ (s.setChan c x).held = s.held ∧ (s.setChan c x).powered = s.powered ∧
    (s.setChan c x).frame = s.frame ∧ (s.setChan c x).free = s.free ∧ (s.setChan c x).rcUs = s.rcUs ∧
    (s.setChan c x).svc = s.svc ∧ (s.setChan c x).log = s.log ∧ (s.setChan c x).fault = s.fault ∧
    (s.setChan c x).clock = s.clock ∧ (s.setChan c x).transit = s.transit ∧ (s.setChan c x).phases = s.phases ∧
    (s.setChan c x).banks = s.banks ∧ (s.setChan c x).accs = s.accs ∧ (s.setChan c x).bankAccs = s.bankAccs ∧
    (s.setChan c x).ledger = s.ledger ∧ (s.setChan c x).recipes = s.recipes ∧ (s.setChan c x).commits = s.commits ∧
    (s.setChan c x).recOld = s.recOld ∧ (s.setChan c x).memErr = s.memErr ∧ (s.setChan c x).opened = s.opened ∧
    (s.setChan c x).ended = s.ended ∧ (s.setChan c x).events = s.events ∧ (s.setChan c x).engs = s.engs ∧
    (s.setChan c x).grades = s.grades ∧ (s.setChan c x).commons = s.commons ∧ (s.setChan c x).keeper = s.keeper ∧
    (s.setChan c x).hk = s.hk ∧ (s.setChan c x).backup = s.backup ∧ (s.setChan c x).gauge = s.gauge ∧
    (s.setChan c x).rtc = s.rtc ∧ (s.setChan c x).timer = s.timer ∧ (s.setChan c x).otpA = s.otpA ∧
    (s.setChan c x).otpB = s.otpB ∧ (s.setChan c x).otpOp = s.otpOp ∧ (s.setChan c x).gran = s.gran ∧
    (s.setChan c x).stream = s.stream ∧ (s.setChan c x).alert = s.alert ∧ (s.setChan c x).reply = s.reply ∧
    (s.setChan c x).hostHeld = s.hostHeld ∧ (s.setChan c x).staged = s.staged ∧ (s.setChan c x).snaps = s.snaps ∧
    (s.setChan c x).keys = s.keys ∧ (s.setChan c x).pending = s.pending :=
  by repeat' constructor

@[simp] theorem State.setBank_rest (b : Nat) (x : BankState) :
    (s.setBank b x).regs = s.regs ∧ (s.setBank b x).held = s.held ∧ (s.setBank b x).powered = s.powered ∧
    (s.setBank b x).frame = s.frame ∧ (s.setBank b x).free = s.free ∧ (s.setBank b x).rcUs = s.rcUs ∧
    (s.setBank b x).svc = s.svc ∧ (s.setBank b x).log = s.log ∧ (s.setBank b x).fault = s.fault ∧
    (s.setBank b x).clock = s.clock ∧ (s.setBank b x).transit = s.transit ∧ (s.setBank b x).phases = s.phases ∧
    (s.setBank b x).chans = s.chans ∧ (s.setBank b x).accs = s.accs ∧ (s.setBank b x).bankAccs = s.bankAccs ∧
    (s.setBank b x).ledger = s.ledger ∧ (s.setBank b x).recipes = s.recipes ∧ (s.setBank b x).commits = s.commits ∧
    (s.setBank b x).recOld = s.recOld ∧ (s.setBank b x).memErr = s.memErr ∧ (s.setBank b x).opened = s.opened ∧
    (s.setBank b x).ended = s.ended ∧ (s.setBank b x).events = s.events ∧ (s.setBank b x).engs = s.engs ∧
    (s.setBank b x).grades = s.grades ∧ (s.setBank b x).commons = s.commons ∧ (s.setBank b x).keeper = s.keeper ∧
    (s.setBank b x).hk = s.hk ∧ (s.setBank b x).backup = s.backup ∧ (s.setBank b x).gauge = s.gauge ∧
    (s.setBank b x).rtc = s.rtc ∧ (s.setBank b x).timer = s.timer ∧ (s.setBank b x).otpA = s.otpA ∧
    (s.setBank b x).otpB = s.otpB ∧ (s.setBank b x).otpOp = s.otpOp ∧ (s.setBank b x).gran = s.gran ∧
    (s.setBank b x).stream = s.stream ∧ (s.setBank b x).alert = s.alert ∧ (s.setBank b x).reply = s.reply ∧
    (s.setBank b x).hostHeld = s.hostHeld ∧ (s.setBank b x).staged = s.staged ∧ (s.setBank b x).snaps = s.snaps ∧
    (s.setBank b x).keys = s.keys ∧ (s.setBank b x).pending = s.pending :=
  by repeat' constructor

@[simp] theorem State.setAcc_rest (c : Nat) (x : ChanAcc) :
    (s.setAcc c x).regs = s.regs ∧ (s.setAcc c x).held = s.held ∧ (s.setAcc c x).powered = s.powered ∧
    (s.setAcc c x).frame = s.frame ∧ (s.setAcc c x).free = s.free ∧ (s.setAcc c x).rcUs = s.rcUs ∧
    (s.setAcc c x).svc = s.svc ∧ (s.setAcc c x).log = s.log ∧ (s.setAcc c x).fault = s.fault ∧
    (s.setAcc c x).clock = s.clock ∧ (s.setAcc c x).transit = s.transit ∧ (s.setAcc c x).phases = s.phases ∧
    (s.setAcc c x).chans = s.chans ∧ (s.setAcc c x).banks = s.banks ∧ (s.setAcc c x).bankAccs = s.bankAccs ∧
    (s.setAcc c x).ledger = s.ledger ∧ (s.setAcc c x).recipes = s.recipes ∧ (s.setAcc c x).commits = s.commits ∧
    (s.setAcc c x).recOld = s.recOld ∧ (s.setAcc c x).memErr = s.memErr ∧ (s.setAcc c x).opened = s.opened ∧
    (s.setAcc c x).ended = s.ended ∧ (s.setAcc c x).events = s.events ∧ (s.setAcc c x).engs = s.engs ∧
    (s.setAcc c x).grades = s.grades ∧ (s.setAcc c x).commons = s.commons ∧ (s.setAcc c x).keeper = s.keeper ∧
    (s.setAcc c x).hk = s.hk ∧ (s.setAcc c x).backup = s.backup ∧ (s.setAcc c x).gauge = s.gauge ∧
    (s.setAcc c x).rtc = s.rtc ∧ (s.setAcc c x).timer = s.timer ∧ (s.setAcc c x).otpA = s.otpA ∧
    (s.setAcc c x).otpB = s.otpB ∧ (s.setAcc c x).otpOp = s.otpOp ∧ (s.setAcc c x).gran = s.gran ∧
    (s.setAcc c x).stream = s.stream ∧ (s.setAcc c x).alert = s.alert ∧ (s.setAcc c x).reply = s.reply ∧
    (s.setAcc c x).hostHeld = s.hostHeld ∧ (s.setAcc c x).staged = s.staged ∧ (s.setAcc c x).snaps = s.snaps ∧
    (s.setAcc c x).keys = s.keys ∧ (s.setAcc c x).pending = s.pending :=
  by repeat' constructor

@[simp] theorem State.setBankAcc_rest (b : Nat) (x : BankAcc) :
    (s.setBankAcc b x).regs = s.regs ∧ (s.setBankAcc b x).held = s.held ∧ (s.setBankAcc b x).powered = s.powered ∧
    (s.setBankAcc b x).frame = s.frame ∧ (s.setBankAcc b x).free = s.free ∧ (s.setBankAcc b x).rcUs = s.rcUs ∧
    (s.setBankAcc b x).svc = s.svc ∧ (s.setBankAcc b x).log = s.log ∧ (s.setBankAcc b x).fault = s.fault ∧
    (s.setBankAcc b x).clock = s.clock ∧ (s.setBankAcc b x).transit = s.transit ∧
    (s.setBankAcc b x).phases = s.phases ∧ (s.setBankAcc b x).chans = s.chans ∧ (s.setBankAcc b x).banks = s.banks ∧
    (s.setBankAcc b x).accs = s.accs ∧ (s.setBankAcc b x).ledger = s.ledger ∧ (s.setBankAcc b x).recipes = s.recipes ∧
    (s.setBankAcc b x).commits = s.commits ∧ (s.setBankAcc b x).recOld = s.recOld ∧
    (s.setBankAcc b x).memErr = s.memErr ∧ (s.setBankAcc b x).opened = s.opened ∧ (s.setBankAcc b x).ended = s.ended ∧
    (s.setBankAcc b x).events = s.events ∧ (s.setBankAcc b x).engs = s.engs ∧ (s.setBankAcc b x).grades = s.grades ∧
    (s.setBankAcc b x).commons = s.commons ∧ (s.setBankAcc b x).keeper = s.keeper ∧ (s.setBankAcc b x).hk = s.hk ∧
    (s.setBankAcc b x).backup = s.backup ∧ (s.setBankAcc b x).gauge = s.gauge ∧ (s.setBankAcc b x).rtc = s.rtc ∧
    (s.setBankAcc b x).timer = s.timer ∧ (s.setBankAcc b x).otpA = s.otpA ∧ (s.setBankAcc b x).otpB = s.otpB ∧
    (s.setBankAcc b x).otpOp = s.otpOp ∧ (s.setBankAcc b x).gran = s.gran ∧ (s.setBankAcc b x).stream = s.stream ∧
    (s.setBankAcc b x).alert = s.alert ∧ (s.setBankAcc b x).reply = s.reply ∧
    (s.setBankAcc b x).hostHeld = s.hostHeld ∧ (s.setBankAcc b x).staged = s.staged ∧
    (s.setBankAcc b x).snaps = s.snaps ∧ (s.setBankAcc b x).keys = s.keys ∧ (s.setBankAcc b x).pending = s.pending :=
  by repeat' constructor

@[simp] theorem State.setRecipe_rest (c : Nat) (x : RecipeState) :
    (s.setRecipe c x).regs = s.regs ∧ (s.setRecipe c x).held = s.held ∧ (s.setRecipe c x).powered = s.powered ∧
    (s.setRecipe c x).frame = s.frame ∧ (s.setRecipe c x).free = s.free ∧ (s.setRecipe c x).rcUs = s.rcUs ∧
    (s.setRecipe c x).svc = s.svc ∧ (s.setRecipe c x).log = s.log ∧ (s.setRecipe c x).fault = s.fault ∧
    (s.setRecipe c x).clock = s.clock ∧ (s.setRecipe c x).transit = s.transit ∧ (s.setRecipe c x).phases = s.phases ∧
    (s.setRecipe c x).chans = s.chans ∧ (s.setRecipe c x).banks = s.banks ∧ (s.setRecipe c x).accs = s.accs ∧
    (s.setRecipe c x).bankAccs = s.bankAccs ∧ (s.setRecipe c x).ledger = s.ledger ∧
    (s.setRecipe c x).commits = s.commits ∧ (s.setRecipe c x).recOld = s.recOld ∧
    (s.setRecipe c x).memErr = s.memErr ∧ (s.setRecipe c x).opened = s.opened ∧ (s.setRecipe c x).ended = s.ended ∧
    (s.setRecipe c x).events = s.events ∧ (s.setRecipe c x).engs = s.engs ∧ (s.setRecipe c x).grades = s.grades ∧
    (s.setRecipe c x).commons = s.commons ∧ (s.setRecipe c x).keeper = s.keeper ∧ (s.setRecipe c x).hk = s.hk ∧
    (s.setRecipe c x).backup = s.backup ∧ (s.setRecipe c x).gauge = s.gauge ∧ (s.setRecipe c x).rtc = s.rtc ∧
    (s.setRecipe c x).timer = s.timer ∧ (s.setRecipe c x).otpA = s.otpA ∧ (s.setRecipe c x).otpB = s.otpB ∧
    (s.setRecipe c x).otpOp = s.otpOp ∧ (s.setRecipe c x).gran = s.gran ∧ (s.setRecipe c x).stream = s.stream ∧
    (s.setRecipe c x).alert = s.alert ∧ (s.setRecipe c x).reply = s.reply ∧ (s.setRecipe c x).hostHeld = s.hostHeld ∧
    (s.setRecipe c x).staged = s.staged ∧ (s.setRecipe c x).snaps = s.snaps ∧ (s.setRecipe c x).keys = s.keys ∧
    (s.setRecipe c x).pending = s.pending :=
  by repeat' constructor

@[simp] theorem State.setEng_rest (e : Nat) (x : EngState) :
    (s.setEng e x).regs = s.regs ∧ (s.setEng e x).held = s.held ∧ (s.setEng e x).powered = s.powered ∧
    (s.setEng e x).frame = s.frame ∧ (s.setEng e x).free = s.free ∧ (s.setEng e x).rcUs = s.rcUs ∧
    (s.setEng e x).svc = s.svc ∧ (s.setEng e x).log = s.log ∧ (s.setEng e x).fault = s.fault ∧
    (s.setEng e x).clock = s.clock ∧ (s.setEng e x).transit = s.transit ∧ (s.setEng e x).phases = s.phases ∧
    (s.setEng e x).chans = s.chans ∧ (s.setEng e x).banks = s.banks ∧ (s.setEng e x).accs = s.accs ∧
    (s.setEng e x).bankAccs = s.bankAccs ∧ (s.setEng e x).ledger = s.ledger ∧ (s.setEng e x).recipes = s.recipes ∧
    (s.setEng e x).commits = s.commits ∧ (s.setEng e x).recOld = s.recOld ∧ (s.setEng e x).memErr = s.memErr ∧
    (s.setEng e x).opened = s.opened ∧ (s.setEng e x).ended = s.ended ∧ (s.setEng e x).events = s.events ∧
    (s.setEng e x).grades = s.grades ∧ (s.setEng e x).commons = s.commons ∧ (s.setEng e x).keeper = s.keeper ∧
    (s.setEng e x).hk = s.hk ∧ (s.setEng e x).backup = s.backup ∧ (s.setEng e x).gauge = s.gauge ∧
    (s.setEng e x).rtc = s.rtc ∧ (s.setEng e x).timer = s.timer ∧ (s.setEng e x).otpA = s.otpA ∧
    (s.setEng e x).otpB = s.otpB ∧ (s.setEng e x).otpOp = s.otpOp ∧ (s.setEng e x).gran = s.gran ∧
    (s.setEng e x).stream = s.stream ∧ (s.setEng e x).alert = s.alert ∧ (s.setEng e x).reply = s.reply ∧
    (s.setEng e x).hostHeld = s.hostHeld ∧ (s.setEng e x).staged = s.staged ∧ (s.setEng e x).snaps = s.snaps ∧
    (s.setEng e x).keys = s.keys ∧ (s.setEng e x).pending = s.pending :=
  by repeat' constructor

/-! ### Reading back -/

@[simp] theorem State.rd_wr_same (a : Nat) (w : Word) : (s.wr a w).rd a = w := Table.get_set_same _ _ _ _

theorem State.rd_wr_ne {a b : Nat} (w : Word) (h : b ≠ a) : (s.wr a w).rd b = s.rd b := Table.get_set_ne _ _ _ _ h

theorem State.rd_put_ne {p b : Nat} {f : Fld} (v : Nat) (h : b ≠ addrOf p f) : (s.put p f v).rd b = s.rd b :=
  s.rd_wr_ne _ h

theorem State.rd_put_same (p : Nat) (f : Fld) (v : Nat) (h : f.lo ≤ f.hi) (h32 : f.hi < 32) :
    ((s.put p f v).rd (addrOf p f)).toNat = withBits (s.rd (addrOf p f)).toNat f.hi f.lo v := by
  rw [State.put, State.rd_wr_same, BitVec.toNat_ofNat, Nat.mod_eq_of_lt (withBits_lt v h h32 (BitVec.isLt _))]

/-- A field that has been written reads the low bits of the value. -/
theorem State.get_put_same (p : Nat) (f : Fld) (v : Nat) (h : f.lo ≤ f.hi) (h32 : f.hi < 32) :
    (s.put p f v).get p f = v % 2 ^ f.width := by
  rw [State.get, s.rd_put_same p f v h h32, bitsOf_withBits _ _ h]; rfl

/-- A field of another register reads as before. -/
theorem State.get_put_ne {p p' : Nat} {f f' : Fld} (v : Nat) (h : addrOf p' f' ≠ addrOf p f) :
    (s.put p f v).get p' f' = s.get p' f' := by
  rw [State.get, s.rd_put_ne v h]; rfl

/-- Another field of the same register reads as before. -/
theorem State.get_put_field {p p' : Nat} {f f' : Fld} (v : Nat) (a : addrOf p' f' = addrOf p f) (h : f.lo ≤ f.hi) (h32 : f.hi < 32)
    (h' : f'.lo ≤ f'.hi) (d : f'.hi < f.lo ∨ f.hi < f'.lo) : (s.put p f v).get p' f' = s.get p' f' := by
  rw [State.get, a, s.rd_put_same p f v h h32]
  rcases d with d | d
  · rw [bitsOf_withBits_below _ _ h h' d, State.get, a]
  · rw [bitsOf_withBits_above _ _ h d, State.get, a]

theorem State.get_lt (p : Nat) (f : Fld) : s.get p f < 2 ^ f.width := bitsOf_lt _ _ _

/-- A one-bit field reads what it was set to. -/
theorem State.flag_putb_same (p : Nat) (f : Fld) (b : Bool) (h : f.lo = f.hi) (h32 : f.hi < 32) : (s.putb p f b).flag p f = b := by
  rw [State.flag, State.putb, s.get_put_same p f _ (by omega) h32, Fld.width]
  cases b <;> simp [h]

/-- A field of one bit reads 0 or 1. -/
theorem State.get_bit_eq (p : Nat) (f : Fld) (h : f.lo = f.hi) : s.get p f = b2n (s.flag p f) := by
  have := s.get_lt p f
  rw [Fld.width, h, Nat.sub_self] at this
  have h2 : s.get p f = 0 ∨ s.get p f = 1 := by omega
  rcases h2 with e | e <;> simp [State.flag, e]

@[simp] theorem State.phase_setPhase (p : Nat) (x : PhaseState) : (s.setPhase p x).phase p = x := Table.get_set_same _ _ _ _
@[simp] theorem State.chan_setChan (c : Nat) (x : ChanState) : (s.setChan c x).chan c = x := Table.get_set_same _ _ _ _
@[simp] theorem State.bank_setBank (b : Nat) (x : BankState) : (s.setBank b x).bank b = x := Table.get_set_same _ _ _ _
@[simp] theorem State.acc_setAcc (c : Nat) (x : ChanAcc) : (s.setAcc c x).acc c = x := Table.get_set_same _ _ _ _
@[simp] theorem State.bankAcc_setBankAcc (b : Nat) (x : BankAcc) : (s.setBankAcc b x).bankAcc b = x := Table.get_set_same _ _ _ _
@[simp] theorem State.recipe_setRecipe (c : Nat) (x : RecipeState) : (s.setRecipe c x).recipe c = x := Table.get_set_same _ _ _ _
@[simp] theorem State.eng_setEng (e : Nat) (x : EngState) : (s.setEng e x).eng e = x := Table.get_set_same _ _ _ _

theorem State.phase_setPhase_ne {p q : Nat} (x : PhaseState) (h : q ≠ p) : (s.setPhase p x).phase q = s.phase q :=
  Table.get_set_ne _ _ _ _ h
theorem State.chan_setChan_ne {c d : Nat} (x : ChanState) (h : d ≠ c) : (s.setChan c x).chan d = s.chan d :=
  Table.get_set_ne _ _ _ _ h
theorem State.eng_setEng_ne {e d : Nat} (x : EngState) (h : d ≠ e) : (s.setEng e x).eng d = s.eng d :=
  Table.get_set_ne _ _ _ _ h

/-- What the registers read depends on the register file alone. -/
theorem State.get_congr {s t : State} (p : Nat) (f : Fld) (h : t.rd (addrOf p f) = s.rd (addrOf p f)) : t.get p f = s.get p f := by
  rw [State.get, h]; rfl

@[simp] theorem State.rd_setPhase (p a : Nat) (x : PhaseState) : (s.setPhase p x).rd a = s.rd a := rfl
@[simp] theorem State.rd_setChan (c a : Nat) (x : ChanState) : (s.setChan c x).rd a = s.rd a := rfl
@[simp] theorem State.rd_setBank (b a : Nat) (x : BankState) : (s.setBank b x).rd a = s.rd a := rfl
@[simp] theorem State.rd_setAcc (c a : Nat) (x : ChanAcc) : (s.setAcc c x).rd a = s.rd a := rfl
@[simp] theorem State.rd_setBankAcc (b a : Nat) (x : BankAcc) : (s.setBankAcc b x).rd a = s.rd a := rfl
@[simp] theorem State.rd_setRecipe (c a : Nat) (x : RecipeState) : (s.setRecipe c x).rd a = s.rd a := rfl
@[simp] theorem State.rd_setEng (e a : Nat) (x : EngState) : (s.setEng e x).rd a = s.rd a := rfl

/-! ### Registers of a state written out field by field -/

section

variable (r : State) 
  (x1 : Table Word) (x2 : Bool) (x3 : Nat) (x4 : Nat) (x5 : Nat) (x6 : SvcState) (x7 : LogState)
  (x8 : FaultState) (x9 : ClockState) (x10 : TransitState) (x11 : Table PhaseState) (x12 : Table ChanState)
  (x13 : Table BankState) (x14 : Table ChanAcc) (x15 : Table BankAcc) (x16 : LedgerState)
  (x17 : Table RecipeState) (x18 : Table Bool) (x19 : Table Nat) (x20 : Table Nat) (x21 : List Nat)
  (x22 : List (Nat × Nat)) (x23 : List StepEvent) (x24 : Table EngState) (x25 : Table GradeState)
  (x26 : CommonsState) (x27 : KeeperState) (x28 : HkState) (x29 : BackupState) (x30 : GaugeState)
  (x31 : RtcState) (x32 : TimerState) (x33 : Table Nat) (x34 : Table Nat) (x35 : Table Nat) (x36 : Table Nat)
  (x37 : Option OtpOp)
  (x38 : GranaryState) (x39 : StreamState) (x40 : Bool) (x41 : Reply) (x42 : List HeldFrame)
  (x43 : List (Nat × Nat × Nat)) (x44 : Table Nat) (x45 : Table KeySeq) (x46 : List Instr)

@[simp] theorem State.rd_mk (a : Nat) :
    (State.mk r.regs x1 x2 x3 x4 x5 x6 x7 x8 x9 x10 x11 x12 x13 x14 x15 x16 x17 x18 x19 x20 x21 x22 x23 x24 x25 x26 x27 x28
    x29 x30 x31 x32 x33 x34 x35 x36 x37 x38 x39 x40 x41 x42 x43 x44 x45 x46).rd a = r.rd a := rfl
@[simp] theorem State.get_mk (p : Nat) (f : Fld) :
    (State.mk r.regs x1 x2 x3 x4 x5 x6 x7 x8 x9 x10 x11 x12 x13 x14 x15 x16 x17 x18 x19 x20 x21 x22 x23 x24 x25 x26 x27 x28
    x29 x30 x31 x32 x33 x34 x35 x36 x37 x38 x39 x40 x41 x42 x43 x44 x45 x46).get p f = r.get p f := rfl

end

end Sys2Proof.Machine
end

