-- ==== Sys2Proof/Laws/Raise.lean ====
section
/-! SUPPORT. What a fault message can do, said once: which registers `raise` and `flushLog` never change, and which
parts of the state. -/

namespace Sys2Proof.Machine

/-- The pages that a reaction, the change log and the collector may change: TWOWIRE, FAULT, CHANGELOG, TIMER, CHAN and
PHASE. -/
abbrev reactivePage (p : Nat) : Prop :=
  p = 5 ∨ p = 6 ∨ p = 7 ∨ p = 9 ∨ (0x40 ≤ p ∧ p ≤ 0x5F) ∨ (0x80 ≤ p ∧ p ≤ 0xBF)

/-- `t` differs from `s` at most in registers of the reactive pages and at the addresses `E`, in
CHIP:STATUS.FAULT_N_IN, in the change log, the collector, the phases, the channels and the two-wire alert. -/
structure Held (E : Nat → Prop) (s t : State) : Prop where
  rd : ∀ a, ¬ reactivePage (a / 0x400) → ¬ E a → a ≠ 0x40 → t.rd a = s.rd a
  chip : ∀ f : Fld, f.off = 0x40 → f.lo ≤ f.hi → (f.hi < 23 ∨ 23 < f.lo) → t.get 0 f = s.get 0 f
  rest : { t with regs := s.regs, log := s.log, fault := s.fault, phases := s.phases, chans := s.chans, alert := s.alert } = s

variable {E : Nat → Prop} {s t u : State}

theorem Held.refl (s : State) : Held E s s := ⟨fun _ _ _ _ => rfl, fun _ _ _ _ => rfl, rfl⟩

theorem Held.trans (h : Held E s t) (k : Held E t u) : Held E s u := by
  refine ⟨fun a h1 h2 h3 => (k.rd a h1 h2 h3).trans (h.rd a h1 h2 h3),
    fun f h1 h2 h3 => (k.chip f h1 h2 h3).trans (h.chip f h1 h2 h3), ?_⟩
  have e := k.rest
  have e2 := h.rest
  conv_rhs => rw [← e2, ← e]

theorem Held.foldl {α : Type} (f : State → α → State) (l : List α) (h : ∀ a ∈ l, ∀ s, Held E s (f s a)) (s : State) :
    Held E s (l.foldl f s) := by
  induction l generalizing s with
  | nil => exact Held.refl s
  | cons a l ih => exact (h a (by simp) s).trans (ih (fun b hb => h b (by simp [hb])) (f s a))

theorem addrOf_div {p : Nat} {f : Fld} (h : f.off < 0x400) : addrOf p f / 0x400 = p := by unfold addrOf; omega

/-- A field of a reactive page. -/
theorem Held.put {p : Nat} {f : Fld} {v : Nat} (h : Held E s t) (hp : reactivePage p) (ho : f.off < 0x400) :
    Held E s (t.put p f v) := by
  refine h.trans ?_
  have hd := addrOf_div (p := p) ho
  refine ⟨fun a h1 _ _ => t.rd_put_ne v (fun e => h1 (by rw [e, hd]; exact hp)), fun g hg _ _ => t.get_put_ne v ?_, rfl⟩
  intro e
  have : addrOf 0 g / 0x400 = p := by rw [e, hd]
  have h0 : addrOf 0 g / 0x400 = 0 := by simp [addrOf, hg]
  unfold reactivePage at hp; omega

theorem putRest (p : Nat) (f : Fld) (v : Nat) :
    { t.put p f v with regs := t.regs, log := t.log, fault := t.fault, phases := t.phases, chans := t.chans, alert := t.alert } = t := rfl

/-- A field of a register among `E`. -/
theorem Held.putE {p : Nat} {f : Fld} {v : Nat} (h : Held E s t) (hE : E (addrOf p f)) (h0 : addrOf p f ≠ 0x40) :
    Held E s (t.put p f v) := by
  refine h.trans ?_
  refine ⟨fun a _ h2 _ => t.rd_put_ne v (fun e => h2 (by rw [e]; exact hE)), fun g hg _ _ => t.get_put_ne v ?_, rfl⟩
  intro e
  apply h0
  rw [← e]; simp [addrOf, hg]

theorem Held.same (h : Held E s t) (hr : u.regs = t.regs)
    (h2 : { u with regs := t.regs, log := t.log, fault := t.fault, phases := t.phases, chans := t.chans, alert := t.alert } = t) :
    Held E s u := by
  refine h.trans ?_
  have hr : ∀ a, u.rd a = t.rd a := fun a => by rw [State.rd, hr]; rfl
  exact ⟨fun a _ _ _ => hr a, fun f _ _ _ => State.get_congr 0 f (hr _), h2⟩

theorem Held.setPhase {p : Nat} {x : PhaseState} (h : Held E s t) : Held E s (t.setPhase p x) := h.same rfl rfl
theorem Held.setChan {c : Nat} {x : ChanState} (h : Held E s t) : Held E s (t.setChan c x) := h.same rfl rfl
theorem Held.setLog {x : LogState} (h : Held E s t) : Held E s { t with log := x } := h.same rfl rfl
theorem Held.setFault {x : FaultState} (h : Held E s t) : Held E s { t with fault := x } := h.same rfl rfl
theorem Held.setLogFault {x : LogState} {y : FaultState} (h : Held E s t) : Held E s { t with log := x, fault := y } := h.same rfl rfl

theorem rFault : reactivePage Pg.FAULT := by simp [reactivePage]
theorem rLog : reactivePage Pg.CHANGELOG := by simp [reactivePage]
theorem rTimer : reactivePage Pg.TIMER := by simp [reactivePage]
theorem rTwowire : reactivePage Pg.TWOWIRE := by simp [reactivePage]
theorem rChan {c : Nat} (h : c < 32) : reactivePage (Pg.CHAN c) := by
  have : Pg.CHAN c = 0x40 + c := rfl
  simp only [reactivePage, this]; omega
theorem rPhase {p : Nat} (h : p < 64) : reactivePage (Pg.PHASE p) := by
  have : Pg.PHASE p = 0x80 + p := rfl
  simp only [reactivePage, this]; omega

theorem Held.putb {p : Nat} {f : Fld} {b : Bool} (h : Held E s t) (hp : reactivePage p) (ho : f.off < 0x400) :
    Held E s (t.putb p f b) := h.put hp ho
theorem Held.putBit {p : Nat} {f : Fld} {k : Nat} {b : Bool} (h : Held E s t) (hp : reactivePage p) (ho : f.off < 0x400) :
    Held E s (t.putBit p f k b) := h.put hp ho
theorem Held.bump {p : Nat} {f : Fld} (h : Held E s t) (hp : reactivePage p) (ho : f.off < 0x400) :
    Held E s (t.bump p f) := h.put hp ho
theorem Held.bumpWrap {p : Nat} {f : Fld} (h : Held E s t) (hp : reactivePage p) (ho : f.off < 0x400) :
    Held E s (t.bumpWrap p f) := h.put hp ho
theorem Held.event {p k : Nat} (h : Held E s t) (hp : reactivePage p) : Held E s (t.event p k) :=
  h.put (f := ⟨8, k, k, 0⟩) hp (show 8 < 0x400 by decide)

theorem Held.ite {c : Prop} [Decidable c] {a b : State} (ha : Held E s a) (hb : Held E s b) : Held E s (if c then a else b) := by
  split
  · exact ha
  · exact hb

/-! ### The change log -/

theorem Held.logLoss (h : Held E s t) : Held E s (logLoss t) := by
  unfold Machine.logLoss
  exact .ite h (h.event rLog).setLogFault

theorem Held.logStore {e : LogEntry} (h : Held E s t) : Held E s (logStore t e) := by
  unfold Machine.logStore
  exact h.setLog.put rLog (by decide)

theorem Held.logRing {e : LogEntry} (h : Held E s t) : Held E s (logRing t e) := by
  unfold Machine.logRing
  refine .ite ?_ (.ite ?_ ?_)
  · exact .ite (h.logStore.setLog.event rLog) h.logStore.setLog
  · exact ((h.logStore.put rLog (by decide)).bump rLog (by decide)).logLoss
  · exact (h.bump rLog (by decide)).logLoss

theorem Held.collect {e : LogEntry} (h : Held E s t) : Held E s (collect t e) := by
  unfold Machine.collect
  have k := (h.bump (f := Reg.CHANGELOG.PERSIST_DROP) rLog (by decide)).event (k := 1) rLog
  refine .ite h.setLog (.ite k ?_)
  exact (k.event rLog).setLogFault

theorem Held.addEntry {o p off old new : Nat} {f : LogFlags} (h : Held E s t) : Held E s (addEntry t o p off old new f) := by
  unfold Machine.addEntry
  have k : ∀ e, Held E s ((Machine.logRing t e).bumpWrap Pg.CHANGELOG Reg.CHANGELOG.TOTAL) :=
    fun e => h.logRing.bumpWrap rLog (by decide)
  exact .ite (k _).collect (k _)

/-- An accepted change logged on a reactive page. -/
theorem Held.putLogged {o p v : Nat} {f : Fld} (h : Held E s t) (hp : reactivePage p) (ho : f.off < 0x400) :
    Held E s (putLogged t o p f v) := by
  unfold Machine.putLogged logChange
  exact .ite h ((h.put hp ho).addEntry.bumpWrap hp (by decide))

/-! ### The channel safe state -/

theorem Held.phaseLow {p : Nat} (h : Held E s t) (hp : p < 64) : Held E s (phaseLow t p) := by
  unfold Machine.phaseLow
  exact h.setPhase.putb (rPhase hp) (by decide)

theorem Held.phaseSafe {p : Nat} (h : Held E s t) (hp : p < 64) : Held E s (phaseSafe t p) := by
  unfold Machine.phaseSafe
  refine .ite (Held.phaseLow ?_ hp) (h.phaseLow hp)
  exact (((h.putb (rPhase hp) (by decide)).put (rPhase hp) (by decide)).event (rPhase hp)).put (rPhase hp) (by decide)

theorem Held.isoLow {c : Nat} (h : Held E s t) (hc : c < 32) : Held E s (isoLow t c) := by
  unfold Machine.isoLow
  exact h.setChan.putb (rPhase (by omega)) (by decide)

theorem Held.stageOff {c : Nat} (h : Held E s t) (hc : c < 32) : Held E s (stageOff t c) := by
  unfold Machine.stageOff
  exact (((h.phaseLow (by omega)).phaseLow (by omega)).isoLow hc).setChan

theorem State.lead_le (s : State) (c : Nat) : s.lead c ≤ c := by
  unfold State.lead; split
  · omega
  · split <;> omega

/-- The members of a channel's gang stay within its bank. -/
theorem State.mem_gang {s : State} {c m : Nat} (h : c < 32) (hm : m ∈ s.gang c) : m < 32 := by
  simp only [State.gang, List.mem_map, List.mem_range] at hm
  obtain ⟨k, hk, rfl⟩ := hm
  unfold State.gangSize at hk
  unfold State.lead
  split at hk
  · rename_i h1; rw [if_pos h1]; omega
  · rename_i h1
    rw [if_neg h1]
    split at hk
    · rename_i h2; rw [if_pos h2]; omega
    · rename_i h2; rw [if_neg h2]; omega

theorem Held.foldl' {α : Type} {f : State → α → State} {l : List α} (h : Held E s t) (k : ∀ a ∈ l, ∀ u, Held E s u → Held E s (f u a)) :
    Held E s (l.foldl f t) := by
  induction l generalizing t with
  | nil => exact h
  | cons a l ih => exact ih (k a (by simp) t h) (fun b hb => k b (by simp [hb]))

theorem Held.markEnd {c r k : Nat} (h : Held E s t) (hc : c < 32) : Held E s (markEnd t c r k) := by
  unfold Machine.markEnd
  refine Held.setChan (h.foldl' (fun m hm u hu => ?_))
  have := State.mem_gang hc hm
  exact (hu.put (rChan this) (by decide)).put (rChan this) (by decide)

theorem Held.clearRunFlags {c : Nat} (h : Held E s t) (hc : c < 32) : Held E s (clearRunFlags t c) := by
  unfold Machine.clearRunFlags
  have r := rChan hc
  exact ((((((((h.put r (by decide)).putb r (by decide)).putb r (by decide)).putb r (by decide)).putb r (by decide)).putb r
    (by decide)).putb r (by decide)).put r (by decide)).setChan

theorem Held.setCstate {c v : Nat} (h : Held E s t) (hc : c < 32) : Held E s (t.setCstate c v) := by
  have r : reactivePage (Pg.CHAN (t.lead c)) := rChan (Nat.lt_of_le_of_lt (State.lead_le t c) hc)
  unfold State.setCstate
  exact .ite h ((h.put r (by decide)).event r)

theorem Held.chanSafe {c r k : Nat} (h : Held E s t) (hc : c < 32) : Held E s (chanSafe t c r k) := by
  have hl : t.lead c < 32 := Nat.lt_of_le_of_lt (State.lead_le t c) hc
  unfold Machine.chanSafe
  refine .ite h (Held.setCstate (Held.clearRunFlags ?_ hl) hl)
  have h2 : Held E s (Machine.putLogged ((t.gang c).foldl (fun s m => Machine.stageOff (Machine.phaseSafe (Machine.phaseSafe s (2 * m)) (2 * m + 1)) m) t)
      Org.REACT (Pg.CHAN (t.lead c)) Reg.CHAN.CONTROL_ENABLE 0) := by
    refine Held.putLogged (h.foldl' (fun m hm u hu => ?_)) (rChan hl) (by decide)
    have := State.mem_gang hc hm
    exact ((hu.phaseSafe (by omega)).phaseSafe (by omega)).stageOff this
  refine .ite (h2.markEnd hl) (.ite (h2.foldl' (fun m hm u hu => ?_)) h2)
  exact hu.put (rChan (State.mem_gang hc hm)) (by decide)

theorem State.bankCount_le (s : State) : s.bankCount ≤ 8 := by
  unfold State.bankCount; dsimp only; split <;> omega

theorem Held.chipSafeWith {r k : Nat} (h : Held E s t) : Held E s (chipSafeWith t r k) := by
  unfold Machine.chipSafeWith
  have h2 := (h.putb (f := Reg.FAULT.STATUS_CHIP_SAFE) (b := true) rFault (by decide)).put (f := Reg.FAULT.STATUS_BANK_SAFE) (v := 0xFF)
    rFault (by decide)
  refine .ite (h2.foldl' (fun c hc u hu => hu.chanSafe ?_)) h2
  have := List.mem_range.mp hc
  have hb := State.bankCount_le ((t.putb Pg.FAULT Reg.FAULT.STATUS_CHIP_SAFE true).put Pg.FAULT Reg.FAULT.STATUS_BANK_SAFE 0xFF)
  omega

theorem Held.safeChans {p k a : Nat} {l : List Nat} (h : Held E s t) (hl : ∀ c ∈ l, c < 32) : Held E s (safeChans t p k a l) := by
  unfold Machine.safeChans
  exact h.foldl' (fun c hc u hu => hu.chanSafe (hl c hc))

theorem bankChans_lt {b c : Nat} (h : b < 8) (hc : c ∈ bankChans b) : c < 32 := by
  simp only [bankChans, List.mem_map, List.mem_range] at hc
  obtain ⟨k, hk, rfl⟩ := hc; omega

/-- A scope names a channel or a bank of the device. -/
def Scope.ok : Scope → Prop
  | .chan c => c < 32
  | .bank b => b < 8
  | .chip => True

theorem Held.takeScope {p k a : Nat} {sc : Scope} (h : Held E s t) (ok : sc.ok) : Held E s (takeScope t p k a sc) := by
  cases sc with
  | chan c =>
    simp only [Machine.takeScope]
    exact .ite (h.safeChans (fun c' hc => by rw [List.mem_singleton.mp hc]; exact ok)) h
  | bank b =>
    simp only [Machine.takeScope]
    have h2 := h.putBit (f := Reg.FAULT.STATUS_BANK_SAFE) (k := b) (b := true) rFault (by decide)
    exact .ite (h2.safeChans (fun c hc => bankChans_lt ok hc)) h2
  | chip =>
    simp only [Machine.takeScope]
    have h2 := (h.putb (f := Reg.FAULT.STATUS_CHIP_SAFE) (b := true) rFault (by decide)).put (f := Reg.FAULT.STATUS_BANK_SAFE) (v := 0xFF)
      rFault (by decide)
    refine .ite (h2.safeChans (fun c hc => ?_)) h2
    have := List.mem_range.mp hc
    have hb := State.bankCount_le ((t.putb Pg.FAULT Reg.FAULT.STATUS_CHIP_SAFE true).put Pg.FAULT Reg.FAULT.STATUS_BANK_SAFE 0xFF)
    omega

theorem scopeS2_ok (p k a : Nat) : (scopeS2 p k a).ok := by
  unfold scopeS2
  split
  · simp only [Scope.ok]; omega
  split
  · simp only [Scope.ok]; omega
  split
  · simp only [Scope.ok]; omega
  split
  · split <;> simp only [Scope.ok] <;> omega
  split
  · split <;> simp only [Scope.ok]
    omega
  split
  · split <;> simp only [Scope.ok]
    omega
  split
  · split <;> simp only [Scope.ok]
    omega
  · trivial

theorem scopeS3_ok (p k a : Nat) : (scopeS3 p k a).ok := by
  unfold scopeS3
  split
  · simp only [Scope.ok]; omega
  · have := scopeS2_ok p k a
    split
    · rename_i c hc
      rw [hc] at this
      simp only [Scope.ok] at this ⊢; omega
    · exact this

theorem scopeOf_ok {p k a v : Nat} {sc : Scope} (h : scopeOf p k a v = some sc) : sc.ok := by
  unfold scopeOf at h
  split at h
  · exact absurd h (by simp)
  split at h
  · cases h; exact scopeS2_ok p k a
  split at h
  · cases h; exact scopeS3_ok p k a
  · cases h; trivial

/-! ### The collector and FAULT_N -/

theorem Held.capStore {k : Nat} (h : Held E s t) (hk : k < 4) : Held E s (capStore t k) := by
  unfold Machine.capStore
  have ho : ∀ f ∈ [Reg.TIMER.CAP_CTRL_OVERRUN, Reg.TIMER.CAP_LO, Reg.TIMER.CAP_HI_TICK, Reg.TIMER.CAP_CTRL_FULL], (f.ix k).off < 0x400 := by
    intro f hf
    simp only [List.mem_cons, List.not_mem_nil, or_false] at hf
    rcases hf with rfl | rfl | rfl | rfl <;> simp only [Fld.ix] <;> omega
  refine Held.event (Held.putb (Held.put (Held.put (.ite (Held.event ?_ rTimer) h) rTimer (ho _ (by simp))) rTimer (ho _ (by simp)))
    rTimer (ho _ (by simp))) rTimer
  exact h.putb rTimer (ho _ (by simp))

theorem Held.captureSource {src : Nat} (h : Held E s t) : Held E s (captureSource t src) := by
  unfold Machine.captureSource
  refine .ite (h.foldl' (fun k hk u hu => ?_)) h
  exact .ite (hu.capStore (List.mem_range.mp hk)) hu

/-- CHIP:STATUS.FAULT_N_IN. -/
theorem Held.putPin {b : Bool} (h : Held E s t) : Held E s (t.putb Pg.CHIP Reg.CHIP.STATUS_FAULT_N_IN b) := by
  have e : addrOf Pg.CHIP Reg.CHIP.STATUS_FAULT_N_IN = 0x40 := by simp [addrOf]
  refine h.trans ⟨fun a _ _ h => t.rd_put_ne _ (by rw [e]; exact h), fun f h1 h2 h3 => ?_, putRest _ _ _⟩
  refine t.get_put_field _ ?_ (Nat.le_refl _) (by decide) h2 h3
  rw [e]; simp [addrOf, h1]

theorem Held.publishFaultN (h : Held E s t) : Held E s (publishFaultN t) := by
  unfold Machine.publishFaultN
  have h2 : ∀ b c, Held E s ((t.putb Pg.FAULT Reg.FAULT.STATUS_FAULT_N_IN b).putb Pg.CHIP Reg.CHIP.STATUS_FAULT_N_IN c) :=
    fun b c => (h.putb rFault (by decide)).putPin
  exact .ite (h2 _ _).captureSource (h2 _ _)

theorem Held.driveFaultN (h : Held E s t) : Held E s (driveFaultN t) := by
  unfold Machine.driveFaultN
  exact .ite h (Held.chipSafeWith (Held.publishFaultN (h.putb rFault (by decide))))

theorem Held.latch {k : Nat} (h : Held E s t) : Held E s (t.latch k) := by
  unfold State.latch
  have h2 := h.putBit (f := Reg.TWOWIRE.STATUS_LATCHED) (k := k) (b := true) rTwowire (by decide)
  exact .ite h (.ite (h2.same rfl rfl) h2)

theorem Held.enqueueMsg {m : Nat} (h : Held E s t) : Held E s (enqueueMsg t m) := by
  unfold Machine.enqueueMsg
  exact .ite h.setFault ((h.bump rFault (by decide)).event rFault)

theorem Held.makeEntry {p k a v : Nat} (h : Held E s t) : Held E s (makeEntry t p k a v) := by
  unfold Machine.makeEntry
  have h2 : ∀ x : FaultState, Held E s (if (Table.get ActiveEntry.none t.fault.active (actKey p k)).sev = 0 then
      ({ t with fault := x } : State).latch 1 else { t with fault := x }) := fun x => .ite h.setFault.latch h.setFault
  exact .ite h (.ite ((h2 _).event rFault) (h2 _))

theorem Held.queueCrier {m : Nat} (h : Held E s t) : Held E s (queueCrier t m) := by
  unfold Machine.queueCrier
  exact .ite (.ite h.setFault (h.bump rFault (by decide))) h

theorem Held.setFault' (h : Held E s t) (x : FaultState) : Held E s { t with fault := x } := h.same rfl rfl

theorem Held.startRecord {m : Nat} {i c : Bool} (h : Held E s t) : Held E s (startRecord t m i c) := by
  unfold Machine.startRecord
  have h2 := h.putb (f := Reg.FAULT.STATUS_REC_BUSY) (b := true) rFault (by decide)
  split
  · exact h.bump rFault (by decide)
  · exact .ite h2.setFault (Held.setFault' h2 _)

/-- The addresses of FAULT_LAST and EVENT of the page that raises a message. -/
def header (p a : Nat) : Prop := a = p * 0x400 + 0x10 ∨ a = p * 0x400 + 8

theorem Held.mono {F : Nat → Prop} (h : Held E s t) (k : ∀ a, E a → F a) : Held F s t :=
  ⟨fun a h1 h2 h3 => h.rd a h1 (fun e => h2 (k a e)) h3, h.chip, h.rest⟩

/-- What raising a message can do, with the header of its page among `E`. -/
theorem Held.raiseScoped {p k a v : Nat} {i : Bool} {sc : Option Scope} (h : Held E s t) (ok : ∀ x, sc = some x → x.ok)
    (hE : ∀ x, header p x → E x) : Held E s (raiseScoped t p k a v i sc) := by
  unfold Machine.raiseScoped
  have h1 : ∀ m, Held E s (t.put p Reg.HEADER.FAULT_LAST m) := fun m => h.putE (hE (addrOf p Reg.HEADER.FAULT_LAST) (Or.inl (by simp [addrOf]))) (by simp only [addrOf]; omega)
  have h2 : ∀ m n, Held E s ((t.put p Reg.HEADER.FAULT_LAST m).event p n) := fun m n =>
    Held.putE (f := ⟨8, n, n, 0⟩) (h1 m) (hE (addrOf p ⟨8, n, n, 0⟩) (Or.inr (by simp [addrOf]))) (by simp only [addrOf]; omega)
  dsimp only
  refine .ite (Held.driveFaultN ?_) ?_
  all_goals
    cases sc
    case' some y => refine Held.takeScope ?_ (ok y rfl)
  all_goals refine .ite (Held.startRecord ?_) ?_
  all_goals refine .ite (Held.queueCrier ?_) ?_
  all_goals refine Held.makeEntry (Held.enqueueMsg (.ite (Held.event ?_ rFault) ?_))
  all_goals exact ((h2 _ _).bump rFault (by decide)).event rFault

theorem Held.raise {p k a : Nat} (h : Held E s t) (hE : ∀ x, header p x → E x) : Held E s (raise t p k a) := by
  unfold Machine.raise raiseWith
  exact h.raiseScoped (fun x hx => scopeOf_ok hx) hE

theorem Held.raiseIdle {p k a : Nat} (h : Held E s t) (hE : ∀ x, header p x → E x) : Held E s (raiseIdle t p k a) := by
  unfold Machine.raiseIdle
  refine h.raiseScoped (fun x hx => ?_) hE
  split at hx
  · exact absurd hx (by simp)
  · exact scopeOf_ok hx

/-- Sending the LOG_OVERFLOW messages leaves the state as a message does: their page is a reactive one. -/
theorem Held.flushLog (h : Held E s t) : Held E s (flushLog t) := by
  unfold Machine.flushLog
  refine Held.foldl' h.setFault (fun a _ u hu => ?_)
  refine hu.trans ?_
  have k := (Held.refl u).raise (E := fun x => E x ∨ header Pg.CHANGELOG x) (p := Pg.CHANGELOG) (k := Kind.LOG_OVERFLOW) (a := a) (fun _ hx => .inr hx)
  refine ⟨fun b h1 h2 h3 => k.rd b h1 ?_ h3, k.chip, k.rest⟩
  rintro (e | e | e)
  · exact h2 e
  · exact h1 (by rw [e]; exact rLog)
  · exact h1 (by rw [e]; exact rLog)

end Sys2Proof.Machine
end

