-- ==== Sys2Proof/Laws/Frame.lean ====
section
/-! SUPPORT. Which register bits an operation leaves as they were: `onlyBits` carried over every named update. -/

namespace Sys2Proof.Machine

variable {s t u : State} {l : List (Nat × Fld)} {ps : List Nat}

theorem bitOf_bitsOf (n k : Nat) : bitOf n k = decide (bitsOf n k k = 1) := by simp [bitOf, bitsOf]

/-- A bit outside the field written reads as before. -/
theorem bitOf_withBits {hi lo k : Nat} (n v : Nat) (h : lo ≤ hi) (d : k < lo ∨ hi < k) :
    bitOf (withBits n hi lo v) k = bitOf n k := by
  rw [bitOf_bitsOf, bitOf_bitsOf]
  rcases d with d | d
  · rw [bitsOf_withBits_below n v h le_rfl d]
  · rw [bitsOf_withBits_above n v h d]

theorem onlyBits.refl (s : State) : onlyBits s s l ps := fun _ _ _ _ => rfl

theorem onlyBits.trans (h : onlyBits s t l ps) (k : onlyBits t u l ps) : onlyBits s u l ps :=
  fun a b x y => (k a b x y).trans (h a b x y)

/-- Operations that write no register. -/
theorem onlyBits.regs (h : onlyBits s t l ps) (e : u.regs = t.regs) : onlyBits s u l ps := by
  intro a k x y
  rw [← h a k x y, State.rd, State.rd, e]

section

variable (r : State) 
  (x1 : Table Word) (x2 : Bool) (x3 : Nat) (x4 : Nat) (x5 : Nat) (x6 : SvcState) (x7 : LogState)
  (x8 : FaultState) (x9 : ClockState) (x10 : TransitState) (x11 : Table PhaseState) (x12 : Table ChanState)
  (x13 : Table BankState) (x14 : Table ChanAcc) (x15 : Table BankAcc) (x16 : LedgerState)
  (x17 : Table RecipeState) (x18 : Table Bool) (x19 : Table Nat) (x20 : Table Nat) (x21 : List Nat)
  (x22 : List (Nat × Nat)) (x23 : List StepEvent) (x24 : Table EngState) (x25 : Table GradeState)
  (x26 : CommonsState) (x27 : KeeperState) (x28 : HkState) (x29 : BackupState) (x30 : GaugeState)
  (x31 : RtcState) (x32 : TimerState) (x33 : Table Nat) (x34 : Table Nat) (x35 : Table Nat) (x36 : Table Nat)
  (x37 : Option OtpOp)
  (x38 : GranaryState) (x39 : StreamState) (x40 : Bool) (x41 : Reply) (x42 : List HeldFrame)
  (x43 : List (Nat × Nat × Nat)) (x44 : Table Nat) (x45 : Table KeySeq) (x46 : List Instr)

/-- Which register bits differ is a matter of the register file alone. -/
@[simp] theorem onlyBits_mk :
    onlyBits s (State.mk r.regs x1 x2 x3 x4 x5 x6 x7 x8 x9 x10 x11 x12 x13 x14 x15 x16 x17 x18 x19 x20 x21 x22 x23 x24 x25 x26 x27 x28
    x29 x30 x31 x32 x33 x34 x35 x36 x37 x38 x39 x40 x41 x42 x43 x44 x45 x46) l ps ↔
      onlyBits s r l ps :=
  ⟨fun h => h.regs rfl, fun h => h.regs rfl⟩

end

/-- Do the listed fields and pages take in a field? -/
abbrev covers (l : List (Nat × Fld)) (ps : List Nat) (p : Nat) (f : Fld) : Prop :=
  f.lo ≤ f.hi ∧ f.hi < 32 ∧
    (addrOf p f / 0x400 ∈ ps ∨ ∃ e ∈ l, addrOf e.1 e.2 = addrOf p f ∧ e.2.lo ≤ f.lo ∧ f.hi ≤ e.2.hi)

theorem onlyBits.put {p v : Nat} {f : Fld} (h : onlyBits s t l ps) (c : covers l ps p f) : onlyBits s (t.put p f v) l ps := by
  intro a k x y
  rw [← h a k x y]
  by_cases e : a = addrOf p f
  · subst e
    rw [t.rd_put_same p f v c.1 c.2.1]
    apply bitOf_withBits _ _ c.1
    rcases c.2.2 with m | ⟨g, gm, ga, gl, gh⟩
    · simp at x
      exact absurd m x
    · by_contra n
      simp only [holdsBit, List.any_eq_false, decide_eq_true_eq] at y
      exact y g gm ⟨ga.symm, by omega, by omega⟩
  · rw [t.rd_put_ne v e]

theorem onlyBits.putb {p : Nat} {f : Fld} {b : Bool} (h : onlyBits s t l ps) (c : covers l ps p f) : onlyBits s (t.putb p f b) l ps := h.put c
theorem onlyBits.puti {p : Nat} {f : Fld} {v : Int} (h : onlyBits s t l ps) (c : covers l ps p f) : onlyBits s (t.puti p f v) l ps := h.put c
theorem onlyBits.putSat {p : Nat} {f : Fld} {v : Int} (h : onlyBits s t l ps) (c : covers l ps p f) : onlyBits s (t.putSat p f v) l ps := h.put c
theorem onlyBits.addCount {p n : Nat} {f : Fld} (h : onlyBits s t l ps) (c : covers l ps p f) : onlyBits s (t.addCount p f n) l ps := h.put c
theorem onlyBits.bump {p : Nat} {f : Fld} (h : onlyBits s t l ps) (c : covers l ps p f) : onlyBits s (t.bump p f) l ps := h.put c
theorem onlyBits.bumpWrap {p : Nat} {f : Fld} (h : onlyBits s t l ps) (c : covers l ps p f) : onlyBits s (t.bumpWrap p f) l ps := h.put c
theorem onlyBits.event {p k : Nat} (h : onlyBits s t l ps) (c : covers l ps p ⟨0x008, k, k, 0⟩) : onlyBits s (t.event p k) l ps := h.put c
theorem onlyBits.putBit {p k : Nat} {f : Fld} {b : Bool} (h : onlyBits s t l ps) (c : covers l ps p ⟨f.off, f.lo + k, f.lo + k, 0⟩) :
    onlyBits s (t.putBit p f k b) l ps := h.put c
theorem onlyBits.ite {c : Prop} [Decidable c] {a b : State} (ha : onlyBits s a l ps) (hb : onlyBits s b l ps) :
    onlyBits s (if c then a else b) l ps := by split <;> assumption

/-- A field of a register that is not listed reads as before. -/
theorem onlyBits.get {p : Nat} {f : Fld} (h : onlyBits s t l ps) (hp : ps.contains (addrOf p f / 0x400) = false)
    (hl : ∀ k, holdsBit l (addrOf p f) k = false) : t.get p f = s.get p f := by
  have e : (t.rd (addrOf p f)).toNat = (s.rd (addrOf p f)).toNat := by
    apply Nat.eq_of_testBit_eq
    intro k
    have := h (addrOf p f) k hp (hl k)
    simp only [bitOf] at this
    rw [Nat.testBit_eq_decide_div_mod_eq, Nat.testBit_eq_decide_div_mod_eq]
    exact this
  rw [State.get, e]; rfl

/-! ### Fault messages -/

theorem mem_reactionPages {p : Nat} : p ∈ reactionPages ↔ reactivePage p := by
  simp only [reactionPages, reactivePage, List.mem_append, List.mem_cons, List.mem_map, List.mem_range, List.not_mem_nil, or_false]
  constructor
  · rintro (((h | h | h | h) | ⟨c, h, rfl⟩) | ⟨c, h, rfl⟩) <;> simp_all [Pg.CHAN, Pg.PHASE] <;> omega
  · rintro (h | h | h | h | h | h)
    · simp [h]
    · simp [h]
    · simp [h]
    · simp [h]
    · exact Or.inl (Or.inr ⟨p - 0x40, by omega, by show 0x40 + (p - 0x40) = p; omega⟩)
    · exact Or.inr ⟨p - 0x80, by omega, by show 0x80 + (p - 0x80) = p; omega⟩

/-- What a message's reaction holds, as register bits. -/
theorem Held.onlyBits {E : Nat → Prop} (h : Held E s t) (hp : ∀ p ∈ reactionPages, p ∈ ps)
    (hE : ∀ a k, E a → ps.contains (a / 0x400) = false → holdsBit l a k = true)
    (hc : (Pg.CHIP, Reg.CHIP.STATUS_FAULT_N_IN) ∈ l) : onlyBits s t l ps := by
  intro a k x y
  by_cases r : reactivePage (a / 0x400)
  · rw [List.contains_eq_mem, decide_eq_false_iff_not] at x
    exact absurd (hp _ (mem_reactionPages.mpr r)) x
  · by_cases e : E a
    · rw [hE a k e x] at y; exact absurd y (by simp)
    · by_cases c : a = 0x40
      · subst c
        have m : k ≠ 23 := by
          intro m
          subst m
          simp only [holdsBit, List.any_eq_false, decide_eq_true_eq] at y
          exact y _ hc (by simp [addrOf])
        have g := h.chip ⟨0x40, k, k, 0⟩ rfl le_rfl (by simp; omega)
        simp only [State.get, addrOf] at g
        rw [bitOf_bitsOf, bitOf_bitsOf]
        simpa using congrArg (fun n => decide (n = 1)) g
      · rw [h.rd a r e c]

end Sys2Proof.Machine
end

