-- ==== Sys2Proof/Laws/Room.lean ====
section
/-! SUPPORT. Room in the change log: an entry takes one place, a fault reaction at most one for each channel, and while there is
room no LOG_OVERFLOW message is raised. -/

namespace Sys2Proof.Machine

variable {s t u : State} {n : Nat}

theorem logRoom.same (h : logRoom s n) (e : t.log = s.log) (f : t.fault.logPending = s.fault.logPending) : logRoom t n := by
  unfold logRoom; rw [e, f]; exact h

theorem logRoom.mono {m : Nat} (h : logRoom s n) (k : m ≤ n) : logRoom s m := ⟨h.1, by have := h.2.1; omega, by have := h.2.2; omega⟩

/-- With room and nothing waiting, the end of a command adds nothing. -/
theorem flushLog_room (h : logRoom s n) : flushLog s = s := by
  have e : s.fault = { s.fault with logPending := [] } := by rw [← h.1]
  unfold flushLog
  rw [h.1, List.foldl_nil, ← e]

theorem logRing_room {e : LogEntry} (h : s.log.fill < 1024) :
    (logRing s e).log.fill = s.log.fill + 1 ∧ (logRing s e).log.persist = s.log.persist ∧
      (logRing s e).log.waiting = s.log.waiting ∧ (logRing s e).fault = s.fault := by
  unfold logRing logStore
  rw [if_pos h]
  dsimp only
  split <;> simp

/-- One entry takes one place. -/
theorem logRoom.addEntry {o p off old new : Nat} {f : LogFlags} (h : logRoom s (n + 1)) : logRoom (addEntry s o p off old new f) n := by
  have hf : s.log.fill < 1024 := by have := h.2.1; omega
  unfold Machine.addEntry
  dsimp only
  generalize hp : (f.persist || s.getBit Pg.CHANGELOG Reg.CHANGELOG.CTRL_PERSIST_ORIGIN (persistBit o)) = per
  generalize logEntry s o p off old new f per = e
  obtain ⟨r1, r2, r3, r4⟩ := logRing_room (e := e) hf
  have h1 := h.1
  have h2 := h.2.1
  have h3 := h.2.2
  cases per
  · refine ⟨?_, ?_, ?_⟩
    · simpa [r4] using h1
    · simp [r1]; omega
    · simp [r2, r3]; omega
  · simp only [if_true]
    unfold Machine.collect
    simp only [State.bumpWrap_rest, r2, r3]
    rw [if_pos (by omega)]
    refine ⟨?_, ?_, ?_⟩
    · simpa [r4] using h1
    · simp [r1]; omega
    · simp; omega

theorem logRoom.logChange {o p off old new : Nat} (h : logRoom s (n + 1)) : logRoom (logChange s o p off old new) n := by
  unfold Machine.logChange
  exact (h.addEntry (o := o) (p := p) (off := off) (old := old) (new := new) (f := LogFlags.plain)).same (by simp) (by simp)

theorem logRoom.putLogged {o p v : Nat} {f : Fld} (h : logRoom s (n + 1)) : logRoom (putLogged s o p f v) n := by
  unfold Machine.putLogged
  dsimp only
  split
  · exact h.mono (by omega)
  · exact (h.same (t := s.put p f v) (by simp) (by simp)).logChange

@[simp] theorem phaseLow_log (p : Nat) : (phaseLow s p).log = s.log ∧ (phaseLow s p).fault = s.fault := by simp [phaseLow]
@[simp] theorem phaseSafe_log (p : Nat) : (phaseSafe s p).log = s.log ∧ (phaseSafe s p).fault = s.fault := by
  unfold phaseSafe; split <;> simp
@[simp] theorem stageOff_log (c : Nat) : (stageOff s c).log = s.log ∧ (stageOff s c).fault = s.fault := by simp [stageOff, isoLow]

theorem foldl_log {α : Type} (f : State → α → State) (l : List α) (h : ∀ s a, (f s a).log = s.log ∧ (f s a).fault = s.fault) (s : State) :
    (l.foldl f s).log = s.log ∧ (l.foldl f s).fault = s.fault := by
  induction l generalizing s with
  | nil => exact ⟨rfl, rfl⟩
  | cons a l ih => exact ⟨(ih (f s a)).1.trans (h s a).1, (ih (f s a)).2.trans (h s a).2⟩

@[simp] theorem markEnd_log (c r k : Nat) : (markEnd s c r k).log = s.log ∧ (markEnd s c r k).fault = s.fault := by
  unfold markEnd
  obtain ⟨a, b⟩ := foldl_log (fun s m => (s.put (Pg.CHAN m) Reg.CHAN.STATUS_LAST_END r).put (Pg.CHAN m) Reg.CHAN.STATUS_END_CAUSE k)
    (s.gang c) (fun s m => by simp) s
  simp [a, b]

@[simp] theorem clearRunFlags_log (c : Nat) : (clearRunFlags s c).log = s.log ∧ (clearRunFlags s c).fault = s.fault := by
  simp [clearRunFlags]

@[simp] theorem setCstate_log (c v : Nat) : (s.setCstate c v).log = s.log ∧ (s.setCstate c v).fault = s.fault := by
  unfold State.setCstate; split <;> simp

/-- A channel's safe state makes at most one entry. -/
theorem logRoom.chanSafe {c r k : Nat} (h : logRoom s (n + 1)) : logRoom (chanSafe s c r k) n := by
  unfold Machine.chanSafe
  dsimp only
  split
  · exact h.mono (by omega)
  · obtain ⟨a, b⟩ := foldl_log (fun s m => stageOff (phaseSafe (phaseSafe s (2 * m)) (2 * m + 1)) m) (s.gang c) (fun s m => by simp) s
    have h2 := (h.same a (by rw [b])).putLogged (o := Org.REACT) (p := Pg.CHAN (s.lead c)) (v := 0) (f := Reg.CHAN.CONTROL_ENABLE)
    refine logRoom.same (t := State.setCstate _ _ _) ?_ (setCstate_log _ _).1 (by rw [(setCstate_log _ _).2])
    refine logRoom.same (t := clearRunFlags _ _) ?_ (clearRunFlags_log _).1 (by rw [(clearRunFlags_log _).2])
    split
    · exact h2.same (markEnd_log _ _ _).1 (by rw [(markEnd_log _ _ _).2])
    · split
      · obtain ⟨x, y⟩ := foldl_log (fun s m => s.put (Pg.CHAN m) Reg.CHAN.STATUS_END_CAUSE 3) (s.gang c) (fun s m => by simp)
          (Machine.putLogged (List.foldl (fun s m => stageOff (phaseSafe (phaseSafe s (2 * m)) (2 * m + 1)) m) s (s.gang c)) Org.REACT
            (Pg.CHAN (s.lead c)) Reg.CHAN.CONTROL_ENABLE 0)
        exact h2.same x (by rw [y])
      · exact h2

theorem logRoom.foldl {α : Type} {f : State → α → State} {l : List α} (hf : ∀ s a n, logRoom s (n + 1) → logRoom (f s a) n)
    (h : logRoom s (n + l.length)) : logRoom (l.foldl f s) n := by
  induction l generalizing s with
  | nil => exact h
  | cons a l ih => exact ih (hf s a _ (h.mono (by simp [Nat.add_assoc])))

theorem logRoom.chipSafeWith {r k : Nat} (h : logRoom s (n + 32)) : logRoom (chipSafeWith s r k) n := by
  unfold Machine.chipSafeWith
  dsimp only
  have hb := State.bankCount_le ((s.putb Pg.FAULT Reg.FAULT.STATUS_CHIP_SAFE true).put Pg.FAULT Reg.FAULT.STATUS_BANK_SAFE 0xFF)
  have h2 : logRoom ((s.putb Pg.FAULT Reg.FAULT.STATUS_CHIP_SAFE true).put Pg.FAULT Reg.FAULT.STATUS_BANK_SAFE 0xFF) (n + 32) := h.same (by simp) (by simp)
  split
  · exact logRoom.foldl (fun _ _ _ h => h.chanSafe) (h2.mono (by rw [List.length_range]; omega))
  · exact h2.mono (by omega)

theorem logRoom.safeChans {p k a : Nat} {l : List Nat} (h : logRoom s (n + l.length)) : logRoom (safeChans s p k a l) n := by
  unfold Machine.safeChans
  exact logRoom.foldl (fun _ _ _ h => h.chanSafe) h

/-! ### The channels that a reaction has taken to SAFE -/

/-- `t` keeps the gangs of `s` and every channel that is in SAFE. -/
structure Steady (s t : State) : Prop where
  held : t.held = s.held
  gang : ∀ c, t.rd (addrOf (Pg.CHAN c) Reg.CHAN.GANG_SIZE) = s.rd (addrOf (Pg.CHAN c) Reg.CHAN.GANG_SIZE)
  safe : ∀ c, s.get (Pg.CHAN c) Reg.CHAN.STATUS_STATE = Ch.SAFE → t.get (Pg.CHAN c) Reg.CHAN.STATUS_STATE = Ch.SAFE

theorem Steady.refl (s : State) : Steady s s := ⟨rfl, fun _ => rfl, fun _ h => h⟩

theorem Steady.trans (h : Steady s t) (k : Steady t u) : Steady s u :=
  ⟨k.held.trans h.held, fun c => (k.gang c).trans (h.gang c), fun c x => k.safe c (h.safe c x)⟩

theorem Steady.getf (h : Steady s t) (c : Nat) : t.getf (Pg.CHAN c) Reg.CHAN.GANG_SIZE = s.getf (Pg.CHAN c) Reg.CHAN.GANG_SIZE := by
  rw [State.getf, State.inForce, h.gang c, h.held]; rfl

theorem Steady.lead (h : Steady s t) (c : Nat) : t.lead c = s.lead c := by simp only [State.lead, h.getf]

theorem Steady.cstate (h : Steady s t) {c : Nat} (k : s.cstate c = Ch.SAFE) : t.cstate c = Ch.SAFE := by
  rw [State.cstate, h.lead]; exact h.safe _ k

theorem Steady.regs (h : Steady s t) (e : u.regs = t.regs) (f : u.held = t.held) : Steady s u := by
  have r : ∀ a, u.rd a = t.rd a := fun a => by simp only [State.rd, e]
  exact ⟨f.trans h.held, fun c => (r _).trans (h.gang c), fun c x => (State.get_congr _ _ (r _)).trans (h.safe c x)⟩

theorem Steady.setPhase {p : Nat} {x : PhaseState} (h : Steady s t) : Steady s (t.setPhase p x) := h.regs rfl rfl
theorem Steady.setChan {c : Nat} {x : ChanState} (h : Steady s t) : Steady s (t.setChan c x) := h.regs rfl rfl
theorem Steady.setLog {x : LogState} (h : Steady s t) : Steady s { t with log := x } := h.regs rfl rfl
theorem Steady.setLogFault {x : LogState} {y : FaultState} (h : Steady s t) : Steady s { t with log := x, fault := y } := h.regs rfl rfl

/-- Is a field one that no channel's STATE or SIZE lies in? -/
abbrev aside (f : Fld) : Prop := f.off < 0x400 ∧ f.lo ≤ f.hi ∧ f.hi < 32 ∧ f.off ≠ 0x080 ∧ (f.off = 0x084 → 2 < f.lo)

theorem Steady.put {p v : Nat} {f : Fld} (h : Steady s t) (k : aside f) : Steady s (t.put p f v) := by
  obtain ⟨k1, k2, k3, k4, k5⟩ := k
  refine ⟨by simpa using h.held, fun c => ?_, fun c x => ?_⟩
  · rw [t.rd_put_ne v (by simp only [addrOf]; omega), h.gang c]
  · rw [← h.safe c x]
    by_cases e : addrOf (Pg.CHAN c) Reg.CHAN.STATUS_STATE = addrOf p f
    · refine t.get_put_field v e k2 k3 (by decide) (Or.inl ?_)
      have : f.off = 0x084 := by simp only [addrOf] at e; omega
      exact k5 this
    · exact t.get_put_ne v e

theorem Steady.putb {p : Nat} {f : Fld} {b : Bool} (h : Steady s t) (k : aside f) : Steady s (t.putb p f b) := h.put k
theorem Steady.puti {p : Nat} {f : Fld} {v : Int} (h : Steady s t) (k : aside f) : Steady s (t.puti p f v) := h.put k
theorem Steady.bump {p : Nat} {f : Fld} (h : Steady s t) (k : aside f) : Steady s (t.bump p f) := h.put k
theorem Steady.bumpWrap {p : Nat} {f : Fld} (h : Steady s t) (k : aside f) : Steady s (t.bumpWrap p f) := h.put k
theorem Steady.event {p k : Nat} (h : Steady s t) (hk : k < 32) : Steady s (t.event p k) := h.put ⟨by simp, le_rfl, hk, by simp, by simp⟩
theorem Steady.putBit {p k : Nat} {f : Fld} {b : Bool} (h : Steady s t) (hk : aside ⟨f.off, f.lo + k, f.lo + k, 0⟩) : Steady s (t.putBit p f k b) := h.put hk
theorem Steady.ite {c : Prop} [Decidable c] {a b : State} (ha : Steady s a) (hb : Steady s b) : Steady s (if c then a else b) := by split <;> assumption

theorem Steady.foldl {α : Type} {f : State → α → State} {l : List α} (h : Steady s t) (k : ∀ a, ∀ u, Steady s u → Steady s (f u a)) :
    Steady s (l.foldl f t) := by
  induction l generalizing t with
  | nil => exact h
  | cons a l ih => exact ih (k a t h)

theorem Steady.logLoss (h : Steady s t) : Steady s (logLoss t) := by
  unfold Machine.logLoss; exact .ite h (h.event (by decide)).setLogFault

theorem Steady.logStore {e : LogEntry} (h : Steady s t) : Steady s (logStore t e) := by
  unfold Machine.logStore
  exact h.setLog.put (by decide)

theorem Steady.addEntry {o p off old new : Nat} {f : LogFlags} (h : Steady s t) : Steady s (addEntry t o p off old new f) := by
  have r : ∀ e, Steady s (Machine.logRing t e) := by
    intro e
    unfold Machine.logRing
    refine .ite ?_ (.ite ?_ ?_)
    · exact .ite (h.logStore.setLog.event (by decide)) h.logStore.setLog
    · exact ((h.logStore.put (by decide)).bump (by decide)).logLoss
    · exact (h.bump (by decide)).logLoss
  have c : ∀ e u, Steady s u → Steady s (Machine.collect u e) := by
    intro e u k
    unfold Machine.collect
    have k2 := (k.bump (p := Pg.CHANGELOG) (f := Reg.CHANGELOG.PERSIST_DROP) (by decide)).event (p := Pg.CHANGELOG) (k := 1) (by decide)
    exact .ite k.setLog (.ite k2 (k2.event (by decide)).setLogFault)
  unfold Machine.addEntry
  have k : ∀ e, Steady s ((Machine.logRing t e).bumpWrap Pg.CHANGELOG Reg.CHANGELOG.TOTAL) := fun e => (r e).bumpWrap (by decide)
  exact .ite (c _ _ (k _)) (k _)

theorem Steady.putLogged {o p v : Nat} {f : Fld} (h : Steady s t) (k : aside f) : Steady s (putLogged t o p f v) := by
  unfold Machine.putLogged logChange; exact .ite h ((h.put k).addEntry.bumpWrap (by decide))

theorem Steady.phaseLow {p : Nat} (h : Steady s t) : Steady s (phaseLow t p) := by
  unfold Machine.phaseLow
  exact h.setPhase.putb (by decide)

theorem Steady.phaseSafe {p : Nat} (h : Steady s t) : Steady s (phaseSafe t p) := by
  unfold Machine.phaseSafe
  exact .ite ((((h.putb (by decide)).put (by decide)).event (by decide)).put (by decide)).phaseLow h.phaseLow

theorem Steady.stageOff {c : Nat} (h : Steady s t) : Steady s (stageOff t c) := by
  unfold Machine.stageOff Machine.isoLow
  have k := h.phaseLow (p := 2 * c) |>.phaseLow (p := 2 * c + 1)
  exact Steady.setChan ((Steady.setChan k).putb (by decide))

theorem Steady.markEnd {c r k : Nat} (h : Steady s t) : Steady s (markEnd t c r k) := by
  unfold Machine.markEnd
  exact Steady.setChan (h.foldl (fun m u hu => (hu.put (by decide)).put (by decide)))

theorem Steady.clearRunFlags {c : Nat} (h : Steady s t) : Steady s (clearRunFlags t c) := by
  unfold Machine.clearRunFlags
  refine Steady.setChan ?_
  exact (((((((h.put (by decide)).putb (by decide)).putb (by decide)).putb (by decide)).putb (by decide)).putb (by decide)).putb
    (by decide)).put (by decide)

/-- What a channel's safe state does before STATE takes SAFE. -/
def toSafe (s : State) (c result cause : Nat) : State :=
  let l := s.lead c
  let g := s.gang c
  let t := putLogged (g.foldl (fun s m => stageOff (phaseSafe (phaseSafe s (2 * m)) (2 * m + 1)) m) s) Org.REACT (Pg.CHAN l) Reg.CHAN.CONTROL_ENABLE 0
  clearRunFlags (if stepActive t l && (t.chan l).endPending.isNone then markEnd t l result cause
      else if s.cstate c = Ch.RAMPDOWN ∧ cause = 3 then
        g.foldl (fun s m => s.put (Pg.CHAN m) Reg.CHAN.STATUS_END_CAUSE 3) t
      else t) l

theorem chanSafe_eq (s : State) (c r k : Nat) :
    chanSafe s c r k = if s.cstate c = Ch.SAFE then s else (toSafe s c r k).setCstate (s.lead c) Ch.SAFE := rfl

theorem Steady.toSafe (s : State) (c r k : Nat) : Steady s (toSafe s c r k) := by
  unfold Machine.toSafe
  have h := Steady.refl s
  have h2 := (h.foldl (l := s.gang c) (f := fun s m => Machine.stageOff (Machine.phaseSafe (Machine.phaseSafe s (2 * m)) (2 * m + 1)) m)
    (fun m u hu => hu.phaseSafe.phaseSafe.stageOff)).putLogged (o := Org.REACT) (p := Pg.CHAN (s.lead c)) (f := Reg.CHAN.CONTROL_ENABLE) (v := 0) (by decide)
  exact (Steady.ite h2.markEnd (.ite (h2.foldl (fun m u hu => hu.put (by decide))) h2)).clearRunFlags

theorem lead_lead (s : State) (c : Nat) : s.lead (s.lead c) = s.lead c := by
  have a4 : c / 4 * 4 / 4 * 4 = c / 4 * 4 := by omega
  have a2 : c / 2 * 2 / 2 * 2 = c / 2 * 2 := by omega
  have a24 : c / 2 * 2 / 4 * 4 = c / 4 * 4 := by omega
  by_cases h4 : s.getf (Pg.CHAN (c / 4 * 4)) Reg.CHAN.GANG_SIZE = 2
  · have e : s.lead c = c / 4 * 4 := by rw [State.lead, if_pos h4]
    rw [e, State.lead, a4, if_pos h4]
  · by_cases h2 : s.getf (Pg.CHAN (c / 2 * 2)) Reg.CHAN.GANG_SIZE = 1
    · have e : s.lead c = c / 2 * 2 := by rw [State.lead, if_neg h4, if_pos h2]
      rw [e, State.lead, a24, if_neg h4, a2, if_pos h2]
    · have e : s.lead c = c := by rw [State.lead, if_neg h4, if_neg h2]
      rw [e, e]

theorem setSafe_state (t : State) (l : Nat) : (t.setCstate l Ch.SAFE).get (Pg.CHAN (t.lead l)) Reg.CHAN.STATUS_STATE = Ch.SAFE := by
  unfold State.setCstate
  split
  · assumption
  · rw [State.event, State.get_put_ne _ _ (by simp [addrOf]), State.get_put_same _ _ _ _ (by decide) (by decide)]
    rfl

theorem Steady.setSafe (t : State) (l : Nat) : Steady t (t.setCstate l Ch.SAFE) := by
  unfold State.setCstate
  refine .ite (Steady.refl t) (Steady.event (t := State.put _ _ _ _) ?_ (by decide))
  refine ⟨by simp, fun c => t.rd_put_ne _ (by simp only [addrOf]; omega), fun c x => ?_⟩
  by_cases e : addrOf (Pg.CHAN c) Reg.CHAN.STATUS_STATE = addrOf (Pg.CHAN (t.lead l)) Reg.CHAN.STATUS_STATE
  · have q : Pg.CHAN c = Pg.CHAN (t.lead l) := by simp only [addrOf] at e; omega
    rw [q, t.get_put_same _ _ _ (by decide) (by decide)]; rfl
  · rw [t.get_put_ne _ e]; exact x

theorem Steady.chanSafe (s : State) (c r k : Nat) : Steady s (chanSafe s c r k) := by
  rw [chanSafe_eq]; exact .ite (Steady.refl s) ((Steady.toSafe s c r k).trans (Steady.setSafe _ _))

/-- A channel taken to its safe state is in SAFE. -/
theorem chanSafe_cstate (s : State) (c r k : Nat) : (chanSafe s c r k).cstate c = Ch.SAFE := by
  have h := Steady.chanSafe s c r k
  rw [State.cstate, h.lead]
  rw [chanSafe_eq]
  split
  · assumption
  · have e := setSafe_state (toSafe s c r k) (s.lead c)
    rw [(Steady.toSafe s c r k).lead, lead_lead] at e
    exact e

theorem safeFold (f : State → Nat → Nat × Nat) (l : List Nat) (s : State) :
    Steady s (l.foldl (fun s c => chanSafe s c (f s c).1 (f s c).2) s) ∧
      ∀ c ∈ l, (l.foldl (fun s c => chanSafe s c (f s c).1 (f s c).2) s).cstate c = Ch.SAFE := by
  induction l generalizing s with
  | nil => exact ⟨Steady.refl s, by simp⟩
  | cons a l ih =>
    obtain ⟨i1, i2⟩ := ih (chanSafe s a (f s a).1 (f s a).2)
    refine ⟨(Steady.chanSafe s a _ _).trans i1, fun c hc => ?_⟩
    rcases List.mem_cons.mp hc with rfl | hc
    · exact i1.cstate (chanSafe_cstate s c _ _)
    · exact i2 c hc

/-- Channels already in SAFE are left as they are. -/
theorem safeFold_id (f : State → Nat → Nat × Nat) (l : List Nat) (s : State) (h : ∀ c ∈ l, s.cstate c = Ch.SAFE) :
    l.foldl (fun s c => chanSafe s c (f s c).1 (f s c).2) s = s := by
  induction l with
  | nil => rfl
  | cons a l ih =>
    rw [List.foldl_cons, chanSafe_eq, if_pos (h a (by simp))]
    exact ih (fun c hc => h c (by simp [hc]))

/-! ### A whole message -/

theorem logRoom.same' (h : logRoom s n) (e : t.log = s.log ∧ t.fault.logPending = s.fault.logPending) : logRoom t n := h.same e.1 e.2

theorem capStore_log (s : State) (k : Nat) : (capStore s k).log = s.log ∧ (capStore s k).fault = s.fault := by
  unfold capStore; dsimp only; split <;> simp

theorem captureSource_log (s : State) (k : Nat) : (captureSource s k).log = s.log ∧ (captureSource s k).fault = s.fault := by
  unfold captureSource
  split
  · exact foldl_log _ _ (fun s a => by split; exact capStore_log s a; exact ⟨rfl, rfl⟩) s
  · exact ⟨rfl, rfl⟩

theorem publishFaultN_log (s : State) : (publishFaultN s).log = s.log ∧ (publishFaultN s).fault = s.fault := by
  unfold publishFaultN
  dsimp only
  split
  · obtain ⟨a, b⟩ := captureSource_log ((s.putb Pg.FAULT Reg.FAULT.STATUS_FAULT_N_IN (faultNIn s)).putb Pg.CHIP Reg.CHIP.STATUS_FAULT_N_IN (faultNIn s)) 5
    exact ⟨a.trans (by simp), b.trans (by simp)⟩
  · simp

theorem Steady.foldl' {α : Type} {f : State → α → State} {l : List α} (h : Steady s t) (k : ∀ a ∈ l, ∀ u, Steady s u → Steady s (f u a)) :
    Steady s (l.foldl f t) := by
  induction l generalizing t with
  | nil => exact h
  | cons a l ih => exact ih (k a (by simp) t h) (fun b hb => k b (by simp [hb]))

theorem Steady.capStore {k : Nat} (h : Steady s t) (hk : k < 4) : Steady s (capStore t k) := by
  have a : ∀ f : Fld, 0x100 ≤ f.off → f.off + k * 0x10 < 0x400 → f.stride = 0x10 → f.lo ≤ f.hi → f.hi < 32 → aside (f.ix k) := by
    intro f h1 h2 h3 h4 h5
    simp only [Fld.ix, aside, h3]
    omega
  unfold Machine.capStore
  dsimp only
  refine Steady.event (Steady.putb (Steady.put (Steady.put ?_ (a _ (by decide) (by simp; omega) rfl (by decide) (by decide)))
    (a _ (by decide) (by simp; omega) rfl (by decide) (by decide))) (a _ (by decide) (by simp; omega) rfl (by decide) (by decide))) (by omega)
  exact .ite ((h.putb (a _ (by decide) (by simp; omega) rfl (by decide) (by decide))).event (by omega)) h

theorem Steady.publishFaultN (h : Steady s t) : Steady s (publishFaultN t) := by
  have k := (h.putb (p := Pg.FAULT) (f := Reg.FAULT.STATUS_FAULT_N_IN) (b := faultNIn t) (by decide)).putb (p := Pg.CHIP)
    (f := Reg.CHIP.STATUS_FAULT_N_IN) (b := faultNIn t) (by decide)
  unfold Machine.publishFaultN Machine.captureSource
  refine .ite (.ite (k.foldl' (fun a ha u hu => ?_)) k) k
  exact .ite (hu.capStore (List.mem_range.mp ha)) hu

/-- A member's size is not one of the registers that a reaction writes. -/
theorem Held.bankCount {E : Nat → Prop} (h : Held E s t) (k : ¬ E (addrOf Pg.CHIP Reg.CHIP.IDENT_MEMBER)) : t.bankCount = s.bankCount := by
  have e := h.rd (addrOf Pg.CHIP Reg.CHIP.IDENT_MEMBER) (by simp [reactivePage, addrOf]) k (by decide)
  rw [State.bankCount, State.get, e]; rfl

theorem Held.full {E : Nat → Prop} (h : Held E s t) : t.full = s.full := by
  have e := h.chip Reg.CHIP.STATUS_SERVICE rfl (by decide) (by decide)
  have p : t.powered = s.powered := by have e := congrArg State.powered h.rest; exact e
  rw [State.full, State.inService, State.service, e, p]; rfl

/-- Is every channel of the member in SAFE, where the device is in FULL? -/
def allSafe (s : State) : Prop := s.full = true → ∀ c ∈ List.range (4 * s.bankCount), s.cstate c = Ch.SAFE

theorem chipSafeWith_safe (h : allSafe s) (r k : Nat) :
    chipSafeWith s r k = (s.putb Pg.FAULT Reg.FAULT.STATUS_CHIP_SAFE true).put Pg.FAULT Reg.FAULT.STATUS_BANK_SAFE 0xFF := by
  have st : Steady s ((s.putb Pg.FAULT Reg.FAULT.STATUS_CHIP_SAFE true).put Pg.FAULT Reg.FAULT.STATUS_BANK_SAFE 0xFF) :=
    ((Steady.refl s).putb (by decide)).put (by decide)
  have hd : Held (fun _ => False) s ((s.putb Pg.FAULT Reg.FAULT.STATUS_CHIP_SAFE true).put Pg.FAULT Reg.FAULT.STATUS_BANK_SAFE 0xFF) :=
    ((Held.refl s).putb rFault (by decide)).put rFault (by decide)
  unfold chipSafeWith
  dsimp only
  split
  · rename_i f
    rw [hd.full] at f
    refine safeFold_id (fun _ _ => (r, k)) _ _ (fun c hc => ?_)
    rw [hd.bankCount (by simp)] at hc
    exact st.cstate (h f c hc)
  · rfl

theorem logRoom.driveFaultN (h : logRoom s n) (k : allSafe s ∨ logRoom s (n + 32)) : logRoom (driveFaultN s) n := by
  unfold Machine.driveFaultN
  split
  · exact h
  · have e := publishFaultN_log (s.putb Pg.FAULT Reg.FAULT.STATUS_FAULT_N_OUT true)
    rcases k with k | k
    · have a : allSafe (publishFaultN (s.putb Pg.FAULT Reg.FAULT.STATUS_FAULT_N_OUT true)) := by
        have st := ((Steady.refl s).putb (p := Pg.FAULT) (f := Reg.FAULT.STATUS_FAULT_N_OUT) (b := true) (by decide)).publishFaultN
        have hd : Held (fun _ => False) s _ := ((Held.refl s).putb (f := Reg.FAULT.STATUS_FAULT_N_OUT) (b := true) rFault (by decide)).publishFaultN
        intro f c hc
        rw [hd.full] at f
        rw [hd.bankCount (by simp)] at hc
        exact st.cstate (k f c hc)
      rw [chipSafeWith_safe a]
      exact h.same (by simp [e.1]) (by simp [e.2])
    · exact (k.same (by simp [e.1]) (by simp [e.2])).chipSafeWith

theorem logRoom.takeScope {p k a : Nat} {sc : Scope} (h : logRoom s (n + 4)) (x : sc ≠ .chip) : logRoom (takeScope s p k a sc) n := by
  cases sc with
  | chan c =>
    simp only [Machine.takeScope]
    split
    · exact (h.mono (by simp)).safeChans
    · exact h.mono (by omega)
  | bank b =>
    simp only [Machine.takeScope]
    have h2 : logRoom (s.putBit Pg.FAULT Reg.FAULT.STATUS_BANK_SAFE b true) (n + 4) := h.same (by simp) (by simp)
    split
    · exact (h2.mono (by simp [bankChans])).safeChans
    · exact h2.mono (by omega)
  | chip => exact absurd rfl x

theorem logRoom.takeChip {p k a : Nat} (h : logRoom s (n + 32)) : logRoom (Machine.takeScope s p k a .chip) n ∧ allSafe (Machine.takeScope s p k a .chip) := by
  simp only [Machine.takeScope]
  generalize hu : (s.putb Pg.FAULT Reg.FAULT.STATUS_CHIP_SAFE true).put Pg.FAULT Reg.FAULT.STATUS_BANK_SAFE 0xFF = u
  have h2 : logRoom u (n + 32) := by subst hu; exact h.same (by simp) (by simp)
  have hb := u.bankCount_le
  split
  · rename_i f
    refine ⟨(h2.mono (by rw [List.length_range]; omega)).safeChans, fun _ c hc => ?_⟩
    unfold Machine.safeChans at hc ⊢
    have hd : Held (fun _ => False) u (Machine.safeChans u p k a (List.range (4 * u.bankCount))) :=
      (Held.refl u).safeChans (fun c hc => by have := List.mem_range.mp hc; omega)
    have e := hd.bankCount (by simp)
    unfold Machine.safeChans at e
    rw [e] at hc
    exact (safeFold (fun s c => endOf s p k a c) _ u).2 c hc
  · rename_i f
    exact ⟨h2.mono (by omega), fun g => absurd g f⟩

theorem latch_log (s : State) (k : Nat) : (s.latch k).log = s.log ∧ (s.latch k).fault = s.fault := by
  unfold State.latch
  split
  · exact ⟨rfl, rfl⟩
  · dsimp only; split <;> simp

/-- What leaves the change log and the messages waiting as they are. -/
def quiet (s t : State) : Prop := t.log = s.log ∧ t.fault.logPending = s.fault.logPending

theorem quiet.refl (s : State) : quiet s s := ⟨rfl, rfl⟩
theorem quiet.trans (h : quiet s t) (k : quiet t u) : quiet s u := ⟨k.1.trans h.1, k.2.trans h.2⟩

theorem enqueueMsg_quiet (s : State) (m : Nat) : quiet s (enqueueMsg s m) := by unfold enqueueMsg; split <;> simp [quiet]

theorem makeEntry_quiet (s : State) (p k a v : Nat) : quiet s (makeEntry s p k a v) := by
  unfold makeEntry
  split
  · exact quiet.refl s
  · dsimp only
    split <;> split <;> simp [quiet, latch_log]

theorem queueCrier_quiet (s : State) (m : Nat) : quiet s (queueCrier s m) := by
  unfold queueCrier; split <;> [split; skip] <;> simp [quiet]

theorem startRecord_quiet (s : State) (m : Nat) (i c : Bool) : quiet s (startRecord s m i c) := by
  unfold startRecord
  split
  · simp [quiet]
  · dsimp only; split <;> simp [quiet]

theorem logRoom.quiet (h : logRoom s n) (k : quiet s t) : logRoom t n := h.same k.1 k.2

/-- A message and its reaction take at most 36 places: one for each channel of the device, and one for each channel of a
bank. -/
theorem logRoom.raiseScoped {p k a v : Nat} {i : Bool} {sc : Option Scope} (h : logRoom s (n + 36)) :
    logRoom (raiseScoped s p k a v i sc) n := by
  unfold Machine.raiseScoped
  dsimp only
  generalize h1 : ((s.put p Reg.HEADER.FAULT_LAST (faultMsg p k a v)).event p Ev.FAULT |>.bump Pg.FAULT Reg.FAULT.MSG_COUNT).event Pg.FAULT 0 = s1
  have q1 : Machine.quiet s s1 := by subst h1; simp [Machine.quiet]
  generalize h2 : (if k = Kind.BOARD_FAULT_IN then s1.event Pg.FAULT 8 else s1) = s2
  have q2 : Machine.quiet s1 s2 := by subst h2; split <;> simp [Machine.quiet]
  generalize h3 : makeEntry (enqueueMsg s2 (faultMsg p k a v)) p k a v = s3
  have q3 : Machine.quiet s2 s3 := by subst h3; exact (enqueueMsg_quiet _ _).trans (makeEntry_quiet _ _ _ _ _)
  generalize h4 : (if v = 5 then queueCrier s3 (faultMsg p k a v) else s3) = s4
  have q4 : Machine.quiet s3 s4 := by subst h4; split; exact queueCrier_quiet _ _; exact quiet.refl _
  generalize h5 : (if s4.getf Pg.FAULT Reg.FAULT.CFG_RECORD_SEV ≤ v ∧ v ≠ 0 then startRecord s4 (faultMsg p k a v) i (decide (s3.fault.crier.length < s4.fault.crier.length)) else s4) = s5
  have q5 : Machine.quiet s4 s5 := by subst h5; split; exact startRecord_quiet _ _ _ _; exact quiet.refl _
  have r : logRoom s5 (n + 36) := h.quiet ((((q1.trans q2).trans q3).trans q4).trans q5)
  have done : ∀ u, logRoom u n ∧ (allSafe u ∨ logRoom u (n + 32)) →
      logRoom (if k ≠ Kind.BOARD_FAULT_IN ∧ v ≠ 0 ∧ (v = 5 ∨ u.getf Pg.FAULT Reg.FAULT.CFG_PIN_THRESH ≤ v) then Machine.driveFaultN u else u) n := by
    intro u hu
    split
    · exact hu.1.driveFaultN hu.2
    · exact hu.1
  apply done
  cases sc with
  | none => exact ⟨r.mono (by omega), Or.inr (r.mono (by omega))⟩
  | some sc =>
    by_cases x : sc = .chip
    · subst x
      have := (r.mono (show n + 32 ≤ n + 36 by omega)).takeChip (p := p) (k := k) (a := a)
      exact ⟨this.1, Or.inl this.2⟩
    · have := (r.mono (show n + 32 + 4 ≤ n + 36 by omega)).takeScope (p := p) (k := k) (a := a) x
      exact ⟨this.mono (by omega), Or.inr this⟩

theorem logRoom.raise {p k a : Nat} (h : logRoom s (n + 36)) : logRoom (raise s p k a) n := by
  unfold Machine.raise raiseWith; exact h.raiseScoped

theorem logRoom.raiseIdle {p k a : Nat} (h : logRoom s (n + 36)) : logRoom (raiseIdle s p k a) n := by
  unfold Machine.raiseIdle; exact h.raiseScoped

end Sys2Proof.Machine
end

