-- ==== Sys2Proof/Laws/Cmd.lean ====
section
/-! SUPPORT. The end of a command: what `finish`, `takes` and `flushLog` answer, and how a claim about a command follows from
one about its act. -/

namespace Sys2Proof.Machine

variable {s t u : State} {c : Instr} {P : State → Prop} {b : Bool} {act : State → State} (o : Out)

/-- `t` has the queue, the supply and the OTP of `s`. -/
def sameOuter (s t : State) : Prop :=
  t.pending = s.pending ∧ t.powered = s.powered ∧ t.otpA = s.otpA ∧ t.otpB = s.otpB

theorem sameOuter.refl (s : State) : sameOuter s s := ⟨rfl, rfl, rfl, rfl⟩

theorem sameOuter.trans (h : sameOuter s t) (k : sameOuter t u) : sameOuter s u :=
  ⟨k.1.trans h.1, k.2.1.trans h.2.1, k.2.2.1.trans h.2.2.1, k.2.2.2.trans h.2.2.2⟩

theorem Held.sameOuter {E : Nat → Prop} (h : Held E s t) : sameOuter s t := by
  have e := h.rest
  exact ⟨by have := congrArg State.pending e; exact this, by have := congrArg State.powered e; exact this,
    by have := congrArg State.otpA e; exact this, by have := congrArg State.otpB e; exact this⟩

theorem finish_eq (h : sameOuter s t) : finish s t = .next (flushLog t) := by
  have k := h.trans ((Held.refl (E := fun _ => False) t).flushLog.sameOuter)
  unfold finish
  rw [← k.1, ← k.2.1, ← k.2.2.1, ← k.2.2.2]

theorem finish_room (h : sameOuter s t) (r : logRoom t 0) : finish s t = .next t := by
  rw [finish_eq h, flushLog_room r]

/-- A command that is an event, without an entry lost. -/
theorem gives_takes (hx : exec c s = o) (ho : o = takes s b act) (hb : b = true) (h : sameOuter s (act s)) (r : logRoom (act s) 0) (p : P (act s)) :
    gives c s P := ⟨act s, by rw [hx, ho, takes, if_pos hb, finish_room h r], p⟩

/-- A command that is an event, whatever the change log holds. -/
theorem gives_flush (hx : exec c s = o) (ho : o = takes s b act) (hb : b = true) (h : sameOuter s (act s)) (p : P (flushLog (act s))) :
    gives c s P := ⟨flushLog (act s), by rw [hx, ho, takes, if_pos hb, finish_eq h], p⟩

theorem gives_finish (hx : exec c s = o) (ho : o = finish s t) (h : sameOuter s t) (r : logRoom t 0) (p : P t) : gives c s P :=
  ⟨t, by rw [hx, ho, finish_room h r], p⟩

theorem gives_finish_flush (hx : exec c s = o) (ho : o = finish s t) (h : sameOuter s t) (p : P (flushLog t)) : gives c s P :=
  ⟨flushLog t, by rw [hx, ho, finish_eq h], p⟩

/-- What a message's end adds is held by the reaction pages. -/
theorem flushLog_held (E : Nat → Prop) (t : State) : Held E t (flushLog t) := (Held.refl t).flushLog

end Sys2Proof.Machine
end

