-- ==== Sys2Proof/Tests/Slice0.lean ====
section
/-! SUPPORT. Tests: the form of the operands, single steps whose outcome the spec states, and for each statement with
hypotheses a state and operands that meet them. -/

namespace Sys2Proof.Tests
open Sys2Proof.Machine

/-- The reset state in a service state. -/
def svc (v : Nat) : State := State.reset.put Pg.CHIP Reg.CHIP.STATUS_SERVICE v
/-- A device in REDUCED. -/
def red : State := svc Svc.REDUCED
/-- A device in MAIN_START. -/
def main : State := svc Svc.MAIN_START
/-- A device in JOINING. -/
def join : State := svc Svc.JOINING
/-- A device in WARM_RESET. -/
def warm : State := svc Svc.WARM_RESET
/-- A device in FULL with every engine running. -/
def full : State := (List.range 12).foldl (fun s e => setEstate s e Es.RUNNING) (svc Svc.FULL)
/-- A channel whose recipe is under validation. -/
def validates : State := (full.put (Pg.CHAN 5) Reg.CHAN.CONTROL_SOURCE 1).put (Pg.CHAN 5) Reg.CHAN.RCP_STATUS_RSTATE Rs.VALIDATING
/-- A list of one resting step that passes its validation, in record 0 of bank 1. -/
def listed : State :=
  let l := [134219009, 0, 0, 6553700, 294913000, 412878800, 600, 0, 255, 3932164096, 0, 0, 0, 0, 0, 2288713728]
  let s := (List.range 16).foldl (fun s j => s.wr (recAddr 1 0 + 4 * j) (BitVec.ofNat 32 (nth 0 l j))) validates
  setCommitted ((s.put (Pg.CHAN 5) Reg.CHAN.RCP_CFG_LEN 1).put (Pg.CHAN 5) Reg.CHAN.RCP_CFG_BASE 0) 1 0 true
/-- A device without supply. -/
def dark : State := { State.reset with powered := false }

/-- A device in FULL whose OTP may be programmed: the page factory-unlocked, HK2 qualified. -/
def otpOpen : State := (full.put Pg.OTP Reg.HEADER.LOCK_STATE 3).putb Pg.HKRAIL (Reg.HKRAIL.STATUS_QUALIFIED.ix 1) true

end Sys2Proof.Tests

open Sys2Proof

/-! ### Form: an ill-formed command for each check, which the check refuses -/

theorem test_ill_formed_0 : ([
  .vsysPowerOn 8, .reeveSelftestDone false (2 ^ 16), .refclkQualified (2 ^ 16), .resetCmdWarm (.engine 12),
  .resetCmdCold (.engine 12) .quiet 0, .resetCmdCold .host { FrameIn.quiet with isoLevel := 2 ^ 32 } 0,
  .frameBoundary { FrameIn.quiet with straps := some 8 }, .warmResetEntry { FrameIn.quiet with isoLevel := 2 ^ 32 } 0, .chipGo (.engine 12),
  .refclkLoss (some 65536), .frameBoundary { FrameIn.quiet with isoLevel := 2 ^ 32 }, .transitMark (.engine 12),
  .transitPeriodWrite .host (2 ^ 32), .transitPeriodWrite (.engine 12) 0, .heartbeatPosted 12 0,
  .heartbeatPosted 0 (2 ^ 32), .engineRamError 12, .engineTrap 12, .engctlStop .host 16, .engctlStop (.engine 12) 0,
  .engctlRestart .host 16, .engctlRestart (.engine 12) 0, .engineRestartDone 12 false, .holdLimitExpiry 8] : List Instr).all (fun i => !i.wf) = true := by decide
theorem test_ill_formed_1 : ([
  .bankHandback 8, .switchingCycle 64 false, .fastLimitPosTrip 64, .fastLimitNegTrip 64, .ocFastRun 64,
  .imonOutOfRange 64, .slowLimitTrip 64, .balancingObservationDone 32, .imonZeroCapture 32 0 0, .isoDriveHigh 32,
  .chanEnable .host 32, .chanEnable (.engine 12) 0, .chanDisable .host 32 false, .chanDisable (.engine 12) 0 false,
  .chanModeWrite .host 32 0, .chanModeWrite .host 0 16, .chanModeWrite (.engine 12) 0 0, .chanResume .host 32,
  .chanResume (.engine 12) 0, .chanGangWrite .host 32 0, .chanGangWrite .host 0 4, .chanGangWrite (.engine 12) 0 0,
  .cellCommit .host 32, .cellCommit (.engine 12) 0] : List Instr).all (fun i => !i.wf) = true := by decide
theorem test_ill_formed_2 : ([
  .mateReset .host 32 0, .mateReset .host 0 (2 ^ 16), .mateReset (.engine 12) 0 0, .channelShortRamp 32,
  .channelShortZv 32, .probeResistanceWear 32, .calStepStart 8, .calDone 8 ⟨0, 0, 0, 0⟩, .sliceFailure 8 0,
  .sliceFailure 0 10, .calEnableWrite .host 8 0, .calEnableWrite .host 0 (2 ^ 32), .calEnableWrite (.engine 12) 0 0,
  .retireClr .host 8 0, .retireClr .host 0 (2 ^ 10), .retireClr (.engine 12) 0 0, .trackerClrV .host 32,
  .trackerClrV (.engine 12) 0, .trackerClrI .host 32, .trackerClrI (.engine 12) 0, .busTrackerClr .host 8,
  .busTrackerClr (.engine 12) 0, .bankStatusSnapshotRead .host 8 0, .bankStatusSnapshotRead .host 0 5] : List Instr).all (fun i => !i.wf) = true := by decide
theorem test_ill_formed_3 : ([
  .bankStatusSnapshotRead (.engine 12) 0 0, .ckptNow (.engine 12), .ledgerSnap (.engine 12), .clrRun .host 32,
  .clrRun (.engine 12) 0, .busClr .host 8, .busClr (.engine 12) 0, .accSnapRead .host 32,
  .accSnapRead (.engine 12) 0, .loWordLatchRead .host (2 ^ 24), .loWordLatchRead (.engine 12) 0,
  .balanceWindowClose 8, .recipeRecordCommitWrite .host 8 0 0, .recipeRecordCommitWrite .host 0 256 0,
  .recipeRecordCommitWrite .host 0 0 (2 ^ 32), .recipeRecordCommitWrite (.engine 12) 0 0 0, .rcpStart .host 32,
  .rcpStart (.engine 12) 0, .recipeValidationDone 32, .rcpContinue .host 32, .rcpContinue (.engine 12) 0,
  .rcpJump .host 32 0, .rcpJump .host 0 64, .rcpJump (.engine 12) 0 0] : List Instr).all (fun i => !i.wf) = true := by decide
theorem test_ill_formed_4 : ([
  .endInfoRead .host 32, .endInfoRead (.engine 12) 0, .toneSetCommit .host 4 0, .toneSetCommit .host 0 (2 ^ 32),
  .toneSetCommit (.engine 12) 0 0, .impedanceWindowClose 32, .resultPublish 32, .dcirPulseEnd 32,
  .ocvRelaxationFit 32, .ocvTableCommit .host 4 0, .ocvTableCommit .host 0 (2 ^ 16),
  .ocvTableCommit (.engine 12) 0 0, .resSnapRead .host 32, .resSnapRead (.engine 12) 0,
  .ringTrainForward (2 ^ 32) (List.replicate 8 0), .ringTrainForward 0 [],
  .ringTrainForward 0 (List.replicate 8 (2 ^ 58)), .tokenStarveDetect 32, .reissue .host (2 ^ 32),
  .reissue (.engine 12) 0, .faultClear .host (2 ^ 32), .faultClear (.engine 12) 0,
  .severityMapWrite .host (2 ^ 14) 0 0, .severityMapWrite .host 0 3 0] : List Instr).all (fun i => !i.wf) = true := by decide
theorem test_ill_formed_5 : ([
  .severityMapWrite .host 0 0 (2 ^ 32), .severityMapWrite (.engine 12) 0 0 0, .fifoMsgRead (.engine 12),
  .crierReceive [256], .testKeyWrite .host (2 ^ 32) false, .testKeyWrite (.engine 12) 0 false,
  .faultInject .host (2 ^ 32), .faultInject (.engine 12) 0, .seqSlot 16 0 [], .seqSlot 0 16 [], .seqSlot 0 0 (List.replicate 5 0),
  .pgChange 4 false false, .railQualified 4, .railStartTimeout 4, .railSoftstartShort 4, .railFaultTrip 4 0,
  .railFaultTrip 0 4, .offTimeout 4, .downRailOvercurrent 4, .hkseqCmdUp (.engine 12), .hkseqCmdDown (.engine 12),
  .resetOutputRelease 2, .railEnWrite .host 4 0, .railEnWrite .host 0 (2 ^ 32)] : List Instr).all (fun i => !i.wf) = true := by decide
theorem test_ill_formed_6 : ([
  .railEnWrite (.engine 12) 0 0, .railVsetWrite .host 4 0, .railVsetWrite .host 0 (2 ^ 16),
  .railVsetWrite (.engine 12) 0 0, .packShutdown { FrameIn.quiet with isoLevel := 2 ^ 32 } 0,
  .emergencyCommitStart { FrameIn.quiet with isoLevel := 2 ^ 32 } 0, .authStart (.engine 12),
  .packAuthAttempt false [] none, .packAuthAttempt false (List.replicate 16 256) none,
  .packAuthAttempt false (List.replicate 16 0) (some []), .gaugeRelearn (.engine 12), .rtcSecond (2 ^ 16),
  .rtcTimeWrite .host .timeSec (2 ^ 32), .rtcTimeWrite (.engine 12) .timeSec 0, .rtcHaltWrite (.engine 12) false,
  .timeSecRead (.engine 12), .alarmArmWrite (.engine 12) false, .trimMeasStart .host 128 false,
  .trimMeasStart (.engine 12) 0 false, .trimMeasDone (2 ^ 64), .wakeRelease (.engine 12), .wakeForce (.engine 12),
  .compareArm .host 8 0, .compareArm .host 0 (2 ^ 32)] : List Instr).all (fun i => !i.wf) = true := by decide
theorem test_ill_formed_7 : ([
  .compareArm (.engine 12) 0 0, .compareFire 8, .comparePulseEnd 8, .captureEdge 4 false, .capLoRead .host 4,
  .capLoRead (.engine 12) 0, .tickLoRead (.engine 12), .gpioCfgWrite .host (2 ^ 32), .gpioCfgWrite (.engine 12) 0,
  .otpProgWord (.engine 12), .otpProgCrc .host 8, .otpProgCrc (.engine 12) 0, .otpMargin .host 8,
  .otpMargin (.engine 12) 0, .otpProgDone (2 ^ 32) [] [],
  .otpProgDone 0 [⟨256, 0, 0⟩] [], .otpProgDone 0 [] [⟨0, 2 ^ 32, 0⟩], .otpProgDone 0 [] [⟨0, 0, 2 ^ 32⟩],
  .granaryCommitDone [1024], .gaugeUpdate 0 (2 ^ 16), .granaryWearRewrite 256, .custCommit .host 32 0, .custCommit .host 0 512,
  .custCommit (.engine 12) 0 0, .lockCmdLock .host (2 ^ 14), .lockCmdLock (.engine 12) 0] : List Instr).all (fun i => !i.wf) = true := by decide
theorem test_ill_formed_8 : ([
  .lockCmdLockHard .host (2 ^ 14), .lockCmdLockHard (.engine 12) 0, .lockCmdUnlock .host (2 ^ 14) 0,
  .lockCmdUnlock .host 0 (2 ^ 16), .lockCmdUnlock (.engine 12) 0 0, .lockCmdFactoryUnlock .host (2 ^ 14) 0,
  .lockCmdFactoryUnlock .host 0 (2 ^ 16), .lockCmdFactoryUnlock (.engine 12) 0 0, .changelogTailWrite .host (2 ^ 32),
  .changelogTailWrite (.engine 12) 0, .changelogEntryRead (.engine 12), .readClearField .host (2 ^ 24),
  .readClearField (.engine 12) 0, .hostRead ⟨false, 256, 0, 0, 0⟩, .hostRead ⟨false, 0, 2 ^ 24, 0, 0⟩,
  .hostRead ⟨false, 0, 0, 256, 0⟩, .hostRead ⟨false, 0, 0, 0, 65536⟩, .hostReadFixed ⟨false, 256, 0, 0, 0⟩,
  .hostReadFixed ⟨false, 0, 2 ^ 24, 0, 0⟩, .hostReadFixed ⟨false, 0, 0, 256, 0⟩,
  .hostReadFixed ⟨false, 0, 0, 0, 65536⟩, .hostWrite ⟨false, 256, 0, 0, 0⟩ [0] false,
  .hostWrite ⟨false, 0, 2 ^ 24, 0, 0⟩ [0] false, .hostWrite ⟨false, 0, 0, 256, 0⟩ [0] false] : List Instr).all (fun i => !i.wf) = true := by decide
theorem test_ill_formed_9 : ([
  .hostWrite ⟨false, 0, 0, 0, 65536⟩ [0] false, .hostWrite ⟨false, 0, 0, 0, 0⟩ [] false,
  .hostWrite ⟨false, 0, 0, 0, 0⟩ [2 ^ 32] false, .hostWriteFixed ⟨false, 256, 0, 0, 0⟩ [0] false,
  .hostWriteFixed ⟨false, 0, 2 ^ 24, 0, 0⟩ [0] false, .hostWriteFixed ⟨false, 0, 0, 256, 0⟩ [0] false,
  .hostWriteFixed ⟨false, 0, 0, 0, 65536⟩ [0] false, .hostWriteFixed ⟨false, 0, 0, 0, 0⟩ [] false,
  .hostWriteFixed ⟨false, 0, 0, 0, 0⟩ [2 ^ 32] false, .hostBcastWrite ⟨false, 256, 0, 0, 0⟩ [0] false,
  .hostBcastWrite ⟨false, 0, 2 ^ 24, 0, 0⟩ [0] false, .hostBcastWrite ⟨false, 0, 0, 256, 0⟩ [0] false,
  .hostBcastWrite ⟨false, 0, 0, 0, 65536⟩ [0] false, .hostBcastWrite ⟨false, 0, 0, 0, 0⟩ [] false,
  .hostBcastWrite ⟨false, 0, 0, 0, 0⟩ [2 ^ 32] false, .hostFrameInvalid 16 0 false,
  .hostFrameInvalid 0 (2 ^ 48) false, .streamDataRead .host 4, .streamDataRead (.engine 12) 0,
  .streamRetire .host 4 0, .streamRetire .host 0 (2 ^ 32), .streamRetire (.engine 12) 0 0,
  .streamEnableWrite .host (2 ^ 32), .streamEnableWrite (.engine 12) 0] : List Instr).all (fun i => !i.wf) = true := by decide
theorem test_ill_formed_10 : ([
  .streamConfigWrite .host false (2 ^ 32), .streamConfigWrite (.engine 12) false 0, .twowireResume 64,
  .twowireAck 16, .twowireCmdDiscard [256] false, .twowireStatusWrite .host (2 ^ 32),
  .twowireStatusWrite (.engine 12) 0, .registerWrite .host (2 ^ 24) 0, .registerWrite .host 0 (2 ^ 32),
  .registerWrite (.engine 12) 0 0, .frameBoundary { FrameIn.quiet with banks := List.replicate 9 BankIn.none },
  .frameBoundary { FrameIn.quiet with banks := [⟨List.replicate 11 ⟨0, 0⟩, []⟩] },
  .frameBoundary { FrameIn.quiet with banks := [⟨[], List.replicate 5 0⟩] },
  .frameBoundary { FrameIn.quiet with imons := List.replicate 65 0 },
  .frameBoundary { FrameIn.quiet with flips := [(0, false)] },
  .frameBoundary { FrameIn.quiet with flips := [(0x80001, false)] },
  .frameBoundary { FrameIn.quiet with flips := [(0xA0000, false)] },
  .frameBoundary { FrameIn.quiet with gpio := some 16 },
  .frameBoundary { FrameIn.quiet with ramEcc := [12] }] : List Instr).all (fun i => !i.wf) = true := by decide
/-- A well-formed command passes. -/
theorem test_well_formed : ([.vsysPowerOn 7, .hostWrite ⟨true, 224, 0x44, 1, 5⟩ [1, 2] true, .frameBoundary FrameIn.quiet,
  .packAuthAttempt false (List.replicate 16 255) none] : List Instr).all Instr.wf = true := by decide

/-! ### Steps whose outcome the spec gives in numbers -/

open Sys2Proof.Machine

/-- The command answers a next state, and `p` holds there. -/
def Tests.after (c : Instr) (s : State) (p : State → Bool) : Bool :=
  match exec c s with
  | .next t => p t
  | _ => false

/-- R477, *Alert response with ID 2 and ID 5 pending*: ID 2 sends 0x84. -/
theorem test_alert_response_of_id_2 : Tests.after (.alertResponseRead true)
    { Tests.red.put Pg.CHIP Reg.CHIP.IDENT_ID_STRAP 2 with alert := true }
    (fun t => decide (t.reply.wire = [0x84]) && !t.alert) = true := by decide +kernel

/-- R412, *Worked example: trimming a fast crystal*. -/
theorem test_trim_of_a_fast_crystal : Tests.after (.trimMeasDone 3199936001)
    { Tests.full.put Pg.RTC Reg.RTC.TRIM_MEAS_STATE 1 with rtc := { RtcState.init with measWindow := 16 } }
    (fun t => decide (t.geti Pg.RTC Reg.RTC.MEAS_ERR = 20000 ∧ t.geti Pg.RTC Reg.RTC.MEAS_SUGGEST_CODE = -21)) = true := by
  decide +kernel

/-- The state of *Worked example: a severity change on a locked channel page*. -/
def Tests.locked : State :=
  let s := (Tests.full.put 0x051 Reg.HEADER.LOCK_STATE 1).put 0x051 ⟨0x014, 31, 0, 0⟩ 0x400
  { (s.put Pg.CHANGELOG Reg.CHANGELOG.TOTAL 0x100).put Pg.RTC Reg.RTC.TIME_SEC 800000000 with frame := 1000000 }

/-- Its first row: the refused write makes the entry given and sets LOCK_REJECT. -/
theorem test_severity_change_refused : Tests.after (.registerWrite .host (0x051 * 0x400 + 0x014) 0x200) Tests.locked
    (fun t => decide (Table.get LogEntry.empty t.log.ring 0 = ⟨800000000, 1000000, 0x00030051, 0x01000014, 0x400, 0x200⟩ ∧
      t.get 0x051 ⟨0x008, 24, 24, 0⟩ = 1)) = true := by decide +kernel

/-- Its second row: the first key makes no entry. -/
theorem test_first_unlock_key : Tests.after (.lockCmdUnlock .host 0x051 0x55AA) Tests.locked
    (fun t => decide (t.log.fill = 0) && (keySeq t 0x051).isSome) = true := by decide +kernel

/-! ### Witnesses -/

open Sys2Proof Sys2Proof.Machine

set_option Elab.async false

theorem witness_StepRunsFront_1 : ∃ (c : Instr) (rest : List Instr) (s : State), s.pending = c :: rest :=
  ⟨(.pllLocked), ([.twowireNop]), ({ Tests.main with pending := [.pllLocked, .twowireNop] }),
    by decide +kernel⟩
theorem witness_IdleStepOnlyLetsTimePass_1 : ∃ (s : State), s.pending = [] :=
  ⟨(Tests.full),
    by decide +kernel⟩
theorem witness_OtpBitsStayProgrammed_1 : ∃ (s : State) (t : State), step s = .next t :=
  ⟨Tests.full, idle Tests.full, rfl⟩
theorem witness_OnlyVsysChangesTheSupply_1 : ∃ (s : State) (t : State), step s = .next t :=
  ⟨Tests.full, idle Tests.full, rfl⟩
theorem witness_OnlyProgrammingChangesTheOtp_1 : ∃ (s : State) (t : State), step s = .next t ∧ (s.otpOp = none ∨
  s.full = false ∨ (∀ a b c, s.pending.head? ≠ some (.otpProgDone a b c))) :=
  ⟨Tests.full, idle Tests.full, rfl, Or.inl (by decide +kernel)⟩
theorem witness_LoWordsLatchTheirHiWords_1 : ∃ (s : State) (o : Origin) (addr : Nat), isLoWord addr = true ∧ reachable
  s addr = true ∧ originLive s o = true ∧ logRoom s 0 :=
  ⟨(Tests.full), (.host), (Pg.LEDGER * 0x400 + 0x050),
    by decide +kernel⟩
theorem witness_EndInfoReadLatchesItsBlock_1 : ∃ (s : State) (o : Origin) (c : Nat), c < 32 ∧ reachable s (Pg.CHAN c *
  0x400 + 0x240) = true ∧ originLive s o = true ∧ logRoom s 0 :=
  ⟨(Tests.full), (.host), (5),
    by decide +kernel⟩
theorem witness_ResetCommandNeedsHostAndKey_1 : ∃ (s : State) (o : Nat) (v : Nat), reachable s 0x48 = true ∧ noKeys s
  Pg.CHIP ∧ (o ≠ Org.HOST ∨ bitsOf v 31 16 ≠ 0x5E7A) ∧ v < 2 ^ 32 ∧ logRoom s 1 :=
  ⟨(Tests.red), (0), (0),
    by decide +kernel⟩
theorem witness_WritesOutsideRightsHaveNoEffect_1 : ∃ (s : State) (o : Nat) (addr : Nat) (v : Nat) (k : PageKind),
  reachable s addr = true ∧ pageKind (addr / 0x400) = some k ∧ k ≠ .recipe ∧ readOnly k (addr / 0x400) (addr % 0x400)
  (fieldsAt (addr / 0x400) (addr % 0x400)) = false ∧ addr % 0x400 ≠ 0x020 ∧ noKeys s (addr / 0x400) ∧ mayWrite s o
  (addr / 0x400) = false ∧ logRoom s 1 :=
  ⟨(Tests.red), (Org.TWOWIRE), (0x4C), (1), (.chip),
    by decide +kernel⟩
theorem witness_WritesOutsideRightsHaveNoEffect_2 : ∃ (s : State) (o : Nat) (addr : Nat) (v : Nat), reachable s addr =
  false :=
  ⟨(Tests.red), (0), (0xFFFF), (1),
    by decide +kernel⟩
theorem witness_WritesOutsideRightsHaveNoEffect_3 : ∃ (s : State) (n : Nat) (addr : Nat) (v : Nat), n < 10 ∧ engRuns s
  n = true ∧ addr < 2 ^ 24 ∧ addr % 4 = 0 ∧ logRoom s 0 :=
  ⟨(Tests.full), (3), (0x10040), (7),
    by decide +kernel⟩
theorem witness_WritesOutsideRightsHaveNoEffect_4 : ∃ (s : State), reachable s 0x4C = true ∧ keySeq s Pg.CHIP = none ∧
  s.flag Pg.CHIP Reg.CHIP.STATUS_GO_PENDING = false ∧ logRoom s 1 :=
  ⟨(Tests.red),
    by decide +kernel⟩
theorem witness_LocksAndKeys_1 : ∃ (s : State) (p : Nat), p < 0x4000 ∧ pageKind p ≠ some .recipe ∧ hostReach s p 0x020
  ∧ lockState s p ≠ 2 ∧ logRoom s 1 :=
  ⟨(Tests.full), (0x45),
    by decide +kernel⟩
theorem witness_LocksAndKeys_2 : ∃ (s : State) (p : Nat), p < 0x4000 ∧ pageKind p ≠ some .recipe ∧ hostReach s p 0x020
  ∧ logRoom s 1 :=
  ⟨(Tests.full), (0x45),
    by decide +kernel⟩
theorem witness_LocksAndKeys_3 : ∃ (s : State) (p : Nat), p < 0x4000 ∧ pageKind p ≠ some .recipe ∧ hostReach s p 0x020
  ∧ lockState s p ≤ 1 ∧ logRoom s 0 :=
  ⟨(Tests.full), (0x45),
    by decide +kernel⟩
theorem witness_LocksAndKeys_4 : ∃ (s : State) (p : Nat), p < 0x4000 ∧ pageKind p ≠ some .recipe ∧ reachable s (p *
  0x400 + 0x020) = true ∧ (keySeq s p).map (fun q => q.kind) = some 1 ∧ keySeq s testSeq = none ∧ logRoom s 1 :=
  ⟨({ Tests.red.put Pg.CLOCK Reg.HEADER.LOCK_STATE 1 with keys := [(Pg.CLOCK, ⟨1, 0, 0, true⟩)] }), (Pg.CLOCK),
    by decide +kernel⟩
theorem witness_LocksAndKeys_5 : ∃ (s : State) (p : Nat), p < 0x4000 ∧ pageKind p ≠ some .recipe ∧ hostReach s p 0x020
  ∧ lockState s p ≤ 1 ∧ s.allOff = true ∧ s.getBit Pg.CHIP Reg.CHIP.STATUS_OTP_FAIL 2 = false ∧ logRoom s 0 :=
  ⟨(Tests.full), (Pg.OTP),
    by decide +kernel⟩
theorem witness_LocksAndKeys_6 : ∃ (s : State) (p : Nat), p < 0x4000 ∧ pageKind p ≠ some .recipe ∧ reachable s (p *
  0x400 + 0x020) = true ∧ (keySeq s p).map (fun q => q.kind) = some 2 ∧ keySeq s testSeq = none ∧ s.allOff = true ∧
  s.getBit Pg.CHIP Reg.CHIP.STATUS_OTP_FAIL 2 = false ∧ logRoom s 1 :=
  ⟨({ Tests.full with keys := [(Pg.OTP, ⟨2, 0, 0, true⟩)] }), (Pg.OTP),
    by decide +kernel⟩
theorem witness_TheChangeLogIsConsumed_1 : ∃ (s : State) (v : Nat) (d : Nat), v < 1024 ∧ hostReach s Pg.CHANGELOG
  0x048 ∧ s.flag Pg.CHANGELOG Reg.CHANGELOG.CTRL_MIRROR = false ∧ d = (v + 1024 - s.get Pg.CHANGELOG
  Reg.CHANGELOG.TAIL_TAIL) % 1024 ∧ (v = s.get Pg.CHANGELOG Reg.CHANGELOG.HEAD_HEAD ∨ (1 ≤ d ∧ d < s.log.fill)) ∧
  logRoom s 0 :=
  ⟨({ Tests.full.put Pg.CHANGELOG Reg.CHANGELOG.HEAD_HEAD 5 with log := { LogState.init with fill := 5 } }), (3), (3),
    by decide +kernel⟩
theorem witness_TheChangeLogIsConsumed_2 : ∃ (s : State) (o : Origin), reachable s (Pg.CHANGELOG * 0x400 + 0x064) =
  true ∧ originLive s o = true ∧ logRoom s 0 :=
  ⟨(Tests.full), (.host),
    by decide +kernel⟩
theorem witness_TheChangeLogIsConsumed_3 : ∃ (s : State) (o : Origin) (a : Nat), reachable s a = true ∧ originLive s o
  = true ∧ hasRc a = true ∧ a ≠ Pg.FAULT * 0x400 + 0x064 ∧ logRoom s 0 :=
  ⟨(Tests.full.put (Pg.PHASE 5) Reg.PHASE.TRIP_COUNT 9), (.host), (Pg.PHASE 5 * 0x400 + 0x078),
    by decide +kernel⟩
theorem witness_SupplyStartsAndEndsTheDevice_1 : ∃ (s : State) (strap : Nat), s.powered = false ∧ strap < 8 ∧
  (s.backup.path = true ∨ s.backup.latch = false) :=
  ⟨({ State.reset with powered := false }), (3),
    by decide +kernel⟩
theorem witness_SupplyStartsAndEndsTheDevice_2 : ∃ (s : State), s.powered = true :=
  ⟨(Tests.full),
    by decide +kernel⟩
theorem witness_SupplyStartsAndEndsTheDevice_3 : ∃ (s : State), s.powered = true ∧ s.svc.coldPend = true :=
  ⟨({ Tests.full with svc := { Tests.full.svc with coldPend := true, straps := 5 } }),
    by decide +kernel⟩
theorem witness_SafetyStartGoesOn_1 : ∃ (s : State) (v : Nat), s.inService Svc.SAFETY_START = true ∧
  s.svc.selftestFail = false ∧ rowWaits s = false ∧ logRoom s 0 :=
  ⟨(State.reset), (3000),
    by decide +kernel⟩
theorem witness_SafetyStartGoesOn_2 : ∃ (s : State) (v : Nat), s.inService Svc.SAFETY_START = true ∧
  s.svc.selftestFail = false ∧ rowWaits s = false ∧ otpPass s 0 = true ∧ s.backup.path = true :=
  ⟨(State.reset), (3000),
    by decide +kernel⟩
theorem witness_SafetyStartGoesOn_3 : ∃ (s : State) (khz : Nat), s.reducedOrLater = true ∧ railQual s 2 = true ∧
  refWindow s = true ∧ s.flag Pg.CLOCK Reg.CLOCK.STATUS_REFCLK_QUAL = false ∧ khz < 65536 ∧ 95 * s.get Pg.CLOCK
  Reg.CLOCK.REFCLK_CFG_FREQ_KHZ ≤ 100 * khz ∧ 100 * khz ≤ 105 * s.get Pg.CLOCK Reg.CLOCK.REFCLK_CFG_FREQ_KHZ ∧ logRoom
  s 0 :=
  ⟨({ (Tests.red.putb Pg.HKRAIL (Reg.HKRAIL.STATUS_QUALIFIED.ix 2) true).putb Pg.HKRAIL (Reg.HKRAIL.STATUS_ON.ix 2) true with rcUs := 2000 }),
    (State.reset.get Pg.CLOCK Reg.CLOCK.REFCLK_CFG_FREQ_KHZ),
    by decide +kernel⟩
theorem witness_SafetyStartGoesOn_4 : ∃ (s : State), s.inService Svc.REDUCED = true ∧ rowWaits s = false ∧ s.flag
  Pg.CHIP Reg.CHIP.STATUS_HK_UP = true ∧ s.flag Pg.CLOCK Reg.CLOCK.STATUS_REFCLK_QUAL = true ∧ (s.flag Pg.CHIP
  Reg.CHIP.START_CFG_AUTO_FULL = true ∨ s.flag Pg.CHIP Reg.CHIP.STATUS_GO_PENDING = true) ∧ logRoom s 0 :=
  ⟨(((Tests.red.putb Pg.CHIP Reg.CHIP.STATUS_HK_UP true).putb Pg.CLOCK Reg.CLOCK.STATUS_REFCLK_QUAL true).putb Pg.CHIP
    Reg.CHIP.STATUS_GO_PENDING true),
    by decide +kernel⟩
theorem witness_SafetyStartGoesOn_5 : ∃ (s : State), s.inService Svc.MAIN_START = true ∧ s.flag Pg.CLOCK
  Reg.CLOCK.STATUS_PLL_LOCK = false ∧ logRoom s 0 :=
  ⟨(Tests.main),
    by decide +kernel⟩
theorem witness_MainStartJoins_1 : ∃ (s : State), s.inService Svc.MAIN_START = true ∧ rowWaits s = false ∧ s.flag
  Pg.CLOCK Reg.CLOCK.STATUS_PLL_LOCK = false :=
  ⟨(Tests.main),
    by decide +kernel⟩
theorem witness_MainStartJoins_2 : ∃ (s : State), s.inService Svc.MAIN_START = true ∧ s.flag Pg.CLOCK
  Reg.CLOCK.STATUS_PLL_LOCK = true ∧ s.flag Pg.CHIP Reg.CHIP.STATUS_OTP_LOADED = false :=
  ⟨(Tests.main.putb Pg.CLOCK Reg.CLOCK.STATUS_PLL_LOCK true),
    by decide +kernel⟩
theorem witness_MainStartJoins_3 : ∃ (s : State), s.inService Svc.MAIN_START = true ∧ rowWaits s = false ∧ s.flag
  Pg.CHIP Reg.CHIP.STATUS_OTP_LOADED = true :=
  ⟨(Tests.main.putb Pg.CHIP Reg.CHIP.STATUS_OTP_LOADED true),
    by decide +kernel⟩
theorem witness_MainStartJoins_4 : ∃ (s : State), s.inService Svc.JOINING = true ∧ isSource s = false ∧ s.flag
  Pg.TRANSIT Reg.TRANSIT.STATUS_ALIGNED = false ∧ s.transit.waitRaised = false :=
  ⟨(Tests.join.putb Pg.TRANSIT Reg.TRANSIT.STATUS_ROLE_ACTIVE false),
    by decide +kernel⟩
theorem witness_ResetCommandsTakeEffect_1 : ∃ (s : State), reachable s 0x4C = true ∧ keySeq s Pg.CHIP = none ∧ s.flag
  Pg.CHIP Reg.CHIP.STATUS_GO_PENDING = false ∧ logRoom s 1 :=
  ⟨(Tests.red),
    by decide +kernel⟩
theorem witness_ResetCommandsTakeEffect_2 : ∃ (s : State), reachable s 0x48 = true ∧ keySeq s Pg.CHIP = none ∧
  (s.service = Svc.MAIN_START ∨ s.service = Svc.JOINING ∨ s.service = Svc.FULL) ∧ s.svc.warmPend = none ∧
  s.svc.coldPend = false :=
  ⟨(Tests.full),
    by decide +kernel⟩
theorem witness_ResetCommandsTakeEffect_3 : ∃ (s : State) (f : FrameIn) (len : Nat), s.powered = true ∧ reachable s
  0x48 = true :=
  ⟨(Tests.red), (FrameIn.quiet), (5000),
    by decide +kernel⟩
theorem witness_ResetCommandsTakeEffect_4 : ∃ (s : State) (f : FrameIn) (len : Nat) (bit : Nat), s.powered = true ∧
  s.svc.warmPend = some bit ∧ s.svc.coldPend = false ∧ s.gran.busy = none :=
  ⟨({ Tests.main with svc := { Tests.main.svc with warmPend := some 3 } }), (FrameIn.quiet), (5000), (3),
    by decide +kernel⟩
theorem witness_ResetCommandsTakeEffect_5 : ∃ (s : State), s.inService Svc.WARM_RESET = true ∧ rowWaits s = false :=
  ⟨(Tests.warm),
    by decide +kernel⟩
theorem witness_HoldoverAndItsEnd_1 : ∃ (s : State) (khz : Option Nat), s.full = true ∧ s.flag Pg.CLOCK
  Reg.CLOCK.STATUS_HOLDOVER = false ∧ ((∀ k, khz = some k → khzOk s k = false)) ∧ s.clock.refEpisode = false :=
  ⟨(Tests.full), (none),
    by decide +kernel⟩
theorem witness_HoldoverAndItsEnd_2 : ∃ (s : State), s.full = true ∧ s.flag Pg.CLOCK Reg.CLOCK.STATUS_PLL_LOCK = true
  ∧ s.flag Pg.CLOCK Reg.CLOCK.STATUS_HOLDOVER = false ∧ s.clock.pllEpisode = false :=
  ⟨(Tests.full.putb Pg.CLOCK Reg.CLOCK.STATUS_PLL_LOCK true),
    by decide +kernel⟩
theorem witness_HoldoverAndItsEnd_3 : ∃ (s : State), s.full = true ∧ s.flag Pg.CLOCK Reg.CLOCK.STATUS_HOLDOVER = true
  ∧ s.flag Pg.CLOCK Reg.CLOCK.STATUS_REFCLK_QUAL = true ∧ logRoom s 0 :=
  ⟨((Tests.full.putb Pg.CLOCK Reg.CLOCK.STATUS_HOLDOVER true).putb Pg.CLOCK Reg.CLOCK.STATUS_REFCLK_QUAL true),
    by decide +kernel⟩
theorem witness_HoldoverAndItsEnd_4 : ∃ (s : State), s.full = true ∧ s.flag Pg.CLOCK Reg.CLOCK.STATUS_HOLDOVER = true
  ∧ s.clock.holdStartUs + 1000 * s.get Pg.CLOCK Reg.CLOCK.HOLDOVER_LIMIT_MS ≤ s.rcUs ∧ s.svc.warmPend = none ∧
  s.svc.coldPend = false :=
  ⟨({ Tests.full.putb Pg.CLOCK Reg.CLOCK.STATUS_HOLDOVER true with rcUs := 20000000 }),
    by decide +kernel⟩
theorem witness_JoiningSourceAligns_1 : ∃ (s : State) (f : FrameIn), s.inService Svc.JOINING = true ∧ frameStopped s =
  false ∧ isSource s = true ∧ s.flag Pg.TRANSIT Reg.TRANSIT.STATUS_ALIGNED = false :=
  ⟨(Tests.join.putb Pg.TRANSIT Reg.TRANSIT.STATUS_ROLE_ACTIVE true), (FrameIn.quiet),
    by decide +kernel⟩
theorem witness_JoiningSourceAligns_2 : ∃ (s : State) (f : FrameIn), s.inService Svc.JOINING = true ∧ frameStopped s =
  false ∧ isSource s = true ∧ s.flag Pg.TRANSIT Reg.TRANSIT.STATUS_ALIGNED = true :=
  ⟨((Tests.join.putb Pg.TRANSIT Reg.TRANSIT.STATUS_ROLE_ACTIVE true).putb Pg.TRANSIT Reg.TRANSIT.STATUS_ALIGNED true),
    (FrameIn.quiet),
    by decide +kernel⟩
theorem witness_FrameNumberAdvances_1 : ∃ (s : State) (f : FrameIn), s.full = true ∧ frameStopped s = false :=
  ⟨(Tests.full), (FrameIn.quiet),
    by decide +kernel⟩
theorem witness_TransitWatchesItsEdges_1 : ∃ (s : State) (d : Int), s.full = true ∧ isSource s = false ∧ s.flag
  Pg.TRANSIT Reg.TRANSIT.STATUS_ALIGNED = true ∧ 4 * absI (d - s.get Pg.TRANSIT Reg.TRANSIT.ALIGN_CFG_DELAY_COMP) ≤
  nominalNow s ∧ 4 * d ≤ nominalNow s ∧ s.transit.closed = false ∧ logRoom s 0 :=
  ⟨((Tests.full.putb Pg.TRANSIT Reg.TRANSIT.STATUS_ROLE_ACTIVE false).putb Pg.TRANSIT Reg.TRANSIT.STATUS_ALIGNED
    true), (2),
    by decide +kernel⟩
theorem witness_TransitWatchesItsEdges_2 : ∃ (s : State) (e : Int), s.full = true ∧ isSource s = false ∧ s.flag
  Pg.TRANSIT Reg.TRANSIT.STATUS_ALIGNED = true ∧ s.transit.edge = some e ∧ absI e ≤ s.get Pg.TRANSIT
  Reg.TRANSIT.ALIGN_CFG_SKEW_WIN ∧ logRoom s 0 :=
  ⟨({ (Tests.full.putb Pg.TRANSIT Reg.TRANSIT.STATUS_ROLE_ACTIVE false).putb Pg.TRANSIT Reg.TRANSIT.STATUS_ALIGNED true with transit := { TransitState.init with edge := some (-3) } }),
    (-3),
    by decide +kernel⟩
theorem witness_TransitWatchesItsEdges_3 : ∃ (s : State), s.full = true ∧ isSource s = true ∧ s.transit.contention = 1
  ∧ s.transit.quietUntilUs ≤ s.rcUs :=
  ⟨({ Tests.full.putb Pg.TRANSIT Reg.TRANSIT.STATUS_ROLE_ACTIVE true with transit := { TransitState.init with contention := 1 } }),
    by decide +kernel⟩
theorem witness_TransitWatchesItsEdges_4 : ∃ (s : State), reachable s (Pg.TRANSIT * 0x400 + 0x068) = true ∧ keySeq s
  Pg.TRANSIT = none ∧ logRoom s 1 :=
  ⟨(Tests.full),
    by decide +kernel⟩
theorem witness_TransitWatchesItsEdges_5 : ∃ (s : State) (v : Nat), v < 4 ∧ reachable s (Pg.TRANSIT * 0x400 + 0x040) =
  true ∧ keySeq s Pg.TRANSIT = none ∧ lockState s Pg.TRANSIT = 0 ∧ s.allOff = true ∧ rangesOk (fieldsAt Pg.TRANSIT
  0x040) (withField s Pg.TRANSIT Reg.TRANSIT.CTRL_PERIOD v) = true ∧ logRoom s 1 :=
  ⟨(Tests.full), (2),
    by decide +kernel⟩
theorem witness_CyclesAndTrips_1 : ∃ (s : State) (p : Nat) (out : Bool), s.full = true ∧ p < 64 ∧ (s.phase
  p).switching = true ∧ logRoom s 0 :=
  ⟨(Tests.full.setPhase 5 { PhaseState.init with switching := true }), (5), (true),
    by decide +kernel⟩
theorem witness_CyclesAndTrips_2 : ∃ (s : State) (p : Nat), s.full = true ∧ p < 64 ∧ (s.phase p).switching = true ∧
  (s.phase p).pwm = .high ∧ (s.phase p).cycTrip = false ∧ logRoom s 0 :=
  ⟨(Tests.full.setPhase 5 { PhaseState.init with switching := true, pwm := .high }), (5),
    by decide +kernel⟩
theorem witness_CyclesAndTrips_3 : ∃ (s : State) (p : Nat), s.full = true ∧ p < 64 ∧ (s.phase p).switching = true ∧
  (s.phase p).pwm = .mid ∧ logRoom s 0 :=
  ⟨(Tests.full.setPhase 5 { PhaseState.init with switching := true, pwm := .mid }), (5),
    by decide +kernel⟩
theorem witness_PhasesDropOut_1 : ∃ (s : State) (p : Nat), s.full = true ∧ p < 64 ∧ phaseInService s p = true ∧
  runCause s p = true ∧ s.flag (Pg.PHASE p) Reg.PHASE.STATUS_DROPPED = false ∧ logRoom s 37 :=
  ⟨(Tests.full.setPhase 4 { PhaseState.init with switching := true, run := 99, runPos := true }), (4),
    by decide +kernel⟩
theorem witness_PhasesDropOut_2 : ∃ (s : State) (p : Nat), s.full = true ∧ p < 64 ∧ phaseInService s p = true ∧
  (s.phase p).switching = true ∧ 4 ≤ (s.phase p).rangeRun ∧ s.flag (Pg.PHASE p) Reg.PHASE.STATUS_DROPPED = false ∧
  logRoom s 37 :=
  ⟨(Tests.full.setPhase 4 { PhaseState.init with switching := true, rangeRun := 4 }), (4),
    by decide +kernel⟩
theorem witness_PhasesDropOut_3 : ∃ (s : State) (p : Nat), s.full = true ∧ p < 64 ∧ phaseInService s p = true ∧
  slowCause s p = true ∧ s.flag (Pg.PHASE p) Reg.PHASE.STATUS_DROPPED = false ∧ logRoom s 37 :=
  ⟨((Tests.full.put (Pg.CHAN 2) Reg.CHAN.STATUS_STATE 2).setPhase 4
    { PhaseState.init with switching := true, acc := 10 ^ 14 }), (4),
    by decide +kernel⟩
theorem witness_ConnectingAndBalancing_1 : ∃ (s : State) (c : Nat) (a : Int) (b : Int), zeroDue s c = true ∧ absI (a -
  120000) ≤ 5000 ∧ absI (b - 120000) ≤ 5000 ∧ logRoom s 0 :=
  ⟨(Tests.full.put (Pg.CHAN 1) Reg.CHAN.STATUS_STATE Ch.CONNECT), (1), (120100), (119000),
    by decide +kernel⟩
theorem witness_ConnectingAndBalancing_2 : ∃ (s : State) (c : Nat), s.full = true ∧ c < 32 ∧ s.cstate (s.lead c) =
  Ch.CONNECT ∧ (s.chan c).zeroDone = true ∧ (s.chan c).iso = false ∧ logRoom s 0 :=
  ⟨((Tests.full.put (Pg.CHAN 1) Reg.CHAN.STATUS_STATE Ch.CONNECT).setChan 1 { ChanState.init with zeroDone := true }),
    (1),
    by decide +kernel⟩
theorem witness_ConnectingAndBalancing_3 : ∃ (s : State) (c : Nat), s.full = true ∧ c < 32 ∧ balances s c = true ∧ 64
  ≤ (s.chan c).framesSwitching ∧ s.flag (Pg.PHASE (2 * c)) Reg.PHASE.STATUS_BAL_ACTIVE = false ∧ logRoom s 0 :=
  ⟨((((Tests.full.put (Pg.CHAN 1) Reg.CHAN.STATUS_STATE Ch.RUN).setPhase 2
    { PhaseState.init with switching := true }).setPhase 3 { PhaseState.init with switching := true }).setChan 1
    { ChanState.init with framesSwitching := 64 }), (1),
    by decide +kernel⟩
theorem witness_ChannelsObeyTheHost_1 : ∃ (s : State) (c : Nat), c < 32 ∧ hostReach s (Pg.CHAN c) 0x040 ∧ s.follower c
  = false ∧ s.get (Pg.CHAN c) Reg.CHAN.CONTROL_ENABLE = 0 ∧ s.get (Pg.CHAN c) Reg.CHAN.CONTROL_SOURCE = 0 ∧ s.cstate c
  = Ch.OFF ∧ estop s = false ∧ startBarred s c = false ∧ rangesOk (fieldsAt (Pg.CHAN c) 0x040) (withField s (Pg.CHAN
  c) Reg.CHAN.CONTROL_ENABLE 1) = true ∧ logRoom s 1 :=
  ⟨(Tests.full), (3),
    by decide +kernel⟩
theorem witness_ChannelsObeyTheHost_2 : ∃ (s : State) (c : Nat), c < 32 ∧ hostReach s (Pg.CHAN c) 0x040 ∧ s.follower c
  = false ∧ s.get (Pg.CHAN c) Reg.CHAN.CONTROL_ENABLE = 1 ∧ rangesOk (fieldsAt (Pg.CHAN c) 0x040) (withField s
  (Pg.CHAN c) Reg.CHAN.CONTROL_ENABLE 0) = true ∧ logRoom s 1 :=
  ⟨(Tests.full.put (Pg.CHAN 3) Reg.CHAN.CONTROL_ENABLE 1), (3),
    by decide +kernel⟩
theorem witness_ChannelsObeyTheHost_3 : ∃ (s : State) (c : Nat), c < 32 ∧ hostReach s (Pg.CHAN c) 0x040 ∧ s.follower c
  = false ∧ s.get (Pg.CHAN c) Reg.CHAN.CONTROL_SOURCE = 0 ∧ (s.get (Pg.CHAN c) Reg.CHAN.CONTROL_ENABLE = 0 ∨ estop s =
  false) ∧ rangesOk (fieldsAt (Pg.CHAN c) 0x040) (withField s (Pg.CHAN c) Reg.CHAN.CONTROL_MODE 0) = true ∧ logRoom s
  1 :=
  ⟨((Tests.full.put (Pg.CHAN 3) Reg.CHAN.CONTROL_ENABLE 1).put (Pg.CHAN 3) Reg.CHAN.CONTROL_MODE 2), (3),
    by decide +kernel⟩
theorem witness_ChannelsObeyTheHost_4 : ∃ (s : State) (c : Nat) (mode : Nat), c < 32 ∧ mode < 16 ∧ hostReach s
  (Pg.CHAN c) 0x040 ∧ s.follower c = false ∧ s.get (Pg.CHAN c) Reg.CHAN.CONTROL_ENABLE = 0 ∧ s.get (Pg.CHAN c)
  Reg.CHAN.CONTROL_SOURCE = 0 ∧ s.get (Pg.CHAN c) Reg.CHAN.CONTROL_MODE ≠ mode ∧ rangesOk (fieldsAt (Pg.CHAN c) 0x040)
  (withField s (Pg.CHAN c) Reg.CHAN.CONTROL_MODE mode) = true ∧ logRoom s 1 :=
  ⟨(Tests.full), (3), (2),
    by decide +kernel⟩
theorem witness_ChannelsObeyTheHost_5 : ∃ (s : State) (c : Nat), c < 32 ∧ hostReach s (Pg.CHAN c) 0x040 ∧ s.follower c
  = false ∧ s.get (Pg.CHAN c) Reg.CHAN.STATUS_LAST_END = 2 ∧ resumeMatches s c = true ∧ s.cstate c = Ch.RUN ∧ estop s
  = false ∧ rangesOk (fieldsAt (Pg.CHAN c) 0x040) (s.rd (addrOf (Pg.CHAN c) Reg.CHAN.CONTROL_ENABLE)).toNat = true ∧
  logRoom s 1 :=
  ⟨((Tests.full.put (Pg.CHAN 3) Reg.CHAN.STATUS_LAST_END 2).put (Pg.CHAN 3) Reg.CHAN.STATUS_STATE 2), (3),
    by decide +kernel⟩
theorem witness_ChannelsObeyTheHost_6 : ∃ (s : State) (c : Nat), c < 32 ∧ hostReach s (Pg.CHAN c) 0x040 ∧ s.follower c
  = false ∧ s.get (Pg.CHAN c) Reg.CHAN.STATUS_LAST_END = 2 ∧ resumeMatches s c = true ∧ s.cstate c = Ch.OFF ∧
  startBarred s c = false ∧ estop s = false ∧ rangesOk (fieldsAt (Pg.CHAN c) 0x040) (s.rd (addrOf (Pg.CHAN c)
  Reg.CHAN.CONTROL_ENABLE)).toNat = true ∧ logRoom s 40 :=
  ⟨(Tests.full.put (Pg.CHAN 3) Reg.CHAN.STATUS_LAST_END 2), (3),
    by decide +kernel⟩
theorem witness_ChannelsObeyTheHost_7 : ∃ (s : State) (c : Nat) (size : Nat), c < 32 ∧ size < 4 ∧ hostReach s (Pg.CHAN
  c) 0x080 ∧ lockState s (Pg.CHAN c) = 0 ∧ gangOk s c size = true ∧ s.get (Pg.CHAN c) Reg.CHAN.GANG_SIZE ≠ size ∧
  logRoom s 1 :=
  ⟨(Tests.full), (4), (1),
    by decide +kernel⟩
theorem witness_CellsAndTheirMatings_1 : ∃ (s : State) (c : Nat), c < 32 ∧ hostReach s (Pg.CHAN c) 0x0B0 ∧ s.modeOff c
  = true ∧ s.follower c = false :=
  ⟨(Tests.full), (6),
    by decide +kernel⟩
theorem witness_CellsAndTheirMatings_2 : ∃ (s : State) (c : Nat), c < 32 ∧ hostReach s (Pg.CHAN c) 0x0B0 ∧ s.modeOff c
  = true ∧ s.get (Pg.CHAN c) Reg.CHAN.MATE_COUNT ≠ 0 ∧ logRoom s 1 :=
  ⟨(Tests.full.put (Pg.CHAN 6) Reg.CHAN.MATE_COUNT 5), (6),
    by decide +kernel⟩
theorem witness_CellsAndTheirMatings_3 : ∃ (s : State), s.powered = true ∧ mateWaits s = true ∧ s.gran.mateUs +
  1000000 ≤ s.rcUs ∧ logRoom s 0 :=
  ⟨({ Tests.full.putb (Pg.CHAN 6) Reg.CHAN.MATE_STATUS_PENDING true with rcUs := 1000000 }),
    by decide +kernel⟩
theorem witness_ChannelFaultsOfTheirOwn_1 : ∃ (s : State) (c : Nat), s.full = true ∧ c < 32 ∧ s.cstate c = Ch.RUN ∧
  s.cmode (s.lead c) ≠ Mode.ZV ∧ 32 ≤ (s.chan c).tripRun ∧ (s.chan (s.lead c)).growing = true ∧ logRoom s 37 :=
  ⟨((Tests.full.put (Pg.CHAN 6) Reg.CHAN.STATUS_STATE Ch.RUN).setChan 6
    { ChanState.init with tripRun := 32, growing := true }), (6),
    by decide +kernel⟩
theorem witness_ChannelFaultsOfTheirOwn_2 : ∃ (s : State) (c : Nat), s.full = true ∧ c < 32 ∧ s.cstate c = Ch.RUN ∧
  s.cmode (s.lead c) = Mode.ZV ∧ 200000 ≤ (s.chan (s.lead c)).zvRun * s.periodUs :=
  ⟨(((Tests.full.put (Pg.CHAN 6) Reg.CHAN.STATUS_STATE Ch.RUN).put (Pg.CHAN 6) Reg.CHAN.STATUS_MODE Mode.ZV).setChan 6
    { ChanState.init with zvRun := 200000 }), (6),
    by decide +kernel⟩
theorem witness_ChannelFaultsOfTheirOwn_3 : ∃ (s : State) (c : Nat), s.full = true ∧ c < 32 ∧ 256 ≤ (s.chan
  c).probeRun ∧ stepActive s (s.lead c) = true ∧ (s.chan c).probeRaised = false :=
  ⟨((Tests.full.putb (Pg.CHAN 6) Reg.CHAN.ACC_FLAGS_STEP_ACTIVE true).setChan 6
    { ChanState.init with probeRun := 256 }), (6),
    by decide +kernel⟩
theorem witness_CalibrationAndSlices_1 : ∃ (s : State) (b : Nat) (r : Nat) (o : Nat), s.full = true ∧ b < 8 ∧ (s.bank
  b).handoverDue = true ∧ (s.bank b).rover = some r ∧ ownerOf s b (s.bank b).nextDuty = some o :=
  ⟨((setRole (setRole Tests.full 2 9 9) 2 0 0).setBank 2
    { BankState.init with handoverDue := true, rover := some 9 }), (2), (9), (0),
    by decide +kernel⟩
theorem witness_CalibrationAndSlices_2 : ∃ (s : State) (b : Nat) (r : Nat) (cal : CalIn), s.full = true ∧ b < 8 ∧
  (s.bank b).calRunning = true ∧ (s.bank b).rover = some r ∧ 202 ≤ (s.bank b).stepFrame ∧ r < 10 ∧ roleOf s b r = 9 :=
  ⟨(setRole (Tests.full.setBank 2 { BankState.init with calRunning := true, rover := some 9, stepFrame := 202 }) 2 9
    9), (2), (9), (⟨5, 10, 60000, -60000⟩),
    by decide +kernel⟩
theorem witness_CalibrationAndSlices_3 : ∃ (s : State) (b : Nat) (k : Nat), s.full = true ∧ b < s.bankCount ∧ k < 10 ∧
  sliceRetired s b k = false ∧ (s.bank b).flagged.contains k = false ∧ logRoom s 0 :=
  ⟨(Tests.full), (2), (3),
    by decide +kernel⟩
theorem witness_CalibrationAndSlices_4 : ∃ (s : State) (b : Nat) (k : Nat) (r : Nat), b < 8 ∧ k < 10 ∧ roleOf s b k <
  9 ∧ (s.bank b).rover = some r ∧ r < 10 ∧ roleOf s b r = 9 :=
  ⟨(setRole (setRole (Tests.full.setBank 2 { BankState.init with rover := some 9 }) 2 9 9) 2 3 3), (2), (3), (9),
    by decide +kernel⟩
theorem witness_BankCommandsOfTheHost_1 : ∃ (s : State) (b : Nat) (v : Nat), b < 8 ∧ v < 2 ^ 32 ∧ hostReach s (Pg.BANK
  b) 0x040 ∧ lockState s (Pg.BANK b) = 0 ∧ rangesOk (fieldsAt (Pg.BANK b) 0x040) (storedWord (fieldsAt (Pg.BANK b)
  0x040) (s.rd (Pg.BANK b * 0x400 + 0x040)).toNat v) = true ∧ logRoom s 1 :=
  ⟨(Tests.full.put (Pg.BANK 2) Reg.HEADER.LOCK_STATE 0), (2), (withField Tests.full (Pg.BANK 2) Reg.BANK.CAL_CFG_EN
    1),
    by decide +kernel⟩
theorem witness_BankCommandsOfTheHost_2 : ∃ (s : State) (b : Nat) (m : Nat), b < 8 ∧ hostReach s (Pg.BANK b) 0x3F0 ∧
  lockState s (Pg.BANK b) = 3 ∧ m < 1024 ∧ m ≠ 0 ∧ logRoom s 1 :=
  ⟨((Tests.full.put (Pg.BANK 2) Reg.HEADER.LOCK_STATE 3).setBank 2 { BankState.init with retireMap := 7 }), (2), (2),
    by decide +kernel⟩
theorem witness_BankCommandsOfTheHost_3 : ∃ (s : State) (c : Nat), c < 32 ∧ hostReach s (Pg.BANK (c / 4)) (0x088 + 64
  * (c % 4)) ∧ logRoom s 1 :=
  ⟨(Tests.full), (6),
    by decide +kernel⟩
theorem witness_BankCommandsOfTheHost_4 : ∃ (s : State) (c : Nat), c < 32 ∧ hostReach s (Pg.BANK (c / 4)) (0x088 + 64
  * (c % 4)) ∧ logRoom s 1 :=
  ⟨(Tests.full), (6),
    by decide +kernel⟩
theorem witness_BankCommandsOfTheHost_5 : ∃ (s : State) (b : Nat), b < 8 ∧ hostReach s (Pg.BANK b) 0x188 ∧ logRoom s 1
  :=
  ⟨(Tests.full), (6),
    by decide +kernel⟩
theorem witness_BankCommandsOfTheHost_6 : ∃ (s : State) (b : Nat) (k : Nat), b < 8 ∧ k < 4 ∧ reachable s (Pg.BANK b *
  0x400 + 0x08C + 64 * k) = true ∧ logRoom s 0 :=
  ⟨(Tests.full), (2), (1),
    by decide +kernel⟩
theorem witness_TheHousekeepingConverter_1 : ∃ (s : State) (raw : Int), s.reducedOrLater = true ∧ s.hk.conv = 34 ∧
  logRoom s 0 :=
  ⟨({ Tests.full with hk := { Tests.full.hk with conv := 34 } }), (12000),
    by decide +kernel⟩
theorem witness_TheHousekeepingConverter_2 : ∃ (s : State) (raw : Int), s.reducedOrLater = true :=
  ⟨(Tests.full), (12000),
    by decide +kernel⟩
theorem witness_TheHousekeepingConverter_3 : ∃ (s : State), s.powered = true ∧ (hkState s = Hq.UP ∨ hkState s = Hq.ON)
  :=
  ⟨(setHk Tests.full Hq.ON),
    by decide +kernel⟩
theorem witness_CheckpointsAreMade_1 : ∃ (s : State), s.full = true ∧ dueFrame s ≤ s.frame ∧ s.ledger.pendingReasons =
  [] ∧ commitOpen s 1 = false ∧ logRoom s 0 :=
  ⟨({ Tests.full with frame := 2000000 }),
    by decide +kernel⟩
theorem witness_CheckpointsAreMade_2 : ∃ (s : State), s.full = true ∧ dueFrame s + 1024 ≤ s.frame ∧ s.ledger.late =
  false :=
  ⟨({ Tests.full with frame := 2000000 }),
    by decide +kernel⟩
theorem witness_CheckpointsAreMade_3 : ∃ (s : State), s.full = true ∧ s.ledger.openNeeded = true ∧
  s.ledger.openSlotErased = true ∧ logRoom s 0 :=
  ⟨({ Tests.full with ledger := { Tests.full.ledger with openNeeded := true, openSlotErased := true } }),
    by decide +kernel⟩
theorem witness_CheckpointsAreMade_4 : ∃ (s : State) (b : Nat), s.full = true ∧ b < 8 ∧ s.flag Pg.LEDGER
  (Reg.LEDGER.BAL_CFG_EN.ix b) = true ∧ 2 ^ s.get Pg.LEDGER (Reg.LEDGER.BAL_CFG_W.ix b) ≤ s.get Pg.LEDGER
  (Reg.LEDGER.BAL_STATUS_INCLUDED.ix b) :=
  ⟨(((Tests.full.putb Pg.LEDGER (Reg.LEDGER.BAL_CFG_EN.ix 2) true).put Pg.LEDGER (Reg.LEDGER.BAL_CFG_W.ix 2) 4).put
    Pg.LEDGER (Reg.LEDGER.BAL_STATUS_INCLUDED.ix 2) 16), (2),
    by decide +kernel⟩
theorem witness_LedgerCommandsOfTheHost_1 : ∃ (s : State), hostReach s Pg.LEDGER 0x044 ∧ logRoom s 1 :=
  ⟨(Tests.full),
    by decide +kernel⟩
theorem witness_LedgerCommandsOfTheHost_2 : ∃ (s : State), hostReach s Pg.LEDGER 0x044 ∧ logRoom s 0 :=
  ⟨(Tests.full),
    by decide +kernel⟩
theorem witness_LedgerCommandsOfTheHost_3 : ∃ (s : State) (c : Nat), c < 32 ∧ hostReach s (Pg.CHAN c) 0x154 ∧ logRoom
  s 1 :=
  ⟨(Tests.full), (7),
    by decide +kernel⟩
theorem witness_LedgerCommandsOfTheHost_4 : ∃ (s : State) (b : Nat), b < 8 ∧ hostReach s Pg.LEDGER (0x134 + 64 * b) ∧
  logRoom s 1 :=
  ⟨(Tests.full), (7),
    by decide +kernel⟩
theorem witness_LedgerCommandsOfTheHost_5 : ∃ (s : State) (c : Nat), c < 32 ∧ reachable s (Pg.CHAN c * 0x400 + 0x100)
  = true ∧ logRoom s 0 :=
  ⟨(Tests.full), (7),
    by decide +kernel⟩
theorem witness_LedgerCommandsOfTheHost_6 : ∃ (s : State) (addr : Nat), isLoWord addr = true ∧ reachable s addr = true
  ∧ logRoom s 0 :=
  ⟨(Tests.full), (Pg.LEDGER * 0x400 + 0x050),
    by decide +kernel⟩
theorem witness_RecipesAreStartedAndValidated_1 : ∃ (s : State) (b : Nat) (r : Nat) (v : Nat), b < 8 ∧ r < 256 ∧ v < 2
  ^ 32 ∧ reachable s (recAddr b r + 0x3C) = true ∧ lockState s (Pg.BANK b) = 0 ∧ recRunning s b r = false ∧ logRoom s
  1 :=
  ⟨(Tests.full.put (Pg.BANK 2) Reg.HEADER.LOCK_STATE 0), (2), (17), (0x12345678),
    by decide +kernel⟩
theorem witness_RecipesAreStartedAndValidated_2 : ∃ (s : State) (c : Nat), c < 32 ∧ hostReach s (Pg.CHAN c) 0x208 ∧
  s.follower c = false ∧ estop s = false ∧ startBarred s c = false ∧ s.modeOff c = true ∧ s.flag (Pg.CHAN c)
  Reg.CHAN.CONTROL_SOURCE = true ∧ rstate s c = Rs.IDLE ∧ logRoom s 1 :=
  ⟨(Tests.full.put (Pg.CHAN 5) Reg.CHAN.CONTROL_SOURCE 1), (5),
    by decide +kernel⟩
theorem witness_RecipesAreStartedAndValidated_3 : ∃ (s : State) (c : Nat) (code : Nat) (bad : Nat), validating s c =
  true ∧ validate s c = some (code, bad) ∧ code < 16 ∧ s.memErr = [] ∧ logRoom s 0 :=
  ⟨(Tests.validates), (5), (((validate Tests.validates 5).getD (0, 0)).1), (((validate Tests.validates 5).getD (0,
    0)).2),
    by decide +kernel⟩
theorem witness_RecipesAreStartedAndValidated_4 : ∃ (s : State) (c : Nat), validating s c = true ∧ validate s c = none
  ∧ s.memErr = [] ∧ logRoom s 0 :=
  ⟨(Tests.listed), (5),
    by decide +kernel⟩
theorem witness_RecipesAreStartedAndValidated_5 : ∃ (s : State) (c : Nat), c < 32 ∧ hostReach s (Pg.CHAN c) 0x208 ∧
  s.follower c = false ∧ rstate s c = Rs.HELD ∧ logRoom s 1 :=
  ⟨(Tests.full.put (Pg.CHAN 5) Reg.CHAN.RCP_STATUS_RSTATE Rs.HELD), (5),
    by decide +kernel⟩
theorem witness_RecipesAreStartedAndValidated_6 : ∃ (s : State) (c : Nat) (n : Nat), c < 32 ∧ hostReach s (Pg.CHAN c)
  0x208 ∧ s.follower c = false ∧ rstate s c = Rs.RUNNING ∧ n < 64 ∧ n < s.get (Pg.CHAN c) Reg.CHAN.RCP_CFG_LEN ∧
  logRoom s 1 :=
  ⟨((Tests.full.put (Pg.CHAN 5) Reg.CHAN.RCP_STATUS_RSTATE Rs.RUNNING).put (Pg.CHAN 5) Reg.CHAN.RCP_CFG_LEN 9), (5),
    (8),
    by decide +kernel⟩
theorem witness_RecipesAreStartedAndValidated_7 : ∃ (s : State) (c : Nat), c < 32 ∧ reachable s (Pg.CHAN c * 0x400 +
  0x240) = true ∧ logRoom s 0 :=
  ⟨(Tests.full), (5),
    by decide +kernel⟩
theorem witness_HeartbeatsAndStops_1 : ∃ (s : State) (e : Nat) (n : Nat), engLive s e = true ∧ e < 10 ∧ logRoom s 0 :=
  ⟨(Tests.full), (2), (7),
    by decide +kernel⟩
theorem witness_HeartbeatsAndStops_2 : ∃ (s : State) (e : Nat) (n : Nat), engLive s e = true ∧ 10 ≤ e ∧ logRoom s 0 :=
  ⟨(Tests.full), (10), (7),
    by decide +kernel⟩
theorem witness_HeartbeatsAndStops_3 : ∃ (s : State) (e : Nat), engLive s e = true :=
  ⟨(Tests.full), (3),
    by decide +kernel⟩
theorem witness_HeartbeatsAndStops_4 : ∃ (s : State) (e : Nat), engLive s e = true :=
  ⟨(Tests.full), (8),
    by decide +kernel⟩
theorem witness_HeartbeatsAndStops_5 : ∃ (s : State), engLive s 10 = true ∧ 2 ≤ (s.eng 10).slotMiss :=
  ⟨(Tests.full.setEng 10 { Tests.full.eng 10 with slotMiss := 2 }),
    by decide +kernel⟩
theorem witness_HeartbeatsAndStops_6 : ∃ (s : State), engLive s 11 = true :=
  ⟨(Tests.full),
    by decide +kernel⟩
theorem witness_EnginesRestartAndBanksReturn_1 : ∃ (s : State) (e : Nat), hostReach s Pg.ENGCTL 0x054 ∧ e ≤ 9 ∧
  s.engPresent e = true ∧ estate s e = Es.RUNNING ∧ logRoom s 1 :=
  ⟨(Tests.full), (4),
    by decide +kernel⟩
theorem witness_EnginesRestartAndBanksReturn_2 : ∃ (s : State) (e : Nat), hostReach s Pg.ENGCTL 0x054 ∧ e ≤ 9 ∧
  s.engPresent e = true ∧ estate s e = Es.STOPPED ∧ logRoom s 1 :=
  ⟨(setEstate Tests.full 4 Es.STOPPED), (4),
    by decide +kernel⟩
theorem witness_EnginesRestartAndBanksReturn_3 : ∃ (s : State) (e : Nat), s.reducedOrLater = true ∧ e < 12 ∧ (s.eng
  e).restarting = true ∧ logRoom s 0 :=
  ⟨(Tests.full.setEng 4 { Tests.full.eng 4 with restarting := true }), (4),
    by decide +kernel⟩
theorem witness_EnginesRestartAndBanksReturn_4 : ∃ (s : State) (e : Nat), s.reducedOrLater = true ∧ e < 12 ∧ (s.eng
  e).restarting = true :=
  ⟨(Tests.full.setEng 4 { Tests.full.eng 4 with restarting := true }), (4),
    by decide +kernel⟩
theorem witness_EnginesRestartAndBanksReturn_5 : ∃ (s : State) (b : Nat) (h : Nat), s.full = true ∧ b < 8 ∧ (s.eng
  b).holdAt = some h ∧ h + (s.eng b).holdLimit ≤ s.frame ∧ estate s 11 = Es.RUNNING ∧ s.flag Pg.ENGCTL
  Reg.ENGCTL.CFG_WARM_ON_UNCARRIED = true ∧ s.svc.warmPend = none ∧ s.svc.coldPend = false :=
  ⟨((Tests.full.putb Pg.ENGCTL Reg.ENGCTL.CFG_WARM_ON_UNCARRIED true).setEng 2
    { Tests.full.eng 2 with holdAt := some 0, holdLimit := 0 }), (2), (0),
    by decide +kernel⟩
theorem witness_EnginesRestartAndBanksReturn_6 : ∃ (s : State) (b : Nat) (h : Nat), s.full = true ∧ b < 8 ∧ (s.eng
  b).holdAt = some h ∧ h + (s.eng b).holdLimit ≤ s.frame ∧ estate s 11 = Es.RUNNING ∧ s.flag Pg.ENGCTL
  Reg.ENGCTL.CFG_WARM_ON_UNCARRIED = false :=
  ⟨((Tests.full.putb Pg.ENGCTL Reg.ENGCTL.CFG_WARM_ON_UNCARRIED false).setEng 2
    { Tests.full.eng 2 with holdAt := some 0, holdLimit := 0 }), (2), (0),
    by decide +kernel⟩
theorem witness_EnginesRestartAndBanksReturn_7 : ∃ (s : State) (b : Nat), s.full = true ∧ b < 8 ∧ (s.eng b).handback =
  true ∧ (s.eng b).takeover = none ∧ estate s 11 = Es.RUNNING ∧ engRuns s b = true :=
  ⟨(Tests.full.setEng 2 { Tests.full.eng 2 with handback := true }), (2),
    by decide +kernel⟩
theorem witness_GradingResultsComeOut_1 : ∃ (s : State) (c : Nat) (w : ImpWindow), s.full = true ∧ c < 32 ∧ (s.grade
  c).closing = some w ∧ logRoom s 0 :=
  ⟨(Tests.full.setGrade 5
    { GradeState.init with closing := some ⟨0, 0, 4, 1, 4, 2, 4, ⟨0, 0, 0, [], []⟩, ⟨0, 0, 0, [], []⟩, 0⟩ }), (5),
    (⟨0, 0, 4, 1, 4, 2, 4, ⟨0, 0, 0, [], []⟩, ⟨0, 0, 0, [], []⟩, 0⟩),
    by decide +kernel⟩
theorem witness_GradingResultsComeOut_2 : ∃ (s : State) (c : Nat), s.full = true ∧ c < 32 ∧ dcirDone s c = true ∧
  logRoom s 0 :=
  ⟨({ Tests.full.setGrade 5 { GradeState.init with dcir := some ⟨2, 0, 0, 0, [4], 0, 0, [], 0, 0, 0, [some (1, 2)], false⟩ } with frame := 10 }),
    (5),
    by decide +kernel⟩
theorem witness_GradingResultsComeOut_3 : ∃ (s : State) (c : Nat), estimates s c = true ∧ ocvDone s c = true ∧ logRoom
  s 0 :=
  ⟨(Tests.full.setGrade 5 { GradeState.init with ocv := some ⟨none, 30, 0, 10, [1, 2, 3], false, 0, 1⟩ }), (5),
    by decide +kernel⟩
theorem witness_GradingResultsComeOut_4 : ∃ (s : State) (c : Nat) (r : GradeResult) (l : List GradeResult), s.full =
  true ∧ c < 32 ∧ (s.grade c).results = r :: l ∧ r.block < 5 ∧ ((∀ w ∈ r.words, 0x100 ≤ w.1 ∧ w.1 < 0x400)) ∧ logRoom
  s 0 :=
  ⟨(Tests.full.setGrade 5 { GradeState.init with results := [⟨1, [], none, 0, 0, false⟩] }), (5), (⟨1, [], none, 0, 0,
    false⟩), ([]),
    by decide +kernel⟩
theorem witness_GradingCommandsOfTheHost_1 : ∃ (s : State) (k : Nat) (v : Nat), k < 4 ∧ v < 2 ^ 32 ∧ hostReach s
  Pg.ESTIM (0x080 + 4 * k) ∧ lockState s Pg.ESTIM = 0 ∧ s.flag Pg.ESTIM (Reg.ESTIM.SET_CFG_IN_USE.ix k) = false ∧
  rangesOk (fieldsAt Pg.ESTIM (0x080 + 4 * k)) (storedWord (fieldsAt Pg.ESTIM (0x080 + 4 * k)) (s.rd (Pg.ESTIM * 0x400
  + 0x080 + 4 * k)).toNat (withBits v 0 0 1)) = true ∧ logRoom s 1 :=
  ⟨(Tests.full), (2), (0x300),
    by decide +kernel⟩
theorem witness_GradingCommandsOfTheHost_2 : ∃ (s : State) (k : Nat) (tag : Nat), k < 4 ∧ tag < 65536 ∧ hostReach s
  Pg.ESTIM (0x180 + 0x60 * k) ∧ lockState s Pg.ESTIM = 0 ∧ rising ((List.range 21).map (fun i => ((ocvStaged s k i :
  Nat) : Int))) = true ∧ logRoom s 1 :=
  ⟨((List.range 21).foldl (fun s i => s.wr (Pg.ESTIM * 0x400 + 0x184 + 0x60 * 1 + 4 * i) (BitVec.ofNat 32 (i + 1)))
    Tests.full), (1), (77),
    by decide +kernel⟩
theorem witness_GradingCommandsOfTheHost_3 : ∃ (s : State) (c : Nat), c < 32 ∧ reachable s (Pg.RESULT c * 0x400 +
  0x040) = true ∧ logRoom s 0 :=
  ⟨(Tests.full), (5),
    by decide +kernel⟩
theorem witness_RingTrainsPass_1 : ∃ (s : State), s.full = true ∧ isKeeper s = true ∧ s.commons.tx = none ∧ logRoom s
  0 :=
  ⟨(Tests.full),
    by decide +kernel⟩
theorem witness_RingTrainsPass_2 : ∃ (s : State), s.full = true ∧ isKeeper s = false ∧ s.commons.sync = false ∧
  s.commons.tx = none ∧ logRoom s 0 :=
  ⟨(Tests.full.put Pg.CHIP Reg.CHIP.IDENT_ID_STRAP 3),
    by decide +kernel⟩
theorem witness_RingTrainsPass_3 : ∃ (s : State) (h : Nat) (l : List Nat), s.full = true ∧ isKeeper s = false ∧
  s.commons.rx = none ∧ s.commons.tx = none ∧ h < 2 ^ 32 ∧ l.length = 8 ∧ ((∀ w ∈ l, w < 2 ^ 58)) ∧ logRoom s 0 :=
  ⟨(Tests.full.put Pg.CHIP Reg.CHIP.IDENT_ID_STRAP 3), (5), ([1, 2, 3, 4, 5, 6, 7, 8]),
    by decide +kernel⟩
theorem witness_RingTrainsPass_4 : ∃ (s : State), s.full = true ∧ returnDue s = true ∧ logRoom s 0 :=
  ⟨({ (Tests.full.put Pg.COMMONS Reg.COMMONS.HELD 900).putb Pg.COMMONS Reg.COMMONS.STATUS_FROZEN false with commons := { Tests.full.commons with surplus := 70000 } }),
    by decide +kernel⟩
theorem witness_RingFreezesAndStarves_1 : ∃ (s : State), s.full = true ∧ freezeDue s = true :=
  ⟨({ Tests.full.putb Pg.COMMONS Reg.COMMONS.STATUS_FROZEN false with commons := { Tests.full.commons with freezeHdr := true } }),
    by decide +kernel⟩
theorem witness_RingFreezesAndStarves_2 : ∃ (s : State) (c : Nat), s.full = true ∧ c < 32 ∧ starveDue s c = true ∧
  s.flag Pg.COMMONS Reg.COMMONS.STATUS_FROZEN = false :=
  ⟨({ Tests.full.putb Pg.COMMONS Reg.COMMONS.STATUS_FROZEN false with commons := { Tests.full.commons with limRun := [(5, 100000)] } }),
    (5),
    by decide +kernel⟩
theorem witness_RingFreezesAndStarves_3 : ∃ (s : State) (off : Nat), hostReach s Pg.COMMONS 0x110 ∧ isKeeper s = true
  ∧ off < 256 ∧ off &&& s.get Pg.COMMONS Reg.COMMONS.PRESENT_PRESENT = 0 ∧ 0 ≤ reserveAfter s (s.get Pg.COMMONS
  Reg.COMMONS.NEW_TOTAL) off ∧ logRoom s 1 :=
  ⟨(Tests.full), (2),
    by decide +kernel⟩
theorem witness_RingFreezesAndStarves_4 : ∃ (s : State) (new : Nat) (mask : Nat), s.full = true ∧ isKeeper s = true ∧
  s.keeper.issueDue = [(new, mask)] ∧ reissueReady s = true ∧ new < 2 ^ Reg.COMMONS.TOTAL.width ∧ logRoom s 1 :=
  ⟨({ Tests.full with keeper := { Tests.full.keeper with issueDue := [(1000, 0)] } }), (1000), (0),
    by decide +kernel⟩
theorem witness_FaultNAndItsClears_1 : ∃ (s : State), s.powered = true ∧ s.fault.peerLow = false ∧ s.service ≠
  Svc.FULL :=
  ⟨(Tests.red),
    by decide +kernel⟩
theorem witness_FaultNAndItsClears_2 : ∃ (s : State), s.full = true ∧ s.fault.peerLow = false :=
  ⟨(Tests.full.put (Pg.CHAN 3) Reg.CHAN.STATUS_STATE Ch.RUN),
    by decide +kernel⟩
theorem witness_FaultNAndItsClears_3 : ∃ (s : State), autoclearDue s = true ∧ logRoom s 0 :=
  ⟨({ (Tests.full.putb Pg.FAULT Reg.FAULT.STATUS_FAULT_N_OUT false).put Pg.FAULT Reg.FAULT.CFG_BOARD_AUTOCLR 1 with fault := { Tests.full.fault with active := [(actKey Pg.FAULT Kind.BOARD_FAULT_IN, ⟨4, [0]⟩)] } }),
    by decide +kernel⟩
theorem witness_FaultNAndItsClears_4 : ∃ (s : State) (v : Nat), s.full = true ∧ hostReach s Pg.FAULT 0x048 ∧ v < 2 ^
  32 ∧ logRoom s 0 :=
  ⟨(Tests.full), (0x80000000),
    by decide +kernel⟩
theorem witness_FaultNAndItsClears_5 : ∃ (s : State), s.powered = true ∧ s.full = false ∧ hostReach s Pg.FAULT 0x048 ∧
  logRoom s 1 :=
  ⟨({ Tests.red with fault := { Tests.red.fault with active := [(actKey Pg.CHIP Kind.KEY_FAIL, ⟨2, [0]⟩)] } }),
    by decide +kernel⟩
theorem witness_TheCollectorAndTheCrier_1 : ∃ (s : State) (p : Nat) (n : Nat) (v : Nat) (k : PageKind), hostReach s p
  (0x014 + 4 * n) ∧ lockState s p = 0 ∧ n < 3 ∧ pageKind p = some k ∧ k ≠ .recipe ∧ severityOk k n v = true ∧ v < 2 ^
  30 ∧ logRoom s 1 :=
  ⟨(Tests.red), (1), (2), (0), (.clock),
    by decide +kernel⟩
theorem witness_TheCollectorAndTheCrier_2 : ∃ (s : State) (m : Nat) (f : Nat) (d : Nat) (l : List (Nat × Nat × Nat)),
  reachable s (Pg.FAULT * 0x400 + 0x064) = true ∧ s.fault.fifo = (m, f, d) :: l ∧ f < 2 ^ 32 ∧ d < 2 ^ 32 ∧ logRoom s
  0 :=
  ⟨({ Tests.red with fault := { Tests.red.fault with fifo := [(7, 8, 9), (1, 2, 3)] } }), (7), (8), (9), ([(1, 2,
    3)]),
    by decide +kernel⟩
theorem witness_TheCollectorAndTheCrier_3 : ∃ (s : State) (m : Nat × Nat) (l : List (Nat × Nat)) (ack : Bool),
  s.reducedOrLater = true ∧ s.fault.crier = m :: l ∧ logRoom s 0 :=
  ⟨({ Tests.red with fault := { Tests.red.fault with crier := [(7, 8)] } }), ((7, 8)), ([]), (true),
    by decide +kernel⟩
theorem witness_TheCollectorAndTheCrier_4 : ∃ (s : State) (ack : Bool), s.reducedOrLater = true ∧ s.fault.crier ≠ [] ∧
  logRoom s 0 :=
  ⟨({ Tests.red with fault := { Tests.red.fault with crier := [(7, 8)] } }), (true),
    by decide +kernel⟩
theorem witness_TheCollectorAndTheCrier_5 : ∃ (s : State) (id : Nat) (l : List Nat), s.reducedOrLater = true ∧
  l.length = 8 ∧ id < 8 ∧ ((∀ b ∈ l, b < 256)) ∧ logRoom s 0 :=
  ⟨(Tests.red), (3), ([1, 2, 3, 4, 5, 6, 7, 8]),
    by decide +kernel⟩
theorem witness_FactoryTestMode_1 : ∃ (s : State), reachable s (Pg.FAULT * 0x400 + 0x0C0) = true ∧ keySeq s testSeq =
  none ∧ keySeq s Pg.FAULT = none ∧ logRoom s 0 :=
  ⟨(Tests.red),
    by decide +kernel⟩
theorem witness_FactoryTestMode_2 : ∃ (s : State), reachable s (Pg.FAULT * 0x400 + 0x0C0) = true ∧ (keySeq s
  testSeq).isSome = true ∧ keySeq s Pg.FAULT = none ∧ channelsIdle s = true ∧ logRoom s 1 :=
  ⟨({ Tests.red with keys := [(testSeq, ⟨3, 0, 0, true⟩)] }),
    by decide +kernel⟩
theorem witness_FactoryTestMode_3 : ∃ (s : State) (v : Nat), hostReach s Pg.FAULT 0x0C4 ∧ v < 2 ^ 32 ∧ injectOk s v =
  true :=
  ⟨(Tests.red.putb Pg.FAULT Reg.FAULT.STATUS_TEST_MODE true), (0x0001 + 2 * 2 + 4096 * Kind.OT_DIE),
    by decide +kernel⟩
theorem witness_FactoryTestMode_4 : ∃ (s : State), s.powered = true ∧ s.flag Pg.FAULT Reg.FAULT.STATUS_TEST_MODE =
  true ∧ logRoom s 1 :=
  ⟨(Tests.red.putb Pg.FAULT Reg.FAULT.STATUS_TEST_MODE true),
    by decide +kernel⟩
theorem witness_SlotsAndPowerGood_1 : ∃ (s : State) (low : Nat) (drained : Nat) (amps : List Nat), s.reducedOrLater =
  true ∧ estate s 10 = Es.RUNNING ∧ hkState s = Hq.ON ∧ s.hk.start = false ∧ logRoom s 0 :=
  ⟨(setHk Tests.full Hq.ON), (0), (0), ([]),
    by decide +kernel⟩
theorem witness_SlotsAndPowerGood_2 : ∃ (s : State) (low : Nat) (drained : Nat) (amps : List Nat) (r : Nat),
  s.reducedOrLater = true ∧ estate s 10 = Es.RUNNING ∧ hkState s = Hq.UP ∧ s.hk.start = false ∧ r < 4 ∧ inSeq s r =
  true ∧ railOn s r = false ∧ seqField s (Reg.HKSEQ.RAIL_SEQ_ON_DLY.ix r) = s.hk.slot + 1 ∧ logRoom s 4 :=
  ⟨({ (setHk Tests.full Hq.UP).put Pg.HKSEQ (Reg.HKSEQ.RAIL_SEQ_ON_DLY.ix 1) 8 with hk := { Tests.full.hk with slot := 7, start := false } }),
    (15), (15), ([]), (1),
    by decide +kernel⟩
theorem witness_SlotsAndPowerGood_3 : ∃ (s : State) (r : Nat) (above : Bool), s.powered = true ∧ r < 4 ∧ railOn s r =
  true ∧ s.flag Pg.HKRAIL (Reg.HKRAIL.STATUS_PG.ix r) = false ∧ (rail s r).seen = false ∧ (rail s r).retarget = false
  ∧ pgLive s r = true ∧ logRoom s 0 :=
  ⟨({ setRail (Tests.full.putb Pg.HKRAIL (Reg.HKRAIL.STATUS_ON.ix 2) true) 2 { RailState.init with target := 850 } with rcUs := 1000000 }),
    (2), (false),
    by decide +kernel⟩
theorem witness_SlotsAndPowerGood_4 : ∃ (s : State) (r : Nat) (above : Bool), s.powered = true ∧ r < 4 ∧ railOn s r =
  true ∧ railQual s r = false ∧ s.flag Pg.HKRAIL (Reg.HKRAIL.STATUS_PG.ix r) = true ∧ (rail s r).fails < 2 ∧ goingDown
  s = false ∧ pgLive s r = true ∧ logRoom s 0 :=
  ⟨({ (Tests.full.putb Pg.HKRAIL (Reg.HKRAIL.STATUS_ON.ix 2) true).putb Pg.HKRAIL (Reg.HKRAIL.STATUS_PG.ix 2) true with rcUs := 1000000 }),
    (2), (false),
    by decide +kernel⟩
theorem witness_SlotsAndPowerGood_5 : ∃ (s : State) (r : Nat), s.powered = true ∧ r < 4 ∧ qualDone s r = true ∧
  hkState s ≠ Hq.UP ∧ logRoom s 0 :=
  ⟨({ (setHk Tests.full Hq.ON |>.putb Pg.HKRAIL (Reg.HKRAIL.STATUS_ON.ix 2) true).putb Pg.HKRAIL (Reg.HKRAIL.STATUS_PG.ix 2) true with rcUs := 10000000 }),
    (2),
    by decide +kernel⟩
theorem witness_RailFaultsShutTheRails_1 : ∃ (s : State) (r : Nat), s.service = Svc.REDUCED ∧ s.powered = true ∧ r < 4
  ∧ railOn s r = true ∧ (rail s r).seen = false ∧ (rail s r).onUs + 1000 * seqField s (Reg.HKSEQ.RAIL_SEQ_START_TMO.ix
  r) ≤ s.rcUs ∧ hkState s ≠ Hq.DOWN ∧ logRoom s 4 :=
  ⟨({ setHk (Tests.red.putb Pg.HKRAIL (Reg.HKRAIL.STATUS_ON.ix 2) true) Hq.UP with rcUs := 10000000 }), (2),
    by decide +kernel⟩
theorem witness_RailFaultsShutTheRails_2 : ∃ (s : State) (r : Nat), s.service = Svc.REDUCED ∧ s.powered = true ∧ r < 4
  ∧ railOn s r = true ∧ (rail s r).seen = false ∧ hkState s ≠ Hq.DOWN ∧ s.rcUs ≤ (rail s r).onUs + 100 * s.get
  Pg.HKRAIL (Reg.HKRAIL.SS_SLEW_SS.ix r) ∧ logRoom s 4 :=
  ⟨(Tests.red.putb Pg.HKRAIL (Reg.HKRAIL.STATUS_ON.ix 2) true), (2),
    by decide +kernel⟩
theorem witness_RailFaultsShutTheRails_3 : ∃ (s : State) (r : Nat) (cause : Nat), s.service = Svc.REDUCED ∧ s.powered
  = true ∧ r < 4 ∧ 1 ≤ cause ∧ cause ≤ 3 ∧ railOn s r = true ∧ railQual s r = true ∧ hkState s ≠ Hq.DOWN ∧ logRoom s 4
  :=
  ⟨((setHk Tests.red Hq.ON |>.putb Pg.HKRAIL (Reg.HKRAIL.STATUS_ON.ix 3) true).putb Pg.HKRAIL
    (Reg.HKRAIL.STATUS_QUALIFIED.ix 3) true), (3), (1),
    by decide +kernel⟩
theorem witness_RailFaultsShutTheRails_4 : ∃ (s : State) (r : Nat), s.service = Svc.REDUCED ∧ s.powered = true ∧ r < 4
  ∧ railOn s r = false ∧ (rail s r).offWait = true ∧ (rail s r).low = false ∧ 4 * s.get Pg.HKRAIL
  (Reg.HKRAIL.LIMIT_OFF_TMO.ix r) ≤ (rail s r).offSlots ∧ logRoom s 4 :=
  ⟨(setRail (setHk Tests.red Hq.DOWN) 1 { RailState.init with offWait := true, low := false, offSlots := 100000 }),
    (1),
    by decide +kernel⟩
theorem witness_RailFaultsShutTheRails_5 : ∃ (s : State) (r : Nat), s.service = Svc.REDUCED ∧ s.powered = true ∧ r < 4
  ∧ goingDown s = true ∧ railOn s r = true ∧ logRoom s 4 :=
  ⟨(setHk (Tests.red.putb Pg.HKRAIL (Reg.HKRAIL.STATUS_ON.ix 0) true) Hq.DOWN), (0),
    by decide +kernel⟩
theorem witness_SequencesStartAndStop_1 : ∃ (s : State), s.reducedOrLater = true ∧ hkState s = Hq.FAULTED ∧ (s.get
  Pg.HKSEQ Reg.HKSEQ.STATUS_ABORT_CAUSE = 1 ∨ s.get Pg.HKSEQ Reg.HKSEQ.STATUS_ABORT_CAUSE = 2) ∧ s.get Pg.HKSEQ
  Reg.HKSEQ.STATUS_CONSEC_ABORTS ≤ seqField s Reg.HKSEQ.CFG_RETRY ∧ (List.range 4).all (fun r => (rail s r).low) =
  true ∧ s.hk.abortUs + 100000 ≤ s.rcUs ∧ logRoom s 0 :=
  ⟨({ (setHk Tests.red Hq.FAULTED).put Pg.HKSEQ Reg.HKSEQ.STATUS_ABORT_CAUSE 1 with rcUs := 1000000 }),
    by decide +kernel⟩
theorem witness_SequencesStartAndStop_2 : ∃ (s : State), s.reducedOrLater = true ∧ hkState s = Hq.FAULTED ∧ s.get
  Pg.HKSEQ Reg.HKSEQ.STATUS_ABORT_CAUSE = 3 ∧ dieCool s = true ∧ logRoom s 0 :=
  ⟨({ (setHk Tests.red Hq.FAULTED).put Pg.HKSEQ Reg.HKSEQ.STATUS_ABORT_CAUSE 3 with rcUs := 1000000 }),
    by decide +kernel⟩
theorem witness_SequencesStartAndStop_3 : ∃ (s : State), s.reducedOrLater = true ∧ hkState s = Hq.OFF ∧ s.flag
  Pg.HKSEQ Reg.HKSEQ.STATUS_EMERG_OFF = true ∧ s.hk.abortUs + 100000 ≤ s.rcUs ∧ logRoom s 0 :=
  ⟨({ Tests.red.putb Pg.HKSEQ Reg.HKSEQ.STATUS_EMERG_OFF true with rcUs := 1000000 }),
    by decide +kernel⟩
theorem witness_SequencesStartAndStop_4 : ∃ (s : State), hostReach s Pg.HKSEQ 0x044 ∧ lockState s Pg.HKSEQ = 0 ∧
  hkState s = Hq.OFF ∧ logRoom s 1 :=
  ⟨(Tests.red),
    by decide +kernel⟩
theorem witness_SequencesStartAndStop_5 : ∃ (s : State), hostReach s Pg.HKSEQ 0x044 ∧ lockState s Pg.HKSEQ = 0 ∧
  (hkState s = Hq.ON ∨ hkState s = Hq.UP) ∧ logRoom s 1 :=
  ⟨(setHk Tests.red Hq.ON),
    by decide +kernel⟩
theorem witness_SequencesStartAndStop_6 : ∃ (s : State) (k : Nat), s.powered = true ∧ k < 2 ∧ mayRelease s k = true ∧
  logRoom s 0 :=
  ⟨({ ((setHk Tests.red Hq.ON).put Pg.HKSEQ (Reg.HKSEQ.RST_CFG_MASK.ix 1) 1 |>.putb Pg.HKRAIL (Reg.HKRAIL.STATUS_ON.ix 0) true).putb Pg.HKRAIL (Reg.HKRAIL.STATUS_QUALIFIED.ix 0) true with rcUs := 100000000 }),
    (1),
    by decide +kernel⟩
theorem witness_SequencesStartAndStop_7 : ∃ (s : State) (r : Nat) (d : Nat), hostReach s Pg.HKRAIL (0x040 + 32 * r) ∧
  lockState s Pg.HKRAIL = 0 ∧ r < 4 ∧ d < 2 ∧ hkState s = Hq.ON ∧ railOn s r = false ∧ s.get Pg.HKRAIL
  (Reg.HKRAIL.CTRL_EN.ix r) = 0 ∧ logRoom s 3 :=
  ⟨((setHk Tests.red Hq.ON)), (2), (1),
    by decide +kernel⟩
theorem witness_SequencesStartAndStop_8 : ∃ (s : State) (r : Nat) (mv : Nat), hostReach s Pg.HKRAIL (0x044 + 32 * r) ∧
  lockState s Pg.HKRAIL = 0 ∧ (r = 0 ∨ r = 2) ∧ (if r = 0 then 4500 ≤ mv ∧ mv ≤ 5500 else if s.flag Pg.FAULT
  Reg.FAULT.STATUS_TEST_MODE then 600 ≤ mv ∧ mv ≤ 1200 else 800 ≤ mv ∧ mv ≤ 900) ∧ logRoom s 1 :=
  ⟨(Tests.red), (0), (5500),
    by decide +kernel⟩
theorem witness_SequencesStartAndStop_9 : ∃ (s : State) (r : Nat) (mv : Nat), reachable s (Pg.HKRAIL * 0x400 + (0x044
  + 32 * r)) = true ∧ (r = 1 ∨ r = 3) ∧ logRoom s 0 :=
  ⟨(Tests.red), (3), (1800),
    by decide +kernel⟩
theorem witness_ThePowerPath_1 : ∃ (s : State), s.backup.path = false ∧ (s.powered = false ∨ switchOn s = false) ∧
  s.reducedOrLater = false ∧ logRoom s 0 :=
  ⟨({ Tests.dark with backup := { Tests.dark.backup with path := false } }),
    by decide +kernel⟩
theorem witness_ThePowerPath_2 : ∃ (s : State), s.backup.path = false ∧ switchOn s = false ∧ s.reducedOrLater = true ∧
  packPresent s = false ∧ logRoom s 0 :=
  ⟨({ Tests.red with backup := { Tests.red.backup with path := false } }),
    by decide +kernel⟩
theorem witness_ThePowerPath_3 : ∃ (s : State), (s.backup.path = true ∨ (s.powered = true ∧ switchOn s = true)) ∧
  logRoom s 0 :=
  ⟨(setSwitch (setSource { Tests.red with backup := { Tests.red.backup with path := false } } Src.PACK) true),
    by decide +kernel⟩
theorem witness_ThePowerPath_4 : ∃ (s : State), logRoom s 0 :=
  ⟨({ Tests.dark with backup := { Tests.dark.backup with latch := true } }),
    by decide +kernel⟩
theorem witness_ThePowerPath_5 : ∃ (s : State), s.powered = true ∧ s.backup.path = true ∧ pathSource s = Src.VIN ∧
  s.service = Svc.REDUCED ∧ s.fault.logPending = [] ∧ logRoom s 4 :=
  ⟨(Tests.red),
    by decide +kernel⟩
theorem witness_ThePowerPath_6 : ∃ (s : State), s.full = true ∧ s.backup.path = true ∧ pathSource s = Src.VIN ∧
  s.powered = true :=
  ⟨(Tests.full),
    by decide +kernel⟩
theorem witness_ThePowerPath_7 : ∃ (s : State), s.powered = true ∧ pathSource s = Src.HANDOVER ∧ s.flag Pg.BACKUP
  Reg.BACKUP.PATH_STATUS_BAT_SW = true ∧ logRoom s 0 :=
  ⟨(setSwitch (setSource Tests.red Src.HANDOVER) true),
    by decide +kernel⟩
theorem witness_ThePowerPath_8 : ∃ (s : State), s.powered = true ∧ handbackDue s = true ∧ logRoom s 0 :=
  ⟨({ setSource Tests.red Src.WINDOW with rcUs := 10000000 }),
    by decide +kernel⟩
theorem witness_ThePowerPath_9 : ∃ (s : State) (f : FrameIn) (len : Nat), s.powered = true ∧ s.service = Svc.REDUCED ∧
  onPack s = true ∧ s.flag Pg.BACKUP Reg.BACKUP.PATH_STATUS_SHUTDOWN = false ∧ (hkState s = Hq.ON ∨ hkState s = Hq.UP)
  ∧ vbak s ≤ shutLevel s ∧ (List.range 32).all (fun c => (s.chan c).endPending.isNone) = true ∧ logRoom s 0 :=
  ⟨(setSwitch (setHk (setSource Tests.red Src.PACK) Hq.ON) true), (FrameIn.quiet), (0),
    by decide +kernel⟩
theorem witness_ThePowerPath_10 : ∃ (s : State), s.powered = true ∧ s.flag Pg.BACKUP Reg.BACKUP.PATH_STATUS_SHUTDOWN =
  true ∧ hkState s = Hq.OFF ∧ logRoom s 0 :=
  ⟨(Tests.red.putb Pg.BACKUP Reg.BACKUP.PATH_STATUS_SHUTDOWN true),
    by decide +kernel⟩
theorem witness_ThePowerPath_11 : ∃ (s : State), s.powered = true ∧ s.flag Pg.BACKUP Reg.BACKUP.PATH_STATUS_BAT_SW =
  true ∧ s.backup.path = false ∧ logRoom s 0 :=
  ⟨({ setSwitch Tests.red true with backup := { Tests.red.backup with path := false } }),
    by decide +kernel⟩
theorem witness_TheEmergencyCommit_1 : ∃ (s : State) (f : FrameIn) (len : Nat), s.powered = true ∧ s.service =
  Svc.REDUCED ∧ s.flag Pg.HKSEQ Reg.HKSEQ.STATUS_EMERG_OFF = false ∧ (List.range 32).all (fun c => (s.chan
  c).endPending.isNone) = true ∧ logRoom s 8 :=
  ⟨(Tests.red.putb Pg.HKRAIL (Reg.HKRAIL.STATUS_ON.ix 3) true), (FrameIn.quiet), (0),
    by decide +kernel⟩
theorem witness_TheEmergencyCommit_2 : ∃ (s : State), s.powered = true ∧ s.backup.emerg = true ∧ logRoom s 0 :=
  ⟨({ Tests.red with backup := { Tests.red.backup with emerg := true } }),
    by decide +kernel⟩
theorem witness_ChargingAndThePack_1 : ∃ (s : State), s.powered = true ∧ chgState s = Chg.CC ∧ cvLevel s ≤ vbak s ∧
  logRoom s 0 :=
  ⟨((setChg Tests.red Chg.CC).put Pg.HKRAIL Reg.HKRAIL.VBAK_VOLTAGE 20000),
    by decide +kernel⟩
theorem witness_ChargingAndThePack_2 : ∃ (s : State), s.powered = true ∧ chgState s = Chg.DONE ∧ vbak s <
  rechargeLevel s ∧ logRoom s 0 :=
  ⟨(setChg Tests.red Chg.DONE),
    by decide +kernel⟩
theorem witness_ChargingAndThePack_3 : ∃ (s : State), s.powered = true ∧ chgState s = Chg.CV ∧ s.flag Pg.GAUGE
  Reg.GAUGE.STATUS_EMPTY_MARK = false ∧ s.geti Pg.GAUGE Reg.GAUGE.PACK_I < 10 * (s.get Pg.BACKUP
  Reg.BACKUP.CHG_CFG_ITERM : Int) ∧ logRoom s 0 :=
  ⟨(setChg Tests.red Chg.CV),
    by decide +kernel⟩
theorem witness_ChargingAndThePack_4 : ∃ (s : State), s.powered = true ∧ (chgState s = Chg.CC ∨ chgState s = Chg.CV) ∧
  s.get Pg.BACKUP Reg.BACKUP.CHG_TIMER_LIMIT ≤ s.get Pg.BACKUP Reg.BACKUP.CHG_TIME_MINUTES ∧ packPresent s = true ∧
  s.backup.path = true ∧ s.flag Pg.BACKUP Reg.BACKUP.CHG_CFG_EN = true ∧ s.backup.authFail = false ∧ logRoom s 0 :=
  ⟨((setChg Tests.red Chg.CC |>.put Pg.BACKUP Reg.BACKUP.CHG_TIME_MINUTES 9999).putb Pg.BACKUP
    Reg.BACKUP.CHG_STATUS_PRESENT true),
    by decide +kernel⟩
theorem witness_ChargingAndThePack_5 : ∃ (s : State) (collapse : Bool), s.reducedOrLater = true ∧ packPresent s = true
  ∧ (collapse = false ∨ (chgState s = Chg.CV ∧ cvLevel s ≤ vbak s + 20 ∧ vbak s ≤ cvLevel s + 20)) ∧ logRoom s 4 :=
  ⟨(((setChg Tests.red Chg.CV).putb Pg.BACKUP Reg.BACKUP.CHG_STATUS_PRESENT true).put Pg.HKRAIL
    Reg.HKRAIL.VBAK_VOLTAGE (cvLevel Tests.red)), (true),
    by decide +kernel⟩
theorem witness_ChargingAndThePack_6 : ∃ (s : State), s.reducedOrLater = true ∧ packPresent s = false ∧ s.flag
  Pg.BACKUP Reg.BACKUP.CHG_STATUS_TS_VALID = true ∧ 8000 ≤ vbak s ∧ vbak s ≤ 17600 ∧ s.flag Pg.BACKUP
  Reg.BACKUP.AUTH_CFG_EN = false ∧ s.flag Pg.BACKUP Reg.BACKUP.PACK_T_VALID = false ∧ logRoom s 0 :=
  ⟨((Tests.red.putb Pg.BACKUP Reg.BACKUP.CHG_STATUS_TS_VALID true).put Pg.HKRAIL Reg.HKRAIL.VBAK_VOLTAGE 12000),
    by decide +kernel⟩
theorem witness_ChargingAndThePack_7 : ∃ (s : State), hostReach s Pg.BACKUP 0x0BC ∧ lockState s Pg.BACKUP = 0 ∧ s.flag
  Pg.BACKUP Reg.BACKUP.AUTH_CFG_EN = true ∧ packPresent s = true ∧ s.getBit Pg.CHIP Reg.CHIP.STATUS_OTP_FAIL 2 = false
  ∧ logRoom s 1 :=
  ⟨((Tests.red.putb Pg.BACKUP Reg.BACKUP.AUTH_CFG_EN true).putb Pg.BACKUP Reg.BACKUP.CHG_STATUS_PRESENT true),
    by decide +kernel⟩
theorem witness_ChargingAndThePack_8 : ∃ (s : State) (l : List Nat), s.reducedOrLater = true ∧ 0 < s.backup.tries ∧
  s.fault.crier = [] ∧ s.backup.authUs ≤ s.rcUs ∧ s.getBit Pg.CHIP Reg.CHIP.STATUS_OTP_FAIL 2 = false ∧ logRoom s 0 :=
  ⟨({ Tests.red with backup := { Tests.red.backup with tries := 2 } }), (List.replicate 16 7),
    by decide +kernel⟩
theorem witness_ChargingAndThePack_9 : ∃ (s : State) (l : List Nat), s.reducedOrLater = true ∧ 1 < s.backup.tries ∧
  s.fault.crier = [] ∧ s.backup.authUs ≤ s.rcUs ∧ s.getBit Pg.CHIP Reg.CHIP.STATUS_OTP_FAIL 2 = false ∧ logRoom s 0 :=
  ⟨({ Tests.red with backup := { Tests.red.backup with tries := 2 } }), (List.replicate 16 7),
    by decide +kernel⟩
theorem witness_ChargingAndThePack_10 : ∃ (s : State) (l : List Nat) (r : Option (List Nat)), s.reducedOrLater = true
  ∧ 0 < s.backup.tries ∧ s.fault.crier = [] ∧ s.backup.authUs ≤ s.rcUs ∧ s.getBit Pg.CHIP Reg.CHIP.STATUS_OTP_FAIL 2 =
  false ∧ logRoom s 0 :=
  ⟨({ Tests.red with backup := { Tests.red.backup with tries := 2 } }), ([]), (none),
    by decide +kernel⟩
theorem witness_TheGauge_1 : ∃ (s : State) (mc : Int) (iin : Nat), s.powered = true ∧ estate s 10 ≠ Es.RUNNING ∧
  logRoom s 0 :=
  ⟨((setEstate Tests.full 10 Es.STOPPED).put Pg.GAUGE Reg.GAUGE.FCC 100000), (-20), (100),
    by decide +kernel⟩
theorem witness_TheGauge_2 : ∃ (s : State) (mc : Int) (iin : Nat), s.powered = true ∧ estate s 10 = Es.RUNNING ∧
  s.gauge.discharged + (-mc).toNat < s.get Pg.GAUGE Reg.GAUGE.FCC ∧ logRoom s 0 :=
  ⟨((setEstate Tests.red 10 Es.RUNNING).put Pg.GAUGE Reg.GAUGE.FCC 100000), (-20), (100),
    by decide +kernel⟩
theorem witness_TheGauge_3 : ∃ (s : State), gaugeLive s = true ∧ vbak s ≤ shutLevel s ∧ (s.get Pg.GAUGE
  Reg.GAUGE.Q_UNUSABLE : Int) < s.geti Pg.GAUGE Reg.GAUGE.Q_RAW ∧ logRoom s 0 :=
  ⟨((setEstate Tests.red 10 Es.RUNNING).put Pg.GAUGE Reg.GAUGE.Q_RAW 5000),
    by decide +kernel⟩
theorem witness_TheGauge_4 : ∃ (s : State), gaugeLive s = true ∧ 60 * s.get Pg.GAUGE Reg.GAUGE.GAUGE_CFG_REST_MIN ≤
  s.gauge.restSec ∧ logRoom s 0 :=
  ⟨({ setEstate Tests.red 10 Es.RUNNING with gauge := { GaugeState.init with restSec := 100000 } }),
    by decide +kernel⟩
theorem witness_TheGauge_5 : ∃ (s : State) (dv : Nat) (di : Nat) (k : Nat), gaugeLive s = true ∧ 0 < di ∧ s.get
  Pg.GAUGE Reg.GAUGE.DESIGN_CAP_CAP ≤ 10 * di ∧ k = min 7 (s.get Pg.GAUGE Reg.GAUGE.SOC_SOC_RAW * 8 / 10000) ∧
  impValid s k = false ∧ dv * 10000 % di = 0 ∧ dv * 10000 / di < 2 ^ 16 ∧ logRoom s 0 :=
  ⟨(setEstate Tests.red 10 Es.RUNNING), (300), (1000), (0),
    by decide +kernel⟩
theorem witness_TheGauge_6 : ∃ (s : State), hostReach s Pg.GAUGE 0x048 ∧ lockState s Pg.GAUGE = 0 ∧ logRoom s 1 :=
  ⟨(Tests.red),
    by decide +kernel⟩
theorem witness_TheRtcKeepsTime_1 : ∃ (s : State), s.powered = false ∧ s.rtc.alive = false ∧ logRoom s 0 :=
  ⟨({ Tests.dark with rtc := { RtcState.init with alive := false } }),
    by decide +kernel⟩
theorem witness_TheRtcKeepsTime_2 : ∃ (s : State), s.powered = false ∧ s.rtc.alive = true ∧ logRoom s 0 :=
  ⟨(Tests.dark),
    by decide +kernel⟩
theorem witness_TheRtcKeepsTime_3 : ∃ (s : State) (khz : Nat), s.rtc.alive = true ∧ rtcHalted s = false ∧ s.rtcSec + 1
  < 2 ^ 32 ∧ (s.flag Pg.RTC Reg.RTC.ALARM_CTRL_ARM = false ∨ s.get Pg.RTC Reg.RTC.ALARM ≠ s.rtcSec + 1) ∧ logRoom s 0
  :=
  ⟨(Tests.full), (11000),
    by decide +kernel⟩
theorem witness_TheRtcKeepsTime_4 : ∃ (s : State) (khz : Nat), s.rtc.alive = true ∧ rtcHalted s = false ∧ s.rtcSec + 1
  < 2 ^ 32 ∧ s.flag Pg.RTC Reg.RTC.ALARM_CTRL_ARM = true ∧ s.get Pg.RTC Reg.RTC.ALARM = s.rtcSec + 1 ∧ s.full = false
  ∧ logRoom s 1 :=
  ⟨(((Tests.red.putb Pg.RTC Reg.RTC.ALARM_CTRL_ARM true).put Pg.RTC Reg.RTC.ALARM 1).putb Pg.RTC Reg.RTC.WAKE_CFG_EN
    true), (11000),
    by decide +kernel⟩
theorem witness_TheRtcKeepsTime_5 : ∃ (s : State) (reg : TimeReg) (v : Nat) (x : Nat), hostReach s Pg.RTC (if reg =
  .timeSec then 0x048 else if reg = .calTime then 0x050 else 0x054) ∧ lockState s Pg.RTC = 0 ∧ rtcHalted s = true ∧ v
  < 2 ^ 32 ∧ rtcWriteSecond s (if reg = .timeSec then 0x048 else if reg = .calTime then 0x050 else 0x054) v = some x ∧
  s.flag Pg.RTC Reg.RTC.ALARM_CTRL_ARM = false ∧ logRoom s 1 :=
  ⟨(Tests.red.put Pg.RTC Reg.RTC.CTRL_HALT 1), (.timeSec), (86399), (86399),
    by decide +kernel⟩
theorem witness_TheRtcKeepsTime_6 : ∃ (s : State) (reg : TimeReg) (v : Nat), hostReach s Pg.RTC (if reg = .timeSec
  then 0x048 else if reg = .calTime then 0x050 else 0x054) ∧ lockState s Pg.RTC = 0 ∧ rtcHalted s = false ∧ v < 2 ^ 32
  ∧ logRoom s 1 :=
  ⟨(Tests.red), (.calDate), (0x19010100),
    by decide +kernel⟩
theorem witness_TheRtcKeepsTime_7 : ∃ (s : State), hostReach s Pg.RTC 0x040 ∧ lockState s Pg.RTC = 0 ∧ logRoom s 1 :=
  ⟨(Tests.red),
    by decide +kernel⟩
theorem witness_TheRtcKeepsTime_8 : ∃ (s : State), hostReach s Pg.RTC 0x040 ∧ lockState s Pg.RTC = 0 ∧ logRoom s 1 :=
  ⟨(Tests.red.put Pg.RTC Reg.RTC.CTRL_HALT 1),
    by decide +kernel⟩
theorem witness_TheRtcKeepsTime_9 : ∃ (s : State) (o : Origin), reachable s (Pg.RTC * 0x400 + 0x048) = true ∧
  originLive s o = true ∧ logRoom s 0 :=
  ⟨(Tests.full), (.twowire),
    by decide +kernel⟩
theorem witness_TheRtcKeepsTime_10 : ∃ (s : State), s.rtc.alive = true ∧ logRoom s 0 :=
  ⟨(Tests.red),
    by decide +kernel⟩
theorem witness_TheRtcKeepsTime_11 : ∃ (s : State), hostReach s Pg.RTC 0x05C ∧ lockState s Pg.RTC = 0 ∧ s.rtcSec <
  s.get Pg.RTC Reg.RTC.ALARM ∧ logRoom s 1 :=
  ⟨(Tests.red.put Pg.RTC Reg.RTC.ALARM 100),
    by decide +kernel⟩
theorem witness_TrimAndWakeOut_1 : ∃ (s : State) (w : Nat), hostReach s Pg.RTC 0x068 ∧ lockState s Pg.RTC = 0 ∧ s.full
  = true ∧ measRunning s = false ∧ 1 ≤ w ∧ w ≤ 100 ∧ rangesOk (fieldsAt Pg.RTC 0x068) (w * 256 + s.get Pg.RTC
  Reg.RTC.TRIM_MEAS_STATE * 65536) = true ∧ logRoom s 1 :=
  ⟨(Tests.full), (10),
    by decide +kernel⟩
theorem witness_TrimAndWakeOut_2 : ∃ (s : State) (n : Nat), s.full = true ∧ measRunning s = true ∧ s.rtc.measLost =
  false ∧ s.flag Pg.RTC Reg.RTC.TRIM_MEAS_APPLY = false ∧ 0 < n ∧ n < 2 ^ 64 ∧ logRoom s 0 :=
  ⟨({ Tests.full.put Pg.RTC Reg.RTC.TRIM_MEAS_STATE 1 with rtc := { RtcState.init with measWindow := 1 } }),
    (200000100),
    by decide +kernel⟩
theorem witness_TrimAndWakeOut_3 : ∃ (s : State), measRunning s = true ∧ (s.full = false ∨ s.rtc.measLost = true) ∧
  logRoom s 0 :=
  ⟨(Tests.red.put Pg.RTC Reg.RTC.TRIM_MEAS_STATE 1),
    by decide +kernel⟩
theorem witness_TrimAndWakeOut_4 : ∃ (s : State), hostReach s Pg.RTC 0x060 ∧ lockState s Pg.RTC = 0 ∧ rangesOk
  (fieldsAt Pg.RTC 0x060) (withField s Pg.RTC Reg.RTC.WAKE_CFG_RELEASE 1) = true ∧ logRoom s 1 :=
  ⟨(Tests.red.putb Pg.RTC Reg.RTC.WAKE_CFG_STATE true),
    by decide +kernel⟩
theorem witness_TrimAndWakeOut_5 : ∃ (s : State), hostReach s Pg.RTC 0x060 ∧ lockState s Pg.RTC = 0 ∧ rangesOk
  (fieldsAt Pg.RTC 0x060) (withField s Pg.RTC Reg.RTC.WAKE_CFG_FORCE 1) = true ∧ logRoom s 1 :=
  ⟨(Tests.red),
    by decide +kernel⟩
theorem witness_TrimAndWakeOut_6 : ∃ (s : State), s.rtc.alive = true ∧ s.flag Pg.RTC Reg.RTC.WAKE_CFG_STATE = true ∧
  s.flag Pg.RTC Reg.RTC.WAKE_CFG_MODE = true ∧ s.rtc.wakeUs + 10000 * s.get Pg.RTC Reg.RTC.WAKE_CFG_WIDTH ≤ s.rcUs ∧
  logRoom s 0 :=
  ⟨({ (Tests.red.putb Pg.RTC Reg.RTC.WAKE_CFG_STATE true).putb Pg.RTC Reg.RTC.WAKE_CFG_MODE true with rcUs := 100000000 }),
    by decide +kernel⟩
theorem witness_TimersAndGpio_1 : ∃ (s : State) (k : Nat) (hi : Nat), k < 8 ∧ hi < 2 ^ 24 ∧ hostReach s Pg.TIMER
  (0x084 + 16 * k) ∧ lockState s Pg.TIMER = 0 ∧ s.flag Pg.TIMER (Reg.TIMER.CMP_CTRL_EN.ix k) = true ∧ s.timer.tick <
  s.get Pg.TIMER (Reg.TIMER.CMP_LO.ix k) + 2 ^ 32 * hi ∧ logRoom s 1 :=
  ⟨(Tests.full.putb Pg.TIMER (Reg.TIMER.CMP_CTRL_EN.ix 3) true), (3), (7),
    by decide +kernel⟩
theorem witness_TimersAndGpio_2 : ∃ (s : State) (k : Nat) (a : Nat) (pin : Nat), s.full = true ∧ k < 8 ∧ s.flag
  Pg.TIMER (Reg.TIMER.CMP_CTRL_ARMED.ix k) = true ∧ a = s.get Pg.TIMER (Reg.TIMER.CMP_CTRL_ACTION.ix k) ∧ pin = s.get
  Pg.TIMER (Reg.TIMER.CMP_CTRL_PIN.ix k) ∧ gpioOut s pin = true ∧ firesWith s k = [k] ∧ logRoom s 0 :=
  ⟨((((Tests.full.putb Pg.TIMER (Reg.TIMER.CMP_CTRL_ARMED.ix 3) true).put Pg.TIMER (Reg.TIMER.CMP_CTRL_ACTION.ix 3)
    4).put Pg.TIMER (Reg.TIMER.CMP_CTRL_PIN.ix 3) 2).put Pg.TIMER Reg.TIMER.GPIO_CFG_MODE2 1), (3), (4), (2),
    by decide +kernel⟩
theorem witness_TimersAndGpio_3 : ∃ (s : State) (k : Nat) (pin : Nat), s.full = true ∧ pin < 4 ∧ Table.get none
  s.timer.pulse pin = some k ∧ (List.range 4).all (fun j => decide (j = pin) || decide (Table.get none s.timer.pulse j
  ≠ some k)) = true ∧ logRoom s 0 :=
  ⟨({ Tests.full with timer := { TimerState.init with pulse := [(2, some 3)], pulseEnd := [(2, 500)] } }), (3), (2),
    by decide +kernel⟩
theorem witness_TimersAndGpio_4 : ∃ (s : State) (k : Nat) (rising : Bool), s.full = true ∧ k < 4 ∧ edgeSelected s k
  rising = true ∧ s.timer.tick < 2 ^ 56 ∧ logRoom s 0 :=
  ⟨({ (Tests.full.putb Pg.TIMER (Reg.TIMER.CAP_CTRL_EN.ix 1) true).put Pg.TIMER (Reg.TIMER.CAP_CTRL_EDGE.ix 1) 1 with timer := { TimerState.init with tick := 2 ^ 33 + 5 } }),
    (1), (true),
    by decide +kernel⟩
theorem witness_TimersAndGpio_5 : ∃ (s : State) (o : Origin) (k : Nat), k < 4 ∧ reachable s (Pg.TIMER * 0x400 + 0x100
  + 16 * k) = true ∧ originLive s o = true ∧ logRoom s 0 :=
  ⟨(Tests.full.putb Pg.TIMER (Reg.TIMER.CAP_CTRL_FULL.ix 1) true), (.host), (1),
    by decide +kernel⟩
theorem witness_TimersAndGpio_6 : ∃ (s : State) (o : Origin), reachable s (Pg.TIMER * 0x400 + 0x040) = true ∧
  originLive s o = true ∧ logRoom s 0 :=
  ⟨({ Tests.full with timer := { TimerState.init with tick := 2 ^ 33 + 5 } }), (.host),
    by decide +kernel⟩
theorem witness_TimersAndGpio_7 : ∃ (s : State) (v : Nat), hostReach s Pg.TIMER 0x048 ∧ lockState s Pg.TIMER = 0 ∧ v <
  2 ^ 16 ∧ rangesOk (fieldsAt Pg.TIMER 0x048) (storedWord (fieldsAt Pg.TIMER 0x048) (s.rd (Pg.TIMER * 0x400 +
  0x048)).toNat v) = true ∧ logRoom s 1 :=
  ⟨(Tests.full), (0x5105),
    by decide +kernel⟩
theorem witness_TheOtpIsProgrammed_1 : ∃ (s : State), hostReach s Pg.OTP 0x04C ∧ otpRefusal s 0x0F7A0001 = none ∧
  logRoom s 1 :=
  ⟨(Tests.otpOpen.put Pg.OTP Reg.OTP.PROG_ADDR_ADDR 0xE5),
    by decide +kernel⟩
theorem witness_TheOtpIsProgrammed_2 : ∃ (s : State) (r : Nat) (c : Nat), r < 5 ∧ hostReach s Pg.OTP 0x04C ∧
  otpRefusal s (0x0F7A0002 + 16 * r) = none ∧ c = (otpRegion r).2 ∧ logRoom s 1 :=
  ⟨(Tests.otpOpen), (4), (0xFE),
    by decide +kernel⟩
theorem witness_TheOtpIsProgrammed_3 : ∃ (s : State) (r : Nat), r < 5 ∧ hostReach s Pg.OTP 0x04C ∧ otpRefusal s
  (0x0F7A0003 + 16 * r) = none ∧ logRoom s 1 :=
  ⟨(Tests.otpOpen), (4),
    by decide +kernel⟩
theorem witness_TheOtpIsProgrammed_4 : ∃ (s : State) (o : OtpOp) (pulses : Nat) (failA : List OtpVerify) (failB : List
  OtpVerify), s.full = true ∧ s.otpOp = some o ∧ (o.op = 1 ∨ o.op = 2) ∧ o.data < 2 ^ 32 ∧ o.data &&& ((verifyOf failA
  o.addr).1 ||| (verifyOf failA o.addr).2) = 0 ∧ o.data &&& ((verifyOf failB o.addr).1 ||| (verifyOf failB o.addr).2)
  = 0 ∧ logRoom s 0 :=
  ⟨({ Tests.full with otpOp := some ⟨1, 0xE5, 0x1234⟩ }), (⟨1, 0xE5, 0x1234⟩), (2), ([]), ([⟨0xE5, 1, 0⟩]),
    by decide +kernel⟩
theorem witness_TheOtpIsProgrammed_5 : ∃ (s : State) (o : OtpOp) (pulses : Nat) (failA : List OtpVerify) (failB : List
  OtpVerify), s.full = true ∧ s.otpOp = some o ∧ (o.op = 1 ∨ o.op = 2) ∧ o.data &&& ((verifyOf failA o.addr).1 |||
  (verifyOf failA o.addr).2 ||| (verifyOf failB o.addr).1 ||| (verifyOf failB o.addr).2) ≠ 0 ∧ logRoom s 0 :=
  ⟨({ Tests.full with otpOp := some ⟨1, 0xE5, 0x1234⟩ }), (⟨1, 0xE5, 0x1234⟩), (8), ([⟨0xE5, 0x1000, 0⟩]), ([]),
    by decide +kernel⟩
theorem witness_TheOtpIsProgrammed_6 : ∃ (s : State) (r : Nat) (pulses : Nat) (failA : List OtpVerify) (failB : List
  OtpVerify), s.full = true ∧ s.otpOp = some ⟨3, r, 0⟩ ∧ logRoom s 0 :=
  ⟨({ Tests.full with otpOp := some ⟨3, 4, 0⟩ }), (4), (0), ([⟨0xE5, 0, 3⟩]), ([]),
    by decide +kernel⟩
theorem witness_TheGranaryCommits_1 : ∃ (s : State) (l : List Nat) (pages : List Nat) (bad : List Nat), s.powered =
  true ∧ s.gran.busy = some (⟨6, .words l⟩, pages) ∧ s.gran.pend = [] ∧ (pages.filter (fun k => pageFails s k ||
  bad.contains k) = [] ∨ (pages.filter (fun k => pageFails s k || bad.contains k)).length + 9 ≤ erasedPages s) ∧
  logRoom s 0 :=
  ⟨({ Tests.full with gran := { GranaryState.init with busy := some (⟨6, .words [1, 2]⟩, [3]) } }), ([1, 2]), ([3]),
    ([3]),
    by decide +kernel⟩
theorem witness_TheGranaryCommits_2 : ∃ (s : State) (n : Nat), s.powered = true ∧ s.gran.busy = none ∧ s.gran.pend =
  [] ∧ s.gran.held = [] ∧ s.ledger.openNeeded = false ∧ nextErase s = some n ∧ logRoom s 0 :=
  ⟨({ Tests.full with gran := { GranaryState.init with erase := [7, 9], pages := [(7, ⟨2, 4⟩)] } }), (7),
    by decide +kernel⟩
theorem witness_TheGranaryCommits_3 : ∃ (s : State) (l : List Nat), s.powered = true ∧ s.gran.pend = [⟨6, .words l⟩] ∧
  heldLong s = true ∧ logRoom s 0 :=
  ⟨({ Tests.full with rcUs := 3000000, gran := { GranaryState.init with pend := [⟨6, .words [1]⟩], waitUs := some 1000, pages := (List.range 1020).map (fun k => (k, ⟨1, 0⟩)) } }),
    ([1]),
    by decide +kernel⟩
theorem witness_TheGranaryCommits_4 : ∃ (s : State) (id : Nat) (k : Nat) (x : GSlot), s.powered = true ∧ id < 256 ∧
  s.gran.busy = none ∧ wornSlot s id = some (k, x) ∧ logRoom s 0 :=
  ⟨({ Tests.full.put Pg.RTC Reg.RTC.TIME_SEC 200000000 with gran := { GranaryState.init with slots := [(12, some ⟨1, true, .words [1], [3], 5, none⟩)] } }),
    (6), (0), (⟨1, true, .words [1], [3], 5, none⟩),
    by decide +kernel⟩
theorem witness_TheGranaryCommits_5 : ∃ (s : State) (x : LogPage), s.powered = true ∧ s.gran.busy = none ∧ wornSlot s
  0x80 = none ∧ wornLog s 0x80 = some x ∧ logRoom s 0 :=
  ⟨({ Tests.full.put Pg.RTC Reg.RTC.TIME_SEC 200000000 with gran := { GranaryState.init with logs := [⟨1, [], 0, 3, 5⟩] } }),
    (⟨1, [], 0, 3, 5⟩),
    by decide +kernel⟩
theorem witness_TheGranaryCommits_6 : ∃ (s : State), s.powered = true ∧ s.log.waiting = none ∧ (20 ≤
  s.log.persist.length ∨ (1 ≤ s.log.persist.length ∧ s.log.firstUs + 1000000 ≤ s.rcUs)) ∧ logRoom s 0 :=
  ⟨({ Tests.full with log := { LogState.init with persist := [⟨1, 2, 3, 4, 5, 6⟩] }, rcUs := 3000000 }),
    by decide +kernel⟩
theorem witness_TheGranaryCommits_7 : ∃ (s : State) (r : Nat) (n : Nat), r < 32 ∧ 1 ≤ n ∧ n ≤ 500 ∧ hostReach s
  Pg.GRANARY 0x068 ∧ lockState s Pg.GRANARY = 0 ∧ s.get Pg.GRANARY Reg.GRANARY.CUST_STATUS_RESULT ≠ 3 ∧ logRoom s 1 :=
  ⟨(Tests.full), (5), (100),
    by decide +kernel⟩
theorem witness_HostFrames_1 : ∃ (s : State) (q : HostReq), s.reducedOrLater = true ∧ s.strap < 8 ∧ (q.four = true →
  s.full = true) ∧ (List.range (q.len % 256 + 1)).all (fun i => plainRead s (wordAddr q.addr i false)) = true ∧
  logRoom s 0 :=
  ⟨(Tests.full), (⟨true, 0, 0x40, 1, 0⟩),
    by decide +kernel⟩
theorem witness_HostFrames_2 : ∃ (s : State) (q : HostReq), s.reducedOrLater = true ∧ s.strap < 8 ∧ (q.four = true →
  s.full = true) ∧ plainRead s (wordAddr q.addr 0 true) = true ∧ logRoom s 0 :=
  ⟨(Tests.red), (⟨false, 0, 0x40, 2, 0⟩),
    by decide +kernel⟩
theorem witness_HostFrames_3 : ∃ (s : State) (q : HostReq), s.reducedOrLater = true ∧ s.strap < 8 ∧ (q.four = true →
  s.full = true) ∧ q.id = 32 * s.strap ∧ q.crc ≠ requestCrc q 0x21 [] ∧ logRoom s 0 :=
  ⟨(Tests.red), (⟨false, 0, 0x40, 0, 65536⟩),
    by decide +kernel⟩
theorem witness_HostFrames_4 : ∃ (s : State) (q : HostReq) (v : Nat) (w : Nat), s.reducedOrLater = true ∧ s.strap < 8
  ∧ (q.four = true → s.full = true) ∧ q.len = 1 ∧ (twoWrites (noteLanes s q) (wordAddr q.addr 0 false) v (wordAddr
  q.addr 1 false) w).2.2.fault.logPending = [] :=
  ⟨(Tests.red), (⟨false, 0, 0x44, 1, 0⟩), (5), (1),
    by decide +kernel⟩
theorem witness_HostFrames_5 : ∃ (s : State) (q : HostReq) (v : Nat) (w : Nat), s.reducedOrLater = true ∧ s.strap < 8
  ∧ (q.four = true → s.full = true) ∧ q.len = 1 ∧ (twoWrites (noteLanes s q) (wordAddr q.addr 0 true) v (wordAddr
  q.addr 0 true) w).2.2.fault.logPending = [] :=
  ⟨(Tests.red), (⟨false, 0, Pg.HOST * 0x400 + 0x68, 1, 0⟩), (5), (6),
    by decide +kernel⟩
theorem witness_HostFrames_6 : ∃ (s : State) (q : HostReq) (v : Nat), s.full = true ∧ s.strap < 8 ∧ q.len = 0 ∧
  logRoom s 0 :=
  ⟨(Tests.full), (⟨true, 0, 0x4C, 0, 0⟩), (1),
    by decide +kernel⟩
theorem witness_HostFrames_7 : ∃ (s : State) (h : HeldFrame) (l : List HeldFrame) (v : Nat), s.hostHeld = h :: l ∧
  (h.frame ≠ s.frame ∨ s.full = false) ∧ h.data = [v] ∧ h.bcast = false ∧ (writeReg { s with hostHeld := l } Org.HOST
  (wordAddr h.addr 0 h.fixed) v).1.fault.logPending = [] :=
  ⟨({ Tests.full with frame := 5, hostHeld := [⟨4, 0x4C, false, [1], false, true⟩] }), (⟨4, 0x4C, false, [1], false,
    true⟩), ([]), (1),
    by decide +kernel⟩
theorem witness_HostFrames_8 : ∃ (s : State) (q : HostReq) (v : Nat), s.reducedOrLater = true ∧ (q.four = true →
  s.full = true) ∧ q.id % 32 = 0 ∧ q.len = 0 ∧ q.crc = requestCrc q 0x3B [v] ∧ s.flag Pg.HOST Reg.HOST.CFG_BCAST_EN =
  true ∧ (writeReg s Org.HOST (wordAddr q.addr 0 false) v).1.fault.logPending = [] ∧ (writeReg s Org.HOST (wordAddr
  q.addr 0 false) v).2 = .ok :=
  ⟨(Tests.red), ({ (⟨false, 0x60, 0x4C, 0, 0⟩ : HostReq) with crc := requestCrc ⟨false, 0x60, 0x4C, 0, 0⟩ 0x3B [1] }),
    (1),
    by decide +kernel⟩
theorem witness_HostFrames_9 : ∃ (s : State) (mark : Nat) (hdr : Nat) (four : Bool), s.reducedOrLater = true ∧ (mark ≠
  (if four then 0xF else 0x1) ∨ bitsOf hdr 36 32 ≠ 0 ∨ ¬ bitsOf hdr 47 40 ∈ [0x21, 0x22, 0x31, 0x32, 0x3B] ∨ (four =
  true ∧ s.full = false)) ∧ logRoom s 0 :=
  ⟨(Tests.red), (1), (0), (true),
    by decide +kernel⟩
theorem witness_HostFrames_10 : ∃ (s : State), s.reducedOrLater = true ∧ logRoom s 0 :=
  ⟨(Tests.red),
    by decide +kernel⟩
theorem witness_DataReadsTheRegion_1 : ∃ (s : State) (q : HostReq) (k : Nat), s.reducedOrLater = true ∧ s.strap < 8 ∧
  (q.four = true → s.full = true) ∧ k < 4 ∧ q.addr = Pg.STREAM * 0x400 + 0x100 + 4 * k ∧ reachable s q.addr = true ∧
  logRoom s 0 :=
  ⟨({ Tests.full with stream := { StreamState.init with regions := [(2, [(7, [1, 2, 3])])] } }), (⟨true, 0, Pg.STREAM
    * 0x400 + 0x108, 3, 0⟩), (2),
    by decide +kernel⟩
theorem witness_DataReadsTheRegion_2 : ∃ (s : State) (q : HostReq) (k : Nat), s.reducedOrLater = true ∧ s.strap < 8 ∧
  (q.four = true → s.full = true) ∧ q.addr = Pg.STREAM * 0x400 + 0x100 + 4 * k ∧ k + q.len % 256 < 4 ∧ reachable s
  (Pg.STREAM * 0x400 + 0x100) = true ∧ logRoom s 0 :=
  ⟨({ Tests.full with stream := { StreamState.init with regions := [(2, [(7, [1, 2, 3])])] } }), (⟨true, 0, Pg.STREAM
    * 0x400 + 0x104, 2, 0⟩), (1),
    by decide +kernel⟩
theorem witness_DataReadsTheRegion_3 : ∃ (s : State) (o : Origin) (k : Nat), k < 4 ∧ reachable s (Pg.STREAM * 0x400 +
  0x100 + 4 * k) = true ∧ originLive s o = true ∧ logRoom s 0 :=
  ⟨({ Tests.full with stream := { StreamState.init with regions := [(2, [(7, [1, 2, 3])])] } }), (.host), (2),
    by decide +kernel⟩
theorem witness_RetireRemovesRecords_1 : ∃ (s : State) (o : Origin) (k : Nat) (r : Nat) (d : Nat), k < 4 ∧ r < 2 ^ 32
  ∧ reachable s (Pg.STREAM * 0x400 + 0x090 + 32 * k) = true ∧ originLive s o = true ∧ mayWrite s (originCode o)
  Pg.STREAM = true ∧ (o = .host → keySeq s Pg.STREAM = none) ∧ d = (r + 2 ^ 32 - s.get Pg.STREAM
  (Reg.STREAM.RETIRED_SEQ.ix k)) % 2 ^ 32 ∧ 1 ≤ d ∧ d < 2 ^ 31 ∧ d ≤ (sregion s k).length ∧ (regionWords s k).length <
  8192 ∧ logRoom s 0 :=
  ⟨({ (Tests.full.put Pg.STREAM (Reg.STREAM.RETIRED_SEQ.ix 2) 6).put Pg.STREAM (Reg.STREAM.WORD_COUNT.ix 2) 10 with stream := { StreamState.init with regions := [(2, [(7, [1, 2, 3]), (8, [4])])] } }),
    (.host), (2), (7), (1),
    by decide +kernel⟩
theorem witness_RetireRemovesRecords_2 : ∃ (s : State) (o : Origin) (k : Nat) (r : Nat) (d : Nat), k < 4 ∧ r < 2 ^ 32
  ∧ reachable s (Pg.STREAM * 0x400 + 0x090 + 32 * k) = true ∧ originLive s o = true ∧ mayWrite s (originCode o)
  Pg.STREAM = true ∧ (o = .host → keySeq s Pg.STREAM = none) ∧ d = (r + 2 ^ 32 - s.get Pg.STREAM
  (Reg.STREAM.RETIRED_SEQ.ix k)) % 2 ^ 32 ∧ (d = 0 ∨ 2 ^ 31 ≤ d) ∧ logRoom s 0 :=
  ⟨(Tests.full.put Pg.STREAM (Reg.STREAM.RETIRED_SEQ.ix 2) 9), (.host), (2), (9), (0),
    by decide +kernel⟩
theorem witness_RetireRemovesRecords_3 : ∃ (s : State) (o : Origin) (k : Nat) (r : Nat) (d : Nat), k < 4 ∧ r < 2 ^ 32
  ∧ reachable s (Pg.STREAM * 0x400 + 0x090 + 32 * k) = true ∧ originLive s o = true ∧ mayWrite s (originCode o)
  Pg.STREAM = true ∧ (o = .host → keySeq s Pg.STREAM = none) ∧ d = (r + 2 ^ 32 - s.get Pg.STREAM
  (Reg.STREAM.RETIRED_SEQ.ix k)) % 2 ^ 32 ∧ 1 ≤ d ∧ d < 2 ^ 31 ∧ (sregion s k).length < d ∧ logRoom s 1 :=
  ⟨(Tests.full.put Pg.STREAM (Reg.STREAM.RETIRED_SEQ.ix 2) 9), (.host), (2), (12), (3),
    by decide +kernel⟩
theorem witness_TheStream_1 : ∃ (s : State) (k : Nat) (r : SRec), s.full = true ∧ nextWrite s = some (k, r) ∧ r.src <
  0x2A ∧ logRoom s 0 :=
  ⟨({ ((Tests.full.put Pg.STREAM Reg.STREAM.CTRL_EN 1).put Pg.STREAM Reg.STREAM.BUF_CFG 4) with stream := { StreamState.init with queues := [(3, [⟨9, 3, 1, [1, 2, 3, 4, 5, 6]⟩])], lost := [(3, 2)] } }),
    (0), (⟨9, 3, 1, [1, 2, 3, 4, 5, 6]⟩),
    by decide +kernel⟩
theorem witness_TheStream_2 : ∃ (s : State) (v : Nat), 0 < v ∧ v < 16 ∧ hostReach s Pg.STREAM 0x040 ∧ s.get Pg.STREAM
  Reg.STREAM.CTRL_EN = 0 ∧ s.stream.starts = [] ∧ (List.range 4).all (fun k => !bitOf v k || decide (0 < bitsOf (s.get
  Pg.STREAM Reg.STREAM.BUF_CFG) (8 * k + 4) (8 * k))) = true ∧ logRoom s 1 :=
  ⟨(Tests.full.put Pg.STREAM Reg.STREAM.BUF_CFG 0x0404), (3),
    by decide +kernel⟩
theorem witness_TheStream_3 : ∃ (s : State), hostReach s Pg.STREAM 0x040 ∧ s.get Pg.STREAM Reg.STREAM.CTRL_EN ≠ 0 ∧
  logRoom s 1 :=
  ⟨({ (Tests.full.put Pg.STREAM Reg.STREAM.CTRL_EN 5) with stream := { StreamState.init with regions := [(2, [(7, [1, 2, 3]), (8, [4])])] } }),
    by decide +kernel⟩
theorem witness_TheStream_4 : ∃ (s : State) (v : Nat), hostReach s Pg.STREAM 0x048 ∧ s.get Pg.STREAM
  Reg.STREAM.CTRL_EN = 0 ∧ v &&& 0x7777 = v ∧ logRoom s 1 :=
  ⟨(Tests.full), (0x4051),
    by decide +kernel⟩
theorem witness_TheStream_5 : ∃ (s : State) (a : Nat) (b : Nat) (c : Nat) (d : Nat), hostReach s Pg.STREAM 0x044 ∧
  lockState s Pg.STREAM = 0 ∧ s.get Pg.STREAM Reg.STREAM.CTRL_EN = 0 ∧ a + b + c + d ≤ 16 ∧ (List.range 4).all (fun k
  => decide (nth 0 [a, b, c, d] k = 0) || decide (s.get Pg.STREAM (Reg.STREAM.MARKS_HIGH.ix k) ≤ nth 0 [a, b, c, d] k
  * 16)) = true ∧ logRoom s 1 :=
  ⟨((List.range 4).foldl (fun s k => s.put Pg.STREAM (Reg.STREAM.MARKS_HIGH.ix k) 8) Tests.full), (4), (8), (0), (4),
    by decide +kernel⟩
theorem witness_TheTwoWirePort_1 : ∃ (s : State), s.reducedOrLater = true ∧ logRoom s 0 :=
  ⟨(Tests.red),
    by decide +kernel⟩
theorem witness_TheTwoWirePort_2 : ∃ (s : State) (l : List Nat) (timedOut : Bool), s.reducedOrLater = true ∧ discarded
  s l timedOut = true ∧ logRoom s 0 :=
  ⟨(Tests.red.putb Pg.TWOWIRE Reg.TWOWIRE.CFG_PEC_EN true), ([0x60, 0x00, 0x00]), (false),
    by decide +kernel⟩
theorem witness_TheTwoWirePort_3 : ∃ (s : State) (l : List Nat) (timedOut : Bool), s.reducedOrLater = true ∧ discarded
  s l timedOut = false ∧ logRoom s 0 :=
  ⟨(Tests.red), ([0x60, 0x00]), (false),
    by decide +kernel⟩
theorem witness_TheTwoWirePort_4 : ∃ (s : State) (v : Nat), hostReach s Pg.TWOWIRE 0x04C ∧ logRoom s 0 :=
  ⟨(Tests.red), (1),
    by decide +kernel⟩
theorem witness_TheTwoWirePort_5 : ∃ (s : State) (won : Bool), s.reducedOrLater = true ∧ s.alert = true ∧ logRoom s 0
  :=
  ⟨({ Tests.red with alert := true }), (true),
    by decide +kernel⟩
theorem witness_TheTwoWirePort_6 : ∃ (s : State), s.reducedOrLater = true ∧ (s.fault.crier ≠ [] ∨ 0 < s.backup.tries)
  ∧ logRoom s 0 :=
  ⟨({ Tests.red with backup := { Tests.red.backup with tries := 2 } }),
    by decide +kernel⟩
theorem witness_TheTwoWirePort_7 : ∃ (s : State), logRoom s 0 :=
  ⟨(Tests.red),
    by decide +kernel⟩
theorem witness_TheTwoWireCommands_1 : ∃ (s : State), s.reducedOrLater = true ∧ logRoom s 0 :=
  ⟨(Tests.red),
    by decide +kernel⟩
theorem witness_TheTwoWireCommands_2 : ∃ (s : State), s.reducedOrLater = true ∧ leadsOk s = true ∧ logRoom s 32 :=
  ⟨(Tests.full.put (Pg.CHAN 3) Reg.CHAN.CONTROL_ENABLE 1),
    by decide +kernel⟩
theorem witness_TheTwoWireCommands_3 : ∃ (s : State), s.reducedOrLater = true ∧ s.full = false ∧ keySeq s testSeq =
  none ∧ s.fault.active.all (fun e => !entryPersists s e.1 e.2) = true ∧ logRoom s 1 :=
  ⟨({ Tests.red with fault := { Tests.red.fault with active := [(actKey Pg.CHIP Kind.KEY_FAIL, ⟨2, [0]⟩)] } }),
    by decide +kernel⟩
theorem witness_TheTwoWireCommands_4 : ∃ (s : State), s.full = true ∧ keySeq s testSeq = none ∧ logRoom s 0 :=
  ⟨(Tests.full),
    by decide +kernel⟩
theorem witness_TheTwoWireCommands_5 : ∃ (s : State) (c : Nat), s.reducedOrLater = true ∧ c < 32 ∧ reachable s
  (Pg.CHAN c * 0x400 + 0x040) = true ∧ s.follower c = false ∧ s.get (Pg.CHAN c) Reg.CHAN.STATUS_LAST_END = 2 ∧
  resumeMatches s c = true ∧ s.cstate c = Ch.RUN ∧ estop s = false ∧ rangesOk (fieldsAt (Pg.CHAN c) 0x040) (s.rd
  (addrOf (Pg.CHAN c) Reg.CHAN.CONTROL_ENABLE)).toNat = true ∧ logRoom s 1 :=
  ⟨((Tests.full.put (Pg.CHAN 3) Reg.CHAN.STATUS_LAST_END 2).put (Pg.CHAN 3) Reg.CHAN.STATUS_STATE 2), (3),
    by decide +kernel⟩
theorem witness_TheTwoWireCommands_6 : ∃ (s : State) (c : Nat), s.reducedOrLater = true ∧ c < 32 ∧ reachable s
  (Pg.CHAN c * 0x400 + 0x040) = true ∧ s.follower c = false ∧ s.get (Pg.CHAN c) Reg.CHAN.STATUS_LAST_END = 2 ∧
  resumeMatches s c = true ∧ s.cstate c = Ch.OFF ∧ startBarred s c = false ∧ estop s = false ∧ rangesOk (fieldsAt
  (Pg.CHAN c) 0x040) (s.rd (addrOf (Pg.CHAN c) Reg.CHAN.CONTROL_ENABLE)).toNat = true ∧ logRoom s 40 :=
  ⟨(Tests.full.put (Pg.CHAN 3) Reg.CHAN.STATUS_LAST_END 2), (3),
    by decide +kernel⟩
theorem witness_TheTwoWireCommands_7 : ∃ (s : State) (a : Nat), s.reducedOrLater = true ∧ 32 ≤ a ∧ a < 64 ∧ estop s =
  false ∧ (leadChans s).all (fun c => decide (s.get (Pg.CHAN c) Reg.CHAN.STATUS_LAST_END ≠ 2)) = true ∧ logRoom s 0 :=
  ⟨(Tests.full), (32),
    by decide +kernel⟩
theorem witness_TheTwoWireCommands_8 : ∃ (s : State) (a : Nat), s.reducedOrLater = true ∧ 32 ≤ a ∧ a < 64 ∧ estop s =
  true ∧ (leadChans s).all (fun c => decide (s.get (Pg.CHAN c) Reg.CHAN.STATUS_LAST_END ≠ 2)) = true ∧ logRoom s 0 :=
  ⟨(Tests.full.latch 3), (32),
    by decide +kernel⟩
theorem witness_TheTwoWireCommands_9 : ∃ (s : State), s.reducedOrLater = true ∧ lockState s Pg.HKSEQ = 0 ∧ hkState s =
  Hq.OFF ∧ logRoom s 1 :=
  ⟨(Tests.red),
    by decide +kernel⟩
theorem witness_TheTwoWireCommands_10 : ∃ (s : State), s.reducedOrLater = true ∧ lockState s Pg.HKSEQ = 0 ∧ (hkState s
  = Hq.ON ∨ hkState s = Hq.UP) ∧ logRoom s 1 :=
  ⟨(setHk Tests.red Hq.ON),
    by decide +kernel⟩
theorem witness_TheTwoWireCommands_11 : ∃ (s : State), s.reducedOrLater = true ∧ s.flag Pg.CHIP
  Reg.CHIP.STATUS_GO_PENDING = false ∧ logRoom s 1 :=
  ⟨(Tests.red),
    by decide +kernel⟩
theorem witness_TheTwoWireCommands_12 : ∃ (s : State) (en : Bool), s.reducedOrLater = true ∧ lockState s Pg.BACKUP = 0
  ∧ rangesOk (fieldsAt Pg.BACKUP 0x04C) (s.rd (addrOf Pg.BACKUP Reg.BACKUP.CHG_CFG)).toNat = true ∧ logRoom s 1 :=
  ⟨(Tests.red), (false),
    by decide +kernel⟩
theorem witness_TheTwoWireCommands_13 : ∃ (s : State) (a : Nat), s.reducedOrLater = true ∧ a < 16 ∧ logRoom s 0 :=
  ⟨(Tests.red), (9),
    by decide +kernel⟩
end

section
/-! PROOF. Reads that latch (R499), and the 64-bit pairs of the LEDGER page (R233). -/

namespace Sys2Proof.Machine

variable {s : State} {o addr page off : Nat} {k : PageKind}

/-! ### Latched words -/

theorem latchOffs_cons (s : State) (o page off : Nat) (l : List Nat) :
    latchOffs s o page (off :: l) = latchOffs
      { s with snaps := Table.set 0 s.snaps (snapKey o (page * 0x400 + off)) (liveWord s (page * 0x400 + off)) } o page l := rfl

/-- What a register shows live does not depend on what reads have latched. -/
theorem liveWord_snaps (s : State) (x : Table Nat) (addr : Nat) : liveWord { s with snaps := x } addr = liveWord s addr := rfl

/-- Latching changes nothing but the latched words. -/
theorem latchOffs_rest (s : State) (o page : Nat) (l : List Nat) : { latchOffs s o page l with snaps := s.snaps } = s := by
  induction l generalizing s with
  | nil => rfl
  | cons off l ih =>
    rw [latchOffs_cons]
    exact congrArg (fun u : State => { u with snaps := s.snaps }) (ih _)

/-- After latching a list of offsets, an offset of the list holds what it showed live; every other holds what it held. -/
theorem get_latchOffs (s : State) (o page off : Nat) (l : List Nat) :
    Table.get 0 (latchOffs s o page l).snaps (snapKey o (page * 0x400 + off)) =
      if off ∈ l then liveWord s (page * 0x400 + off) else Table.get 0 s.snaps (snapKey o (page * 0x400 + off)) := by
  induction l generalizing s with
  | nil => simp [latchOffs]
  | cons a l ih =>
    rw [latchOffs_cons, ih, liveWord_snaps]
    by_cases hl : off ∈ l
    · simp [hl]
    · by_cases ha : off = a
      · simp [ha, Table.get_set_same]
      · have hk : snapKey o (page * 0x400 + off) ≠ snapKey o (page * 0x400 + a) := by simp only [snapKey]; omega
        simp [hl, ha, Table.get_set_ne _ _ _ _ hk]

/-! ### Reading -/

/-- A register without RC fields is not changed by a read of it. -/
theorem clearRc_of_no_rc (h : ∀ f ∈ fieldsAt (addr / 0x400) (addr % 0x400), f.acc ≠ .rc) : clearRc s addr = s := by
  have e : (fieldsAt (addr / 0x400) (addr % 0x400)).filter (fun f => decide (f.acc = .rc)) = [] :=
    List.filter_eq_nil_iff.mpr (by simpa using h)
  simp [clearRc, e]

/-- A register that reads through a latch answers the latched word. -/
theorem readWord_latched (hr : reachable s addr = true) (hk : pageKind (addr / 0x400) = some k)
    (hl : latched k (addr % 0x400) = true) : (readWord s o addr).1 = Table.get 0 s.snaps (snapKey o addr) := by
  simp [readWord, hr, readValue, hk, hl]

theorem readOf_eq {q : Origin} (hq : originLive s q = true) (hr : reachable s (page * 0x400 + off) = true) :
    readOf s q page off = { readEffect s (originCode q) (page * 0x400 + off) with
      reply := ⟨none, [readValue s (originCode q) (page * 0x400 + off)], 0, false, []⟩ } := by
  simp [readOf, hq, readReply, readWord, hr]

/-! ### The LEDGER page -/

/-- No register of the LEDGER page has an RC field. -/
theorem regsOf_ledger_no_rc : ∀ r ∈ regsOf .ledger, ∀ f ∈ r.fields, f.acc ≠ .rc := by decide

theorem fieldsAt_ledger_no_rc (off : Nat) : ∀ f ∈ fieldsAt Pg.LEDGER off, f.acc ≠ .rc := by
  have hk : pageKind Pg.LEDGER = some .ledger := rfl
  intro f hf
  simp only [fieldsAt, hk] at hf
  cases hr : regAt .ledger off with
  | none => simp [hr] at hf
  | some r =>
    rw [hr] at hf
    exact regsOf_ledger_no_rc r (List.mem_of_find?_eq_some hr) f hf

/-- A read of a LEDGER register does nothing but latch. -/
theorem readEffect_ledger (hp : addr / 0x400 = Pg.LEDGER) :
    readEffect s o addr = latchOffs s o Pg.LEDGER (latches .ledger (addr % 0x400)) := by
  have hk : pageKind Pg.LEDGER = some .ledger := rfl
  have hc (u : State) : clearRc u addr = u := clearRc_of_no_rc (by rw [hp]; exact fieldsAt_ledger_no_rc _)
  simp [readEffect, hp, hk, hc]

/-- A LEDGER register that is not latched answers what it shows live. -/
theorem readValue_ledger (hp : addr / 0x400 = Pg.LEDGER) (hl : latched .ledger (addr % 0x400) = false) :
    readValue s o addr = liveWord s addr := by
  have hk : pageKind Pg.LEDGER = some .ledger := rfl
  simp [readValue, hp, hk, hl]

/-- A LO word of the LEDGER page latches the word after it in the page, its HI word; it is not latched itself. -/
theorem isLoWord_spec (h : isLoWord addr = true) :
    addr / 0x400 = Pg.LEDGER ∧ latches .ledger (addr % 0x400) = [addr % 0x400 + 4] ∧
      latched .ledger (addr % 0x400) = false ∧ (addr + 4) / 0x400 = Pg.LEDGER ∧
      latched .ledger ((addr + 4) % 0x400) = true := by
  simp only [isLoWord, Bool.and_eq_true, decide_eq_true_eq, latches, Bool.not_eq_true'] at h
  obtain ⟨hp, ho⟩ := h
  split at ho
  case isFalse => simp at ho
  case isTrue hlo =>
    refine ⟨hp, by rw [latches, if_pos hlo], ?_, by omega, ?_⟩
    · simp only [latched, decide_eq_false_iff_not]; omega
    · simp only [latched, decide_eq_true_eq]; omega

/-- A read of a LO word answers it, latches the HI word for the origin, and does nothing else. -/
theorem readOf_loWord {q : Origin} (hlo : isLoWord addr = true) (hr : reachable s addr = true) (hq : originLive s q = true) :
    readOf s q (addr / 0x400) (addr % 0x400) =
      { latchOffs s (originCode q) Pg.LEDGER [addr % 0x400 + 4] with reply := ⟨none, [liveWord s addr], 0, false, []⟩ } := by
  obtain ⟨hp, hl, hn, -⟩ := isLoWord_spec hlo
  have ha : addr / 0x400 * 0x400 + addr % 0x400 = addr := by omega
  rw [readOf_eq hq (by rwa [ha]), ha, readEffect_ledger hp, readValue_ledger hp hn, hl]

/-- Where the words latched by a read of a LO word still stand, its HI word reads as it was at that read. -/
theorem readWord_hi {u : State} (hlo : isLoWord addr = true) (hu : u.snaps = (latchOffs s o Pg.LEDGER [addr % 0x400 + 4]).snaps)
    (hr : reachable u (addr + 4) = true) : (readWord u o (addr + 4)).1 = liveWord s (addr + 4) := by
  obtain ⟨hp, -, -, hp4, hl4⟩ := isLoWord_spec hlo
  have ha : addr + 4 = Pg.LEDGER * 0x400 + (addr % 0x400 + 4) := by omega
  rw [readWord_latched hr (by rw [hp4]; rfl) hl4, hu, ha, get_latchOffs, if_pos (List.mem_singleton_self _)]

end Sys2Proof.Machine

open Sys2Proof Sys2Proof.Machine

/-- Settles O8: the read is `latchOffs` of the HI word alone, which leaves the queue and the change log, so the command ends
with nothing to add. -/
theorem loWordsLatchTheirHiWords : Obligations.LoWordsLatchTheirHiWords := by
  unfold Obligations.LoWordsLatchTheirHiWords
  intro s o addr hlo hr hq room
  have rest := latchOffs_rest s (originCode o) Pg.LEDGER [addr % 0x400 + 4]
  have read := readOf_loWord hlo hr hq
  refine gives_takes _ (act := fun s => readOf s o (addr / 0x400) (addr % 0x400)) rfl rfl hlo ?_ ?_ ⟨?_, ?_, ?_, ?_⟩
  · rw [read]
    exact ⟨rfl, rfl, rfl, rfl⟩
  · rw [read]
    exact room
  · rw [read]
  · rw [read]
    exact fun u hu hru => readWord_hi hlo hu hru
  · rw [read]
    exact (onlyBits.refl s).regs rfl
  · rw [read]
    exact congrArg (fun u : State => { u with reply := s.reply }) rest

end

section
/-! PROOF. Registers whose read does nothing but latch others (R499), and the block of END_INFO (R271). -/

namespace Sys2Proof.Machine

variable {s : State} {q : Origin} {page off : Nat} {k : PageKind} {c : Instr} {b : Bool}

/-! ### Reads that only latch -/

/-- The register at `off` of `page` answers what it shows live, and its read does nothing but latch the offsets that
`latches` lists: its page has no read rule of its own and the register no RC field. -/
structure LatchesOnly (k : PageKind) (page off : Nat) : Prop where
  kind : pageKind page = some k
  inPage : off < 0x400
  live : latched k off = false
  plain : k ≠ .fault ∧ k ≠ .stream ∧ k ≠ .timer
  noRc : ∀ f ∈ fieldsAt page off, f.acc ≠ .rc

theorem pageAddr_div (page : Nat) (h : off < 0x400) : (page * 0x400 + off) / 0x400 = page := by omega

theorem pageAddr_mod (page : Nat) (h : off < 0x400) : (page * 0x400 + off) % 0x400 = off := by omega

theorem LatchesOnly.readEffect (h : LatchesOnly k page off) (o : Nat) :
    readEffect s o (page * 0x400 + off) = latchOffs s o page (latches k off) := by
  have hd := pageAddr_div page h.inPage
  have hm := pageAddr_mod page h.inPage
  have hc (u : State) : clearRc u (page * 0x400 + off) = u := clearRc_of_no_rc (by rw [hd, hm]; exact h.noRc)
  obtain ⟨hf, hs, ht⟩ := h.plain
  simp [Machine.readEffect, hd, hm, h.kind, hf, hs, ht, hc]

theorem LatchesOnly.readValue (h : LatchesOnly k page off) (o : Nat) :
    readValue s o (page * 0x400 + off) = liveWord s (page * 0x400 + off) := by
  obtain ⟨-, hs, -⟩ := h.plain
  simp [Machine.readValue, pageAddr_div page h.inPage, pageAddr_mod page h.inPage, h.kind, h.live, hs]

/-- Latching changes the latched words of a state and nothing else. -/
theorem latchOffs_eq (s : State) (o page : Nat) (l : List Nat) :
    latchOffs s o page l = { s with snaps := (latchOffs s o page l).snaps } :=
  congrArg (fun u : State => { u with snaps := (latchOffs s o page l).snaps }) (latchOffs_rest s o page l)

/-- The state after a read of such a register by an origin. -/
def afterLatching (s : State) (q : Origin) (k : PageKind) (page off : Nat) : State :=
  { s with
    snaps := (latchOffs s (originCode q) page (latches k off)).snaps
    reply := ⟨none, [liveWord s (page * 0x400 + off)], 0, false, []⟩ }

theorem LatchesOnly.readOf (h : LatchesOnly k page off) (hr : reachable s (page * 0x400 + off) = true)
    (hq : originLive s q = true) : readOf s q page off = afterLatching s q k page off := by
  rw [readOf_eq hq hr, h.readEffect, h.readValue, latchOffs_eq, afterLatching]

/-- A command that is one such read ends in the state after it: nothing waits for the change log. -/
theorem LatchesOnly.gives_read {P : State → Prop} (h : LatchesOnly k page off)
    (hx : exec c s = takes s b (fun s => Machine.readOf s q page off)) (hb : b = true)
    (hr : reachable s (page * 0x400 + off) = true) (hq : originLive s q = true) (room : logRoom s 0)
    (p : P (afterLatching s q k page off)) : gives c s P := by
  have read := h.readOf hr hq
  refine gives_takes _ hx rfl hb ?_ ?_ ?_ <;> rw [read]
  · exact ⟨rfl, rfl, rfl, rfl⟩
  · exact room
  · exact p

/-- Where the words latched by such a read still stand, a latched register of its list reads as it was at that read. -/
theorem readWord_afterLatching {u : State} {off' : Nat} (h : LatchesOnly k page off) (hl : off' ∈ latches k off)
    (hi : off' < 0x400) (hk : latched k off' = true) (hu : u.snaps = (afterLatching s q k page off).snaps)
    (hr : reachable u (page * 0x400 + off') = true) :
    (readWord u (originCode q) (page * 0x400 + off')).1 = liveWord s (page * 0x400 + off') := by
  have hd := pageAddr_div page hi
  have hm := pageAddr_mod page hi
  rw [readWord_latched hr (by rw [hd, h.kind]) (by rw [hm, hk]), hu]
  exact (get_latchOffs ..).trans (if_pos hl)

/-! ### END_INFO -/

theorem pageKind_chan {c : Nat} (hc : c < 32) : pageKind (Pg.CHAN c) = some .chan := by
  simp (disch := omega) only [pageKind, Pg.CHAN, if_neg, if_pos]

theorem latchesOnly_endInfo {c : Nat} (hc : c < 32) : LatchesOnly .chan (Pg.CHAN c) 0x240 where
  kind := pageKind_chan hc
  inPage := by decide
  live := rfl
  plain := by decide
  noRc := by
    rw [fieldsAt, pageKind_chan hc]
    decide

/-- The block that END_INFO latches: each of its nine offsets is in the list and reads through its latch. -/
theorem endInfo_block {j : Nat} (hj : j < 9) : 0x244 + 4 * j ∈ latches .chan 0x240 ∧ 0x244 + 4 * j < 0x400 ∧
    latched .chan (0x244 + 4 * j) = true := by
  refine ⟨?_, by omega, ?_⟩
  · exact List.mem_map_of_mem (f := fun i => 0x244 + 4 * i) (List.mem_range.mpr hj)
  · simp only [latched, decide_eq_true_eq]; omega

end Sys2Proof.Machine

open Sys2Proof Sys2Proof.Machine

/-- Settles O9: END_INFO has no RC field, so its read is `latchOffs` of its block alone, and each offset of the block reads
through its latch. -/
theorem endInfoReadLatchesItsBlock : Obligations.EndInfoReadLatchesItsBlock := by
  unfold Obligations.EndInfoReadLatchesItsBlock
  intro s o c hc hr hq room
  have hend := latchesOnly_endInfo hc
  refine hend.gives_read rfl (decide_eq_true hc) hr hq room ⟨rfl, ?_, (onlyBits.refl s).regs rfl, rfl⟩
  intro j hj u hu hru
  obtain ⟨hmem, hin, hlat⟩ := endInfo_block hj
  rw [Nat.add_assoc] at hru ⊢
  exact readWord_afterLatching hend hmem hin hlat hu hru

end

section
/-! PROOF. Reads of the stream's DATA registers (R463), outside a host frame and over the words of one. -/

namespace Sys2Proof.Machine

variable {s : State} {q : HostReq} {o k addr : Nat} {fixed : Bool} {ch : Nat → Nat}

/-! ### A DATA register -/

/-- The byte address of DATA.k. -/
abbrev dataAddr (k : Nat) : Nat := Pg.STREAM * 0x400 + (0x100 + 4 * k)

theorem dataAddr_eq (k : Nat) : dataAddr k = 0x1100 + 4 * k := by
  show 0x1000 + (0x100 + 4 * k) = 0x1100 + 4 * k
  omega

theorem fieldsAt_data : ∀ k < 4, fieldsAt Pg.STREAM (0x100 + 4 * k) = [⟨31, 0, .ro, .v, 0, none⟩] := by decide

theorem pagePresent_stream (s : State) : pagePresent s Pg.STREAM = s.full := rfl

/-- DATA.k can be reached exactly in FULL. -/
theorem reachable_data (hk : k < 4) : reachable s (dataAddr k) = s.full := by
  have hi : 0x100 + 4 * k < 0x400 := by omega
  have h4 : dataAddr k % 4 = 0 := by rw [dataAddr_eq]; omega
  have h24 : dataAddr k < 2 ^ 24 := by rw [dataAddr_eq]; omega
  rw [reachable, decide_eq_true h4, decide_eq_true h24, pageAddr_div _ hi, pageAddr_mod _ hi, fieldsAt_data k hk,
    pagePresent_stream]
  simp

/-- A read of DATA.k is a fetch for the host port, and answers 0 with no effect for every other origin. -/
theorem readWord_data (hk : k < 4) (hr : reachable s (dataAddr k) = true) (o : Nat) :
    readWord s o (dataAddr k) = if o = Org.HOST then fetchStream s k else (0, s) := by
  have hi : 0x100 + 4 * k < 0x400 := by omega
  have hkind : pageKind Pg.STREAM = some .stream := rfl
  have hdata : 0x100 ≤ 0x100 + 4 * k ∧ 0x100 + 4 * k < 0x110 := by omega
  rw [readWord, if_pos hr]
  by_cases ho : o = Org.HOST <;>
    simp [readValue, readEffect, dataAddr, pageAddr_div _ hi, pageAddr_mod _ hi, hkind, hdata, ho, latched, latches,
      latchOffs]

theorem originCode_eq_host {q : Origin} : originCode q = Org.HOST ↔ q = .host := by
  cases q <;> simp [originCode]

theorem readOf_data {q : Origin} (hk : k < 4) (hr : reachable s (dataAddr k) = true) (hq : originLive s q = true) :
    readOf s q Pg.STREAM (0x100 + 4 * k) =
      { (if q = .host then (fetchStream s k).2 else s) with
        reply := ⟨none, [if q = .host then (fetchStream s k).1 else 0], 0, false, []⟩ } := by
  rw [readOf, if_pos hq, readReply, readWord_data hk hr]
  by_cases h : q = .host <;> simp [originCode_eq_host, h]

/-! ### The words of a frame -/

/-- How many of the first `i` words of a frame, word `j` from channel `ch j`, came from channel `c`. -/
def fetchesBefore (ch : Nat → Nat) (c i : Nat) : Nat := (List.range i).countP (fun j => ch j = c)

theorem fetchesBefore_succ (ch : Nat → Nat) (c i : Nat) :
    fetchesBefore ch c (i + 1) = fetchesBefore ch c i + if ch i = c then 1 else 0 := by
  simp [fetchesBefore, List.range_succ, List.countP_append, List.countP_singleton]

/-- A fetch counts one more word fetched from its channel. -/
theorem fetched_fetchStream (s : State) (k c : Nat) :
    Table.get 0 (fetchStream s k).2.stream.fetched c = Table.get 0 s.stream.fetched c + if k = c then 1 else 0 := by
  by_cases h : k = c
  · subst h
    simpa [fetchStream] using Table.get_set_same 0 s.stream.fetched k _
  · simpa [fetchStream, h] using Table.get_set_ne 0 0 s.stream.fetched _ (Ne.symm h)

/-- In FULL, where DATA can be reached, each of the first `n` words of a frame lies at a DATA register: word `j` at that of
channel `ch j`. -/
structure ReadsData (s : State) (addr : Nat) (fixed : Bool) (ch : Nat → Nat) (n : Nat) : Prop where
  full : s.full = true
  isData : ∀ j < n, ch j < 4 ∧ wordAddr addr j fixed = dataAddr (ch j)

/-- The word that a frame answers at place `j`: its channel's word after those the frame has fetched before. -/
def dataWord (s : State) (ch : Nat → Nat) (j : Nat) : Nat := nth 0 (regionWords s (ch j)) (fetchesBefore ch (ch j) j)

/-- Words `i` to `i + n − 1` of a frame over DATA registers, where its words before have been fetched. -/
theorem fetchWords_data (n i : Nat) (l : List Nat) (m : WordMarks) (h : ReadsData s addr fixed ch (i + n))
    (hf : ∀ c, Table.get 0 s.stream.fetched c = fetchesBefore ch c i) :
    (fetchWords s addr fixed n i l m).1 = l.reverse ++ (List.range' i n).map (dataWord s ch) ∧
      ∃ f, (fetchWords s addr fixed n i l m).2.2 = { s with stream := { s.stream with fetched := f } } := by
  induction n generalizing s i l m with
  | zero => exact ⟨by simp [fetchWords], s.stream.fetched, rfl⟩
  | succ n ih =>
    obtain ⟨hk, ha⟩ := h.isData i (by omega)
    have hread := readWord_data hk ((reachable_data hk).trans h.full) Org.HOST
    have hword : (fetchStream s (ch i)).1 = dataWord s ch i := by rw [fetchStream, hf]; rfl
    have h' : ReadsData (fetchStream s (ch i)).2 addr fixed ch (i + 1 + n) :=
      ⟨h.full, fun j hj => h.isData j (by omega)⟩
    have hf' : ∀ c, Table.get 0 (fetchStream s (ch i)).2.stream.fetched c = fetchesBefore ch c (i + 1) := fun c => by
      rw [fetched_fetchStream, hf, fetchesBefore_succ]
    obtain ⟨hdata, f, hrest⟩ := ih (i + 1) (dataWord s ch i :: l) (m.mark i (!reachable s (dataAddr (ch i))) false) h' hf'
    simp only [fetchWords, ha, hread, if_true, hword]
    refine ⟨?_, f, hrest⟩
    rw [hdata, List.range'_succ]
    simp only [List.reverse_cons, List.append_assoc, List.map_cons, List.cons_append, List.nil_append]
    rfl

/-! ### Host read frames -/

/-- A frame with this device's ID and its CRC is taken. -/
theorem takeFrame_ownFrame {op : Nat} {data : List Nat} (hs : s.reducedOrLater = true) (hst : s.strap < 8)
    (hq : q.four = true → s.full = true) :
    takeFrame s (ownFrame s q op data) op data (decide (reqId (ownFrame s q op data) = s.strap)) = .take := by
  have hid : 32 * s.strap % 32 = 0 := by omega
  have hme : 32 * s.strap % 256 / 32 = s.strap := by omega
  have hfour : (q.four && !s.full) = false := by
    cases h : q.four
    · rfl
    · simp [hq h]
  simp [takeFrame, ownFrame, reqId, requestCrc, hs, hid, hme, hfour]

/-- The state in which a read frame fetches its first word. -/
def frameStart (s : State) (q : HostReq) : State := { noteLanes s q with stream := { s.stream with fetched := [] } }

theorem full_frameStart (s : State) (q : HostReq) : (frameStart s q).full = s.full := by
  have h : (frameStart s q).service = s.service := State.get_put_ne s _ (by decide)
  simp only [State.full, State.inService, h]
  rfl

/-- What a read frame fetches: its words, their marks and the state after. -/
def frameWords (s : State) (q : HostReq) (fixed : Bool) : List Nat × WordMarks × State :=
  fetchWords (frameStart s q) q.addr fixed (q.len % 256 + 1) 0 [] WordMarks.none

theorem frameWords_data (h : ReadsData s q.addr fixed ch (q.len % 256 + 1)) :
    (frameWords s q fixed).1 = (List.range (q.len % 256 + 1)).map (dataWord s ch) ∧
      ∃ f, (frameWords s q fixed).2.2 = { noteLanes s q with stream := { s.stream with fetched := f } } := by
  have hstart : ReadsData (frameStart s q) q.addr fixed ch (0 + (q.len % 256 + 1)) :=
    ⟨(full_frameStart s q).trans h.full, fun j hj => h.isData j (by omega)⟩
  rw [List.range_eq_range']
  exact fetchWords_data _ 0 [] WordMarks.none hstart (fun _ => rfl)

/-- An answer changes HOST registers and the reply, and the reply holds its words. -/
theorem answer_spec (s : State) (m : WordMarks) (deferred four : Bool) (data : List Nat) :
    (answer s m deferred four data).reply.data = data ∧ (answer s m deferred four data).stream = s.stream ∧
      sameOuter s (answer s m deferred four data) ∧ (answer s m deferred four data).log = s.log ∧
      (answer s m deferred four data).fault = s.fault := by
  simp [answer, sameOuter]

theorem hostReads_ownFrame {op : Nat} (hop : op = if fixed then 0x22 else 0x21) (hs : s.reducedOrLater = true)
    (hst : s.strap < 8) (hq : q.four = true → s.full = true) :
    hostReads s (ownFrame s q op []) fixed =
      answer (frameWords s q fixed).2.2 (frameWords s q fixed).2.1 false q.four (frameWords s q fixed).1 := by
  subst hop
  rw [hostReads, takeFrame_ownFrame hs hst hq]
  rfl

/-- A read frame over DATA registers answers the unretired words of their regions in order, and retires none. -/
theorem gives_readData {c : Instr} {op : Nat} (hx : exec c s = finish s (hostReads s (ownFrame s q op []) fixed))
    (hop : op = if fixed then 0x22 else 0x21) (hs : s.reducedOrLater = true) (hst : s.strap < 8)
    (hq : q.four = true → s.full = true) (h : ReadsData s q.addr fixed ch (q.len % 256 + 1)) (room : logRoom s 0) :
    gives c s (fun t => t.reply.data = (List.range (q.len % 256 + 1)).map (dataWord s ch) ∧
      t.stream.regions = s.stream.regions) := by
  obtain ⟨hdata, f, hrest⟩ := frameWords_data h
  obtain ⟨hreply, hstream, houter, hlog, hfault⟩ := answer_spec (frameWords s q fixed).2.2 (frameWords s q fixed).2.1 false
    q.four (frameWords s q fixed).1
  rw [← hostReads_ownFrame hop hs hst hq] at hreply hstream houter hlog hfault
  rw [hrest] at hstream houter hlog hfault
  refine gives_finish _ hx rfl ?_ ?_ ⟨?_, ?_⟩
  · exact houter
  · exact room.same hlog (congrArg FaultState.logPending hfault)
  · rw [hreply, hdata]
  · rw [hstream]

/-- Each word of a READ_FIXED of DATA.k comes from channel `k`. -/
theorem readsData_fixed {n : Nat} (hk : k < 4) (ha : addr = dataAddr k) (hf : s.full = true) :
    ReadsData s addr true (fun _ => k) n := by
  refine ⟨hf, fun j _ => ⟨hk, ?_⟩⟩
  rw [wordAddr, if_pos rfl, ha, dataAddr_eq]
  omega

/-- The words of a READ from DATA.k on come each from the channel after. -/
theorem readsData_rising {n : Nat} (hk : k + n < 4) (ha : addr = dataAddr k) (hf : s.full = true) :
    ReadsData s addr false (fun j => k + j) (n + 1) := by
  refine ⟨hf, fun j hj => ⟨by omega, ?_⟩⟩
  rw [wordAddr, if_neg Bool.false_ne_true, ha, dataAddr_eq, dataAddr_eq]
  omega

/-- Word `j` of a READ_FIXED is the region's word `j`. -/
theorem dataWord_fixed (s : State) (k : Nat) : dataWord s (fun _ => k) = fun j => nth 0 (regionWords s k) j := by
  funext j
  simp [dataWord, fetchesBefore]

/-- Each word of a READ is its region's oldest: its channel is fetched once. -/
theorem dataWord_rising (s : State) (k : Nat) :
    dataWord s (fun j => k + j) = fun j => nth 0 (regionWords s (k + j)) 0 := by
  funext j
  have once : fetchesBefore (fun j => k + j) (k + j) j = 0 := by
    rw [fetchesBefore, List.countP_eq_zero]
    intro i hi
    have := List.mem_range.mp hi
    simp only [decide_eq_true_eq]
    omega
  rw [dataWord, once]

/-! ### A read outside a frame -/

/-- The state in which STREAM_DATA_READ reads: the host's read begins a frame, with no word fetched yet. -/
def dataReadStart (s : State) (q : Origin) : State :=
  if q = .host then { s with stream := { s.stream with fetched := [] } } else s

/-- The state after STREAM_DATA_READ: the reply and, for the host, the count of words fetched. -/
theorem readOf_dataReadStart {q : Origin} (hk : k < 4) (hr : reachable s (dataAddr k) = true) (hq : originLive s q = true) :
    ∃ f, readOf (dataReadStart s q) q Pg.STREAM (0x100 + 4 * k) =
      { s with
        stream := { s.stream with fetched := f }
        reply := ⟨none, [if q = .host then nth 0 (regionWords s k) 0 else 0], 0, false, []⟩ } := by
  by_cases h : q = .host
  · subst h
    exact ⟨_, readOf_data (s := dataReadStart s .host) hk hr rfl⟩
  · have hs : dataReadStart s q = s := if_neg h
    refine ⟨s.stream.fetched, ?_⟩
    rw [hs, readOf_data hk hr hq, if_neg h, if_neg h, if_neg h]

end Sys2Proof.Machine

open Sys2Proof Sys2Proof.Machine

/-- Settles O56: a fetch answers its channel's word after those that the frame has fetched, so the frame's words are counted
per channel along the frame. -/
theorem dataReadsTheRegion : Obligations.DataReadsTheRegion := by
  unfold Obligations.DataReadsTheRegion
  refine ⟨?_, ?_, ?_⟩
  · intro s q k hs hst hq hk ha hr room
    have ha : q.addr = dataAddr k := ha.trans (Nat.add_assoc ..)
    have hfull : s.full = true := by rw [← reachable_data hk, ← ha, hr]
    have h := gives_readData (c := .hostReadFixed (ownFrame s q 0x22 [])) (fixed := true) rfl rfl hs hst hq
      (readsData_fixed hk ha hfull) room
    rwa [dataWord_fixed] at h
  · intro s q k hs hst hq ha hk hr room
    have ha : q.addr = dataAddr k := ha.trans (Nat.add_assoc ..)
    have hfull : s.full = true := by rw [← reachable_data (k := 0) (by omega)]; exact hr
    have h := gives_readData (c := .hostRead (ownFrame s q 0x21 [])) (fixed := false) rfl rfl hs hst hq
      (readsData_rising hk ha hfull) room
    rwa [dataWord_rising] at h
  · intro s o k hk hr hq room
    rw [Nat.add_assoc] at hr
    obtain ⟨f, read⟩ := readOf_dataReadStart hk hr hq
    refine gives_takes _ (act := fun s => readOf (dataReadStart s o) o Pg.STREAM (0x100 + 4 * k)) rfl rfl (decide_eq_true hk)
      ?_ ?_ ⟨?_, ?_, ?_, ?_⟩ <;> rw [read]
    · exact ⟨rfl, rfl, rfl, rfl⟩
    · exact room
    · exact (onlyBits.refl s).regs rfl

end

section
/-! PROOF. Register updates: counters that saturate, a word written again, which listed fields cover a written one, and updates
that change registers alone. -/

namespace Sys2Proof.Machine

variable {s t : State}

/-! ### Counters and rewritten words -/

/-- A counter reads its value advanced, held at the field's full code. -/
theorem get_addCount_same (s : State) (p n : Nat) (f : Fld) (h : f.lo ≤ f.hi) (h32 : f.hi < 32) :
    (s.addCount p f n).get p f = min (2 ^ f.width - 1) (s.get p f + n) := by
  have pos : 0 < 2 ^ f.width := by positivity
  rw [State.addCount, State.get_put_same s p f _ h h32, satNat]
  split
  · rw [Nat.mod_eq_of_lt ‹_›]; omega
  · rw [Nat.mod_eq_of_lt (by omega)]; omega

/-- The state with a register's own word written again. -/
def rewritten (s : State) (a : Nat) : State := s.wr a (s.rd a)

theorem rd_rewritten (s : State) (a b : Nat) : (rewritten s a).rd b = s.rd b := by
  by_cases h : b = a
  · rw [h]; exact s.rd_wr_same a _
  · exact s.rd_wr_ne _ h

theorem get_rewritten (s : State) (a p : Nat) (f : Fld) : (rewritten s a).get p f = s.get p f :=
  State.get_congr p f (rd_rewritten s a _)

theorem onlyBits_rewritten (s : State) (a : Nat) : onlyBits s (rewritten s a) [] [] := fun b k _ _ => by
  rw [rd_rewritten]

/-! ### Which bits, and what else -/

theorem onlyBits.mono {l m : List (Nat × Fld)} {ps : List Nat} (h : onlyBits s t l ps) (hl : l ⊆ m) : onlyBits s t m ps := by
  intro a b x y
  refine h a b x ?_
  rw [holdsBit, List.any_eq_false] at y ⊢
  exact fun e he => y e (hl he)

theorem covers_of_mem {l : List (Nat × Fld)} {ps : List Nat} {p : Nat} {f g : Fld} (hm : (p, g) ∈ l) (ho : g.off = f.off)
    (hf : f.lo ≤ f.hi ∧ f.hi < 32) (hlo : g.lo ≤ f.lo) (hhi : f.hi ≤ g.hi) : covers l ps p f :=
  ⟨hf.1, hf.2, .inr ⟨(p, g), hm, congrArg (p * 0x400 + ·) ho, hlo, hhi⟩⟩

/-- Beside registers, `t` is `s`. -/
abbrev onlyRegs (s t : State) : Prop := { t with regs := s.regs } = s

theorem onlyRegs.field {α : Type} (h : onlyRegs s t) (f : State → α) : f { t with regs := s.regs } = f s := congrArg f h

theorem onlyRegs.put {p v : Nat} {f : Fld} (h : onlyRegs s t) : onlyRegs s (t.put p f v) := h

theorem onlyRegs.ite {c : Prop} [Decidable c] {a b : State} (ha : onlyRegs s a) (hb : onlyRegs s b) :
    onlyRegs s (if c then a else b) := by split <;> assumption

end Sys2Proof.Machine

end

section
/-! PROOF. An entry made with room in the change log (R37, R41): it writes CHANGELOG registers and the log, and nothing else. -/

namespace Sys2Proof.Machine

variable {s t : State} {e : LogEntry} {l : List (Nat × Fld)}

/-! ### Registers -/

theorem covers_changelog {f : Fld} (ho : f.off < 0x400) (hf : f.lo ≤ f.hi ∧ f.hi < 32) :
    covers l [Pg.CHANGELOG] Pg.CHANGELOG f :=
  ⟨hf.1, hf.2, .inl (by rw [addrOf_div ho]; exact List.mem_singleton_self _)⟩

theorem onlyBits.logStore (h : onlyBits s t l [Pg.CHANGELOG]) : onlyBits s (logStore t e) l [Pg.CHANGELOG] :=
  onlyBits.put (h.regs rfl) (covers_changelog (by decide) (by decide))

theorem onlyBits.logLoss (h : onlyBits s t l [Pg.CHANGELOG]) : onlyBits s (logLoss t) l [Pg.CHANGELOG] :=
  .ite h ((h.event (covers_changelog (by decide) (by decide))).regs rfl)

theorem onlyBits.logRing (h : onlyBits s t l [Pg.CHANGELOG]) : onlyBits s (logRing t e) l [Pg.CHANGELOG] := by
  have stored : onlyBits s (Machine.logStore t e) l [Pg.CHANGELOG] := h.logStore
  refine .ite (.ite ?_ ?_) (.ite ?_ ?_)
  · exact onlyBits.event (stored.regs rfl) (covers_changelog (by decide) (by decide))
  · exact stored.regs rfl
  · exact ((stored.put (covers_changelog (by decide) (by decide))).bump (covers_changelog (by decide) (by decide))).logLoss
  · exact (h.bump (covers_changelog (by decide) (by decide))).logLoss

theorem onlyBits.collect (h : onlyBits s t l [Pg.CHANGELOG]) : onlyBits s (collect t e) l [Pg.CHANGELOG] := by
  have dropped := (h.bump (f := Reg.CHANGELOG.PERSIST_DROP) (covers_changelog (by decide) (by decide))).event (k := 1)
    (covers_changelog (by decide) (by decide))
  exact .ite (h.regs rfl) (.ite dropped ((dropped.event (covers_changelog (by decide) (by decide))).regs rfl))

theorem onlyBits.addEntry {o p off old new : Nat} {f : LogFlags} (h : onlyBits s t l [Pg.CHANGELOG]) :
    onlyBits s (addEntry t o p off old new f) l [Pg.CHANGELOG] := by
  have counted (e : LogEntry) :
      onlyBits s ((Machine.logRing t e).bumpWrap Pg.CHANGELOG Reg.CHANGELOG.TOTAL) l [Pg.CHANGELOG] :=
    h.logRing.bumpWrap (covers_changelog (by decide) (by decide))
  exact .ite (counted _).collect (counted _)

/-! ### The rest of the state -/

theorem onlyLogged.bumpWrap {p : Nat} {f : Fld} (h : onlyLogged s t) : onlyLogged s (t.bumpWrap p f) := h

theorem onlyLogged_logRing (h : s.log.fill < 1024) : onlyLogged s (logRing s e) := by
  unfold logRing
  rw [if_pos h]
  dsimp only
  split <;> rfl

theorem onlyLogged_collect (h : s.log.persist.length + (if s.log.waiting.isSome then 20 else 0) < 40) :
    onlyLogged s (collect s e) := by
  unfold collect
  rw [if_pos h]

theorem onlyLogged.field {α : Type} (h : onlyLogged s t) (f : State → α) : f { t with regs := s.regs, log := s.log } = f s :=
  congrArg f h

theorem onlyLogged.sameOuter (h : onlyLogged s t) : sameOuter s t :=
  ⟨h.field State.pending, h.field State.powered, h.field State.otpA, h.field State.otpB⟩

theorem onlyLogged.trans {u : State} (h : onlyLogged s t) (k : onlyLogged t u) : onlyLogged s u :=
  (congrArg (fun x : State => { x with regs := s.regs, log := s.log }) k).trans h

/-- With room for one entry, making it changes CHANGELOG registers and the log alone. -/
theorem onlyLogged_addEntry {o p off old new : Nat} {f : LogFlags} (h : logRoom s 1) :
    onlyLogged s (addEntry s o p off old new f) := by
  obtain ⟨-, hfill, hpersist⟩ := h
  have ring (e : LogEntry) : onlyLogged s ((logRing s e).bumpWrap Pg.CHANGELOG Reg.CHANGELOG.TOTAL) :=
    (onlyLogged_logRing (by omega)).bumpWrap
  have kept (e : LogEntry) :
      (logRing s e).log.persist = s.log.persist ∧ (logRing s e).log.waiting = s.log.waiting := by
    obtain ⟨-, hp, hw, -⟩ := logRing_room (s := s) (e := e) (by omega)
    exact ⟨hp, hw⟩
  unfold addEntry
  dsimp only
  split
  · refine (ring _).trans (onlyLogged_collect ?_)
    simp only [State.bumpWrap_rest, kept]
    omega
  · exact ring _

end Sys2Proof.Machine

end

section
/-! PROOF. Retirement of stream records (R464, R465): what `retireStream` answers for each d, and what it and the refresh of
FILL leave. -/

namespace Sys2Proof.Machine

variable {s t : State} {o k r d : Nat}

/-! ### Retirement -/

/-- d: how far `r` lies past RETIRED_SEQ of channel `k`, modulo 2^32. -/
def retireDist (s : State) (k r : Nat) : Nat := (r + 2 ^ 32 - s.get Pg.STREAM (Reg.STREAM.RETIRED_SEQ.ix k)) % 2 ^ 32

/-- The region without its `d` oldest records, RETIRED_SEQ at `r`, and the words that went counted. -/
def recordsRetired (s : State) (k r d : Nat) : State :=
  ((setSregion s k ((sregion s k).drop d)).put Pg.STREAM (Reg.STREAM.RETIRED_SEQ.ix k) r).addCount Pg.STREAM
    (Reg.STREAM.WORD_COUNT.ix k) (((sregion s k).take d).flatMap (·.2)).length

theorem retireStream_of_none_due (h : retireDist s k r = 0 ∨ 2 ^ 31 ≤ retireDist s k r) : retireStream s k r = some s :=
  if_pos h

theorem retireStream_of_records (h1 : 1 ≤ retireDist s k r) (h2 : retireDist s k r < 2 ^ 31)
    (h : retireDist s k r ≤ (sregion s k).length) :
    retireStream s k r = some (refreshFill (recordsRetired s k r (retireDist s k r)) k) :=
  (if_neg (by unfold retireDist at h1 h2; omega)).trans (if_pos h)

theorem retireStream_of_too_far (h1 : 1 ≤ retireDist s k r) (h2 : retireDist s k r < 2 ^ 31)
    (h : (sregion s k).length < retireDist s k r) : retireStream s k r = none :=
  (if_neg (by unfold retireDist at h1 h2; omega)).trans (if_neg (Nat.not_le.mpr h))

/-! ### What a refresh of FILL leaves -/

/-- The channel's FILL written as its region stands. -/
def withFill (s : State) (k : Nat) : State := s.put Pg.STREAM (Reg.STREAM.FILL_WORDS.ix k) (regionWords s k).length

/-- The registers that a refresh writes after FILL: STATUS, and EVENT.HIGH of the channel. -/
abbrev highFields (k : Nat) : List (Nat × Fld) := [(Pg.STREAM, Reg.STREAM.STATUS), (Pg.STREAM, ⟨0x008, k, k, 0⟩)]

theorem onlyRegs.sregion (h : onlyRegs s t) (j : Nat) : sregion t j = sregion s j :=
  h.field (Machine.sregion · j)

theorem onlyRegs_refreshFill (s : State) (k : Nat) : onlyRegs s (refreshFill s k) := by
  have written : onlyRegs s (withFill s k) := rfl
  unfold refreshFill refreshStreamN
  exact onlyRegs.put (.ite (.put (.put written)) (.put written))

theorem onlyBits_refreshFill (hk : k < 4) : onlyBits (withFill s k) (refreshFill s k) (highFields k) [] := by
  have hhigh : covers (highFields k) [] Pg.STREAM ⟨0x054, 0 + k, 0 + k, 0⟩ :=
    covers_of_mem (.head _) rfl ⟨le_rfl, by simp only; omega⟩ (by simp only; omega) (by simp only; omega)
  have hrose : covers (highFields k) [] Pg.STREAM ⟨0x008, k, k, 0⟩ :=
    covers_of_mem (.tail _ (.head _)) rfl ⟨le_rfl, by simp only; omega⟩ le_rfl le_rfl
  have hline : covers (highFields k) [] Pg.STREAM Reg.STREAM.STATUS_STREAM_N_OUT :=
    covers_of_mem (.head _) rfl (by decide) (by decide) (by decide)
  have written := onlyBits.refl (l := highFields k) (ps := []) (withFill s k)
  unfold refreshFill refreshStreamN
  exact onlyBits.putb (.ite ((written.putBit hhigh).event hrose) (written.putBit hhigh)) hline

/-- FILL reads the words of the region, where they fit its field. -/
theorem get_fill_refreshFill (hk : k < 4) (h : (regionWords s k).length < 8192) :
    (refreshFill s k).get Pg.STREAM (Reg.STREAM.FILL_WORDS.ix k) = (regionWords s k).length := by
  have aside : ∀ b, holdsBit (highFields k) (addrOf Pg.STREAM (Reg.STREAM.FILL_WORDS.ix k)) b = false := by
    intro b
    simp [holdsBit, addrOf, Fld.ix]
    omega
  rw [(onlyBits_refreshFill hk).get rfl aside, withFill, State.get_put_same _ _ _ _ (Nat.zero_le _) (show 12 < 32 by decide)]
  exact Nat.mod_eq_of_lt h

/-- The registers that a refresh writes. -/
abbrev fillFields (k : Nat) : List (Nat × Fld) := (Pg.STREAM, Reg.STREAM.FILL.ix k) :: highFields k

theorem onlyBits_fillFields (hk : k < 4) : onlyBits s (refreshFill s k) (fillFields k) [] := by
  have hfill : onlyBits s (withFill s k) (fillFields k) [] :=
    (onlyBits.refl s).put
      (covers_of_mem (.head _) rfl ⟨Nat.zero_le _, show 12 < 32 by decide⟩ le_rfl (show 12 ≤ 31 by decide))
  exact hfill.trans ((onlyBits_refreshFill hk).mono (List.subset_cons_self _ _))

/-- A register of the page that a refresh does not write. -/
theorem get_refreshFill {f : Fld} (hk : k < 4) (h : 0x054 < f.off) (hf : f.off ≠ (Reg.STREAM.FILL.ix k).off) :
    (refreshFill s k).get Pg.STREAM f = s.get Pg.STREAM f := by
  have aside : ∀ b, holdsBit (fillFields k) (addrOf Pg.STREAM f) b = false := by
    intro b
    simp [holdsBit, addrOf, hf]
    omega
  exact (onlyBits_fillFields hk).get rfl aside

/-! ### What a retirement leaves -/

theorem sregion_recordsRetired (s : State) (k r d j : Nat) :
    sregion (recordsRetired s k r d) j = if j = k then (sregion s k).drop d else sregion s j := by
  by_cases h : j = k
  · rw [if_pos h, h]
    exact Table.get_set_same [] s.stream.regions k _
  · rw [if_neg h]
    exact Table.get_set_ne [] [] s.stream.regions _ h

/-- The words of the records taken are those that the region no longer has. -/
theorem length_words_take (l : List (Nat × List Nat)) (d : Nat) :
    ((l.take d).flatMap (·.2)).length = (l.flatMap (·.2)).length - ((l.drop d).flatMap (·.2)).length := by
  have whole : l.flatMap (·.2) = (l.take d).flatMap (·.2) ++ (l.drop d).flatMap (·.2) := by
    rw [← List.flatMap_append, List.take_append_drop]
  rw [whole, List.length_append, Nat.add_sub_cancel]

/-- Beside registers and the regions, `t` is `s`. -/
abbrev onlyRegions (s t : State) : Prop :=
  { t with regs := s.regs, stream := { t.stream with regions := s.stream.regions } } = s

theorem onlyRegions.put {p v : Nat} {f : Fld} (h : onlyRegions s t) : onlyRegions s (t.put p f v) := h

theorem onlyRegions.setSregion {l : List (Nat × List Nat)} (h : onlyRegions s t) : onlyRegions s (setSregion t k l) := h

theorem onlyRegions.field {α : Type} (h : onlyRegions s t) (f : State → α) :
    f { t with regs := s.regs, stream := { t.stream with regions := s.stream.regions } } = f s := congrArg f h

theorem onlyRegions.sameOuter (h : onlyRegions s t) : sameOuter s t :=
  ⟨h.field State.pending, h.field State.powered, h.field State.otpA, h.field State.otpB⟩

theorem onlyRegions.logRoom {n : Nat} (h : onlyRegions s t) (room : logRoom s n) : logRoom t n :=
  room.same (h.field State.log) (h.field fun u => u.fault.logPending)

theorem onlyRegions.trans {u : State} (h : onlyRegions s t) (k : onlyRegs t u) : onlyRegions s u :=
  (k.field fun x => { x with regs := s.regs, stream := { x.stream with regions := s.stream.regions } }).trans h

theorem onlyRegions_recordsRetired (h : onlyRegions s t) : onlyRegions s (recordsRetired t k r d) :=
  onlyRegions.put (.put (.setSregion h))

/-- The counters of the region, where retirement records what it took. -/
abbrev retiredFields (k : Nat) : List (Nat × Fld) :=
  [(Pg.STREAM, Reg.STREAM.RETIRED_SEQ.ix k), (Pg.STREAM, Reg.STREAM.WORD_COUNT.ix k)]

theorem onlyBits_recordsRetired (s : State) (k r d : Nat) : onlyBits s (recordsRetired s k r d) (retiredFields k) [] := by
  have hseq : covers (retiredFields k) [] Pg.STREAM (Reg.STREAM.RETIRED_SEQ.ix k) :=
    covers_of_mem (.head _) rfl ⟨Nat.zero_le _, show 31 < 32 by decide⟩ le_rfl le_rfl
  have hcount : covers (retiredFields k) [] Pg.STREAM (Reg.STREAM.WORD_COUNT.ix k) :=
    covers_of_mem (.tail _ (.head _)) rfl ⟨Nat.zero_le _, show 31 < 32 by decide⟩ le_rfl le_rfl
  have region : onlyBits s (setSregion s k ((sregion s k).drop d)) (retiredFields k) [] := (onlyBits.refl s).regs rfl
  exact (region.put hseq).addCount hcount

theorem get_seq_recordsRetired (hr : r < 2 ^ 32) :
    (recordsRetired s k r d).get Pg.STREAM (Reg.STREAM.RETIRED_SEQ.ix k) = r := by
  have other : addrOf Pg.STREAM (Reg.STREAM.RETIRED_SEQ.ix k) ≠ addrOf Pg.STREAM (Reg.STREAM.WORD_COUNT.ix k) := by
    simp [addrOf, Fld.ix]
  refine (State.get_put_ne _ _ other).trans ((State.get_put_same _ _ _ _ (Nat.zero_le _) (show 31 < 32 by decide)).trans ?_)
  exact Nat.mod_eq_of_lt hr

theorem get_count_recordsRetired (s : State) (k r d : Nat) :
    (recordsRetired s k r d).get Pg.STREAM (Reg.STREAM.WORD_COUNT.ix k) =
      min (2 ^ 32 - 1) (s.get Pg.STREAM (Reg.STREAM.WORD_COUNT.ix k) +
        ((regionWords s k).length - (regionWords (recordsRetired s k r d) k).length)) := by
  have other : addrOf Pg.STREAM (Reg.STREAM.WORD_COUNT.ix k) ≠ addrOf Pg.STREAM (Reg.STREAM.RETIRED_SEQ.ix k) := by
    simp [addrOf, Fld.ix]
  have left : regionWords (recordsRetired s k r d) k = ((sregion s k).drop d).flatMap (·.2) := by
    rw [regionWords, sregion_recordsRetired, if_pos rfl]
  have before : ((setSregion s k ((sregion s k).drop d)).put Pg.STREAM (Reg.STREAM.RETIRED_SEQ.ix k) r).get Pg.STREAM
      (Reg.STREAM.WORD_COUNT.ix k) = s.get Pg.STREAM (Reg.STREAM.WORD_COUNT.ix k) := State.get_put_ne _ _ other
  rw [left, regionWords, ← length_words_take, ← before]
  exact get_addCount_same _ _ _ _ (Nat.zero_le _) (show 31 < 32 by decide)

end Sys2Proof.Machine

end

section
/-! PROOF. Writes of the stream's RETIRE registers (R464): who may write them, which rules they meet, and what an accepted
and a refused one leave. -/

namespace Sys2Proof.Machine

variable {s t : State} {q : Origin} {o k r d : Nat}

/-! ### The write -/

/-- The byte address of RETIRE.k. -/
abbrev retireAddr (k : Nat) : Nat := Pg.STREAM * 0x400 + (0x090 + 32 * k)

/-- The one field of RETIRE. -/
abbrev retireField : FieldDef := ⟨31, 0, .wo, .v, 0, none⟩

theorem fieldsAt_retire : ∀ k < 4, fieldsAt Pg.STREAM (0x090 + 32 * k) = [retireField] := by decide

/-- The write of RETIRE.k as its page's rules see it: the register keeps its word, and `r` is a command. -/
def retireWr (s : State) (o k r : Nat) : Wr :=
  ⟨o, Pg.STREAM, .stream, 0x090 + 32 * k, (s.rd (retireAddr k)).toNat, (s.rd (retireAddr k)).toNat, r, r⟩

theorem mkWr_retire (hk : k < 4) (hr : r < 2 ^ 32) : mkWr s o .stream (retireAddr k) r = retireWr s o k r := by
  have hi : 0x090 + 32 * k < 0x400 := by omega
  have hmap : ¬ (0x014 ≤ 0x090 + 32 * k ∧ 0x090 + 32 * k ≤ 0x01C) := by omega
  have hwo : bitsOf r 31 0 = r := by simpa [bitsOf] using Nat.mod_eq_of_lt hr
  simp [mkWr, retireWr, pageAddr_div _ hi, pageAddr_mod _ hi, fieldsAt_retire k hk, settled, hmap, storedWord, woBits, hwo]

theorem within_retire (hk : k < 4) : (retireWr s o k r).within Reg.STREAM.RETIRE 4 = true := by
  simp [Wr.within, retireWr, hk]

theorem ix_retire (s : State) (o k r : Nat) : (retireWr s o k r).ix Reg.STREAM.RETIRE = k := by
  simp [Wr.ix, retireWr]

/-- The page takes the write where `retireStream` answers, and else refuses it as out of range. -/
theorem rulePage_retire (hk : k < 4) :
    rulePage s (retireWr s o k r) = (retireWr s o k r).need (retireStream s k r).isSome := by
  have hmap : ¬ (0x014 ≤ (retireWr s o k r).off ∧ (retireWr s o k r).off ≤ 0x01C) := by simp only [retireWr]; omega
  rw [rulePage, if_neg hmap]
  show ruleStream s (retireWr s o k r) = _
  rw [ruleStream, if_pos (within_retire hk), ix_retire]
  rfl

/-- The effect of an accepted write is the retirement. -/
theorem actPageWrite_retire (hk : k < 4) (u : State) :
    actPageWrite u (retireWr s o k r) = (retireStream u k r).getD u := by
  have hoff : ¬ (retireWr s o k r).off < 0x040 := by simp only [retireWr]; omega
  have hctrl : (retireWr s o k r).is Reg.STREAM.CTRL = false := decide_eq_false (by simp only [retireWr]; omega)
  have hkind : (retireWr s o k r).kind = .stream := rfl
  have hwo : (retireWr s o k r).wo = r := rfl
  rw [actPageWrite, if_neg hoff, hkind]
  dsimp only
  rw [actStream, hctrl, if_neg Bool.false_ne_true, if_pos (within_retire hk), ix_retire, hwo]
  cases retireStream u k r <;> rfl

/-- A write of RETIRE.k by an origin that has the right: the register is there, and the write breaks no key sequence. -/
structure MayRetire (s : State) (q : Origin) (k r : Nat) : Prop where
  chan : k < 4
  word : r < 2 ^ 32
  reach : reachable s (retireAddr k) = true
  live : originLive s q = true
  right : mayWrite s (originCode q) Pg.STREAM = true
  keys : q = .host → keySeq s Pg.STREAM = none

theorem MayRetire.breaksUnlock (h : MayRetire s q k r) : breaksUnlock s (retireWr s (originCode q) k r) = false := by
  by_cases hq : q = .host
  · have hkey : keySeq s (retireWr s (originCode q) k r).page = none := h.keys hq
    simp [Machine.breaksUnlock, hkey]
  · have ho : (retireWr s (originCode q) k r).o ≠ Org.HOST := mt originCode_eq_host.mp hq
    simp [Machine.breaksUnlock, ho]

/-- RETIRE has no lockable field. -/
theorem lockRefuses_retire : lockRefuses s [retireField] (retireWr s o k r) = false := by
  have hfac : factoryField (retireWr s o k r).kind (retireWr s o k r).off = false := rfl
  simp [lockRefuses, hfac, changesRwl]

theorem MayRetire.rightsWrite (h : MayRetire s q k r) : rightsWrite s false [retireField] (retireWr s (originCode q) k r) =
    rulesWrite s [retireField] (retireWr s (originCode q) k r) := by
  have hright : mayWrite s (retireWr s (originCode q) k r).o (retireWr s (originCode q) k r).page = true := h.right
  have hcmd : faultCommand (retireWr s (originCode q) k r) = false := rfl
  simp [Machine.rightsWrite, hright, lockRefuses_retire, hcmd]

/-- Such a write comes to the rules of its page. -/
theorem MayRetire.writeReg (h : MayRetire s q k r) :
    writeReg s (originCode q) (retireAddr k) r = rulesWrite s [retireField] (retireWr s (originCode q) k r) := by
  have hi : 0x090 + 32 * k < 0x400 := by have := h.chan; omega
  have hv : r % 4294967296 = r := Nat.mod_eq_of_lt h.word
  have hkind : pageKind Pg.STREAM = some .stream := rfl
  have hoff : (retireWr s (originCode q) k r).off ≠ 0x020 := by simp only [retireWr]; omega
  have hro : readOnly .stream (retireWr s (originCode q) k r).page (retireWr s (originCode q) k r).off [retireField] =
      false := rfl
  have htest : breaksTest s (retireWr s (originCode q) k r) = false := rfl
  simp [Machine.writeReg, writeCore, hv, h.reach, pageAddr_div _ hi, pageAddr_mod _ hi, hkind, mkWr_retire h.chan h.word,
    fieldsAt_retire k h.chan, hro, htest, hoff, h.breaksUnlock, h.rightsWrite]

/-- RETIRE has no stated range. -/
theorem rangesOk_retire (v : Nat) : rangesOk [retireField] v = true := rfl

/-- A write of RETIRE acts even where it changes no bit. -/
theorem actsUnchanged_retire (hk : k < 4) : actsUnchanged (retireWr s o k r).kind (retireWr s o k r).off = true := by
  simp [actsUnchanged, retireWr]
  omega

/-- The word that RETIRE keeps is stored again. -/
theorem storeWord_retire (hk : k < 4) : storeWord s (retireWr s o k r) = rewritten s (retireAddr k) := by
  have hlater : takesBoundary (retireWr s o k r).kind (retireWr s o k r).off = false := by
    have hmap : ¬ (0x014 ≤ 0x090 + 32 * k ∧ 0x090 + 32 * k ≤ 0x01C) := by omega
    simp [takesBoundary, retireWr, hmap]
    omega
  have hstart : takesCommonStart (retireWr s o k r).kind (retireWr s o k r).off = false := rfl
  have hgran : ¬ ((retireWr s o k r).kind = .granary ∧ 0x200 ≤ (retireWr s o k r).off) := by
    simp [retireWr]
  have hword : BitVec.ofNat 32 (retireWr s o k r).new = s.rd (retireAddr k) := BitVec.ofNat_toNat _ _ |>.trans (by simp)
  simp only [storeWord, if_neg hgran, hlater, hstart, hword]
  rfl

/-- RETIRE is volatile: its write makes no entry. -/
theorem acceptWrite_retire (hk : k < 4) : acceptWrite s [retireField] (retireWr s o k r) =
    (retireStream (rewritten s (retireAddr k)) k r).getD (rewritten s (retireAddr k)) := by
  have hentry (u : State) (b : Nat) : entryOf u [retireField] (retireWr s o k r) b = u := by
    have hno : makesEntry [retireField] (retireWr s o k r) = false := by simp [makesEntry]
    rw [entryOf, hno, if_neg Bool.false_ne_true]
  have hwo : (retireWr s o k r).wo = 0 ∨ allWo [retireField] = true := .inr rfl
  rw [acceptWrite, if_pos hwo, hentry, actPageWrite_retire hk, storeWord_retire hk]

theorem rulesWrite_retire_taken (hk : k < 4) (h : (retireStream s k r).isSome = true) :
    rulesWrite s [retireField] (retireWr s o k r) =
      ((retireStream (rewritten s (retireAddr k)) k r).getD (rewritten s (retireAddr k)), .ok) := by
  have hrule : rulePage s (retireWr s o k r) = .take := by rw [rulePage_retire hk, h]; rfl
  have hact : ¬ ((retireWr s o k r).new = (retireWr s o k r).old ∧ (retireWr s o k r).wo = 0 ∧
      actsUnchanged (retireWr s o k r).kind (retireWr s o k r).off = false) := by simp [actsUnchanged_retire hk]
  simp [rulesWrite, hrule, rangesOk_retire, if_neg hact, acceptWrite_retire hk]

theorem rulesWrite_retire_refused (hk : k < 4) (h : retireStream s k r = none) :
    (rulesWrite s [retireField] (retireWr s o k r)).1 =
      logReject (s.event Pg.STREAM 5) o Pg.STREAM (0x090 + 32 * k) (liveWord s (retireAddr k)) r := by
  have hrule : rulePage s (retireWr s o k r) = .refuse [5] := by rw [rulePage_retire hk, h]; rfl
  have hmap : ¬ (0x014 ≤ (retireWr s o k r).off ∧ (retireWr s o k r).off ≤ 0x01C) := by simp only [retireWr]; omega
  have hkind : (retireWr s o k r).kind = .stream := rfl
  simp only [rulesWrite, hrule, rangesOk_retire, refused, refusalEffect, if_neg hmap, hkind]
  rfl

/-! ### The origins -/

theorem bankRight_stream (b : Nat) : bankRight b Pg.STREAM = false := by
  have hp : Pg.STREAM = 4 := rfl
  simp only [bankRight, Pg.BANK, Pg.CHAN, Pg.PHASE, Pg.ENG, Pg.RECIPE, hp, Bool.or_eq_false_iff, decide_eq_false_iff_not]
  omega

/-- Of the STREAM page, the host port and factory test mode alone have the write right. -/
theorem mayWrite_stream (s : State) (o : Nat) : mayWrite s o Pg.STREAM = decide (o = Org.HOST ∨ o = Org.FACTORY) := by
  by_cases ho : o = Org.HOST ∨ o = Org.FACTORY
  · rw [mayWrite, if_pos ho, decide_eq_true ho]
  · have hran (e : EngState) : (e.ranBank.map (fun b => bankRight b Pg.STREAM)).getD false = false := by
      cases e.ranBank <;> simp [bankRight_stream]
    have hp : Pg.STREAM = 4 := rfl
    rw [mayWrite, if_neg ho, decide_eq_false ho, hran]
    simp only [bankRight_stream, Bool.and_false, Bool.or_false, hp, Pg.ENG, Pg.RESULT]
    split
    · rfl
    · split
      · simp
        omega
      · simp

theorem MayRetire.host_or_factory (h : MayRetire s q k r) : q = .host ∨ q = .factory := by
  have right := h.right
  rw [mayWrite_stream, decide_eq_true_eq] at right
  cases q with
  | host => exact .inl rfl
  | factory => exact .inr rfl
  | twowire => simp [originCode] at right
  | engine n =>
    have live := h.live
    simp only [originLive, Bool.and_eq_true, decide_eq_true_eq] at live
    simp only [originCode, Org.ENG, Org.HOST, Org.FACTORY] at right
    omega

theorem MayRetire.writeOf (h : MayRetire s q k r) :
    writeOf s q Pg.STREAM (0x090 + 32 * k) r = (rulesWrite s [retireField] (retireWr s (originCode q) k r)).1 := by
  rw [Machine.writeOf, if_pos h.live, ← h.writeReg]
  obtain rfl | rfl := h.host_or_factory <;> rfl

/-- A RETIRE command of such an origin ends in what its page's rules make of the write. -/
theorem MayRetire.gives {P : State → Prop} {u : State} (h : MayRetire s q k r)
    (hu : (rulesWrite s [retireField] (retireWr s (originCode q) k r)).1 = u) (outer : sameOuter s u) (room : logRoom u 0)
    (p : P u) : gives (.streamRetire q k r) s P := by
  rw [← hu, ← h.writeOf] at outer room p
  exact gives_takes _ (act := fun s => Machine.writeOf s q Pg.STREAM (0x090 + 32 * k) r) rfl rfl (decide_eq_true h.chan)
    outer room p

/-! ### The three outcomes -/

theorem retireDist_rewritten (s : State) (a k r : Nat) : retireDist (rewritten s a) k r = retireDist s k r := by
  rw [retireDist, get_rewritten, retireDist]

/-- The state after a retirement of `d` records: their removal and their count, and a refresh of FILL. -/
def afterRetiring (s : State) (k r d : Nat) : State := refreshFill (recordsRetired (rewritten s (retireAddr k)) k r d) k

theorem rulesWrite_records (hk : k < 4) (h1 : 1 ≤ retireDist s k r) (h2 : retireDist s k r < 2 ^ 31)
    (h : retireDist s k r ≤ (sregion s k).length) :
    (rulesWrite s [retireField] (retireWr s o k r)).1 = afterRetiring s k r (retireDist s k r) := by
  have hsome : (retireStream s k r).isSome = true := by rw [retireStream_of_records h1 h2 h]; rfl
  rw [← retireDist_rewritten s (retireAddr k)] at h1 h2 h
  rw [rulesWrite_retire_taken hk hsome, retireStream_of_records h1 h2 h, retireDist_rewritten]
  rfl

theorem rulesWrite_none_due (hk : k < 4) (h : retireDist s k r = 0 ∨ 2 ^ 31 ≤ retireDist s k r) :
    (rulesWrite s [retireField] (retireWr s o k r)).1 = rewritten s (retireAddr k) := by
  have hsome : (retireStream s k r).isSome = true := by rw [retireStream_of_none_due h]; rfl
  rw [← retireDist_rewritten s (retireAddr k)] at h
  rw [rulesWrite_retire_taken hk hsome, retireStream_of_none_due h]
  rfl

theorem onlyRegions_afterRetiring (s : State) (k r d : Nat) : onlyRegions s (afterRetiring s k r d) :=
  (onlyRegions_recordsRetired (t := rewritten s (retireAddr k)) rfl).trans (onlyRegs_refreshFill _ k)

theorem sregion_afterRetiring (s : State) (k r d j : Nat) :
    sregion (afterRetiring s k r d) j = if j = k then (sregion s k).drop d else sregion s j :=
  ((onlyRegs_refreshFill _ k).sregion j).trans (sregion_recordsRetired (rewritten s (retireAddr k)) k r d j)

theorem onlyBits_afterRetiring (hk : k < 4) : onlyBits s (afterRetiring s k r d) (retiredFields k ++ fillFields k) [] := by
  have stored := (onlyBits_rewritten s (retireAddr k)).mono (List.nil_subset (retiredFields k ++ fillFields k))
  have retired := (onlyBits_recordsRetired (rewritten s (retireAddr k)) k r d).mono
    (List.subset_append_left (retiredFields k) (fillFields k))
  have filled := (onlyBits_fillFields (s := recordsRetired (rewritten s (retireAddr k)) k r d) hk).mono
    (List.subset_append_right (retiredFields k) (fillFields k))
  exact (stored.trans retired).trans filled

theorem get_seq_afterRetiring (hk : k < 4) (hr : r < 2 ^ 32) :
    (afterRetiring s k r d).get Pg.STREAM (Reg.STREAM.RETIRED_SEQ.ix k) = r := by
  rw [afterRetiring, get_refreshFill hk (by simp [Fld.ix]; omega) (by simp [Fld.ix]), get_seq_recordsRetired hr]

theorem regionWords_afterRetiring (s : State) (k r d : Nat) :
    regionWords (afterRetiring s k r d) k = regionWords (recordsRetired (rewritten s (retireAddr k)) k r d) k := by
  rw [regionWords, afterRetiring, (onlyRegs_refreshFill _ k).sregion]
  rfl

theorem get_count_afterRetiring (hk : k < 4) : (afterRetiring s k r d).get Pg.STREAM (Reg.STREAM.WORD_COUNT.ix k) =
    min (2 ^ 32 - 1) (s.get Pg.STREAM (Reg.STREAM.WORD_COUNT.ix k) +
      ((regionWords s k).length - (regionWords (afterRetiring s k r d) k).length)) := by
  have before : regionWords (rewritten s (retireAddr k)) k = regionWords s k := rfl
  rw [regionWords_afterRetiring, afterRetiring, get_refreshFill hk (by simp [Fld.ix]; omega) (by simp [Fld.ix]),
    get_count_recordsRetired, get_rewritten, before]

theorem get_fill_afterRetiring (hk : k < 4) (h : (regionWords s k).length < 8192) :
    (afterRetiring s k r d).get Pg.STREAM (Reg.STREAM.FILL_WORDS.ix k) =
      (regionWords (afterRetiring s k r d) k).length := by
  have fewer : (regionWords (recordsRetired (rewritten s (retireAddr k)) k r d) k).length ≤ (regionWords s k).length := by
    rw [regionWords, sregion_recordsRetired, if_pos rfl]
    exact ((List.drop_sublist d (sregion s k)).flatMap (·.2)).length_le
  rw [regionWords_afterRetiring]
  exact get_fill_refreshFill hk (Nat.lt_of_le_of_lt fewer h)

/-- A refused write of the page sets RANGE_REJECT, makes its entry, and changes nothing else. -/
theorem rejected_spec {off old new : Nat} (room : logRoom s 1) :
    let t := logReject (s.event Pg.STREAM 5) o Pg.STREAM off old new
    t.get Pg.STREAM ⟨0x008, 5, 5, 0⟩ = 1 ∧ onlyBits s t [(Pg.STREAM, ⟨0x008, 5, 5, 0⟩)] [Pg.CHANGELOG] ∧ onlyLogged s t ∧
      logRoom t 0 := by
  have room' : logRoom (s.event Pg.STREAM 5) 1 := room.same rfl rfl
  have bit : covers [(Pg.STREAM, ⟨0x008, 5, 5, 0⟩)] [Pg.CHANGELOG] Pg.STREAM ⟨0x008, 5, 5, 0⟩ :=
    covers_of_mem (.head _) rfl (by decide) le_rfl le_rfl
  have entered : onlyBits (s.event Pg.STREAM 5) (logReject (s.event Pg.STREAM 5) o Pg.STREAM off old new) []
      [Pg.CHANGELOG] :=
    (onlyBits.refl _).addEntry
  refine ⟨?_, ?_, ?_, room'.addEntry⟩
  · rw [entered.get rfl (fun _ => rfl), State.event, State.get_put_same _ _ _ _ le_rfl (by decide)]
    rfl
  · exact ((onlyBits.refl s).event bit).addEntry
  · exact onlyLogged.trans (t := s.event Pg.STREAM 5) rfl (onlyLogged_addEntry room')

end Sys2Proof.Machine

open Sys2Proof Sys2Proof.Machine

/-- Settles O57: the page's rules answer the write by `retireStream`, whose three outcomes go by d; a volatile register's
write makes no entry. -/
theorem retireRemovesRecords : Obligations.RetireRemovesRecords := by
  unfold Obligations.RetireRemovesRecords
  refine ⟨?_, ?_, ?_⟩
  · intro s o k r d hk hr reach live right keys hd h1 hlen words room
    rw [Nat.add_assoc] at reach
    have may : MayRetire s o k r := ⟨hk, hr, reach, live, right, keys⟩
    obtain rfl : d = retireDist s k r := hd
    have rest := onlyRegions_afterRetiring s k r (retireDist s k r)
    have region := sregion_afterRetiring s k r (retireDist s k r)
    refine may.gives (rulesWrite_records hk h1.1 h1.2 hlen) rest.sameOuter (rest.logRoom room)
      ⟨?_, get_seq_afterRetiring hk hr, get_count_afterRetiring hk, get_fill_afterRetiring hk words, ?_,
        onlyBits_afterRetiring hk, rest⟩
    · rw [region, if_pos rfl]
    · intro j hj
      rw [region, if_neg hj]
  · intro s o k r d hk hr reach live right keys hd h room
    rw [Nat.add_assoc] at reach
    have may : MayRetire s o k r := ⟨hk, hr, reach, live, right, keys⟩
    obtain rfl : d = retireDist s k r := hd
    have rest : onlyRegions s (rewritten s (retireAddr k)) := rfl
    exact may.gives (rulesWrite_none_due hk h) rest.sameOuter (rest.logRoom room) ⟨onlyBits_rewritten s _, rfl⟩
  · intro s o k r d hk hr reach live right keys hd h1 hlen room
    rw [Nat.add_assoc] at reach
    have may : MayRetire s o k r := ⟨hk, hr, reach, live, right, keys⟩
    obtain rfl : d = retireDist s k r := hd
    have tooFar := retireStream_of_too_far h1.1 h1.2 hlen
    obtain ⟨event, bits, logged, room'⟩ := rejected_spec (o := originCode o) (off := 0x090 + 32 * k)
      (old := liveWord s (retireAddr k)) (new := r) room
    exact may.gives (rulesWrite_retire_refused hk tooFar) logged.sameOuter room'
      ⟨event, logged.field (sregion · k), bits, logged⟩

end
section
/-! PROOF. What a command can answer, said once over the commands of the block, and what no step ever changes: the queue but
for its front, the supply but for its two events, the OTP but for a programming operation (R46, R430). -/

namespace Sys2Proof.Machine

variable {c : Instr} {s t : State} {o : Out}

/-- What the command `c` answers in `s`: `s` itself where it is no event, or one of the ends of Cmd.lean, those of the supply
and of the OTP only for their own commands. -/
inductive Ends (c : Instr) (s : State) : Out → Prop
  | skip : Ends c s (.next s)
  | done (t : State) : Ends c s (finish s t)
  | supplyOn (strap : Nat) (hc : c = .vsysPowerOn strap) (hs : s.powered = false) (t : State) : Ends c s (finishSupply s t)
  | supplyOff (hc : c = .vsysPowerLoss) (hs : s.powered = true) (t : State) : Ends c s (finishSupply s t)
  | otp (pulses : Nat) (a b : List OtpVerify) (hc : c = .otpProgDone pulses a b) (op : OtpOp) (ho : s.otpOp = some op)
      (hf : s.full = true) : Ends c s (finishOtp s (otpDone s op pulses a b))

theorem Ends.ite {p : Prop} [Decidable p] (h : p → Ends c s o) : Ends c s (if p then o else .next s) := by
  split
  · exact h ‹_›
  · exact .skip

theorem Ends.takes (b : Bool) (act : State → State) : Ends c s (takes s b act) := .ite fun _ => .done _

theorem Ends.takesAtBoundary (b : Bool) (act : State → State) : Ends c s (takesAtBoundary s b act) := .takes _ _

theorem vsysPowerOn_ends (strap : Nat) (s : State) : Ends (.vsysPowerOn strap) s (execVsysPowerOn strap s) :=
  .ite fun h => .supplyOn strap rfl h.1 _

theorem vsysPowerLoss_ends (s : State) : Ends .vsysPowerLoss s (execVsysPowerLoss s) := .ite fun h => .supplyOff rfl h _

theorem warmResetEntry_ends (f : FrameIn) (len : Nat) (s : State) : Ends c s (execWarmResetEntry f len s) := by
  unfold execWarmResetEntry
  split
  · exact .takes _ _
  · exact .skip

theorem otpProgDone_ends (pulses : Nat) (a b : List OtpVerify) (s : State) :
    Ends (.otpProgDone pulses a b) s (execOtpProgDone pulses a b s) := by
  unfold execOtpProgDone
  split
  · rename_i op ho
    exact .ite fun hf => .otp pulses a b rfl op ho hf
  · exact .skip

/-- Every command answers, and only in these ways. -/
theorem exec_ends (c : Instr) (s : State) : Ends c s (exec c s) := by
  cases c
  case vsysPowerOn strap => exact vsysPowerOn_ends strap s
  case vsysPowerLoss => exact vsysPowerLoss_ends s
  case warmResetEntry f len => exact warmResetEntry_ends f len s
  case otpProgDone pulses a b => exact otpProgDone_ends pulses a b s
  case ckptNow | ledgerSnap | reissue | faultClear | fifoMsgRead | testKeyWrite | faultInject | hkseqCmdUp | hkseqCmdDown |
      pathConverterStart | startLatchClear | authStart | gaugeRelearn | rtcTimeWrite | rtcHaltWrite | timeSecRead |
      alarmArmWrite | wakeRelease | wakeForce | tickLoRead | gpioCfgWrite | otpProgWord | changelogTailWrite |
      changelogEntryRead | hostRead | hostReadFixed | hostWrite | hostWriteFixed | hostBcastWrite | streamEnableWrite |
      streamConfigWrite | twowireStatusRead | twowireNop | twowireEstop | twowireFaultClear | twowireHkUp | twowireHkDown |
      twowireGo | twowireCharge | twowireStatusWrite | alertResponseRead | twowireBusTimeout =>
    unfold exec
    exact .done _
  case slowLimitTrip | channelShortZv | probeResistanceWear | calStepStart | calDone | balanceWindowClose |
      tokenStarveDetect | boardFaultAutoclear =>
    unfold exec
    exact .takesAtBoundary _ _
  all_goals
    unfold exec
    dsimp only
    exact .takes _ _

/-! ### The queue, the supply and the OTP -/

theorem Ends.next (h : Ends c s o) : ∃ t, o = .next t ∧ t.pending = s.pending := by
  cases h <;> exact ⟨_, rfl, rfl⟩

theorem flushLog_outer (t : State) : sameOuter t (flushLog t) := (flushLog_held (fun _ => False) t).sameOuter

/-- A command takes the supply away only as VSYS_POWER_LOSS, and gives it only as VSYS_POWER_ON. -/
theorem Ends.powered (h : Ends c s o) (e : o = .next t) :
    t.powered = s.powered ∨ (s.powered = false ∧ ∃ strap, c = .vsysPowerOn strap) ∨ (s.powered = true ∧ c = .vsysPowerLoss) := by
  cases h with
  | skip | done | otp => cases e; exact .inl rfl
  | supplyOn strap hc hs => exact .inr (.inl ⟨hs, strap, hc⟩)
  | supplyOff hc hs => exact .inr (.inr ⟨hs, hc⟩)

/-- A command leaves the OTP, or completes the operation under way on it. -/
theorem Ends.otpKept (h : Ends c s o) (e : o = .next t) :
    (t.otpA = s.otpA ∧ t.otpB = s.otpB) ∨ ∃ pulses a b op, c = .otpProgDone pulses a b ∧ s.otpOp = some op ∧ s.full = true ∧
      t.otpA = (otpDone s op pulses a b).otpA ∧ t.otpB = (otpDone s op pulses a b).otpB := by
  cases h with
  | skip | done | supplyOn | supplyOff => cases e; exact .inl ⟨rfl, rfl⟩
  | otp pulses a b hc op ho hf =>
    cases e
    obtain ⟨-, -, hA, hB⟩ := flushLog_outer (otpDone s op pulses a b)
    exact .inr ⟨pulses, a, b, op, hc, ho, hf, hA, hB⟩

/-! ### Programming only adds bits -/

theorem bitOf_or (x y k : Nat) : bitOf (x ||| y) k = (bitOf x k || bitOf y k) := by
  simp only [bitOf, ← Nat.testBit_eq_decide_div_mod_eq, Nat.testBit_or]

theorem bitOf_programHalf {v weak data k : Nat} {f : Nat × Nat} (h : bitOf v k = true) :
    bitOf (programHalf v weak data f).1 k = true := by
  rw [programHalf, bitOf_or, h, Bool.true_or]

theorem bitOf_set_programHalf {m : Table Nat} {a weak data k b : Nat} {f : Nat × Nat} (h : bitOf (Table.get 0 m b) k = true) :
    bitOf (Table.get 0 (Table.set 0 m a (programHalf (Table.get 0 m a) weak data f).1) b) k = true := by
  by_cases e : b = a
  · subst e
    rw [Table.get_set_same]
    exact bitOf_programHalf h
  · rwa [Table.get_set_ne _ _ _ _ e]

/-- Every bit of both arrays of `s` that is programmed is so in `t`. -/
def otpGrows (s t : State) : Prop :=
  ∀ a k, (bitOf (Table.get 0 s.otpA a) k = true → bitOf (Table.get 0 t.otpA a) k = true) ∧
    (bitOf (Table.get 0 s.otpB a) k = true → bitOf (Table.get 0 t.otpB a) k = true)

theorem otpGrows_of_eq (h : t.otpA = s.otpA ∧ t.otpB = s.otpB) : otpGrows s t := by
  intro a k
  rw [h.1, h.2]
  exact ⟨id, id⟩

theorem programDone_otp (s : State) (op : OtpOp) (pulses : Nat) (a b : List OtpVerify) :
    (programDone s op pulses a b).otpA = Table.set 0 s.otpA op.addr
        (programHalf (Table.get 0 s.otpA op.addr) (Table.get 0 s.otpWeakA op.addr) op.data (verifyOf a op.addr)).1 ∧
      (programDone s op pulses a b).otpB = Table.set 0 s.otpB op.addr
        (programHalf (Table.get 0 s.otpB op.addr) (Table.get 0 s.otpWeakB op.addr) op.data (verifyOf b op.addr)).1 := by
  unfold programDone
  dsimp only
  split <;> exact ⟨rfl, rfl⟩

theorem otpGrows.trans {u : State} (h : otpGrows s t) (k : otpGrows t u) : otpGrows s u := fun a n =>
  ⟨fun x => (k a n).1 ((h a n).1 x), fun x => (k a n).2 ((h a n).2 x)⟩

theorem otpGrows_programDone (s : State) (op : OtpOp) (pulses : Nat) (a b : List OtpVerify) :
    otpGrows s (programDone s op pulses a b) := by
  intro x k
  obtain ⟨hA, hB⟩ := programDone_otp s op pulses a b
  rw [hA, hB]
  exact ⟨bitOf_set_programHalf, bitOf_set_programHalf⟩

theorem otpGrows_marginDone (s : State) (r : Nat) (a b : List OtpVerify) : otpGrows s (marginDone s r a b) :=
  otpGrows_of_eq (by simp [marginDone, otpResult, State.event])

/-- The state with no OTP operation under way. -/
def otpIdle (s : State) : State := { (s.putb Pg.OTP Reg.OTP.PROG_STATUS_BUSY false) with otpOp := none }

theorem otpDone_eq (s : State) (op : OtpOp) (pulses : Nat) (a b : List OtpVerify) :
    otpDone s op pulses a b =
      if op.op = 3 then marginDone (otpIdle s) op.addr a b else programDone (otpIdle s) op pulses a b := rfl

theorem otpGrows_otpDone (s : State) (op : OtpOp) (pulses : Nat) (a b : List OtpVerify) : otpGrows s (otpDone s op pulses a b) := by
  rw [otpDone_eq]
  refine (otpGrows_of_eq (by simp [otpIdle]) : otpGrows s (otpIdle s)).trans ?_
  split
  · exact otpGrows_marginDone _ op.addr a b
  · exact otpGrows_programDone _ op pulses a b

theorem Ends.otpGrows (h : Ends c s o) (e : o = .next t) : otpGrows s t := by
  rcases h.otpKept e with k | ⟨pulses, a, b, op, -, -, -, k⟩
  · exact otpGrows_of_eq k
  · intro x n
    rw [k.1, k.2]
    exact otpGrows_otpDone s op pulses a b x n

/-! ### Steps -/

/-- A step is an idle microsecond, or one of the ends of the command at the front of the queue. -/
theorem step_cases (s : State) :
    (s.pending = [] ∧ step s = .next (idle s)) ∨
      ∃ c rest, s.pending = c :: rest ∧ Ends c { s with pending := rest } (step s) := by
  unfold step
  cases h : s.pending with
  | nil => exact .inl ⟨rfl, rfl⟩
  | cons c rest => exact .inr ⟨c, rest, rfl, exec_ends c _⟩

end Sys2Proof.Machine

open Sys2Proof Sys2Proof.Machine

/-- Settles O1: `step` is defined so. -/
theorem stepRunsFront : Obligations.StepRunsFront := by
  unfold Obligations.StepRunsFront
  intro c rest s h
  rw [step, h]

/-- Settles O2: on an empty queue `step` answers `idle`. -/
theorem idleStepOnlyLetsTimePass : Obligations.IdleStepOnlyLetsTimePass := by
  unfold Obligations.IdleStepOnlyLetsTimePass
  intro s h
  refine ⟨idle s, by rw [step, h], rfl, ?_, rfl, ?_⟩
  · unfold idle
    cases s.full <;> rfl
  · unfold idle
    cases s.full <;> rfl

/-- Settles O3: each of the ends of a command answers with the queue that it was given. -/
theorem everyStepGoesOn : Obligations.EveryStepGoesOn := by
  unfold Obligations.EveryStepGoesOn
  intro s
  rcases step_cases s with ⟨h, e⟩ | ⟨c, rest, h, ends⟩
  · exact ⟨_, e, by rw [h]; exact h⟩
  · obtain ⟨t, e, hp⟩ := ends.next
    exact ⟨t, e, by rw [hp, h]; rfl⟩

/-- Settles O5: only `programDone` writes the arrays, and it adds bits to a word. -/
theorem otpBitsStayProgrammed : Obligations.OtpBitsStayProgrammed := by
  unfold Obligations.OtpBitsStayProgrammed
  intro s t e
  rcases step_cases s with ⟨-, i⟩ | ⟨c, rest, -, ends⟩
  · rw [i] at e
    cases e
    exact otpGrows_of_eq ⟨rfl, rfl⟩
  · exact ends.otpGrows e

/-- Settles O6: only the two supply events end in `finishSupply`, each in its own supply state. -/
theorem onlyVsysChangesTheSupply : Obligations.OnlyVsysChangesTheSupply := by
  unfold Obligations.OnlyVsysChangesTheSupply
  intro s t e
  rcases step_cases s with ⟨-, i⟩ | ⟨c, rest, hq, ends⟩
  · rw [i] at e
    cases e
    exact ⟨fun h k => absurd (h.symm.trans k) (by simp), fun h k => absurd (h.symm.trans k) (by simp)⟩
  · rw [hq]
    rcases ends.powered e with k | ⟨k, strap, rfl⟩ | ⟨k, rfl⟩
    · have k : t.powered = s.powered := k
      exact ⟨fun h n => absurd (h.symm.trans (k.symm.trans n)) (by simp),
        fun h n => absurd (h.symm.trans (k.symm.trans n)) (by simp)⟩
    · simp [show s.powered = false from k]
    · simp [show s.powered = true from k]

/-- Settles O7: the one end that may change the arrays is OTP_PROG_DONE's, in FULL and with an operation under way. -/
theorem onlyProgrammingChangesTheOtp : Obligations.OnlyProgrammingChangesTheOtp := by
  unfold Obligations.OnlyProgrammingChangesTheOtp
  intro s t e h
  rcases step_cases s with ⟨-, i⟩ | ⟨c, rest, hq, ends⟩
  · rw [i] at e
    cases e
    exact ⟨rfl, rfl⟩
  · rcases ends.otpKept e with k | ⟨pulses, a, b, op, hc, ho, hf, -⟩
    · exact k
    · have ho : s.otpOp = some op := ho
      have hf : s.full = true := hf
      rw [hq, hc, ho, hf] at h
      simp at h

end
section
/-! PROOF. The state after reset (R46, R60, R61, R63, R33). -/

namespace Sys2Proof.Machine

/-- The pages of a kind, first and last (*Page map*, R27). -/
def kindPages (k : PageKind) : Nat × Nat :=
  match k with
  | .chip => (0x000, 0x000)
  | .clock => (0x001, 0x001)
  | .transit => (0x002, 0x002)
  | .host => (0x003, 0x003)
  | .stream => (0x004, 0x004)
  | .twowire => (0x005, 0x005)
  | .fault => (0x006, 0x006)
  | .changelog => (0x007, 0x007)
  | .rtc => (0x008, 0x008)
  | .timer => (0x009, 0x009)
  | .otp => (0x00A, 0x00A)
  | .granary => (0x00B, 0x00B)
  | .hkseq => (0x00C, 0x00C)
  | .hkrail => (0x00D, 0x00D)
  | .backup => (0x00E, 0x00E)
  | .gauge => (0x00F, 0x00F)
  | .commons => (0x010, 0x010)
  | .ledger => (0x011, 0x011)
  | .estim => (0x012, 0x012)
  | .engctl => (0x013, 0x013)
  | .bank => (0x020, 0x027)
  | .chan => (0x040, 0x05F)
  | .phase => (0x080, 0x0BF)
  | .eng => (0x100, 0x10B)
  | .recipe => (0x200, 0x27F)
  | .result => (0x300, 0x31F)
  | .header => (1, 0)

theorem ite_eq_some {α : Type} {c : Prop} [Decidable c] {a b : α} {x : Option α} (h : (if c then some a else x) = some b) :
    (c ∧ a = b) ∨ x = some b := by
  split at h
  · exact .inl ⟨‹c›, Option.some_inj.mp h⟩
  · exact .inr h

/-- A page lies among the pages of its kind. -/
theorem pageKind_pages {page : Nat} {k : PageKind} (h : pageKind page = some k) :
    (kindPages k).1 ≤ page ∧ page ≤ (kindPages k).2 := by
  unfold pageKind at h
  iterate 20
    rcases ite_eq_some h with ⟨rfl, rfl⟩ | h
    · exact ⟨le_rfl, le_rfl⟩
  iterate 6
    rcases ite_eq_some h with ⟨between, rfl⟩ | h
    · exact between
  cases h

/-- LOCK resets to locked on the OTP and BANK pages, to unlocked on every other page that carries it (R33). -/
theorem resetNat_lock {page : Nat} {k : PageKind} (hk : pageKind page = some k) :
    resetNat page 0x020 = if k = .otp ∨ k = .bank then 0x100 else 0 := by
  unfold resetNat
  rw [hk]
  cases k <;> rfl

theorem pageKind_otp {page : Nat} : pageKind page = some .otp ↔ page = Pg.OTP := by
  constructor
  · intro h
    have := pageKind_pages h
    exact Nat.le_antisymm this.2 this.1
  · rintro rfl
    rfl

theorem rd_reset {a : Nat} (h : a ≠ 0x1844) (h' : a ≠ 0x3C58) : State.reset.rd a = resetWord a := by
  rw [State.rd, State.reset, Table.get, if_neg h.symm, Table.get, if_neg h'.symm, Table.get]

theorem lockState_reset {page : Nat} {k : PageKind} (hk : pageKind page = some k) :
    lockState State.reset page = if page = Pg.OTP ∨ pageKind page = some .bank then 1 else 0 := by
  have addr : addrOf page Reg.HEADER.LOCK_STATE = page * 0x400 + 0x020 := rfl
  have word : State.reset.rd (page * 0x400 + 0x020) = BitVec.ofNat 32 (if k = .otp ∨ k = .bank then 0x100 else 0) := by
    rw [rd_reset (by omega) (by omega), resetWord, ← resetNat_lock hk, pageAddr_div page (by decide), pageAddr_mod page (by decide)]
  have otp : page = Pg.OTP ↔ k = .otp := by rw [← pageKind_otp, hk, Option.some_inj]
  rw [lockState, State.get, addr, word]
  simp only [otp, hk, Option.some_inj]
  split <;> rfl

end Sys2Proof.Machine

open Sys2Proof Sys2Proof.Machine

/-- Settles O4: LOCK by the kinds of pages, the rest by evaluation of the one state. -/
theorem resetState : Obligations.ResetState := by
  unfold Obligations.ResetState
  refine ⟨rfl, by decide, rfl, by decide, by decide, by decide, by decide, ?_, rfl, rfl, rfl, by decide⟩
  intro p _ _ hasLock
  obtain ⟨k, hk⟩ : ∃ k, pageKind p = some k := by
    cases h : pageKind p with
    | none => simp [fieldsAt, h] at hasLock
    | some k => exact ⟨k, rfl⟩
  exact lockState_reset hk

end
section
/-! PROOF. Direct register writes (R26, R30 to R37): when a write comes to the rules of its page, which word it stores, and what
its entry leaves as it was. -/

namespace Sys2Proof.Machine

variable {s t u : State} {k : PageKind} {page off v o : Nat} {w : Wr} {fs : List FieldDef} {f : Fld}

/-! ### The register -/

/-- The fields of the register at an offset of a kind of page. -/
def kindFields (k : PageKind) (off : Nat) : List FieldDef := ((regAt k off).map RegDef.fields).getD []

theorem fieldsAt_of_kind (hk : pageKind page = some k) (off : Nat) : fieldsAt page off = kindFields k off := by
  simp only [fieldsAt, hk, kindFields]
  cases regAt k off <;> rfl

/-- The write of `v` by the origin code `o` at an offset of a page of kind `k`, as its rules see it. -/
def wrAt (s : State) (o : Nat) (k : PageKind) (page off v : Nat) : Wr :=
  ⟨o, page, k, off, (s.rd (page * 0x400 + off)).toNat,
    settled k page off (s.rd (page * 0x400 + off)).toNat (storedWord (kindFields k off) (s.rd (page * 0x400 + off)).toNat v),
    woBits (kindFields k off) v, v⟩

@[simp] theorem wrAt_o : (wrAt s o k page off v).o = o := rfl
@[simp] theorem wrAt_page : (wrAt s o k page off v).page = page := rfl
@[simp] theorem wrAt_kind : (wrAt s o k page off v).kind = k := rfl
@[simp] theorem wrAt_off : (wrAt s o k page off v).off = off := rfl
@[simp] theorem wrAt_old : (wrAt s o k page off v).old = (s.rd (page * 0x400 + off)).toNat := rfl
@[simp] theorem wrAt_wo : (wrAt s o k page off v).wo = woBits (kindFields k off) v := rfl
@[simp] theorem wrAt_v : (wrAt s o k page off v).v = v := rfl
@[simp] theorem wrAt_is : (wrAt s o k page off v).is f = decide (off = f.off) := rfl
@[simp] theorem wrAt_within {n : Nat} : (wrAt s o k page off v).within f n =
    (decide (f.off ≤ off) && decide ((off - f.off) % f.stride = 0) && decide ((off - f.off) / f.stride < n)) := rfl
@[simp] theorem wrAt_ix : (wrAt s o k page off v).ix f = (off - f.off) / f.stride := rfl
@[simp] theorem wrAt_cmd : (wrAt s o k page off v).cmd f = bitsOf (woBits (kindFields k off) v) f.hi f.lo := rfl
@[simp] theorem wrAt_was : (wrAt s o k page off v).was f = bitsOf (s.rd (page * 0x400 + off)).toNat f.hi f.lo := rfl

theorem mkWr_eq (hk : pageKind page = some k) (h : off < 0x400) (o v : Nat) :
    mkWr s o k (page * 0x400 + off) v = wrAt s o k page off v := by
  simp only [mkWr, wrAt, pageAddr_div page h, pageAddr_mod page h, fieldsAt_of_kind hk]

/-- A write that comes to the rights of its page: the register is there, it is not LOCK and not read-only, and the write breaks no
key sequence. -/
structure Comes (s : State) (o : Nat) (k : PageKind) (page off v : Nat) : Prop where
  kind : pageKind page = some k
  notRecipe : k ≠ .recipe
  inPage : off < 0x400
  word : v < 2 ^ 32
  reach : reachable s (page * 0x400 + off) = true
  notLock : off ≠ 0x020
  writable : readOnly k page off (kindFields k off) = false
  test : k = .fault → keySeq s testSeq = none
  unlock : o = Org.HOST → keySeq s page = none

theorem Comes.breaksTest (h : Comes s o k page off v) : breaksTest s (wrAt s o k page off v) = false := by
  by_cases hk : k = .fault
  · simp [Machine.breaksTest, h.test hk]
  · simp [Machine.breaksTest, hk]

theorem Comes.breaksUnlock (h : Comes s o k page off v) : breaksUnlock s (wrAt s o k page off v) = false := by
  by_cases ho : o = Org.HOST
  · simp [Machine.breaksUnlock, h.unlock ho]
  · simp [Machine.breaksUnlock, ho]

/-- Such a write comes to the rights of its page. -/
theorem Comes.writeCore (h : Comes s o k page off v) (cmd : Bool) :
    writeCore s o cmd (page * 0x400 + off) v = rightsWrite s cmd (kindFields k off) (wrAt s o k page off v) := by
  have hp := pageAddr_div page h.inPage
  have ho := pageAddr_mod page h.inPage
  have hkind := h.kind
  have reads : readOnly k (wrAt s o k page off v).page (wrAt s o k page off v).off (kindFields k off) = false := h.writable
  have lock : (wrAt s o k page off v).off ≠ 0x020 := h.notLock
  unfold Machine.writeCore
  have write := mkWr_eq (s := s) hkind h.inPage o v
  have test := h.breaksTest
  have unlock := h.breaksUnlock
  have notRecipe := h.notRecipe
  simp only [Nat.mod_eq_of_lt h.word, h.reach, hp, ho, hkind, fieldsAt_of_kind hkind]
  cases k <;> simp_all

theorem Comes.writeReg (h : Comes s o k page off v) :
    writeReg s o (page * 0x400 + off) v = rightsWrite s false (kindFields k off) (wrAt s o k page off v) := h.writeCore false

/-! ### Rights, locks and rules -/

theorem mayWrite_host (s : State) (page : Nat) : mayWrite s Org.HOST page = true := by
  rw [mayWrite, if_pos (.inl rfl)]

theorem rightsWrite_rules {cmd : Bool} (right : cmd = true ∨ mayWrite s w.o w.page = true) (lock : lockRefuses s fs w = false)
    (fault : faultCommand w = false) : rightsWrite s cmd fs w = rulesWrite s fs w := by
  have refused : (!cmd && !mayWrite s w.o w.page) = false := by
    rcases right with h | h <;> simp [h]
  simp only [rightsWrite, refused, lock, fault, Bool.false_eq_true, if_false]

theorem rulesWrite_take (rule : rulePage s w = .take) (ranges : rangesOk fs w.new = true)
    (acts : ¬ (w.new = w.old ∧ w.wo = 0 ∧ actsUnchanged w.kind w.off = false)) :
    rulesWrite s fs w = (acceptWrite s fs w, .ok) := by
  simp only [rulesWrite, rule, ranges, acts, Bool.not_true, Bool.false_eq_true, if_false]

theorem rulesWrite_same (rule : rulePage s w = .take) (ranges : rangesOk fs w.new = true)
    (acts : w.new = w.old ∧ w.wo = 0 ∧ actsUnchanged w.kind w.off = false) : rulesWrite s fs w = (s, .same) := by
  simp only [rulesWrite, rule, ranges, Bool.not_true, Bool.false_eq_true, if_false]
  rw [if_pos acts]

theorem lockRefuses_of_no_rwl (h : fs.all (fun f => decide (f.acc ≠ .rwl)) = true) (plain : factoryField w.kind w.off = false) :
    lockRefuses s fs w = false := by
  have none : changesRwl fs w = false := by
    rw [changesRwl, List.any_eq_false]
    intro f hf
    have := List.all_eq_true.mp h f hf
    simp_all
  simp [lockRefuses, plain, none]

theorem lockRefuses_of_unlocked (h : lockState s w.page = 0) (plain : factoryField w.kind w.off = false) :
    lockRefuses s fs w = false := by
  simp [lockRefuses, plain, h]

/-! ### The entry -/

/-- What an entry made with room in the log writes of the CHANGELOG page: HEAD, TOTAL and the event of a half-full ring. -/
def logFields : List (Nat × Fld) :=
  [(Pg.CHANGELOG, Reg.CHANGELOG.HEAD_HEAD), (Pg.CHANGELOG, Reg.CHANGELOG.TOTAL), (Pg.CHANGELOG, ⟨0x008, 2, 2, 0⟩)]

theorem logFields_inLog : ∀ e ∈ logFields, addrOf e.1 e.2 / 0x400 ∈ [Pg.CHANGELOG] := by decide

theorem onlyBits_logRing {e : LogEntry} (h : s.log.fill < 1024) : onlyBits s (logRing s e) logFields [] := by
  have stored : onlyBits s (logStore s e) logFields [] :=
    onlyBits.put ((onlyBits.refl s).regs rfl) (covers_of_mem (.head _) rfl (by decide) le_rfl le_rfl)
  unfold logRing
  rw [if_pos h]
  exact .ite (onlyBits.event (stored.regs rfl) (covers_of_mem (.tail _ (.tail _ (.head _))) rfl (by decide) le_rfl le_rfl))
    (stored.regs rfl)

/-- With room for an entry, a persistent one is collected. -/
theorem collects_of_room (room : logRoom s 1) (x : LogEntry) :
    ((logRing s x).bumpWrap Pg.CHANGELOG Reg.CHANGELOG.TOTAL).log.persist.length +
      (if ((logRing s x).bumpWrap Pg.CHANGELOG Reg.CHANGELOG.TOTAL).log.waiting.isSome then 20 else 0) < 40 := by
  obtain ⟨-, hfill, hpersist⟩ := room
  obtain ⟨-, hp, hw, -⟩ := logRing_room (s := s) (e := x) (by omega)
  simp only [State.bumpWrap_rest, hp, hw]
  omega

theorem onlyBits_addEntry {off old new : Nat} {e : LogFlags} (room : logRoom s 1) :
    onlyBits s (addEntry s o page off old new e) logFields [] := by
  have counted (x : LogEntry) : onlyBits s ((logRing s x).bumpWrap Pg.CHANGELOG Reg.CHANGELOG.TOTAL) logFields [] :=
    (onlyBits_logRing (by have := room.2.1; omega)).bumpWrap (covers_of_mem (.tail _ (.head _)) rfl (by decide) le_rfl le_rfl)
  unfold addEntry
  dsimp only
  split
  · unfold collect
    rw [if_pos (collects_of_room room _)]
    exact (counted _).regs rfl
  · exact counted _

theorem fill_addEntry {off old new : Nat} {e : LogFlags} (room : logRoom s 1) :
    (addEntry s o page off old new e).log.fill = s.log.fill + 1 := by
  have ring (x : LogEntry) : (logRing s x).log.fill = s.log.fill + 1 := (logRing_room (by have := room.2.1; omega)).1
  unfold addEntry
  dsimp only
  split
  · unfold collect
    rw [if_pos (collects_of_room room _)]
    simp only [State.bumpWrap_rest, ring]
  · simp only [State.bumpWrap_rest, ring]

/-- What an entry for an accepted write leaves: the log, its CHANGELOG registers and the page's CHANGE_SEQ alone are written. -/
structure Logged (s u : State) (page : Nat) : Prop where
  fields : onlyBits s u (changeSeq page :: logFields) []
  rest : onlyLogged s u
  room : logRoom u 0

theorem onlyBits.weaken {l m : List (Nat × Fld)} {ps qs : List Nat} (h : onlyBits s t l ps) (hl : l ⊆ m) (hp : ps ⊆ qs) :
    onlyBits s t m qs := by
  intro a b x y
  have hx : ps.contains (a / 0x400) = false := by
    simp only [List.contains_eq_mem, decide_eq_false_iff_not] at x ⊢
    exact fun c => x (hp c)
  exact h.mono hl a b hx y

/-- Does a list of fields leave a field's register, or at least its bits, alone? -/
def apart (l : List (Nat × Fld)) (p : Nat) (f : Fld) : Bool :=
  l.all (fun e => decide (addrOf e.1 e.2 ≠ addrOf p f ∨ e.2.hi < f.lo ∨ f.hi < e.2.lo))

theorem holdsBit_of_apart {l : List (Nat × Fld)} {p j : Nat} (h : apart l p f = true) (lo : f.lo ≤ j) (hi : j ≤ f.hi) :
    holdsBit l (addrOf p f) j = false := by
  rw [holdsBit, List.any_eq_false]
  intro e he
  have clear := List.all_eq_true.mp h e he
  simp only [decide_eq_true_eq] at clear ⊢
  rintro ⟨ha, hl, hh⟩
  rcases clear with c | c | c
  · exact c ha.symm
  · omega
  · omega

theorem bitsOf_congr {x y hi lo : Nat} (h : ∀ j, lo ≤ j → j ≤ hi → bitOf x j = bitOf y j) (hl : lo ≤ hi) :
    bitsOf x hi lo = bitsOf y hi lo := by
  apply Nat.eq_of_testBit_eq
  intro i
  simp only [bitsOf, Nat.testBit_mod_two_pow, Nat.testBit_div_two_pow]
  by_cases hi' : i < hi - lo + 1
  · have bit := h (lo + i) (by omega) (by omega)
    simp only [bitOf, ← Nat.testBit_eq_decide_div_mod_eq] at bit
    rw [Nat.add_comm i lo, bit]
  · simp [hi']

/-- A field that a list of written fields leaves alone reads as before. -/
theorem onlyBits.get_apart {l : List (Nat × Fld)} {ps : List Nat} {p : Nat} (h : onlyBits s t l ps) (ho : f.off < 0x400)
    (hp : p ∉ ps) (hl : apart l p f = true) (hf : f.lo ≤ f.hi) : t.get p f = s.get p f := by
  refine bitsOf_congr (fun j lo hi => ?_) hf
  refine h (addrOf p f) j ?_ (holdsBit_of_apart hl lo hi)
  have here : addrOf p f / 0x400 = p := by simp only [addrOf]; omega
  simpa [here] using hp

theorem onlyBits.flag_apart {l : List (Nat × Fld)} {ps : List Nat} {p : Nat} (h : onlyBits s t l ps) (ho : f.off < 0x400)
    (hp : p ∉ ps) (hl : apart l p f = true) (hf : f.lo ≤ f.hi) : t.flag p f = s.flag p f := by
  rw [State.flag, h.get_apart ho hp hl hf]
  rfl

/-- A register that no written field lies in reads as before. -/
theorem onlyBits.rd_apart {l : List (Nat × Fld)} {ps : List Nat} {a : Nat} (h : onlyBits s t l ps) (hp : a / 0x400 ∉ ps)
    (hl : l.all (fun e => decide (addrOf e.1 e.2 ≠ a)) = true) : t.rd a = s.rd a := by
  apply BitVec.eq_of_toNat_eq
  apply Nat.eq_of_testBit_eq
  intro j
  have bit := h a j (by simpa using hp) (by
    rw [holdsBit, List.any_eq_false]
    intro e he
    have clear := List.all_eq_true.mp hl e he
    simp only [decide_eq_true_eq] at clear ⊢
    exact fun c => clear c.1.symm)
  simpa only [bitOf, ← Nat.testBit_eq_decide_div_mod_eq] using bit

/-- Listed fields of a page that is listed whole need no naming. -/
theorem onlyBits.ofPages {l m : List (Nat × Fld)} {ps qs : List Nat} (h : onlyBits s t l ps) (hp : ps ⊆ qs)
    (hl : ∀ e ∈ l, e ∈ m ∨ addrOf e.1 e.2 / 0x400 ∈ qs) : onlyBits s t m qs := by
  intro a b x y
  simp only [List.contains_eq_mem, decide_eq_false_iff_not] at x
  refine h a b ?_ ?_
  · simpa using fun c => x (hp c)
  · simp only [holdsBit, List.any_eq_false, decide_eq_true_eq] at y ⊢
    intro e he ⟨ea, ec⟩
    rcases hl e he with hm | hq
    · exact y e hm ⟨ea, ec⟩
    · exact x (ea ▸ hq)

theorem Logged.bits (h : Logged s u page) : onlyBits s u [changeSeq page] [Pg.CHANGELOG] := by
  refine h.fields.ofPages (List.nil_subset _) fun e he => ?_
  rcases List.mem_cons.mp he with rfl | he
  · exact .inl (.head _)
  · exact .inr (logFields_inLog e he)

theorem onlyBits.bumpSeq {l : List (Nat × Fld)} {ps : List Nat} (h : onlyBits s t l ps) (m : changeSeq page ∈ l) :
    onlyBits s (t.bumpWrap page Reg.HEADER.CHANGE_SEQ) l ps :=
  h.bumpWrap (covers_of_mem m rfl (by decide) le_rfl le_rfl)

theorem logged_addEntry {off old new : Nat} {e : LogFlags} (room : logRoom s 1) :
    Logged s ((addEntry s o page off old new e).bumpWrap page Reg.HEADER.CHANGE_SEQ) page := by
  have added : logRoom (addEntry s o page off old new e) 0 := room.addEntry
  have fields := (onlyBits_addEntry (o := o) (page := page) (off := off) (old := old) (new := new) (e := e) room).mono
    (List.subset_cons_self (changeSeq page) _)
  exact ⟨fields.bumpSeq (.head _), (onlyLogged_addEntry room).bumpWrap, added.same (by simp) (by simp)⟩

theorem Logged.refl (room : logRoom s 0) : Logged s s page := ⟨onlyBits.refl s, rfl, room⟩

theorem logged_logChange {off old new : Nat} (room : logRoom s 1) : Logged s (logChange s o page off old new) page :=
  logged_addEntry room

theorem logged_logPersist {off old new : Nat} (room : logRoom s 1) : Logged s (logPersist s o page off old new) page :=
  logged_addEntry room

theorem fill_logChange {off old new : Nat} (room : logRoom s 1) :
    (logChange s o page off old new).log.fill = s.log.fill + 1 := by
  simp only [logChange, State.bumpWrap_rest, fill_addEntry room]

theorem fill_logPersist {off old new : Nat} (room : logRoom s 1) :
    (logPersist s o page off old new).log.fill = s.log.fill + 1 := by
  simp only [logPersist, State.bumpWrap_rest, fill_addEntry room]

theorem entryOf_none {before : Nat} (h : makesEntry fs w = false) : entryOf s fs w before = s := by
  simp only [entryOf, h, Bool.false_eq_true, if_false]

theorem logged_entryOf (room : logRoom s 1) (before : Nat) : Logged s (entryOf s fs w before) w.page := by
  unfold entryOf
  split
  · dsimp only
    split <;> split
    · exact logged_logPersist room
    · exact logged_logChange room
    · exact logged_logPersist room
    · exact logged_logChange room
  · exact .refl (room.mono (by omega))

theorem fill_entryOf (room : logRoom s 1) (h : makesEntry fs w = true) (before : Nat) :
    (entryOf s fs w before).log.fill = s.log.fill + 1 := by
  unfold entryOf
  rw [if_pos h]
  dsimp only
  split <;> split
  · exact fill_logPersist room
  · exact fill_logChange room
  · exact fill_logPersist room
  · exact fill_logChange room

/-- Another register than CHANGE_SEQ and those of the log reads as before the entry. -/
theorem Logged.get_of (h : Logged s u page) {p : Nat} {f : Fld} (hl : ∀ k, holdsBit (changeSeq page :: logFields) (addrOf p f) k = false) :
    u.get p f = s.get p f := h.fields.get rfl hl

theorem Logged.get (h : Logged s u page) {p : Nat} {f : Fld} (ho : f.off < 0x400) (hp : p ≠ Pg.CHANGELOG) (hs : f.off ≠ 0x024) :
    u.get p f = s.get p f := by
  refine h.get_of fun k => ?_
  have apart : addrOf p f ≠ addrOf page Reg.HEADER.CHANGE_SEQ := by simp only [addrOf]; omega
  have log (g : Fld) (hg : g.off < 0x400) : addrOf p f ≠ addrOf Pg.CHANGELOG g := by
    simp only [addrOf] at hp ⊢
    omega
  simp [holdsBit, logFields, apart, log]

theorem Logged.flag (h : Logged s u page) {p : Nat} {f : Fld} (ho : f.off < 0x400) (hp : p ≠ Pg.CHANGELOG) (hs : f.off ≠ 0x024) :
    u.flag p f = s.flag p f := by rw [State.flag, h.get ho hp hs]; rfl

theorem Logged.of_rewritten (a : Nat) (h : Logged (rewritten s a) u page) : Logged s u page :=
  ⟨((onlyBits_rewritten s a).weaken (List.nil_subset _) (List.nil_subset _)).trans h.fields,
    onlyLogged.trans (t := rewritten s a) rfl h.rest, h.room⟩

theorem onlyRegs.clock (h : onlyRegs s t) : t.clock = s.clock := h.field State.clock

theorem onlyRegs.svc (h : onlyRegs s t) : t.svc = s.svc := h.field State.svc

theorem onlyRegs.held (h : onlyRegs s t) : t.held = s.held := h.field State.held

theorem onlyRegs.powered (h : onlyRegs s t) : t.powered = s.powered := h.field State.powered

theorem onlyRegs.sameOuter (h : onlyRegs s t) : sameOuter s t :=
  ⟨h.field State.pending, h.field State.powered, h.field State.otpA, h.field State.otpB⟩

theorem onlyRegs.room {n : Nat} (h : onlyRegs s t) (room : logRoom s n) : logRoom t n :=
  room.same (h.field State.log) (congrArg FaultState.logPending (h.field State.fault))

theorem onlyRegs.trans (h : onlyRegs s t) (k : onlyRegs t u) : onlyRegs s u :=
  (congrArg (fun x : State => { x with regs := s.regs }) k).trans h

theorem onlyLogged.put {p x : Nat} {f : Fld} (h : onlyLogged s t) : onlyLogged s (t.put p f x) := h

theorem onlyLogged.putb {p : Nat} {f : Fld} {b : Bool} (h : onlyLogged s t) : onlyLogged s (t.putb p f b) := h

theorem logRoom.put {n p x : Nat} {f : Fld} (h : logRoom t n) : logRoom (t.put p f x) n := h

theorem logRoom.putb {n p : Nat} {f : Fld} {b : Bool} (h : logRoom t n) : logRoom (t.putb p f b) n := h

/-! ### Refusals -/

/-- A refusal for one reason sets its event and makes its entry, and nothing else. -/
structure Refused (s t : State) (page bit : Nat) : Prop where
  fields : onlyBits s t ((page, ⟨0x008, bit, bit, 0⟩) :: logFields) []
  event : 3 ≤ bit → bit < 32 → t.get page ⟨0x008, bit, bit, 0⟩ = 1
  fill : t.log.fill = s.log.fill + 1
  rest : onlyLogged s t
  room : logRoom t 0

theorem Refused.bits {bit : Nat} (h : Refused s t page bit) : onlyBits s t [(page, ⟨0x008, bit, bit, 0⟩)] [Pg.CHANGELOG] := by
  refine h.fields.ofPages (List.nil_subset _) fun e he => ?_
  rcases List.mem_cons.mp he with rfl | he
  · exact .inl (.head _)
  · exact .inr (logFields_inLog e he)

theorem holdsBit_logFields_event {bit : Nat} (h : 3 ≤ bit) (page : Nat) (g : Fld) (hg : g = ⟨0x008, bit, bit, 0⟩) :
    holdsBit logFields (addrOf page g) bit = false := by
  subst hg
  have : ¬ (addrOf page ⟨0x008, bit, bit, 0⟩ = addrOf Pg.CHANGELOG Reg.CHANGELOG.HEAD_HEAD) := by simp [addrOf]; omega
  have : ¬ (addrOf page ⟨0x008, bit, bit, 0⟩ = addrOf Pg.CHANGELOG Reg.CHANGELOG.TOTAL) := by simp [addrOf]; omega
  simp_all [holdsBit, logFields]
  omega

theorem refused_logReject {bit off old new : Nat} (room : logRoom s 1) (hb : bit < 32) :
    Refused s (logReject (s.event page bit) o page off old new) page bit := by
  have room' : logRoom (s.event page bit) 1 := room.same (by simp) (by simp)
  have set : onlyBits s (s.event page bit) ((page, ⟨0x008, bit, bit, 0⟩) :: logFields) [] :=
    (onlyBits.refl s).event (covers_of_mem (.head _) rfl ⟨le_rfl, hb⟩ le_rfl le_rfl)
  have entry : onlyBits (s.event page bit) (logReject (s.event page bit) o page off old new) logFields [] :=
    onlyBits_addEntry room'
  refine ⟨set.trans (entry.mono (List.subset_cons_self _ _)), fun h _ => ?_, ?_, ?_, room'.addEntry⟩
  · have kept := entry (addrOf page ⟨0x008, bit, bit, 0⟩) bit rfl (holdsBit_logFields_event h page _ rfl)
    have one : (s.event page bit).get page ⟨0x008, bit, bit, 0⟩ = 1 := by
      rw [State.event, State.get_put_same _ _ _ _ le_rfl hb]
      simp [Fld.width]
    rw [bitOf_bitsOf, bitOf_bitsOf] at kept
    simpa [State.get] using kept.trans (decide_eq_true one)
  · rw [logReject, fill_addEntry room']
    simp
  · exact onlyLogged.trans (t := s.event page bit) rfl (onlyLogged_addEntry room')

theorem refused_refuseAll {bit : Nat} (room : logRoom s 1) (hb : bit < 32) : Refused s (refuseAll s w [bit]) w.page bit :=
  refused_logReject room hb

/-! ### What is stored -/

/-- Does a register take its word at once and as it is written: none that is held for a boundary or a common start, that lies in
the Granary window, or whose value is settled (R92, R341, R378, R446)? -/
def plainReg (k : PageKind) (off : Nat) : Bool :=
  !takesBoundary k off && !takesCommonStart k off && !(decide (k = .granary) && decide (0x200 ≤ off)) &&
    !decide (0x014 ≤ off ∧ off ≤ 0x01C) &&
    (match k with
      | .chip => decide (off ≠ 0x050)
      | .transit => decide (off ≠ 0x044)
      | .phase => false
      | _ => true)

theorem settled_plain (h : plainReg k off = true) (old new : Nat) : settled k page off old new = new := by
  simp only [plainReg, Bool.and_eq_true, Bool.not_eq_true', decide_eq_false_iff_not] at h
  obtain ⟨⟨-, map⟩, kind⟩ := h
  unfold settled
  rw [if_neg map]
  cases k <;> simp_all

theorem storeWord_plain (h : plainReg w.kind w.off = true) :
    storeWord s w = s.wr (w.page * 0x400 + w.off) (BitVec.ofNat 32 w.new) := by
  simp only [plainReg, Bool.and_eq_true, Bool.not_eq_true', Bool.and_eq_false_iff, decide_eq_false_iff_not] at h
  obtain ⟨⟨⟨⟨boundary, start⟩, window⟩, -⟩, -⟩ := h
  have window : ¬ (w.kind = .granary ∧ 0x200 ≤ w.off) := by tauto
  simp [storeWord, window, boundary, start]

theorem acceptWrite_entry_first (h : w.wo = 0 ∨ allWo fs = true) :
    acceptWrite s fs w = actPageWrite (entryOf (storeWord s w) fs w (liveWord s (w.page * 0x400 + w.off))) w := if_pos h

theorem acceptWrite_act_first (h : w.wo ≠ 0) (mixed : allWo fs = false) :
    acceptWrite s fs w = entryOf (actPageWrite (storeWord s w) w) fs w (liveWord s (w.page * 0x400 + w.off)) :=
  if_neg (by simp [h, mixed])

/-! ### Command registers -/

/-- Is the register one of the host's commands: outside the recipe windows and the FAULT and PHASE pages, of write-only fields, and
taken at once? -/
def commandReg (k : PageKind) (off : Nat) : Bool :=
  decide (k ≠ .recipe ∧ k ≠ .fault ∧ k ≠ .phase ∧ off < 0x400 ∧ off ≠ 0x020) && plainReg k off && allWo (kindFields k off) &&
    !(kindFields k off).isEmpty && decide (k ≠ .otp ∧ k ≠ .hkrail) && !factoryField k off

theorem storedWord_allWo (h : allWo fs = true) (old v : Nat) : storedWord fs old v = old := by
  unfold storedWord
  induction fs with
  | nil => rfl
  | cons f fs ih =>
    simp only [allWo, List.all_cons, Bool.and_eq_true, decide_eq_true_eq] at h
    simp only [List.foldl_cons, h.1]
    exact ih h.2

/-- A command register keeps its word. -/
theorem wrAt_new_command (plain : plainReg k off = true) (wo : allWo (kindFields k off) = true) :
    (wrAt s o k page off v).new = (wrAt s o k page off v).old := by
  simp only [wrAt, settled_plain plain, storedWord_allWo wo]

theorem rangesOk_allWo (h : allWo fs = true) (x : Nat) : rangesOk fs x = true := by
  rw [rangesOk, List.all_eq_true]
  intro f hf
  have acc := List.all_eq_true.mp h f hf
  simp only [decide_eq_true_eq] at acc
  cases f.rng <;> simp [acc]

theorem readOnly_of_allWo (h : allWo fs = true) (some : fs.isEmpty = false) (hk : k ≠ .hkrail) (hp : k ≠ .phase) :
    readOnly k page off fs = false := by
  cases fs with
  | nil => simp at some
  | cons f fs =>
    simp only [allWo, List.all_cons, Bool.and_eq_true, decide_eq_true_eq] at h
    simp [readOnly, h.1, hk, hp]

theorem comes_command (hk : pageKind page = some k) (reg : commandReg k off = true)
    (reach : reachable s (page * 0x400 + off) = true) (keys : o = Org.HOST → keySeq s page = none) (hv : v < 2 ^ 32) :
    Comes s o k page off v := by
  simp only [commandReg, Bool.and_eq_true, decide_eq_true_eq, Bool.not_eq_true'] at reg
  obtain ⟨⟨⟨⟨⟨⟨recipe, fault, phase, inPage, lock⟩, plain⟩, wo⟩, some⟩, -, hkrail⟩, -⟩ := reg
  exact ⟨hk, recipe, inPage, hv, reach, lock, readOnly_of_allWo wo some hkrail phase, fun h => absurd h fault, keys⟩

/-- The state after a command's register is written with its own word and its entry made, before the command is done. -/
def entered (s : State) (o : Nat) (k : PageKind) (page off v : Nat) : State :=
  entryOf (rewritten s (page * 0x400 + off)) (kindFields k off) (wrAt s o k page off v) (liveWord s (page * 0x400 + off))

theorem logRoom.rewritten {n : Nat} (h : logRoom s n) (a : Nat) : logRoom (rewritten s a) n := h.same rfl rfl

theorem logged_entered (room : logRoom s 1) : Logged s (entered s o k page off v) page :=
  Logged.of_rewritten (page * 0x400 + off) (logged_entryOf (w := wrAt s o k page off v) (room.rewritten _) _)

theorem fill_entered (room : logRoom s 1) (h : makesEntry (kindFields k off) (wrAt s o k page off v) = true) :
    (entered s o k page off v).log.fill = s.log.fill + 1 := fill_entryOf (room.rewritten _) h _

theorem entered_none (h : makesEntry (kindFields k off) (wrAt s o k page off v) = false) :
    entered s o k page off v = rewritten s (page * 0x400 + off) := entryOf_none h

/-- A command that its page's rules take: the register is written with its own word, the entry made, the command done. -/
theorem writeReg_command (hk : pageKind page = some k) (reg : commandReg k off = true)
    (reach : reachable s (page * 0x400 + off) = true) (keys : o = Org.HOST → keySeq s page = none) (hv : v < 2 ^ 32)
    (right : mayWrite s o page = true) (rule : rulePage s (wrAt s o k page off v) = .take)
    (acts : woBits (kindFields k off) v ≠ 0 ∨ actsUnchanged k off = true) :
    Machine.writeReg s o (page * 0x400 + off) v =
      (actPageWrite (entered s o k page off v) (wrAt s o k page off v), .ok) := by
  have comes := comes_command hk reg reach keys hv
  simp only [commandReg, Bool.and_eq_true, decide_eq_true_eq, Bool.not_eq_true'] at reg
  obtain ⟨⟨⟨⟨⟨⟨recipe, fault, -⟩, plain⟩, wo⟩, -⟩, -⟩, factory⟩ := reg
  have same := wrAt_new_command (s := s) (o := o) (page := page) (v := v) plain wo
  have unlocked : lockRefuses s (kindFields k off) (wrAt s o k page off v) = false := by
    refine lockRefuses_of_no_rwl (List.all_eq_true.mpr fun f hf => ?_) factory
    have acc := List.all_eq_true.mp wo f hf
    simp only [decide_eq_true_eq] at acc
    simp [acc]
  have notFault : faultCommand (wrAt s o k page off v) = false := by simp [faultCommand, fault]
  have stored : storeWord s (wrAt s o k page off v) = rewritten s (page * 0x400 + off) := by
    rw [storeWord_plain plain, same]
    exact congrArg (s.wr _) (by simp [wrAt])
  rw [comes.writeReg, rightsWrite_rules (.inr right) unlocked notFault,
    rulesWrite_take rule (rangesOk_allWo wo _) (by rintro ⟨-, hwo, ha⟩; exact acts.elim (· hwo) (by simp_all [wrAt])),
    acceptWrite_entry_first (.inr wo), stored]
  rfl

/-! ### Stored fields -/

/-- A write that its page's rules take and that changes its register: the word, its entry, its effect. -/
theorem Comes.store (h : Comes s o k page off v) (right : mayWrite s o page = true)
    (lock : lockRefuses s (kindFields k off) (wrAt s o k page off v) = false) (fault : k ≠ .fault)
    (rule : rulePage s (wrAt s o k page off v) = .take) (ranges : rangesOk (kindFields k off) (wrAt s o k page off v).new = true)
    (acts : (wrAt s o k page off v).new = (s.rd (page * 0x400 + off)).toNat → woBits (kindFields k off) v = 0 →
      actsUnchanged k off = true) :
    Machine.writeReg s o (page * 0x400 + off) v = (acceptWrite s (kindFields k off) (wrAt s o k page off v), .ok) := by
  have notFault : faultCommand (wrAt s o k page off v) = false := by simp [faultCommand, fault]
  rw [h.writeReg, rightsWrite_rules (.inr right) lock notFault, rulesWrite_take rule ranges]
  rintro ⟨same, wo, none⟩
  simp [acts same wo] at none

/-- A write that its page's rules take and that changes nothing. -/
theorem Comes.same (h : Comes s o k page off v) (right : mayWrite s o page = true)
    (lock : lockRefuses s (kindFields k off) (wrAt s o k page off v) = false) (fault : k ≠ .fault)
    (rule : rulePage s (wrAt s o k page off v) = .take) (ranges : rangesOk (kindFields k off) (wrAt s o k page off v).new = true)
    (same : (wrAt s o k page off v).new = (s.rd (page * 0x400 + off)).toNat) (wo : woBits (kindFields k off) v = 0)
    (acts : actsUnchanged k off = false) : Machine.writeReg s o (page * 0x400 + off) v = (s, .same) := by
  have notFault : faultCommand (wrAt s o k page off v) = false := by simp [faultCommand, fault]
  rw [h.writeReg, rightsWrite_rules (.inr right) lock notFault, rulesWrite_same rule ranges ⟨same, wo, acts⟩]

/-- A word that differs in one field is stored as the field. -/
theorem storeWord_put {x : Nat} (plain : plainReg w.kind w.off = true) (hf : f.off = w.off)
    (new : w.new = withBits (s.rd (w.page * 0x400 + w.off)).toNat f.hi f.lo x) : storeWord s w = s.put w.page f x := by
  rw [storeWord_plain plain, new, State.put, addrOf, hf]

end Sys2Proof.Machine

end
section
/-! PROOF. Writes of the host port as commands, refused writes and staged ones (R26, R34, R72, R275). -/

namespace Sys2Proof.Machine

variable {s t u : State} {k : PageKind} {page off v o : Nat} {w : Wr} {fs : List FieldDef} {c : Instr} {P : State → Prop}

/-! ### Commands -/

theorem writeOf_host (s : State) (page off v : Nat) : writeOf s .host page off v = (writeReg s Org.HOST (page * 0x400 + off) v).1 := rfl

/-- A command that is a host write answers what the write leaves, where no entry is lost. -/
theorem gives_hostWrite {b : Bool} {r : WRes} (hx : exec c s = takes s b (fun s => writeOf s .host page off v)) (hb : b = true)
    (hw : writeReg s Org.HOST (page * 0x400 + off) v = (t, r)) (outer : sameOuter s t) (room : logRoom t 0) (p : P t) :
    gives c s P := by
  have act : writeOf s .host page off v = t := by rw [writeOf_host, hw]
  refine gives_takes _ (act := fun s => writeOf s .host page off v) hx rfl hb ?_ ?_ ?_ <;> simpa only [act]

/-- As `gives_hostWrite`, where the write's messages may fill the log. -/
theorem gives_hostWrite_flush {b : Bool} {r : WRes} (hx : exec c s = takes s b (fun s => writeOf s .host page off v)) (hb : b = true)
    (hw : writeReg s Org.HOST (page * 0x400 + off) v = (t, r)) (outer : sameOuter s t) (p : P (flushLog t)) : gives c s P := by
  have act : writeOf s .host page off v = t := by rw [writeOf_host, hw]
  refine gives_flush _ (act := fun s => writeOf s .host page off v) hx rfl hb ?_ ?_ <;> simpa only [act]

/-! ### Refused writes -/

theorem writeReg_mod (s : State) (o a v : Nat) : writeReg s o a (v % 2 ^ 32) = writeReg s o a v := by
  unfold writeReg writeCore
  rw [Nat.mod_mod]

theorem rightsWrite_no_right (h : mayWrite s w.o w.page = false) :
    rightsWrite s false fs w = (refuseAll s w [Ev.RIGHT_REJECT], .right) := by
  simp only [rightsWrite, h, Bool.not_false, Bool.and_self, if_true]

theorem rulesWrite_refused {e : Nat} (rule : rulePage s w = .refuse [e]) (ranges : rangesOk fs w.new = true) :
    rulesWrite s fs w = refused s w [e] := by
  simp only [rulesWrite, rule, ranges, Bool.not_true, Bool.false_and, Bool.false_eq_true, if_false]

theorem refusalEffect_none (map : ¬ (0x014 ≤ w.off ∧ w.off ≤ 0x01C)) (kind : w.kind ≠ .rtc ∧ w.kind ≠ .otp ∧ w.kind ≠ .chan) :
    refusalEffect s w = s := by
  obtain ⟨rtc, otp, chan⟩ := kind
  unfold refusalEffect
  rw [if_neg map]
  cases hk : w.kind <;> simp_all

/-! ### Staged writes -/

theorem originWrite_engine {n : Nat} (h : n < 10) (a v : Nat) :
    originWrite s (.engine n) a v = { s with staged := s.staged ++ [(Org.ENG n, a, v % 2 ^ 32)] } := if_pos h

theorem reachable_kind {a : Nat} (h : reachable s a = true) : ∃ k, pageKind (a / 0x400) = some k := by
  cases hk : pageKind (a / 0x400) with
  | some k => exact ⟨k, rfl⟩
  | none => simp [reachable, fieldsAt, hk] at h

/-! ### RESET_CMD and GO -/

theorem resetKey (v : Nat) : bitsOf (woBits (kindFields .chip 0x048) v) 31 16 = bitsOf v 31 16 := by
  have fields : woBits (kindFields .chip 0x048) v = 0 + bitsOf v 31 16 * 2 ^ 16 + bitsOf v 1 0 * 2 ^ 0 := rfl
  simp only [fields, bitsOf]
  omega

/-- RESET_CMD from another origin than the host port, or without its key, is refused for lack of right. -/
theorem writeReg_reset_refused (reach : reachable s 0x48 = true) (keys : keySeq s Pg.CHIP = none)
    (bad : o ≠ Org.HOST ∨ bitsOf v 31 16 ≠ 0x5E7A) (hv : v < 2 ^ 32) :
    writeReg s o 0x48 v = (refuseAll s (wrAt s o .chip 0 0x048 v) [Ev.RIGHT_REJECT], .right) := by
  have comes : Comes s o .chip 0 0x048 v := comes_command rfl (by decide) reach (fun _ => keys) hv
  have rule : rulePage s (wrAt s o .chip 0 0x048 v) = .refuse [Ev.RIGHT_REJECT] := by
    have refuses : ruleChip s (wrAt s o .chip 0 0x048 v) = noRight := by
      simp [ruleChip, resetKey, bad]
    exact refuses
  have unlocked : lockRefuses s (kindFields .chip 0x048) (wrAt s o .chip 0 0x048 v) = false :=
    lockRefuses_of_no_rwl (by decide) rfl
  refine comes.writeReg.trans ?_
  cases right : mayWrite s o 0 with
  | false => exact rightsWrite_no_right right
  | true =>
    rw [rightsWrite_rules (.inr right) unlocked rfl, rulesWrite_refused rule (rangesOk_allWo (by decide) _), refused,
      refusalEffect_none (by simp) (by simp)]
    rfl

end Sys2Proof.Machine

open Sys2Proof Sys2Proof.Machine

/-- Settles O10: the CHIP page's rule refuses the write, or its right fails before. -/
theorem resetCommandNeedsHostAndKey : Obligations.ResetCommandNeedsHostAndKey := by
  unfold Obligations.ResetCommandNeedsHostAndKey
  intro s o v reach keys bad hv room
  obtain refused : Refused s (refuseAll s (wrAt s o .chip 0 0x048 v) [Ev.RIGHT_REJECT]) Pg.CHIP Ev.RIGHT_REJECT :=
    refused_refuseAll room (by decide)
  rw [writeReg_reset_refused reach keys.1 bad hv]
  exact ⟨rfl, refused.event (by decide) (by decide), refused.fill, refused.bits, refused.rest⟩

end
section
/-! PROOF. A write without right, one of nothing, one that a main engine stages, and GO (R26, R34, R70, R275). -/

namespace Sys2Proof.Machine

variable {s t u : State} {k : PageKind} {page off v o : Nat}

/-- A write without right of a register that may be written is refused. -/
theorem writeReg_no_right {addr : Nat} (reach : reachable s addr = true) (hk : pageKind (addr / 0x400) = some k) (notRecipe : k ≠ .recipe)
    (writable : readOnly k (addr / 0x400) (addr % 0x400) (fieldsAt (addr / 0x400) (addr % 0x400)) = false)
    (notLock : addr % 0x400 ≠ 0x020) (keys : noKeys s (addr / 0x400)) (right : mayWrite s o (addr / 0x400) = false) :
    writeReg s o addr v =
      (refuseAll s (wrAt s o k (addr / 0x400) (addr % 0x400) (v % 2 ^ 32)) [Ev.RIGHT_REJECT], .right) := by
  have join : addr / 0x400 * 0x400 + addr % 0x400 = addr := by omega
  rw [fieldsAt_of_kind hk] at writable
  have comes : Comes s o k (addr / 0x400) (addr % 0x400) (v % 2 ^ 32) :=
    ⟨hk, notRecipe, by omega, by omega, join.symm ▸ reach, notLock, writable, fun _ => keys.2, fun _ => keys.1⟩
  have write := comes.writeReg
  rw [join, writeReg_mod] at write
  rw [write]
  exact rightsWrite_no_right right

theorem writeReg_unreachable {addr : Nat} (h : reachable s addr = false) : writeReg s o addr v = (s, .unavail) := by
  simp [writeReg, writeCore, h]

/-- The state after the host's GO, before it takes effect: CONTROL and its entry. -/
abbrev goEntered (s : State) : State := entered s Org.HOST .chip Pg.CHIP 0x04C 1

theorem actPageWrite_go (u : State) :
    actPageWrite u (wrAt s Org.HOST .chip Pg.CHIP 0x04C 1) = u.putb Pg.CHIP Reg.CHIP.STATUS_GO_PENDING true := by
  simp [actPageWrite, actChip]

theorem writeReg_go (reach : reachable s 0x4C = true) (keys : keySeq s Pg.CHIP = none)
    (idle : s.flag Pg.CHIP Reg.CHIP.STATUS_GO_PENDING = false) :
    writeReg s Org.HOST (Pg.CHIP * 0x400 + 0x04C) 1 = ((goEntered s).putb Pg.CHIP Reg.CHIP.STATUS_GO_PENDING true, .ok) := by
  have rule : rulePage s (wrAt s Org.HOST .chip Pg.CHIP 0x04C 1) = .take := by
    simp [rulePage, ruleChip, idle]
  have taken := writeReg_command (s := s) (o := Org.HOST) (k := .chip) (page := Pg.CHIP) (off := 0x04C) (v := 1) rfl (by decide)
    reach (fun _ => keys) (by decide) (mayWrite_host s _) rule (.inl (by decide))
  rw [taken, actPageWrite_go]

/-- What GO leaves. -/
theorem go_spec (room : logRoom s 1) :
    let t := (goEntered s).putb Pg.CHIP Reg.CHIP.STATUS_GO_PENDING true
    t.flag Pg.CHIP Reg.CHIP.STATUS_GO_PENDING = true ∧
      onlyBits s t [(Pg.CHIP, Reg.CHIP.STATUS_GO_PENDING), changeSeq Pg.CHIP] [Pg.CHANGELOG] ∧ onlyLogged s t ∧ logRoom t 0 := by
  have logged : Logged s (goEntered s) Pg.CHIP := logged_entered room
  refine ⟨?_, ?_, logged.rest.putb, logged.room.putb⟩
  · exact State.flag_putb_same _ _ _ _ rfl (by decide)
  · exact (logged.bits.mono (List.subset_cons_self _ _)).putb (covers_of_mem (.head _) rfl (by decide) le_rfl le_rfl)

end Sys2Proof.Machine

open Sys2Proof Sys2Proof.Machine

/-- Settles O11: the rights are looked at before the lock and the rules; a main engine's write waits in its stage. -/
theorem writesOutsideRightsHaveNoEffect : Obligations.WritesOutsideRightsHaveNoEffect := by
  unfold Obligations.WritesOutsideRightsHaveNoEffect
  refine ⟨?_, ?_, ?_, ?_⟩
  · intro s o addr v k reach hk notRecipe writable notLock keys right room
    have refused := refused_refuseAll (w := wrAt s o k (addr / 0x400) (addr % 0x400) (v % 2 ^ 32)) room
      (bit := Ev.RIGHT_REJECT) (by decide)
    rw [writeReg_no_right reach hk notRecipe writable notLock keys right]
    exact ⟨rfl, refused.event (by decide) (by decide), refused.bits, refused.rest⟩
  · intro s o addr v unreachable
    exact writeReg_unreachable unreachable
  · intro s n addr v hn runs haddr _ room
    have staged : writeOf s (.engine n) (addr / 0x400) (addr % 0x400) v =
        { s with staged := s.staged ++ [(Org.ENG n, addr, v % 2 ^ 32)] } := by
      have live : originLive s (.engine n) = true := by simp [originLive, runs]; omega
      rw [writeOf, if_pos live, originWrite_engine hn]
      have join : addr / 0x400 * 0x400 + addr % 0x400 = addr := by omega
      rw [join]
    refine gives_takes _ (act := fun s => writeOf s (.engine n) (addr / 0x400) (addr % 0x400) v) rfl rfl
      (decide_eq_true haddr) ?_ ?_ ?_
    · rw [staged]; exact sameOuter.refl s
    · rw [staged]; exact room
    · rw [staged]; exact ⟨rfl, onlyBits.refl s, rfl⟩
  · intro s reach keys idle room
    obtain ⟨flag, bits, rest, room'⟩ := go_spec room
    exact gives_hostWrite (page := Pg.CHIP) (off := 0x04C) rfl rfl (writeReg_go reach keys idle) rest.sameOuter room'
      ⟨flag, bits, rest⟩

end
section
/-! PROOF. LOCK: the commands and the two writes of each key sequence (R30, R31). -/

namespace Sys2Proof.Machine

variable {s t u : State} {k : PageKind} {page off v o p st : Nat} {w : Wr}

theorem pageKind_of_reachable (h : reachable s (p * 0x400 + off) = true) (ho : off < 0x400) : ∃ k, pageKind p = some k := by
  obtain ⟨k, hk⟩ := reachable_kind h
  exact ⟨k, pageAddr_div p ho ▸ hk⟩

/-- A host write of LOCK is answered by the LOCK rules. -/
theorem writeReg_lock (hk : pageKind p = some k) (notRecipe : pageKind p ≠ some .recipe)
    (reach : reachable s (p * 0x400 + 0x020) = true) (test : keySeq s testSeq = none) (hv : v < 2 ^ 32) :
    writeReg s Org.HOST (p * 0x400 + 0x020) v = writeLock s (wrAt s Org.HOST k p 0x020 v) := by
  have hp := pageAddr_div p (show 0x020 < 0x400 by decide)
  have ho := pageAddr_mod p (show 0x020 < 0x400 by decide)
  have write := mkWr_eq (s := s) hk (show 0x020 < 0x400 by decide) Org.HOST v
  have unbroken : Machine.breaksTest s (wrAt s Org.HOST k p 0x020 v) = false := by simp [Machine.breaksTest, test]
  have notRecipe : k ≠ .recipe := fun h => notRecipe (h ▸ hk)
  unfold writeReg writeCore
  simp only [Nat.mod_eq_of_lt hv, reach, hp, ho, hk]
  cases k <;> simp_all

/-! ### A new state of the lock -/

/-- The page with its key sequence ended and LOCK.STATE written. -/
def lockPut (s : State) (p st : Nat) : State := (keyDrop s p).put p Reg.HEADER.LOCK_STATE st

theorem onlyBits_lockPut (s : State) (p st : Nat) : onlyBits s (lockPut s p st) [(p, Reg.HEADER.LOCK_STATE)] [] :=
  onlyBits.put ((onlyBits.refl s).regs rfl) (covers_of_mem (.head _) rfl (by decide) le_rfl le_rfl)

theorem lockState_lockPut (h : st < 4) : lockState (lockPut s p st) p = st := by
  rw [lockState, lockPut, State.get_put_same _ _ _ _ (by decide) (by decide)]
  exact Nat.mod_eq_of_lt h

theorem keySeq_erase (s : State) (p : Nat) : keySeq (keyDrop s p) p = none := by
  have none : Table.get KeySeq.none (keyDrop s p).keys p = KeySeq.none := Table.get_erase_same _ _ _
  simp only [keySeq, none]
  rfl

theorem keySeq_lockPut (s : State) (p st : Nat) : keySeq (lockPut s p st) p = none := keySeq_erase s p

/-- What a new state of the lock leaves: LOCK.STATE, an entry where it changes, and the page's key sequence ended. -/
structure LockSet (s t : State) (p st : Nat) : Prop where
  state : lockState t p = st
  keys : keySeq t p = none
  fill : t.log.fill = s.log.fill + (if lockState s p = st then 0 else 1)
  bits : onlyBits s t [(p, Reg.HEADER.LOCK_STATE), changeSeq p] [Pg.CHANGELOG]
  rest : onlyLogged s { t with keys := s.keys }
  outer : sameOuter s t
  room : logRoom t 0

theorem lockSet_of_same (h : lockState s p = st) (hst : st < 4) (room : logRoom s 1) : LockSet s (lockPut s p st) p st :=
  ⟨lockState_lockPut hst, keySeq_lockPut s p st, by rw [if_pos h]; rfl,
    (onlyBits_lockPut s p st).weaken (by simp) (List.nil_subset _), rfl, sameOuter.refl s, room.mono (by omega)⟩

theorem lockSet_of_logged (h : lockState s p ≠ st) (hst : st < 4) (logged : Logged (lockPut s p st) t p)
    (fill : t.log.fill = (lockPut s p st).log.fill + 1) : LockSet s t p st := by
  have state : lockState t p = lockState (lockPut s p st) p := by
    refine logged.get_of fun j => ?_
    simp [holdsBit, logFields, addrOf]
    omega
  have keys : keySeq t p = keySeq (lockPut s p st) p := logged.rest.field (keySeq · p)
  refine ⟨state.trans (lockState_lockPut hst), keys.trans (keySeq_lockPut s p st), ?_, ?_, ?_, logged.rest.sameOuter, logged.room⟩
  · rw [if_neg h]; exact fill
  · exact ((onlyBits_lockPut s p st).weaken (by simp) (List.nil_subset _)).trans (logged.bits.weaken (by simp) (List.Subset.refl _))
  · exact congrArg (fun x : State => { x with regs := s.regs, log := s.log, keys := s.keys }) logged.rest

theorem setLock_spec (hst : st < 4) (room : logRoom s 1) : (setLock s w st).2 = .ok ∧ LockSet s (setLock s w st).1 w.page st := by
  have room' : logRoom (lockPut s w.page st) 1 := room
  unfold setLock
  dsimp only
  split
  · exact ⟨rfl, lockSet_of_same ‹_› hst room⟩
  · exact ⟨rfl, lockSet_of_logged ‹_› hst (logged_logChange room') (fill_logChange room')⟩

/-! ### The writes -/

/-- A first LOCK write of a page, no sequence of it being in progress. -/
theorem writeReg_lockFirst {n key : Nat} (hk : pageKind p = some k) (notRecipe : pageKind p ≠ some .recipe) (reach : hostReach s p 0x020)
    (hn : 1 ≤ n ∧ n ≤ 4) (hkey : key < 65536) :
    writeReg s Org.HOST (p * 0x400 + 0x020) (key * 65536 + n) =
      lockFirst s (wrAt s Org.HOST k p 0x020 (key * 65536 + n)) n key := by
  have cmd : (key * 65536 + n) % 8 = n := by omega
  have upper : (key * 65536 + n) / 65536 = key := by omega
  have named : ¬ (n = 0 ∨ 4 < n) := by omega
  rw [writeReg_lock hk notRecipe reach.1 reach.2.2 (by omega)]
  simp [writeLock, cmd, upper, named, reach.2.1]

/-- A LOCK write of a page with a sequence in progress. -/
theorem writeReg_lockSecond {n key kind : Nat} (hk : pageKind p = some k) (notRecipe : pageKind p ≠ some .recipe)
    (reach : reachable s (p * 0x400 + 0x020) = true) (seq : (keySeq s p).map (fun q => q.kind) = some kind)
    (test : keySeq s testSeq = none) (hn : 1 ≤ n ∧ n ≤ 4) (hkey : key < 65536) :
    writeReg s Org.HOST (p * 0x400 + 0x020) (key * 65536 + n) =
      lockSecond s (wrAt s Org.HOST k p 0x020 (key * 65536 + n)) kind n key := by
  have cmd : (key * 65536 + n) % 8 = n := by omega
  have upper : (key * 65536 + n) / 65536 = key := by omega
  have named : ¬ (n = 0 ∨ 4 < n) := by omega
  obtain ⟨q, hq, rfl⟩ := Option.map_eq_some_iff.mp seq
  rw [writeReg_lock hk notRecipe reach test (by omega)]
  simp [writeLock, cmd, upper, named, hq]

theorem keySeq_keyStart {kind : Nat} (h : kind ≠ 0) (s : State) (p : Nat) :
    keySeq (keyStart s p kind) p = some ⟨kind, s.frame, s.rcUs, !s.full⟩ := by
  have started : Table.get KeySeq.none (keyStart s p kind).keys p = ⟨kind, s.frame, s.rcUs, !s.full⟩ := Table.get_set_same _ _ _ _
  simp only [keySeq, started, h, if_false]
  exact if_pos (by simp [keyStart])

/-- A LOCK command that writes LOCK.STATE answers what it leaves. -/
theorem gives_lockSet {c : Instr} {b : Bool} (hx : exec c s = takes s b (fun s => writeOf s .host p 0x020 v)) (hb : b = true)
    (hw : writeReg s Org.HOST (p * 0x400 + 0x020) v = setLock s w st) (page : w.page = p) (hst : st < 4) (room : logRoom s 1) :
    gives c s (LockSet s · p st) := by
  have set := (setLock_spec (s := s) (w := w) hst room).2
  rw [page] at set
  exact gives_hostWrite hx hb (hw.trans (Prod.mk.eta).symm) set.outer set.room set

/-- A LOCK write that starts a key sequence answers the sequence and nothing else. -/
theorem gives_keyStart {c : Instr} {b : Bool} {kind : Nat} (hx : exec c s = takes s b (fun s => writeOf s .host p 0x020 v)) (hb : b = true)
    (hw : writeReg s Org.HOST (p * 0x400 + 0x020) v = (keyStart s p kind, .ok)) (h : kind ≠ 0) (room : logRoom s 0) :
    gives c s (fun t => keySeq t p = some ⟨kind, s.frame, s.rcUs, !s.full⟩ ∧ onlyBits s t [] [] ∧
      { t with regs := s.regs, keys := s.keys } = s) :=
  gives_hostWrite hx hb hw (sameOuter.refl s) room ⟨keySeq_keyStart h s p, onlyBits.refl s, rfl⟩

end Sys2Proof.Machine

open Sys2Proof Sys2Proof.Machine

/-- Settles O12: each write is a first or a second one of its page, and writes LOCK.STATE or starts a sequence. -/
theorem locksAndKeys : Obligations.LocksAndKeys := by
  unfold Obligations.LocksAndKeys
  refine ⟨?_, ?_, ?_, ?_, ?_, ?_⟩
  · intro s p hp notRecipe reach soft room
    obtain ⟨k, hk⟩ := pageKind_of_reachable reach.1 (by decide)
    have write : writeReg s Org.HOST (p * 0x400 + 0x020) 1 = setLock s (wrAt s Org.HOST k p 0x020 1) 1 := by
      refine (writeReg_lockFirst (n := 1) (key := 0) hk notRecipe reach (by decide) (by decide)).trans ?_
      simp [lockFirst, soft]
    obtain ⟨t, ht, set⟩ := gives_lockSet (c := .lockCmdLock .host p) rfl (decide_eq_true hp) write rfl (by decide) room
    exact ⟨t, ht, set.fill, set.state, set.bits, set.rest⟩
  · intro s p hp notRecipe reach room
    obtain ⟨k, hk⟩ := pageKind_of_reachable reach.1 (by decide)
    have write : writeReg s Org.HOST (p * 0x400 + 0x020) 2 = setLock s (wrAt s Org.HOST k p 0x020 2) 2 :=
      (writeReg_lockFirst (n := 2) (key := 0) hk notRecipe reach (by decide) (by decide)).trans (by simp [lockFirst])
    obtain ⟨t, ht, set⟩ := gives_lockSet (c := .lockCmdLockHard .host p) rfl (decide_eq_true hp) write rfl (by decide) room
    exact ⟨t, ht, set.fill, set.state, set.bits, set.rest⟩
  · intro s p hp notRecipe reach soft room
    obtain ⟨k, hk⟩ := pageKind_of_reachable reach.1 (by decide)
    have write : writeReg s Org.HOST (p * 0x400 + 0x020) (0x55AA * 65536 + 3) = (keyStart s p 1, .ok) :=
      (writeReg_lockFirst hk notRecipe reach (by decide) (by decide)).trans (by simp [lockFirst, soft])
    exact gives_keyStart rfl (decide_eq_true ⟨hp, by decide⟩) write (by decide) room
  · intro s p hp notRecipe reach seq test room
    obtain ⟨k, hk⟩ := pageKind_of_reachable reach (by decide)
    have write : writeReg s Org.HOST (p * 0x400 + 0x020) (0xAA55 * 65536 + 3) =
        setLock s (wrAt s Org.HOST k p 0x020 (0xAA55 * 65536 + 3)) 0 :=
      (writeReg_lockSecond hk notRecipe reach seq test (by decide) (by decide)).trans (by simp [lockSecond])
    obtain ⟨t, ht, set⟩ := gives_lockSet (c := .lockCmdUnlock .host p 0xAA55) rfl (decide_eq_true ⟨hp, by decide⟩) write rfl
      (by decide) room
    exact ⟨t, ht, set.state, set.keys, set.bits, set.rest⟩
  · intro s p hp notRecipe reach soft off failed room
    obtain ⟨k, hk⟩ := pageKind_of_reachable reach.1 (by decide)
    have key : keyWord s 0x96 / 65536 % 65536 < 65536 := Nat.mod_lt _ (by decide)
    have write : writeReg s Org.HOST (p * 0x400 + 0x020) (keyWord s 0x96 / 65536 % 65536 * 65536 + 4) = (keyStart s p 2, .ok) := by
      have hard : ¬ 2 ≤ lockState s p := by omega
      exact (writeReg_lockFirst hk notRecipe reach (by decide) key).trans (by simp [lockFirst, hard, off, failed])
    exact gives_keyStart rfl (decide_eq_true ⟨hp, key⟩) write (by decide) room
  · intro s p hp notRecipe reach seq test off failed room
    obtain ⟨k, hk⟩ := pageKind_of_reachable reach (by decide)
    have key : keyWord s 0x96 % 65536 < 65536 := Nat.mod_lt _ (by decide)
    have write : writeReg s Org.HOST (p * 0x400 + 0x020) (keyWord s 0x96 % 65536 * 65536 + 4) =
        setLock s (wrAt s Org.HOST k p 0x020 (keyWord s 0x96 % 65536 * 65536 + 4)) 3 :=
      (writeReg_lockSecond hk notRecipe reach seq test (by decide) key).trans (by simp [lockSecond, off, failed])
    obtain ⟨t, ht, set⟩ := gives_lockSet (c := .lockCmdFactoryUnlock .host p (keyWord s 0x96 % 65536)) rfl
      (decide_eq_true ⟨hp, key⟩) write rfl (by decide) room
    exact ⟨t, ht, set.state, set.keys, set.bits, set.rest⟩

end
section
/-! PROOF. Reads that clear (R4), the read of ENTRY.0 (R499), and a TAIL that moves (R42, R498). -/

namespace Sys2Proof.Machine

variable {s t : State} {k : PageKind} {page off a v : Nat} {r : RegDef}

/-! ### Read-to-clear registers -/

/-- Has a register either no RC field, or one alone, from bit 0, in registers that no read latches or treats of its own? -/
def rcAlone (k : PageKind) (r : RegDef) : Bool :=
  r.fields.all (fun f => decide (f.acc ≠ .rc)) ||
    ((match r.fields with
        | [f] => decide (f.lo = 0 ∧ f.hi < 32)
        | _ => false) &&
      (List.range (max 1 r.cnt)).all (fun i =>
        let off := r.off + i * r.stride
        (latches k off).isEmpty && !latched k off && !decide (k = .stream) && !decide (k = .timer) &&
          decide (k = .fault → off = 0x064)))

theorem rcAlone_regs (k : PageKind) : (regsOf k).all (rcAlone k) = true := by
  cases k <;> decide

/-- An offset that a definition covers is that of one of its instances. -/
theorem covers_offset (h : r.covers off = true) : ∃ i < max 1 r.cnt, off = r.off + i * r.stride := by
  unfold RegDef.covers at h
  split at h
  · exact ⟨0, by omega, by simpa using h⟩
  · simp only [Bool.and_eq_true, decide_eq_true_eq] at h
    obtain ⟨⟨le, whole⟩, lt⟩ := h
    refine ⟨(off - r.off) / r.stride, by omega, ?_⟩
    rw [Nat.div_mul_cancel (Nat.dvd_of_mod_eq_zero whole)]
    omega

/-- A register that holds an RC field holds it alone, and its read does nothing but clear it. -/
structure ClearsAlone (k : PageKind) (page off : Nat) (f : FieldDef) : Prop where
  kind : pageKind page = some k
  fields : fieldsAt page off = [f]
  acc : f.acc = .rc
  bits : f.lo = 0 ∧ f.hi < 32
  latches : latches k off = []
  live : latched k off = false
  plain : k ≠ .stream ∧ k ≠ .timer
  fault : k = .fault → off = 0x064

theorem clearsAlone_of_rc (h : hasRc a = true) : ∃ k f, ClearsAlone k (a / 0x400) (a % 0x400) f := by
  unfold hasRc at h
  cases hk : pageKind (a / 0x400) with
  | none => simp [fieldsAt, hk] at h
  | some k =>
    cases hr : regAt k (a % 0x400) with
    | none => simp [fieldsAt, hk, hr] at h
    | some r =>
      have fields : fieldsAt (a / 0x400) (a % 0x400) = r.fields := by simp [fieldsAt, hk, hr]
      have alone := List.all_eq_true.mp (rcAlone_regs k) r (List.mem_of_find?_eq_some hr)
      obtain ⟨i, hi, hoff⟩ := covers_offset (List.find?_some (p := fun r : RegDef => r.covers (a % 0x400)) hr)
      obtain ⟨g, hg, rc⟩ := List.any_eq_true.mp (fields ▸ h)
      have notNone : r.fields.all (fun f => decide (f.acc ≠ .rc)) = false := by
        rw [List.all_eq_false]
        exact ⟨g, hg, by simpa using rc⟩
      rw [rcAlone, notNone, Bool.false_or, Bool.and_eq_true] at alone
      obtain ⟨one, each⟩ := alone
      have here := List.all_eq_true.mp each i (List.mem_range.mpr hi)
      dsimp only at here
      rw [← hoff] at here
      simp only [Bool.and_eq_true, Bool.not_eq_true', decide_eq_false_iff_not, List.isEmpty_iff, decide_eq_true_eq] at here
      obtain ⟨⟨⟨⟨latches, live⟩, stream⟩, timer⟩, fault⟩ := here
      split at one
      case h_2 => simp at one
      case h_1 f single =>
        obtain rfl : g = f := by simpa [single] using hg
        exact ⟨k, g, hk, fields.trans single, by simpa using rc, by simpa using one, latches, live, ⟨stream, timer⟩, fault⟩

/-- The field that a read of such a register clears. -/
def rcField (a : Nat) (f : FieldDef) : Fld := ⟨a % 0x400, f.hi, f.lo, 0⟩

variable {f : FieldDef}

theorem ClearsAlone.filter (h : ClearsAlone k (a / 0x400) (a % 0x400) f) :
    (fieldsAt (a / 0x400) (a % 0x400)).filter (fun f => decide (f.acc = .rc)) = [f] := by
  simp [h.fields, h.acc]

theorem ClearsAlone.clearRc (h : ClearsAlone k (a / 0x400) (a % 0x400) f) (u : State) :
    clearRc u a = u.put (a / 0x400) (rcField a f) 0 := by
  have here : addrOf (a / 0x400) (rcField a f) = a := by simp only [addrOf, rcField]; omega
  simp only [Machine.clearRc, h.filter, List.isEmpty_cons, Bool.false_eq_true, if_false, List.foldl_cons, List.foldl_nil, State.put, here]
  rfl

theorem ClearsAlone.readEffect (h : ClearsAlone k (a / 0x400) (a % 0x400) f) (notFifo : a ≠ Pg.FAULT * 0x400 + 0x064) (o : Nat) :
    readEffect s o a = s.put (a / 0x400) (rcField a f) 0 := by
  have notFault : ¬ (k = .fault ∧ a % 0x400 = 0x064) := by
    rintro ⟨rfl, ho⟩
    obtain ⟨lo, hi⟩ := pageKind_pages h.kind
    simp only [kindPages] at lo hi
    exact notFifo (by simp only [Pg.FAULT]; omega)
  simp [Machine.readEffect, h.kind, h.latches, latchOffs, notFault, h.plain, h.clearRc]

theorem ClearsAlone.readOf (h : ClearsAlone k (a / 0x400) (a % 0x400) f) (notFifo : a ≠ Pg.FAULT * 0x400 + 0x064)
    (reach : reachable s a = true) {o : Origin} (live : originLive s o = true) :
    readOf s o (a / 0x400) (a % 0x400) =
      { s.put (a / 0x400) (rcField a f) 0 with reply := ⟨none, [liveWord s a], 0, false, []⟩ } := by
  have join : a / 0x400 * 0x400 + a % 0x400 = a := by omega
  rw [readOf_eq live (join.symm ▸ reach), join, h.readEffect notFifo]
  simp [readValue, h.kind, h.live, h.plain]

theorem ClearsAlone.cleared (h : ClearsAlone k (a / 0x400) (a % 0x400) f) (s : State) :
    (s.put (a / 0x400) (rcField a f) 0).get (a / 0x400) (rcField a f) = 0 := by
  obtain ⟨lo, hi⟩ := h.bits
  rw [State.get_put_same _ _ _ _ (by simp [rcField, lo]) hi, Nat.zero_mod]

theorem ClearsAlone.only (h : ClearsAlone k (a / 0x400) (a % 0x400) f) (s : State) :
    onlyBits s (s.put (a / 0x400) (rcField a f) 0) [(a / 0x400, rcField a f)] [] := by
  obtain ⟨lo, hi⟩ := h.bits
  exact (onlyBits.refl s).put (covers_of_mem (.head _) rfl ⟨by simp [rcField, lo], hi⟩ le_rfl le_rfl)

/-! ### TAIL -/

theorem kindFields_tail : kindFields .changelog 0x048 = [⟨9, 0, .rw, .v, 0, none⟩] := by decide

/-- The word that a TAIL write stores. -/
theorem tail_new (s : State) (v : Nat) : (wrAt s Org.HOST .changelog Pg.CHANGELOG 0x048 v).new =
    withBits (s.rd (Pg.CHANGELOG * 0x400 + 0x048)).toNat 9 0 (bitsOf v 9 0) := by
  simp only [wrAt, settled_plain (show plainReg .changelog 0x048 = true by decide), kindFields_tail, storedWord, List.foldl_cons,
    List.foldl_nil]
  rfl

/-- TAIL at `v`, and the entries that are left. -/
def tailMoved (s : State) (v : Nat) : State :=
  let u := s.put Pg.CHANGELOG Reg.CHANGELOG.TAIL_TAIL v
  { u with log := { u.log with fill :=
    (u.get Pg.CHANGELOG Reg.CHANGELOG.HEAD_HEAD + 1024 - u.get Pg.CHANGELOG Reg.CHANGELOG.TAIL_TAIL) % 1024 } }

theorem writeReg_tail (hv : v < 1024) (reach : hostReach s Pg.CHANGELOG 0x048)
    (mirror : s.flag Pg.CHANGELOG Reg.CHANGELOG.CTRL_MIRROR = false)
    (within : v = s.get Pg.CHANGELOG Reg.CHANGELOG.HEAD_HEAD ∨
      (1 ≤ (v + 1024 - s.get Pg.CHANGELOG Reg.CHANGELOG.TAIL_TAIL) % 1024 ∧
        (v + 1024 - s.get Pg.CHANGELOG Reg.CHANGELOG.TAIL_TAIL) % 1024 < s.log.fill)) :
    writeReg s Org.HOST (Pg.CHANGELOG * 0x400 + 0x048) v = (tailMoved s v, .ok) := by
  have comes : Comes s Org.HOST .changelog Pg.CHANGELOG 0x048 v :=
    ⟨rfl, by decide, by decide, by omega, reach.1, by decide, by decide, fun _ => reach.2.2, fun _ => reach.2.1⟩
  have low : bitsOf v 9 0 = v := by simp only [bitsOf]; omega
  have now : (wrAt s Org.HOST .changelog Pg.CHANGELOG 0x048 v).now Reg.CHANGELOG.TAIL_TAIL = v := by
    rw [Wr.now, tail_new, bitsOf_withBits _ _ (by decide), low]
    exact Nat.mod_eq_of_lt hv
  have rule : rulePage s (wrAt s Org.HOST .changelog Pg.CHANGELOG 0x048 v) = .take := by
    have taken : ruleChangelog s (wrAt s Org.HOST .changelog Pg.CHANGELOG 0x048 v) = .take := by
      simp only [ruleChangelog, wrAt_is, decide_true, if_true, now, mirror, Bool.false_eq_true, if_false]
      split
      · rfl
      · exact if_pos (within.resolve_left ‹_›)
    exact taken
  have ranges : rangesOk (kindFields .changelog 0x048) (wrAt s Org.HOST .changelog Pg.CHANGELOG 0x048 v).new = true := by
    simp [rangesOk, kindFields_tail]
  have stored : storeWord s (wrAt s Org.HOST .changelog Pg.CHANGELOG 0x048 v) = s.put Pg.CHANGELOG Reg.CHANGELOG.TAIL_TAIL v := by
    refine storeWord_put (show plainReg .changelog 0x048 = true by decide) rfl ?_
    rw [tail_new, low]
    rfl
  have silent : makesEntry (kindFields .changelog 0x048) (wrAt s Org.HOST .changelog Pg.CHANGELOG 0x048 v) = false := by
    simp [makesEntry, kindFields_tail]
  rw [comes.store (mayWrite_host s _) (lockRefuses_of_no_rwl (by decide) rfl) (by decide) rule ranges (fun _ _ => by decide),
    acceptWrite_entry_first (.inl rfl), entryOf_none silent, stored]
  simp [actPageWrite, actChangelog, tailMoved]

theorem tail_tailMoved (hv : v < 1024) : (tailMoved s v).get Pg.CHANGELOG Reg.CHANGELOG.TAIL_TAIL = v :=
  (State.get_put_same _ _ _ _ (by decide) (by decide)).trans (Nat.mod_eq_of_lt hv)

theorem fill_tailMoved (hv : v < 1024) :
    (tailMoved s v).log.fill = (s.get Pg.CHANGELOG Reg.CHANGELOG.HEAD_HEAD + 1024 - v) % 1024 := by
  have tail := State.get_put_same s Pg.CHANGELOG Reg.CHANGELOG.TAIL_TAIL v (by decide) (by decide)
  have head := State.get_put_ne s (p := Pg.CHANGELOG) (f := Reg.CHANGELOG.TAIL_TAIL) (p' := Pg.CHANGELOG)
    (f' := Reg.CHANGELOG.HEAD_HEAD) v (by decide)
  have low : v % 2 ^ Reg.CHANGELOG.TAIL_TAIL.width = v := Nat.mod_eq_of_lt hv
  simp only [tailMoved, tail, head, low]

/-! ### ENTRY.0 -/

theorem latchesOnly_entry : LatchesOnly .changelog Pg.CHANGELOG 0x064 where
  kind := rfl
  inPage := by decide
  live := rfl
  plain := by decide
  noRc := by decide

end Sys2Proof.Machine

open Sys2Proof Sys2Proof.Machine

/-- Settles O13: TAIL alone is stored, ENTRY.0 only latches, and a register's RC field, which it holds alone, is cleared. -/
theorem theChangeLogIsConsumed : Obligations.TheChangeLogIsConsumed := by
  unfold Obligations.TheChangeLogIsConsumed
  refine ⟨?_, ?_, ?_⟩
  · intro s v d hv reach mirror hd within room
    subst hd
    have moved : onlyBits s (tailMoved s v) [(Pg.CHANGELOG, Reg.CHANGELOG.TAIL_TAIL)] [] :=
      onlyBits.regs ((onlyBits.refl s).put (covers_of_mem (.head _) rfl (by decide) le_rfl le_rfl)) rfl
    refine gives_hostWrite (page := Pg.CHANGELOG) (off := 0x048) (b := true) rfl rfl (writeReg_tail hv reach mirror within)
      (sameOuter.refl s) ?_ ⟨tail_tailMoved hv, fill_tailMoved hv, moved, rfl⟩
    obtain ⟨pending, -, persist⟩ := room
    refine ⟨pending, ?_, persist⟩
    rw [fill_tailMoved hv]
    omega
  · intro s o reach live room
    refine latchesOnly_entry.gives_read (b := true) rfl rfl reach live room ⟨rfl, ?_, (onlyBits.refl s).regs rfl, rfl⟩
    intro j hj
    rw [Nat.add_assoc]
    refine (get_latchOffs ..).trans (if_pos ?_)
    exact List.mem_map_of_mem (f := fun i => 0x068 + 4 * i) (List.mem_range.mpr hj)
  · intro s o a reach live rc notFifo room
    obtain ⟨k, f, clears⟩ := clearsAlone_of_rc rc
    have read := clears.readOf notFifo reach live
    have haddr : a < 2 ^ 24 := by
      simp only [reachable, Bool.and_eq_true, decide_eq_true_eq] at reach
      exact reach.1.1.2
    refine gives_takes _ (act := fun s => readOf s o (a / 0x400) (a % 0x400)) rfl rfl
      (by rw [decide_eq_true haddr, rc]; rfl) ?_ ?_ ?_ <;> rw [read]
    · exact sameOuter.refl s
    · exact room
    · refine ⟨rfl, ?_, ?_, rfl⟩
      · rw [clears.filter, List.all_cons, List.all_nil, Bool.and_true, decide_eq_true_eq]
        exact clears.cleared s
      · rw [clears.filter]
        exact (clears.only s).regs rfl

end
section
/-! PROOF. What a fault message leaves (R338, R348): its page's FAULT_LAST and EVENT.FAULT, and then at most what its reaction, the
collector and the end of the command write. -/

namespace Sys2Proof.Machine

variable {s t u : State} {E : Nat → Prop} {p k a : Nat} {f : Fld}

/-! ### Fields a reaction leaves -/

/-- No address beside the reactive pages. -/
def noAddr (_ : Nat) : Prop := False

/-- A field outside the reactive pages, the listed addresses and CHIP:STATUS reads as before. -/
theorem Held.get (h : Held E s t) (ho : f.off < 0x400) (hp : ¬ reactivePage p) (hE : ¬ E (addrOf p f)) (h0 : addrOf p f ≠ 0x40) :
    t.get p f = s.get p f := by
  rw [State.get, h.rd _ (by rwa [addrOf_div ho]) hE h0]
  rfl

theorem Held.flag (h : Held E s t) (ho : f.off < 0x400) (hp : ¬ reactivePage p) (hE : ¬ E (addrOf p f)) (h0 : addrOf p f ≠ 0x40) :
    t.flag p f = s.flag p f := by
  rw [State.flag, h.get ho hp hE h0]
  rfl

/-- A bit of CHIP:STATUS beside FAULT_N_IN reads as before. -/
theorem Held.chipFlag (h : Held E s t) (hf : f.off = 0x40) (hb : f.lo ≤ f.hi) (hn : f.hi < 23 ∨ 23 < f.lo) :
    t.flag Pg.CHIP f = s.flag Pg.CHIP f := by
  rw [State.flag, h.chip f hf hb hn]
  rfl

theorem Held.service (h : Held E s t) : t.service = s.service := h.chip _ rfl (by decide) (by decide)

/-- What is left of the state, as an equation. -/
theorem Held.shape (h : Held E s t) :
    t = { s with regs := t.regs, log := t.log, fault := t.fault, phases := t.phases, chans := t.chans, alert := t.alert } := by
  conv_rhs => rw [← h.rest]

theorem Held.field {α : Type} (h : Held E s t) (g : State → α) :
    g { t with regs := s.regs, log := s.log, fault := s.fault, phases := s.phases, chans := s.chans, alert := s.alert } = g s :=
  congrArg g h.rest

/-- The reaction to something that touched registers and parts of the state beside. -/
theorem Held.onlyBits_reaction (h : Held noAddr s t) :
    Machine.onlyBits s t [(Pg.CHIP, Reg.CHIP.STATUS_FAULT_N_IN)] reactionPages :=
  h.onlyBits (fun _ hp => hp) (fun _ _ he => he.elim) (.head _)

/-! ### A message -/

/-- A message as its page shows it (R338). -/
def saying (s : State) (p k a : Nat) : State :=
  (s.put p Reg.HEADER.FAULT_LAST (faultMsg p k a (effSeverity s p k a))).event p Ev.FAULT

/-- After its page shows it, a message is collected and reacted to. -/
theorem raise_held (s : State) (p k a : Nat) : Held E (saying s p k a) (raise s p k a) := by
  have shown : Held E (saying s p k a) ((((saying s p k a).bump Pg.FAULT Reg.FAULT.MSG_COUNT)).event Pg.FAULT 0) :=
    ((Held.refl _).bump rFault (by decide)).event rFault
  have scopes := @scopeOf_ok p k a (effSeverity s p k a)
  unfold raise raiseWith raiseScoped
  revert scopes
  generalize scopeOf p k a (effSeverity s p k a) = scope
  intro scopes
  dsimp only
  refine .ite (Held.driveFaultN ?_) ?_
  all_goals
    cases scope
    case' some y => refine Held.takeScope ?_ (scopes rfl)
  all_goals refine .ite (Held.startRecord ?_) ?_
  all_goals refine .ite (Held.queueCrier ?_) ?_
  all_goals exact Held.makeEntry (Held.enqueueMsg (.ite (Held.event shown rFault) shown))

theorem inForce_congr {x : Nat} (h : t.rd x = s.rd x) (hh : t.held = s.held) : t.inForce x = s.inForce x := by
  rw [State.inForce, State.inForce, h, hh]

/-- The severity in force is a matter of the page's severity maps. -/
theorem effSeverity_congr (h : t.rd (p * 0x400 + 0x014 + 4 * ((k - 1) / 10)) = s.rd (p * 0x400 + 0x014 + 4 * ((k - 1) / 10)))
    (hh : t.held = s.held) :
    effSeverity t p k a = effSeverity s p k a := by
  have map : mapSeverity t p k = mapSeverity s p k := by
    simp only [mapSeverity, inForce_congr h hh]
  simp only [effSeverity, map]

theorem faultMsg_lt (p k a v : Nat) : faultMsg p k a v < 2 ^ 32 := by
  unfold faultMsg
  omega

theorem faultLast_saying : (saying s p k a).get p Reg.HEADER.FAULT_LAST = faultMsg p k a (effSeverity s p k a) := by
  rw [saying, State.event, State.get_put_ne _ _ (by simp [addrOf]), State.get_put_same _ _ _ _ (by decide) (by decide)]
  exact Nat.mod_eq_of_lt (faultMsg_lt ..)

theorem event_saying : (saying s p k a).get p ⟨0x008, 26, 26, 0⟩ = 1 := by
  rw [saying, State.event, State.get_put_same _ _ _ _ (by decide) (by decide)]
  simp [Fld.width]

theorem onlyBits_saying (s : State) (p k a : Nat) :
    onlyBits s (saying s p k a) [(p, ⟨0x008, 26, 26, 0⟩), (p, Reg.HEADER.FAULT_LAST)] [] :=
  ((onlyBits.refl s).put (covers_of_mem (.tail _ (.head _)) rfl (by decide) le_rfl le_rfl)).event
    (covers_of_mem (.head _) rfl (by decide) le_rfl le_rfl)

theorem onlyRegs_saying (s : State) (p k a : Nat) : onlyRegs s (saying s p k a) :=
  onlyRegs.put (onlyRegs.put (rfl : onlyRegs s s))

/-- What a message, its reaction and the end of the command leave beside: `t` follows the message said in `s`. -/
abbrev saidIn (s t : State) (p k a : Nat) : Prop := Held noAddr (saying s p k a) t

theorem saidIn_raise (s : State) (p k a : Nat) : saidIn s (flushLog (raise s p k a)) p k a :=
  (raise_held s p k a).flushLog

theorem saidIn.said (h : saidIn s t p k a) (hp : ¬ reactivePage p) : said s t p k a := by
  refine ⟨?_, ?_⟩
  · rw [h.get (by decide) hp (fun e => e) (by simp only [addrOf]; omega), faultLast_saying]
  · rw [h.get (by decide) hp (fun e => e) (by simp only [addrOf]; omega), event_saying]

theorem saidIn.bits (h : saidIn s t p k a) : onlyBits s t (messageFields p) reactionPages :=
  ((onlyBits_saying s p k a).weaken (by simp [messageFields]) (List.nil_subset _)).trans
    (h.onlyBits_reaction.weaken (by simp [messageFields]) (List.Subset.refl _))

theorem saidIn.held (h : saidIn s t p k a) : Held (header p) s t := by
  have shown : Held (header p) s (saying s p k a) := by
    have last : Held (header p) s (s.put p Reg.HEADER.FAULT_LAST (faultMsg p k a (effSeverity s p k a))) :=
      (Held.refl s).putE (.inl rfl) (by simp only [addrOf]; omega)
    exact last.putE (f := ⟨0x008, 26, 26, 0⟩) (.inr rfl) (by simp only [addrOf]; omega)
  exact shown.trans (h.mono fun _ e => e.elim)

/-! ### A warm reset triggered -/

/-- A state with a warm reset waiting. -/
def withWarm (v : State) (bit : Nat) : State := { v with svc := { v.svc with warmPend := some bit } }

theorem warmTrigger_eq {bit : Nat} (powered : s.powered = true)
    (service : s.service = Svc.MAIN_START ∨ s.service = Svc.JOINING ∨ s.service = Svc.FULL) (warm : s.svc.warmPend = none)
    (cold : s.svc.coldPend = false) : warmTrigger s bit = chipSafeWith (withWarm s bit) 2 6 := by
  unfold warmTrigger
  rw [if_pos]
  · rfl
  · simp [powered, service, warm, cold]

theorem onlyLogged_of_regs (h : onlyRegs s t) : onlyLogged s t := congrArg (fun x : State => { x with log := s.log }) h

/-- After registers and the log, a triggered warm reset leaves everything else but the chip safe state it holds. -/
theorem warm_rest {v : State} {bit : Nat} (h : onlyLogged s v) (warm : s.svc.warmPend = none) (held : Held E (withWarm v bit) t) :
    t.svc.warmPend = some bit ∧ onlyReaction s { t with svc := { t.svc with warmPend := none } } := by
  have pending : t.svc.warmPend = some bit := congrArg SvcState.warmPend (held.field State.svc)
  have svc : { s.svc with warmPend := none } = s.svc := by rw [← warm]
  refine ⟨pending, ?_⟩
  have after := congrArg (fun x : State => { x with
    regs := s.regs, log := s.log, fault := s.fault, phases := s.phases, chans := s.chans, alert := s.alert
    svc := { x.svc with warmPend := none } }) held.rest
  have before := congrArg (fun x : State => { x with
    fault := s.fault, phases := s.phases, chans := s.chans, alert := s.alert, svc := { x.svc with warmPend := none } }) h
  dsimp only at before
  rw [svc] at before
  exact after.trans before

theorem held_warm (s : State) (bit : Nat) : Held E (withWarm s bit) (flushLog (chipSafeWith (withWarm s bit) 2 6)) :=
  ((Held.refl _).chipSafeWith).flushLog

theorem get_withWarm (v : State) (bit p : Nat) (f : Fld) : (withWarm v bit).get p f = v.get p f := rfl

theorem service_withWarm (v : State) (bit : Nat) : (withWarm v bit).service = v.service := rfl

theorem onlyBits_of_withWarm {v : State} {bit : Nat} {l : List (Nat × Fld)} {ps : List Nat} (h : onlyBits (withWarm v bit) t l ps) :
    onlyBits v t l ps := h

theorem sameOuter_withWarm (s : State) (bit : Nat) : sameOuter s (withWarm s bit) := ⟨rfl, rfl, rfl, rfl⟩

theorem sameOuter_chipSafe (s : State) (r k : Nat) : sameOuter s (chipSafeWith s r k) :=
  ((Held.refl (E := noAddr) s).chipSafeWith).sameOuter

end Sys2Proof.Machine
end
section
/-! PROOF. REFCLK, the PLL and the holdover (R52, R77 to R80, R500). -/

namespace Sys2Proof.Machine

variable {s t u : State} {khz : Nat}

/-! ### REFCLK qualifies, the PLL locks -/

/-- The registers that a qualified REFCLK writes. -/
def qualified (s : State) (khz : Nat) : State :=
  setQual ((s.putb Pg.CLOCK Reg.CLOCK.STATUS_REFCLK_PRESENT true).put Pg.CLOCK Reg.CLOCK.REFCLK_MEAS_KHZ khz) true

theorem onlyBits_qualified (s : State) (khz : Nat) : onlyBits s (qualified s khz) [(Pg.CLOCK, Reg.CLOCK.STATUS_REFCLK_QUAL),
    (Pg.CLOCK, Reg.CLOCK.STATUS_REFCLK_PRESENT), (Pg.CLOCK, Reg.CLOCK.REFCLK_MEAS_KHZ), (Pg.CHIP, Reg.CHIP.STATUS_REFCLK_OK)] [] := by
  refine onlyBits.putb (onlyBits.putb (onlyBits.put (onlyBits.putb (onlyBits.refl s) ?_) ?_) ?_) ?_ <;> decide

theorem onlyRegs_qualified (s : State) (khz : Nat) : onlyRegs s (qualified s khz) :=
  .put (.put (.put (.put (rfl : onlyRegs s s))))

theorem qualified_fields (h : khz < 65536) :
    (qualified s khz).flag Pg.CLOCK Reg.CLOCK.STATUS_REFCLK_QUAL = true ∧
      (qualified s khz).flag Pg.CLOCK Reg.CLOCK.STATUS_REFCLK_PRESENT = true ∧
      (qualified s khz).flag Pg.CHIP Reg.CHIP.STATUS_REFCLK_OK = true ∧
      (qualified s khz).get Pg.CLOCK Reg.CLOCK.REFCLK_MEAS_KHZ = khz := by
  simp (disch := decide) [qualified, setQual, State.flag, State.putb, State.get_put_same, State.get_put_ne, State.get_put_field,
    Fld.width, b2n, Nat.mod_eq_of_lt h]

theorem onlyBits_setPll (s : State) (b : Bool) :
    onlyBits s (setPll s b) [(Pg.CLOCK, Reg.CLOCK.STATUS_PLL_LOCK), (Pg.CHIP, Reg.CHIP.STATUS_PLL_LOCK)] [] := by
  refine onlyBits.putb (onlyBits.putb (onlyBits.refl s) ?_) ?_ <;> decide

theorem onlyRegs.setPll {b : Bool} (h : onlyRegs s t) : onlyRegs s (setPll t b) := .put (.put h)

theorem pllLock_setPll (s : State) (b : Bool) :
    (setPll s b).flag Pg.CLOCK Reg.CLOCK.STATUS_PLL_LOCK = b ∧ (setPll s b).flag Pg.CHIP Reg.CHIP.STATUS_PLL_LOCK = b := by
  cases b <;> simp (disch := decide) [setPll, State.flag, State.putb, State.get_put_same, State.get_put_ne, Fld.width, b2n]

/-! ### Holdover -/

/-- The fields that the entry to holdover writes. -/
def holdoverFields : List (Nat × Fld) :=
  [(Pg.CLOCK, Reg.CLOCK.STATUS_HOLDOVER), (Pg.CLOCK, Reg.CLOCK.STATUS_PLL_LOCK), (Pg.CHIP, Reg.CHIP.STATUS_PLL_LOCK),
    (Pg.CLOCK, Reg.CLOCK.HOLD_COUNT), (Pg.CLOCK, ⟨0x008, 0, 0, 0⟩)]

/-- The registers that the entry to holdover writes. -/
def holdoverShown (s : State) : State :=
  setPll (((s.putb Pg.CLOCK Reg.CLOCK.STATUS_HOLDOVER true).event Pg.CLOCK 0).bump Pg.CLOCK Reg.CLOCK.HOLD_COUNT) false

theorem onlyBits_holdoverShown (s : State) : onlyBits s (holdoverShown s) holdoverFields [] := by
  refine onlyBits.putb (onlyBits.putb (onlyBits.bump (onlyBits.event (onlyBits.putb (onlyBits.refl s) ?_) ?_) ?_) ?_) ?_ <;> decide

theorem onlyRegs_holdoverShown (s : State) : onlyRegs s (holdoverShown s) :=
  .setPll (.put (.put (.put (rfl : onlyRegs s s))))

/-- Holdover begins: HOLDOVER is set and PLL_LOCK cleared in both pages. -/
theorem holdoverShown_flags (s : State) :
    (holdoverShown s).flag Pg.CLOCK Reg.CLOCK.STATUS_HOLDOVER = true ∧
      (holdoverShown s).flag Pg.CLOCK Reg.CLOCK.STATUS_PLL_LOCK = false ∧
      (holdoverShown s).flag Pg.CHIP Reg.CHIP.STATUS_PLL_LOCK = false := by
  simp (disch := decide) [holdoverShown, setPll, State.flag, State.putb, State.event, State.bump, State.addCount, State.get_put_same,
    State.get_put_ne, State.get_put_field, Fld.width, b2n]

theorem enterHoldover_eq (h : s.flag Pg.CLOCK Reg.CLOCK.STATUS_HOLDOVER = false) :
    enterHoldover s = { holdoverShown s with
      clock := { (holdoverShown s).clock with holdStartUs := (holdoverShown s).rcUs }
      rtc := { (holdoverShown s).rtc with measLost := true } } := by
  unfold enterHoldover
  rw [if_neg (by simp [h])]
  rfl

/-! ### A lost REFCLK -/

/-- The measurement that finds REFCLK lost. -/
def refMeasured (s : State) (khz : Option Nat) : State :=
  (s.putb Pg.CLOCK Reg.CLOCK.STATUS_REFCLK_PRESENT khz.isSome).put Pg.CLOCK Reg.CLOCK.REFCLK_MEAS_KHZ (satNat 16 (khz.getD 0))

theorem onlyBits_refMeasured (s : State) (khz : Option Nat) : onlyBits s (refMeasured s khz)
    [(Pg.CLOCK, Reg.CLOCK.STATUS_REFCLK_PRESENT), (Pg.CLOCK, Reg.CLOCK.REFCLK_MEAS_KHZ)] [] := by
  refine onlyBits.put (onlyBits.putb (onlyBits.refl s) ?_) ?_ <;> decide

theorem onlyRegs_refMeasured (s : State) (khz : Option Nat) : onlyRegs s (refMeasured s khz) := .put (.put (rfl : onlyRegs s s))

theorem refMeasured_fields (s : State) (khz : Option Nat) :
    (refMeasured s khz).flag Pg.CLOCK Reg.CLOCK.STATUS_REFCLK_PRESENT = khz.isSome ∧
      (refMeasured s khz).get Pg.CLOCK Reg.CLOCK.REFCLK_MEAS_KHZ = min (khz.getD 0) 65535 := by
  have sat : satNat 16 (khz.getD 0) % 65536 = min (khz.getD 0) 65535 := by unfold satNat; split <;> omega
  have present : b2n khz.isSome % 2 = 1 ↔ khz.isSome = true := by cases khz <;> simp [b2n]
  simp (disch := decide) [refMeasured, State.flag, State.putb, State.get_put_same, State.get_put_ne,
    Fld.width, sat, present]

theorem onlyBits_setQual (s : State) (b : Bool) :
    onlyBits s (setQual s b) [(Pg.CLOCK, Reg.CLOCK.STATUS_REFCLK_QUAL), (Pg.CHIP, Reg.CHIP.STATUS_REFCLK_OK)] [] := by
  refine onlyBits.putb (onlyBits.putb (onlyBits.refl s) ?_) ?_ <;> decide

theorem onlyRegs_setQual (s : State) (b : Bool) : onlyRegs s (setQual s b) := .put (.put (rfl : onlyRegs s s))

theorem setQual_flags (s : State) (b : Bool) :
    (setQual s b).flag Pg.CLOCK Reg.CLOCK.STATUS_REFCLK_QUAL = b ∧ (setQual s b).flag Pg.CHIP Reg.CHIP.STATUS_REFCLK_OK = b := by
  cases b <;> simp (disch := decide) [setQual, State.flag, State.putb, State.get_put_same, State.get_put_ne, Fld.width, b2n]

end Sys2Proof.Machine
end
section
/-! PROOF. Holdover entered with its message, left, and over its limit (R46, R79, R80, R500). -/

namespace Sys2Proof.Machine

variable {s t u v : State}

/-- Beside registers and CLOCK's part, `t` is `s`. -/
abbrev onlyClock (s t : State) : Prop := { t with regs := s.regs, clock := s.clock } = s

theorem onlyClock_of_regs (h : onlyRegs s t) : onlyClock s t := congrArg (fun x : State => { x with clock := s.clock }) h

theorem onlyClock_of_clock (h : onlyRegs s t) (c : ClockState) : onlyClock s { t with clock := c } :=
  congrArg (fun x : State => { x with clock := s.clock }) h

theorem onlyClock.field {α : Type} (h : onlyClock s t) (g : State → α) : g { t with regs := s.regs, clock := s.clock } = g s :=
  congrArg g h

theorem onlyClock.held (h : onlyClock s t) : t.held = s.held := h.field State.held

theorem onlyClock.powered (h : onlyClock s t) : t.powered = s.powered := h.field State.powered

theorem onlyBits.setClock {l : List (Nat × Fld)} {ps : List Nat} (h : onlyBits s t l ps) (c : ClockState) :
    onlyBits s { t with clock := c } l ps := h.regs rfl

theorem onlyClock.trans_regs (h : onlyClock s t) (k : onlyRegs t u) : onlyClock s u :=
  (congrArg (fun x : State => { x with regs := s.regs, clock := s.clock }) k).trans h

/-- A state whose registers alone differ, with CLOCK's and the RTC's parts set. -/
def withClock (v : State) (c : ClockState) (lost : Bool) : State := { v with clock := c, rtc := { v.rtc with measLost := lost } }

/-- After registers, CLOCK's part and the lost measurement, a message leaves everything else but for its reaction. -/
theorem onlyReaction_of_withClock {E : Nat → Prop} {c : ClockState} {lost : Bool} (h : onlyClock s v)
    (held : Held E (withClock v c lost) t) :
    onlyReaction s { t with clock := s.clock, rtc := { t.rtc with measLost := s.rtc.measLost } } :=
  (congrArg (fun x : State => { x with
    regs := s.regs, log := s.log, fault := s.fault, phases := s.phases, chans := s.chans, alert := s.alert
    clock := s.clock, rtc := { x.rtc with measLost := s.rtc.measLost } }) held.rest).trans
    (congrArg (fun x : State => { x with
      log := s.log, fault := s.fault, phases := s.phases, chans := s.chans, alert := s.alert
      clock := s.clock, rtc := { x.rtc with measLost := s.rtc.measLost } }) h)

/-- The severity maps of the CLOCK page are not among the fields of the holdover. -/
theorem effSeverity_withClock {c : ClockState} {lost : Bool} {l : List (Nat × Fld)} {k a : Nat} (h : onlyClock s v) (bits : onlyBits s v l [])
    (hl : l.all (fun e => decide (addrOf e.1 e.2 ≠ Pg.CLOCK * 0x400 + 0x014 + 4 * ((k - 1) / 10))) = true) :
    effSeverity (withClock v c lost) Pg.CLOCK k a = effSeverity s Pg.CLOCK k a :=
  effSeverity_congr (bits.rd_apart (List.not_mem_nil) hl) (h.held)

/-- The message of an entry to holdover, and what it leaves. -/
structure HoldoverSaid (s v t : State) (kind : Nat) : Prop where
  get : ∀ f : Fld, f.off < 0x400 → f.off ≠ 0x008 → f.off ≠ 0x010 → t.get Pg.CLOCK f = v.get Pg.CLOCK f
  chip : ∀ f : Fld, f.off = 0x040 → f.lo ≤ f.hi → f.hi < 23 → t.get Pg.CHIP f = v.get Pg.CHIP f
  said : said s t Pg.CLOCK kind 0
  bits : onlyBits v t (messageFields Pg.CLOCK) reactionPages
  rest : onlyReaction s { t with clock := s.clock, rtc := { t.rtc with measLost := s.rtc.measLost } }

theorem holdoverSaid {c : ClockState} {lost : Bool} {l : List (Nat × Fld)} {kind : Nat} (h : onlyClock s v) (bits : onlyBits s v l [])
    (hl : l.all (fun e => decide (addrOf e.1 e.2 ≠ Pg.CLOCK * 0x400 + 0x014 + 4 * ((kind - 1) / 10))) = true) :
    HoldoverSaid s v (flushLog (raise (withClock v c lost) Pg.CLOCK kind 0)) kind := by
  have after := saidIn_raise (withClock v c lost) Pg.CLOCK kind 0
  have notReactive : ¬ reactivePage Pg.CLOCK := by decide
  refine ⟨fun f ho h8 h10 => ?_, fun f ho hf hb => after.held.chip f ho hf (.inl hb), ?_, after.bits, onlyReaction_of_withClock h after.held⟩
  · exact after.held.get ho notReactive (by simp only [header, addrOf]; omega) (by show 1 * 0x400 + f.off ≠ 0x40; omega)
  · have shown := after.said notReactive
    rwa [said, effSeverity_withClock h bits hl] at shown

theorem onlyClock.sameOuter (h : onlyClock s t) : sameOuter s t :=
  ⟨h.field State.pending, h.field State.powered, h.field State.otpA, h.field State.otpB⟩

theorem sameOuter_raise (s : State) (p k a : Nat) : sameOuter s (raise s p k a) :=
  ((Held.refl (E := header p) s).raise (fun _ h => h)).sameOuter

theorem sameOuter_withClock (v : State) (c : ClockState) (lost : Bool) : sameOuter v (withClock v c lost) := ⟨rfl, rfl, rfl, rfl⟩

theorem outer_withClock {c : ClockState} {lost : Bool} {p k a : Nat} (h : onlyClock s v) :
    sameOuter s (raise (withClock v c lost) p k a) :=
  h.sameOuter.trans ((sameOuter_withClock v c lost).trans (sameOuter_raise _ p k a))

theorem HoldoverSaid.flag {kind : Nat} (h : HoldoverSaid s v t kind) (f : Fld) (ho : f.off < 0x400) (h8 : f.off ≠ 0x008)
    (h10 : f.off ≠ 0x010) : t.flag Pg.CLOCK f = v.flag Pg.CLOCK f := by
  rw [State.flag, h.get f ho h8 h10]
  rfl

theorem HoldoverSaid.chipFlag {kind : Nat} (h : HoldoverSaid s v t kind) (f : Fld) (ho : f.off = 0x040) (hf : f.lo ≤ f.hi)
    (hb : f.hi < 23) : t.flag Pg.CHIP f = v.flag Pg.CHIP f := by
  rw [State.flag, h.chip f ho hf hb]
  rfl

theorem service_of_full (h : s.full = true) : s.service = Svc.FULL := by
  simp only [State.full, State.inService, Bool.and_eq_true, decide_eq_true_eq] at h
  exact h.2

theorem powered_of_full (h : s.full = true) : s.powered = true := by
  simp only [State.full, State.inService, Bool.and_eq_true, decide_eq_true_eq] at h
  exact h.1

theorem reducedOrLater_of_full (h : s.full = true) : s.reducedOrLater = true := by
  simp [State.reducedOrLater, powered_of_full h, service_of_full h]

/-! ### The four events -/

/-- HOLD_MAX takes the longer of itself and the time in holdover. -/
theorem holdMax_note (s : State) : (noteHoldover s).get Pg.CLOCK Reg.CLOCK.HOLD_MAX =
    max (s.get Pg.CLOCK Reg.CLOCK.HOLD_MAX) (satNat 32 (s.rcUs - s.clock.holdStartUs)) := by
  have low : s.get Pg.CLOCK Reg.CLOCK.HOLD_MAX < 2 ^ 32 := s.get_lt _ _
  have sat : satNat 32 (s.rcUs - s.clock.holdStartUs) < 2 ^ 32 := by unfold satNat; split <;> omega
  rw [noteHoldover, State.get_put_same _ _ _ _ (by decide) (by decide)]
  exact Nat.mod_eq_of_lt (max_lt low sat)

theorem onlyBits_note (s : State) : onlyBits s (noteHoldover s) [(Pg.CLOCK, Reg.CLOCK.HOLD_MAX)] [] :=
  (onlyBits.refl s).put (by decide)

theorem onlyRegs_note (s : State) : onlyRegs s (noteHoldover s) := .put (rfl : onlyRegs s s)

theorem pllUnlock_full (out : s.flag Pg.CLOCK Reg.CLOCK.STATUS_HOLDOVER = false) (first : s.clock.pllEpisode = false) : ∃ c,
    raisePll (enterHoldover s) 0 = raise (withClock (holdoverShown s) c true) Pg.CLOCK Kind.PLL_UNLOCK 0 := by
  have kept := (onlyRegs_holdoverShown s).clock
  rw [enterHoldover_eq out]
  revert kept
  generalize holdoverShown s = v
  intro kept
  rw [raisePll, if_neg (by simp [kept, first])]
  exact ⟨{ v.clock with holdStartUs := v.rcUs, pllEpisode := true }, rfl⟩

/-- As `pllUnlock_full`, for a lost REFCLK. -/
theorem raiseRef_holdover (out : s.flag Pg.CLOCK Reg.CLOCK.STATUS_HOLDOVER = false) (first : s.clock.refEpisode = false) : ∃ c,
    raiseRef (enterHoldover s) 0 = raise (withClock (holdoverShown s) c true) Pg.CLOCK Kind.REFCLK_LOSS 0 := by
  have kept := (onlyRegs_holdoverShown s).clock
  rw [enterHoldover_eq out]
  revert kept
  generalize holdoverShown s = v
  intro kept
  rw [raiseRef, if_neg (by simp [kept, first])]
  exact ⟨{ v.clock with holdStartUs := v.rcUs, refEpisode := true }, rfl⟩

/-- The measurement of a lost REFCLK with its time. -/
def refTimed (s : State) (khz : Option Nat) : State :=
  { refMeasured s khz with clock := { (refMeasured s khz).clock with refUs := (refMeasured s khz).rcUs } }

/-- The fields that a lost REFCLK writes. -/
def refFields : List (Nat × Fld) :=
  [(Pg.CLOCK, Reg.CLOCK.STATUS_REFCLK_QUAL), (Pg.CLOCK, Reg.CLOCK.STATUS_REFCLK_PRESENT), (Pg.CLOCK, Reg.CLOCK.REFCLK_MEAS_KHZ),
    (Pg.CHIP, Reg.CHIP.STATUS_REFCLK_OK)]

theorem onlyClock_refTimed (s : State) (khz : Option Nat) : onlyClock s (refTimed s khz) :=
  onlyClock_of_clock (onlyRegs_refMeasured s khz) _

theorem onlyBits_refTimed (s : State) (khz : Option Nat) : onlyBits s (refTimed s khz)
    [(Pg.CLOCK, Reg.CLOCK.STATUS_REFCLK_PRESENT), (Pg.CLOCK, Reg.CLOCK.REFCLK_MEAS_KHZ)] [] :=
  (onlyBits_refMeasured s khz).setClock _

/-- A lost REFCLK as CLOCK and CHIP show it. -/
def refShown (s : State) (khz : Option Nat) : State := setQual (refTimed s khz) false

theorem onlyClock_refShown (s : State) (khz : Option Nat) : onlyClock s (refShown s khz) :=
  (onlyClock_refTimed s khz).trans_regs (onlyRegs_setQual _ _)

theorem onlyBits_refShown (s : State) (khz : Option Nat) : onlyBits s (refShown s khz) refFields [] :=
  ((onlyBits_refTimed s khz).mono (by decide)).trans ((onlyBits_setQual (refTimed s khz) false).mono (by decide))

theorem get_setClock (x : State) (c : ClockState) (p : Nat) (f : Fld) : State.get { x with clock := c } p f = x.get p f := rfl

theorem refShown_fields (s : State) (khz : Option Nat) :
    (refShown s khz).flag Pg.CLOCK Reg.CLOCK.STATUS_REFCLK_QUAL = false ∧
      (refShown s khz).flag Pg.CHIP Reg.CHIP.STATUS_REFCLK_OK = false ∧
      (refShown s khz).flag Pg.CLOCK Reg.CLOCK.STATUS_REFCLK_PRESENT = khz.isSome ∧
      (refShown s khz).get Pg.CLOCK Reg.CLOCK.REFCLK_MEAS_KHZ = min (khz.getD 0) 65535 := by
  obtain ⟨present, measured⟩ := refMeasured_fields s khz
  have qual := onlyBits_setQual (refTimed s khz) false
  refine ⟨(setQual_flags _ _).1, (setQual_flags _ _).2, ?_, ?_⟩
  · rw [← present, State.flag, State.flag, ← get_setClock (refMeasured s khz)]
    exact congrArg (fun n => decide (n = 1)) (qual.get_apart (by decide) List.not_mem_nil (by decide) (by decide))
  · rw [← measured, ← get_setClock (refMeasured s khz)]
    exact qual.get_apart (by decide) List.not_mem_nil (by decide) (by decide)

theorem full_congr (h : t.service = s.service) (p : t.powered = s.powered) : t.full = s.full := by
  simp only [State.full, State.inService, h, p]

/-- A lost REFCLK in FULL. -/
theorem refclkLost_full {khz : Option Nat} (full : s.full = true) :
    refclkLost s khz = raiseRef (enterHoldover (refShown s khz)) 0 := by
  have stays : (refShown s khz).full = true := by
    refine (full_congr ?_ (onlyClock_refShown s khz).powered).trans full
    exact (onlyBits_refShown s khz).get_apart (by decide) List.not_mem_nil (by decide) (by decide)
  exact if_pos stays

theorem refEpisode_setRefUs (x : State) (n : Nat) : State.clock { x with clock := { x.clock with refUs := n } } = { x.clock with refUs := n } := rfl

theorem refEpisode_refShown (h : s.clock.refEpisode = false) (khz : Option Nat) : (refShown s khz).clock.refEpisode = false := by
  rw [refShown, (onlyRegs_setQual _ _).clock, refTimed, refEpisode_setRefUs, (onlyRegs_refMeasured s khz).clock]
  exact h

/-- A lost REFCLK in FULL is said in the holdover that it enters. -/
theorem refclkLost_said {khz : Option Nat} (full : s.full = true) (out : s.flag Pg.CLOCK Reg.CLOCK.STATUS_HOLDOVER = false)
    (first : s.clock.refEpisode = false) :
    sameOuter s (refclkLost s khz) ∧
      HoldoverSaid s (holdoverShown (refShown s khz)) (flushLog (refclkLost s khz)) Kind.REFCLK_LOSS := by
  have out' : (refShown s khz).flag Pg.CLOCK Reg.CLOCK.STATUS_HOLDOVER = false :=
    ((onlyBits_refShown s khz).flag_apart (by decide) List.not_mem_nil (by decide) (by decide)).trans out
  obtain ⟨c, raised⟩ := raiseRef_holdover out' (refEpisode_refShown first khz)
  have only := (onlyClock_refShown s khz).trans_regs (onlyRegs_holdoverShown _)
  rw [refclkLost_full full, raised]
  refine ⟨outer_withClock only, ?_⟩
  exact holdoverSaid only (l := refFields ++ holdoverFields)
    (((onlyBits_refShown s khz).mono (by decide)).trans ((onlyBits_holdoverShown _).mono (by decide))) (by decide)

theorem pllUnlock_said (out : s.flag Pg.CLOCK Reg.CLOCK.STATUS_HOLDOVER = false) (first : s.clock.pllEpisode = false) :
    sameOuter s (raisePll (enterHoldover s) 0) ∧
      HoldoverSaid s (holdoverShown s) (flushLog (raisePll (enterHoldover s) 0)) Kind.PLL_UNLOCK := by
  obtain ⟨c, raised⟩ := pllUnlock_full out first
  have only := onlyClock_of_regs (onlyRegs_holdoverShown s)
  rw [raised]
  exact ⟨outer_withClock only, holdoverSaid only (onlyBits_holdoverShown s) (by decide)⟩

theorem HoldoverSaid.service {kind : Nat} {l : List (Nat × Fld)} (h : HoldoverSaid s v t kind) (bits : onlyBits s v l [])
    (hl : apart l Pg.CHIP Reg.CHIP.STATUS_SERVICE = true) : t.service = s.service :=
  (h.chip _ rfl (by decide) (by decide)).trans (bits.get_apart (by decide) List.not_mem_nil hl (by decide))

/-- The state after the holdover has ended. -/
def holdoverLeft (s : State) : State :=
  setPll (((noteHoldover s).putb Pg.CLOCK Reg.CLOCK.STATUS_HOLDOVER false).event Pg.CLOCK 1) true

theorem onlyBits_holdoverLeft (s : State) : onlyBits s (holdoverLeft s) [(Pg.CLOCK, Reg.CLOCK.STATUS_HOLDOVER),
    (Pg.CLOCK, Reg.CLOCK.STATUS_PLL_LOCK), (Pg.CHIP, Reg.CHIP.STATUS_PLL_LOCK), (Pg.CLOCK, Reg.CLOCK.HOLD_MAX),
    (Pg.CLOCK, ⟨0x008, 1, 1, 0⟩)] [] := by
  refine onlyBits.putb (onlyBits.putb (onlyBits.event (onlyBits.putb (onlyBits.put (onlyBits.refl s) ?_) ?_) ?_) ?_) ?_ <;> decide

theorem onlyRegs_holdoverLeft (s : State) : onlyRegs s (holdoverLeft s) := .setPll (.put (.put (onlyRegs_note s)))

theorem holdoverLeft_fields (s : State) :
    (holdoverLeft s).flag Pg.CLOCK Reg.CLOCK.STATUS_HOLDOVER = false ∧
      (holdoverLeft s).get Pg.CLOCK Reg.CLOCK.HOLD_MAX = (noteHoldover s).get Pg.CLOCK Reg.CLOCK.HOLD_MAX ∧
      (holdoverLeft s).get Pg.CLOCK ⟨0x008, 1, 1, 0⟩ = 1 := by
  simp (disch := decide) [holdoverLeft, setPll, State.flag, State.putb, State.event, State.get_put_same, State.get_put_ne,
    State.get_put_field, Fld.width, b2n]

/-- The end of the holdover ends the episode of its message too. -/
def episodeEnded (v : State) : State := { v with clock := { v.clock with pllEpisode := false } }

theorem exec_holdoverEnd (s : State) : exec .holdoverEnd s = takes s
    (s.full && s.flag Pg.CLOCK Reg.CLOCK.STATUS_HOLDOVER && s.flag Pg.CLOCK Reg.CLOCK.STATUS_REFCLK_QUAL)
    (fun s => episodeEnded (holdoverLeft s)) := by
  show execHoldoverEnd s = _
  unfold execHoldoverEnd episodeEnded holdoverLeft
  rfl

theorem get_episodeEnded (v : State) (p : Nat) (f : Fld) : (episodeEnded v).get p f = v.get p f := State.get_congr p f rfl

theorem flag_episodeEnded (v : State) (p : Nat) (f : Fld) : (episodeEnded v).flag p f = v.flag p f :=
  congrArg (fun n => decide (n = 1)) (get_episodeEnded v p f)

theorem onlyBits.episodeEnded {l : List (Nat × Fld)} {ps : List Nat} (h : onlyBits s v l ps) : onlyBits s (episodeEnded v) l ps :=
  h.regs rfl

theorem episodeEnded_rest (h : onlyRegs s v) :
    { episodeEnded v with regs := s.regs, clock := { (episodeEnded v).clock with pllEpisode := s.clock.pllEpisode } } = s :=
  congrArg (fun x : State => { x with clock := { x.clock with pllEpisode := s.clock.pllEpisode } }) h

theorem episodeEnded_kept (h : onlyRegs s v) (room : logRoom s 0) : sameOuter s (episodeEnded v) ∧ logRoom (episodeEnded v) 0 :=
  ⟨h.sameOuter, h.room room⟩

end Sys2Proof.Machine

open Sys2Proof Sys2Proof.Machine

/-- Settles O18: each loss is a message said in the holdover it enters; the end writes CLOCK and CHIP alone; the limit triggers a
warm reset, which holds the chip safe state. -/
theorem holdoverAndItsEnd : Obligations.HoldoverAndItsEnd := by
  unfold Obligations.HoldoverAndItsEnd
  refine ⟨?_, ?_, ?_, ?_⟩
  · intro s khz full out bad first
    obtain ⟨outer, said⟩ := refclkLost_said (khz := khz) full out first
    obtain ⟨holdover, pll, pllChip⟩ := holdoverShown_flags (refShown s khz)
    obtain ⟨qual, refOk, present, measured⟩ := refShown_fields s khz
    have kept := onlyBits_holdoverShown (refShown s khz)
    have bits := ((onlyBits_refShown s khz).mono (m := refFields ++ holdoverFields) (by decide)).trans (kept.mono (by decide))
    refine gives_flush _ (act := fun s => refclkLost s khz) rfl rfl ?_ outer
      ⟨?_, ?_, ?_, ?_, ?_, said.said, ?_, ?_, ?_, said.rest⟩
    · rw [reducedOrLater_of_full full, Bool.true_and]
      cases khz with
      | none => rfl
      | some k => simp [bad k rfl]
    · rw [said.flag _ (by decide) (by decide) (by decide), holdover]
    · rw [said.flag _ (by decide) (by decide) (by decide), kept.flag_apart (by decide) List.not_mem_nil (by decide) (by decide), qual]
    · rw [said.chipFlag _ (by decide) (by decide) (by decide), kept.flag_apart (by decide) List.not_mem_nil (by decide) (by decide), refOk]
    · rw [said.flag _ (by decide) (by decide) (by decide), pll]
    · rw [said.flag _ (by decide) (by decide) (by decide), kept.flag_apart (by decide) List.not_mem_nil (by decide) (by decide), present]
    · exact (said.service bits (by decide)).trans (service_of_full full)
    · rw [said.get _ (by decide) (by decide) (by decide), kept.get_apart (by decide) List.not_mem_nil (by decide) (by decide), measured]
    · exact (bits.weaken (by decide) (List.nil_subset _)).trans (said.bits.weaken (by decide) (List.Subset.refl _))
  · intro s full locked out first
    obtain ⟨outer, said⟩ := pllUnlock_said out first
    obtain ⟨holdover, pll, pllChip⟩ := holdoverShown_flags s
    have kept := onlyBits_holdoverShown s
    have service := service_of_full full
    refine gives_flush _ (act := fun s => if s.full then raisePll (enterHoldover s) 0 else mainRestart (raisePll (setPll s false) 1)) rfl rfl
      (by simp [powered_of_full full, locked, service]) ?_ ?_ <;> rw [if_pos full]
    · exact outer
    · refine ⟨?_, ?_, ?_, said.said, (said.service kept (by decide)).trans service, ?_, said.rest⟩
      · rw [said.flag _ (by decide) (by decide) (by decide), holdover]
      · rw [said.flag _ (by decide) (by decide) (by decide), pll]
      · rw [said.chipFlag _ (by decide) (by decide) (by decide), pllChip]
      · exact (kept.weaken (by decide) (List.nil_subset _)).trans (said.bits.weaken (by decide) (List.Subset.refl _))
  · intro s full holds qualified room
    have only := onlyRegs_holdoverLeft s
    obtain ⟨left, longest, event⟩ := holdoverLeft_fields s
    obtain ⟨pll, pllChip⟩ := pllLock_setPll (((noteHoldover s).putb Pg.CLOCK Reg.CLOCK.STATUS_HOLDOVER false).event Pg.CLOCK 1) true
    obtain ⟨outer, room'⟩ := episodeEnded_kept only room
    refine gives_takes _ (act := fun s => episodeEnded (holdoverLeft s)) (exec_holdoverEnd s) rfl (by rw [full, holds, qualified]; rfl) outer room' ?_
    simp only [flag_episodeEnded, get_episodeEnded]
    exact ⟨left, pll, pllChip, longest.trans (holdMax_note s), rfl, event, (onlyBits_holdoverLeft s).episodeEnded,
      episodeEnded_rest only⟩
  · intro s full holds past warm cold
    have only := onlyRegs_note s
    have service : (noteHoldover s).service = Svc.FULL :=
      ((onlyBits_note s).get_apart (by decide) List.not_mem_nil (by decide) (by decide)).trans (service_of_full full)
    have svc := only.svc
    have triggered := warmTrigger_eq (bit := 4) (only.powered.trans (powered_of_full full)) (.inr (.inr service))
      (by rw [svc, warm]) (by rw [svc, cold])
    have held : Held noAddr (withWarm (noteHoldover s) 4) (flushLog (warmTrigger (noteHoldover s) 4)) := by
      rw [triggered]; exact held_warm _ _
    obtain ⟨pending, rest⟩ := warm_rest (onlyLogged_of_regs only) warm held
    refine gives_flush _ (act := fun s => warmTrigger (noteHoldover s) 4) rfl rfl ?_ ?_ ⟨pending, ?_, ?_, ?_, rest⟩
    · rw [full, holds]
      simpa [holdoverOver] using past
    · rw [triggered]
      exact only.sameOuter.trans ((sameOuter_withWarm _ _).trans (sameOuter_chipSafe _ _ _))
    · rw [held.service, service_withWarm, service]
    · rw [held.get (by decide) (by decide) (fun e => e) (by decide), get_withWarm, holdMax_note]
    · exact ((onlyBits_note s).weaken (by decide) (List.nil_subset _)).trans
        ((onlyBits_of_withWarm held.onlyBits_reaction).weaken (by decide) (List.Subset.refl _))

end
section
/-! PROOF. The service state and the frame number stand under every operation that neither moves the service state nor counts a
frame: the rules, one per write of the state. -/

namespace Sys2Proof.Machine

variable {s t u : State} {p q v k : Nat} {f g : Fld}

/-- `t` is in the service state of `s`, at its frame. -/
structure Kept (s t : State) : Prop where
  service : t.service = s.service
  frame : t.frame = s.frame

/-- The field is no part of CHIP:STATUS.SERVICE. -/
def Clear (p : Nat) (f : Fld) : Prop := addrOf p f ≠ 0x40 ∨ p = Pg.CHIP ∧ f.off = 0x40 ∧ 2 < f.lo ∧ f.lo ≤ f.hi ∧ f.hi < 32

theorem clear_page (h : 0 < p) : Clear p f := .inl (by simp only [addrOf]; omega)

theorem clear_off (h : f.off % 0x400 ≠ 0x40) : Clear p f := .inl (by simp only [addrOf]; omega)

theorem clear_bit (h : f.off = 0x40 ∧ 2 < f.lo ∧ f.lo ≤ f.hi ∧ f.hi < 32) : Clear Pg.CHIP f := .inr ⟨rfl, h⟩

theorem clear_chan {c : Nat} : Clear (Pg.CHAN c) f := clear_page (Nat.add_pos_left (by decide) c)

theorem clear_phase {c : Nat} : Clear (Pg.PHASE c) f := clear_page (Nat.add_pos_left (by decide) c)

theorem clear_bank {c : Nat} : Clear (Pg.BANK c) f := clear_page (Nat.add_pos_left (by decide) c)

theorem clear_eng {c : Nat} : Clear (Pg.ENG c) f := clear_page (Nat.add_pos_left (by decide) c)

theorem clear_result {c : Nat} : Clear (Pg.RESULT c) f := clear_page (Nat.add_pos_left (by decide) c)

theorem service_put (h : Clear p f) : (t.put p f v).service = t.service := by
  rcases h with h | ⟨rfl, h, lo, le, hi⟩
  · exact State.get_put_ne t v (Ne.symm h)
  · exact State.get_put_field t v (by rw [addrOf, addrOf, h]) le hi (by decide) (.inl lo)

namespace Kept

theorem refl : Kept s s := ⟨rfl, rfl⟩

theorem trans (h : Kept s t) (k : Kept t u) : Kept s u := ⟨k.service.trans h.service, k.frame.trans h.frame⟩

/-- A change of anything but the registers and the frame number. -/
theorem updated {held' : Table Word} {powered' alert' : Bool} {free' rcUs' : Nat} {svc' : SvcState} {log' : LogState} {fault'
    : FaultState} {clock' : ClockState} {transit' : TransitState} {phases' : Table PhaseState} {chans' : Table ChanState}
    {banks' : Table BankState} {accs' : Table ChanAcc} {bankAccs' : Table BankAcc} {ledger' : LedgerState} {recipes' : Table
    RecipeState} {commits' : Table Bool} {recOld' memErr' otpA' otpB' otpWeakA' otpWeakB' snaps' : Table Nat} {opened' : List
    Nat} {ended' : List (Nat × Nat)} {events' : List StepEvent} {engs' : Table EngState} {grades' : Table GradeState}
    {commons' : CommonsState} {keeper' : KeeperState} {hk' : HkState} {backup' : BackupState} {gauge' : GaugeState} {rtc' :
    RtcState} {timer' : TimerState} {otpOp' : Option OtpOp} {gran' : GranaryState} {stream' : StreamState} {reply' : Reply}
    {hostHeld' : List HeldFrame} {staged' : List (Nat × Nat × Nat)} {keys' : Table KeySeq} {pending' : List Instr}
    (h : Kept s t) :
    Kept s ⟨t.regs, held', powered', t.frame, free', rcUs', svc', log', fault', clock', transit', phases', chans', banks',
    accs', bankAccs', ledger', recipes', commits', recOld', memErr', opened', ended', events', engs', grades', commons',
    keeper', hk', backup', gauge', rtc', timer', otpA', otpB', otpWeakA', otpWeakB', otpOp', gran', stream', alert', reply',
    hostHeld', staged', snaps', keys', pending'⟩ :=
  ⟨Eq.trans (State.get_congr _ _ rfl) h.service, h.frame⟩

theorem put (h : Kept s t) (c : Clear p f) : Kept s (t.put p f v) := ⟨(service_put c).trans h.service, h.frame⟩

theorem wr {a : Nat} {w : Word} (h : Kept s t) (c : a ≠ 0x40) : Kept s (t.wr a w) :=
  ⟨Eq.trans (State.get_congr _ _ (State.rd_wr_ne t w (Ne.symm c))) h.service, h.frame⟩

theorem puti {v : Int} (h : Kept s t) (c : Clear p f) : Kept s (t.puti p f v) := h.put c

theorem putSat {v : Int} (h : Kept s t) (c : Clear p f) : Kept s (t.putSat p f v) := h.put c

theorem putb {b : Bool} (h : Kept s t) (c : Clear p f) : Kept s (t.putb p f b) := h.put c

theorem addCount (h : Kept s t) (c : Clear p f) : Kept s (t.addCount p f k) := h.put c

theorem bump (h : Kept s t) (c : Clear p f) : Kept s (t.bump p f) := h.put c

theorem bumpWrap (h : Kept s t) (c : Clear p f) : Kept s (t.bumpWrap p f) := h.put c

theorem putBit {b : Bool} (h : Kept s t) (c : Clear p ⟨f.off, f.lo + k, f.lo + k, 0⟩) : Kept s (t.putBit p f k b) := h.put c

theorem put64 (h : Kept s t) (c : Clear p f) (d : Clear p g) : Kept s (t.put64 p f g v) := (h.put c).put d

theorem event (h : Kept s t) : Kept s (t.event p k) := h.put (clear_off (f := ⟨0x008, k, k, 0⟩) (by show 8 % 0x400 ≠ 0x40; decide))

theorem ite {c : Prop} [Decidable c] {a b : State} (ha : Kept s a) (hb : Kept s b) : Kept s (if c then a else b) := by
  split
  · exact ha
  · exact hb

theorem dite {c : Prop} [Decidable c] {a : c → State} {b : ¬ c → State} (ha : ∀ x, Kept s (a x)) (hb : ∀ x, Kept s (b x)) :
    Kept s (if x : c then a x else b x) := by
  split
  · exact ha _
  · exact hb _

theorem first {α : Type} {c : Prop} [Decidable c] {a b : State × α} (ha : Kept s a.1) (hb : Kept s b.1) :
    Kept s (if c then a else b).1 := by
  split
  · exact ha
  · exact hb

theorem third {α β : Type} {c : Prop} [Decidable c] {a b : α × β × State} (ha : Kept s a.2.2) (hb : Kept s b.2.2) :
    Kept s (if c then a else b).2.2 := by
  split
  · exact ha
  · exact hb

theorem foldl {α : Type} {step : State → α → State} {l : List α} (h : Kept s t) (H : ∀ u x, Kept s u → Kept s (step u x)) :
    Kept s (l.foldl step t) := by
  induction l generalizing t with
  | nil => exact h
  | cons x l ih => exact ih (H t x h)

/-- As `foldl`, where the steps keep for the elements of the list only. -/
theorem foldl_mem {α : Type} {step : State → α → State} {l : List α} (h : Kept s t)
    (H : ∀ u, ∀ x ∈ l, Kept s u → Kept s (step u x)) : Kept s (l.foldl step t) := by
  induction l generalizing t with
  | nil => exact h
  | cons x l ih => exact ih (H t x List.mem_cons_self h) fun u y hy => H u y (List.mem_cons_of_mem x hy)

theorem foldlFirst {α β : Type} {step : State × β → α → State × β} {l : List α} {a : State × β} (h : Kept s a.1)
    (H : ∀ u x, Kept s u.1 → Kept s (step u x).1) : Kept s (l.foldl step a).1 := by
  induction l generalizing a with
  | nil => exact h
  | cons x l ih => exact ih (H a x h)

theorem forIdx {n : Nat} {step : State → Nat → State} (h : Kept s t) (H : ∀ u x, Kept s u → Kept s (step u x)) :
    Kept s (forIdx n t step) := h.foldl H

theorem forLeads {step : State → Nat → State} (h : Kept s t) (H : ∀ u x, Kept s u → Kept s (step u x)) :
    Kept s (forLeads t step) := h.forIdx fun u x k => .ite k (H u x k)

end Kept

end Sys2Proof.Machine

end
section
/-! PROOF. The service state and the frame number under each operation of the model that a frame runs, in the model's order. -/

namespace Sys2Proof.Machine

variable {s t : State}

namespace Kept

theorem setPhase {p : Nat} {x : PhaseState} (h : Kept s t) : Kept s (State.setPhase t p x) := by
  unfold Machine.State.setPhase
  exact (.updated h)

theorem setChan {c : Nat} {x : ChanState} (h : Kept s t) : Kept s (State.setChan t c x) := by
  unfold Machine.State.setChan
  exact (.updated h)

theorem setBank {b : Nat} {x : BankState} (h : Kept s t) : Kept s (State.setBank t b x) := by
  unfold Machine.State.setBank
  exact (.updated h)

theorem setAcc {c : Nat} {x : ChanAcc} (h : Kept s t) : Kept s (State.setAcc t c x) := by
  unfold Machine.State.setAcc
  exact (.updated h)

theorem setBankAcc {b : Nat} {x : BankAcc} (h : Kept s t) : Kept s (State.setBankAcc t b x) := by
  unfold Machine.State.setBankAcc
  exact (.updated h)

theorem setRecipe {c : Nat} {x : RecipeState} (h : Kept s t) : Kept s (State.setRecipe t c x) := by
  unfold Machine.State.setRecipe
  exact (.updated h)

theorem setGrade {c : Nat} {x : GradeState} (h : Kept s t) : Kept s (State.setGrade t c x) := by
  unfold Machine.State.setGrade
  exact (.updated h)

theorem setEng {e : Nat} {x : EngState} (h : Kept s t) : Kept s (State.setEng t e x) := by
  unfold Machine.State.setEng
  exact (.updated h)

theorem latch {k : Nat} (h : Kept s t) : Kept s (State.latch t k) := by
  unfold Machine.State.latch
  exact (.ite h (.ite (.updated (.putBit h (clear_page (by decide)))) (.putBit h (clear_page (by decide)))))

theorem setCstate {c v : Nat} (h : Kept s t) : Kept s (State.setCstate t c v) := by
  unfold Machine.State.setCstate
  exact (.ite h (.event (.put h clear_chan)))

theorem fresh (h : Kept s t) : Kept s (State.fresh t).2 := .updated h

theorem logLoss (h : Kept s t) : Kept s (logLoss t) := by
  unfold Machine.logLoss
  exact (.ite h (.updated (.event h)))

theorem logStore {e : LogEntry} (h : Kept s t) : Kept s (logStore t e) := by
  unfold Machine.logStore
  exact (.put (.updated h) (clear_page (by decide)))

theorem logRing {e : LogEntry} (h : Kept s t) : Kept s (logRing t e) := by
  unfold Machine.logRing
  exact (.ite (.ite (.event (.updated (.logStore h))) (.updated (.logStore h))) (.ite (.logLoss (.bump (.put (.logStore h)
    (clear_page (by decide))) (clear_page (by decide)))) (.logLoss (.bump h (clear_page (by decide))))))

theorem collect {e : LogEntry} (h : Kept s t) : Kept s (collect t e) := by
  unfold Machine.collect
  exact (.ite (.updated h) (.ite (.event (.bump h (clear_page (by decide)))) (.updated (.event (.event (.bump h (clear_page
    (by decide))))))))

theorem addEntry {origin page off : Nat} {old new : Nat} {f : LogFlags} (h : Kept s t) : Kept s
  (addEntry t origin page off old new f) := by
  unfold Machine.addEntry
  exact (.ite (.collect (.bumpWrap (.logRing h) (clear_page (by decide)))) (.bumpWrap (.logRing h) (clear_page (by decide))))

theorem logChange {origin page off : Nat} {old new : Nat} (h : Kept s t) : Kept s (logChange t origin
  page off old new) := by
  unfold Machine.logChange
  exact (.bumpWrap (.addEntry h) (clear_off (by decide)))

theorem logPersist {origin page off : Nat} {old new : Nat} (h : Kept s t) : Kept s (logPersist t
  origin page off old new) := by
  unfold Machine.logPersist
  exact (.bumpWrap (.addEntry h) (clear_off (by decide)))

theorem logReject {origin page off : Nat} {old new : Nat} (h : Kept s t) : Kept s (logReject t origin
  page off old new) := by
  unfold Machine.logReject
  exact (.addEntry h)

theorem refuse {origin page off : Nat} {v ev : Nat} (h : Kept s t) : Kept s (refuse t origin page off
  v ev) := by
  unfold Machine.refuse
  exact (.logReject (.event h))

theorem putLogged {origin page : Nat} {f : Fld} {v : Nat} (h : Kept s t) (c : Clear page f) :
    Kept s (putLogged t origin page f v) := by
  unfold Machine.putLogged
  exact .ite h (.logChange (.put h c))

theorem logStep {origin c old : Nat} {new : Nat} (h : Kept s t) : Kept s (logStep t origin c old new) := by
  unfold Machine.logStep
  exact (.addEntry h)

theorem phaseLow {p : Nat} (h : Kept s t) : Kept s (phaseLow t p) := by
  unfold Machine.phaseLow
  exact (.putb (.setPhase h) clear_phase)

theorem phaseSafe {p : Nat} (h : Kept s t) : Kept s (phaseSafe t p) := by
  unfold Machine.phaseSafe
  exact (.ite (.phaseLow (.put (.event (.put (.putb h clear_phase) clear_phase)) clear_phase)) (.phaseLow h))

theorem isoLow {c : Nat} (h : Kept s t) : Kept s (isoLow t c) := by
  unfold Machine.isoLow
  exact (.putb (.setChan h) clear_phase)

theorem stageOff {c : Nat} (h : Kept s t) : Kept s (stageOff t c) := by
  unfold Machine.stageOff
  exact (.setChan (.isoLow (.phaseLow (.phaseLow h))))

theorem markEnd {c result cause : Nat} (h : Kept s t) : Kept s (markEnd t c result cause) := by
  unfold Machine.markEnd
  exact (.setChan (.foldl h fun _ _ h => (.put (.put h clear_chan) clear_chan)))

theorem clearRunFlags {c : Nat} (h : Kept s t) : Kept s (clearRunFlags t c) := by
  unfold Machine.clearRunFlags
  exact (.setChan (.put (.putb (.putb (.putb (.putb (.putb (.putb (.put h clear_chan) clear_chan) clear_chan) clear_chan)
    clear_chan) clear_chan) clear_chan) clear_chan))

theorem chanSafe {c result cause : Nat} (h : Kept s t) : Kept s (chanSafe t c result cause) := by
  unfold Machine.chanSafe
  exact (.ite h (.setCstate (.clearRunFlags (.ite (.markEnd (.putLogged (.foldl h fun _ _ h => (.stageOff (.phaseSafe
    (.phaseSafe h)))) clear_chan)) (.ite (.foldl (.putLogged (.foldl h fun _ _ h => (.stageOff (.phaseSafe (.phaseSafe h))))
    clear_chan) fun _ _ h => (.put h clear_chan)) (.putLogged (.foldl h fun _ _ h => (.stageOff (.phaseSafe (.phaseSafe h))))
    clear_chan))))))

theorem safeChans {page kind addr : Nat} {l : List Nat} (h : Kept s t) : Kept s (safeChans t page kind addr
  l) := by
  unfold Machine.safeChans
  exact (.foldl h fun _ _ h => (.chanSafe h))

theorem chipSafeWith {result cause : Nat} (h : Kept s t) : Kept s (chipSafeWith t result cause) := by
  unfold Machine.chipSafeWith
  exact (.ite (.foldl (.put (.putb h (clear_page (by decide))) (clear_page (by decide))) fun _ _ h => (.chanSafe h)) (.put
    (.putb h (clear_page (by decide))) (clear_page (by decide))))

theorem takeScope {page kind addr : Nat} {x : Scope} (h : Kept s t) : Kept s (takeScope t page kind addr x)
  := by
  unfold Machine.takeScope
  exact (by dsimp only; split; exacts [(.ite (.safeChans h) h), (.ite (.safeChans (.putBit h (clear_page (by decide))))
    (.putBit h (clear_page (by decide)))), (.ite (.safeChans (.put (.putb h (clear_page (by decide))) (clear_page (by
    decide)))) (.put (.putb h (clear_page (by decide))) (clear_page (by decide))))])

theorem capStore {k : Nat} (h : Kept s t) : Kept s (capStore t k) := by
  unfold Machine.capStore
  exact (.event (.putb (.put (.put (.ite (.event (.putb h (clear_page (by decide)))) h) (clear_page (by decide))) (clear_page
    (by decide))) (clear_page (by decide))))

theorem captureSource {src : Nat} (h : Kept s t) : Kept s (captureSource t src) := by
  unfold Machine.captureSource
  exact (.ite (.foldl h fun _ _ h => (.ite (.capStore h) h)) h)

theorem publishFaultN (h : Kept s t) : Kept s (publishFaultN t) := by
  unfold Machine.publishFaultN
  exact (.ite (.captureSource (.putb (.putb h (clear_page (by decide))) (clear_bit (by decide)))) (.putb (.putb h (clear_page
    (by decide))) (clear_bit (by decide))))

theorem driveFaultN (h : Kept s t) : Kept s (driveFaultN t) := by
  unfold Machine.driveFaultN
  exact (.ite h (.chipSafeWith (.publishFaultN (.putb h (clear_page (by decide))))))

theorem enqueueMsg {msg : Nat} (h : Kept s t) : Kept s (enqueueMsg t msg) := by
  unfold Machine.enqueueMsg
  exact (.ite (.updated h) (.event (.bump h (clear_page (by decide)))))

theorem makeEntry {page kind addr : Nat} {sev : Nat} (h : Kept s t) : Kept s (makeEntry t page kind addr sev)
  := by
  unfold Machine.makeEntry
  exact (.ite h (.ite (.event (.ite (.latch (.updated h)) (.updated h))) (.ite (.latch (.updated h)) (.updated h))))

theorem queueCrier {msg : Nat} (h : Kept s t) : Kept s (queueCrier t msg) := by
  unfold Machine.queueCrier
  exact (.ite (.ite (.updated h) (.bump h (clear_page (by decide)))) h)

theorem startRecord {msg : Nat} {injected : Bool} {crier : Bool} (h : Kept s t) : Kept s (startRecord t msg injected crier)
  := by
  unfold Machine.startRecord
  exact (.ite (.bump h (clear_page (by decide))) (.ite (.updated (.putb h (clear_page (by decide)))) (.updated (.putb h
    (clear_page (by decide))))))

theorem raiseScoped {page kind addr : Nat} {sev : Nat} {injected : Bool} {scope : Option Scope} (h : Kept s
  t) : Kept s (raiseScoped t page kind addr sev injected scope) := by
  unfold Machine.raiseScoped
  extract_lets +onlyGivenNames msg u1 u2 u3 u4 n u5 cr u6 u7
  have h2 : Kept s u2 := .event (.bump (.event (.put h (clear_off (by decide)))) (clear_page (by decide)))
  have h4 : Kept s u4 := .makeEntry (.enqueueMsg (.ite (.event h2) h2))
  have h5 : Kept s u5 := .ite (.queueCrier h4) h4
  have h6 : Kept s u6 := .ite (.startRecord h5) h5
  have h7 : Kept s u7 := by
    cases scope with
    | none => exact h6
    | some x => exact .takeScope h6
  exact .ite (.driveFaultN h7) h7

theorem raiseWith {page kind addr : Nat} {sev : Nat} {injected : Bool} (h : Kept s t) : Kept s (raiseWith t
  page kind addr sev injected) := by
  unfold Machine.raiseWith
  exact (.raiseScoped h)

theorem raiseIdle {page kind addr : Nat} (h : Kept s t) : Kept s (raiseIdle t page kind addr) := by
  unfold Machine.raiseIdle
  exact (.raiseScoped h)

theorem raise {page kind addr : Nat} (h : Kept s t) : Kept s (raise t page kind addr) := by
  unfold Machine.raise
  exact (.raiseWith h)

theorem flushLog (h : Kept s t) : Kept s (flushLog t) := by
  unfold Machine.flushLog
  exact (.foldl (.updated h) fun _ _ h => (.raise h))

theorem refreshSafe (h : Kept s t) : Kept s (refreshSafe t) := by
  unfold Machine.refreshSafe
  exact (.foldl (.putb h (clear_page (by decide))) fun _ _ h => (.putBit h (clear_page (by decide))))

theorem refreshFaultN (h : Kept s t) : Kept s (refreshFaultN t) := by
  unfold Machine.refreshFaultN
  exact (.ite (.chipSafeWith (.publishFaultN (.putb h (clear_page (by decide))))) (.publishFaultN (.putb h (clear_page (by
    decide)))))

theorem setRole {b k r : Nat} (h : Kept s t) : Kept s (setRole t b k r) := by
  unfold Machine.setRole
  exact (.put h clear_bank)

theorem countSubst {b n : Nat} (h : Kept s t) : Kept s (countSubst t b n) := by
  unfold Machine.countSubst
  exact (.ite h (.event (.addCount h clear_bank)))

theorem latchChan {b k : Nat} {inp : BankIn} (h : Kept s t) : Kept s (latchChan t b k inp) := by
  unfold Machine.latchChan
  exact (.countSubst (.ite (.event (.putb (.setChan h) clear_bank)) (.putb (.setChan h) clear_bank)))

theorem latchBus {b : Nat} {inp : BankIn} (h : Kept s t) : Kept s (latchBus t b inp) := by
  unfold Machine.latchBus
  exact (.countSubst (.ite (.event (.putb (.setBank (.updated h)) clear_bank)) (.putb (.setBank (.updated h)) clear_bank)))

theorem latchBank {b : Nat} {inp : BankIn} (h : Kept s t) : Kept s (latchBank t b inp) := by
  unfold Machine.latchBank
  exact (.setBank (.latchBus (.updated (.forIdx h fun _ _ h => (.latchChan h)))))

theorem avgStep {b a : Nat} {x : Int} {sub : Bool} (h : Kept s t) : Kept s (avgStep t b a x sub) := by
  unfold Machine.avgStep
  exact (.ite (.putb (.putb (.puti (.setBank h) clear_bank) clear_bank) clear_bank) (.putb (.putb (.put (.setBank h)
    clear_bank) clear_bank) clear_bank))

theorem avgRestart {b a : Nat} (h : Kept s t) : Kept s (avgRestart t b a) := by
  unfold Machine.avgRestart
  exact (.setBank h)

theorem trackEmpty {b t' : Nat} (h : Kept s t) : Kept s (trackEmpty t b t') := by
  unfold Machine.trackEmpty
  exact (.putb (.put (.put (.put (.put h clear_bank) clear_bank) clear_bank) clear_bank) clear_bank)

theorem trackEnter {b t' : Nat} {x : Int} {frame : Nat} (h : Kept s t) : Kept s (trackEnter t b t' x frame) := by
  unfold Machine.trackEnter
  exact (.ite (.putb (.put (.puti (.put (.puti h clear_bank) clear_bank) clear_bank) clear_bank) clear_bank) (.ite (.put
    (.puti (.ite (.put (.puti h clear_bank) clear_bank) h) clear_bank) clear_bank) (.ite (.put (.puti h clear_bank)
    clear_bank) h)))

theorem trackStep {b t' : Nat} {src : Bool} {x : Int} {avg frame : Nat} (h : Kept s t) : Kept s (trackStep t
  b t' src x avg frame) := by
  unfold Machine.trackStep
  exact (.ite (.ite (.trackEnter (.ite (.trackEmpty h) h)) (.ite (.trackEmpty h) h)) (.trackEnter (.ite (.trackEmpty h) h)))

theorem seedBank {b : Nat} (h : Kept s t) : Kept s (seedBank t b) := by
  unfold Machine.seedBank
  exact (.forIdx h fun _ _ h => (.put (.setChan h) clear_bank))

theorem trackRp {c : Nat} {crit : Bool} (h : Kept s t) : Kept s (trackRp t c crit) := by
  unfold Machine.trackRp
  exact (.putb (.putSat (.ite h (.ite (.setChan h) h)) clear_bank) clear_bank)

theorem measureBank {b n : Nat} (h : Kept s t) : Kept s (measureBank t b n) := by
  unfold Machine.measureBank
  exact (.setBank (.put (.trackStep (.avgStep (.avgStep (.forIdx h fun _ _ h => (.put (.trackStep (.trackStep (.avgStep
    (.avgStep (.avgStep h))))) clear_bank))))) clear_bank))

theorem countSat {c n : Nat} (h : Kept s t) : Kept s (countSat t c n) := by
  unfold Machine.countSat
  exact (.ite h (.addCount (.putb h clear_chan) (clear_page (by decide))))

theorem clearRun {c start : Nat} (h : Kept s t) : Kept s (clearRun t c start) := by
  unfold Machine.clearRun
  exact (.put (.putb (.putb (.put (.put (.setAcc h) clear_chan) clear_chan) clear_chan) clear_chan) clear_chan)

theorem addFrame {c n t' : Nat} (h : Kept s t) : Kept s (addFrame t c n t') := by
  unfold Machine.addFrame
  exact (.put (.ite (.ite (.putb (.putb (.bump (.countSat (.setAcc (.ite (.clearRun (.setChan h)) h))) clear_chan)
    clear_chan) clear_chan) (.putb (.bump (.countSat (.setAcc (.ite (.clearRun (.setChan h)) h))) clear_chan) clear_chan))
    (.countSat (.setAcc (.ite (.clearRun (.setChan h)) h)))) clear_chan)

theorem startStepAcc {c : Nat} (h : Kept s t) : Kept s (startStepAcc t c) := by
  unfold Machine.startStepAcc
  exact (.putb (.putb (.putb (.putb (.setAcc h) clear_chan) clear_chan) clear_chan) clear_chan)

theorem restartWindow {b : Nat} (h : Kept s t) : Kept s (restartWindow t b) := by
  unfold Machine.restartWindow
  exact (.put (.setBankAcc (.ite (.putb h (clear_page (by decide))) h)) (clear_page (by decide)))

theorem addBankFrame {b t' : Nat} (h : Kept s t) : Kept s (addBankFrame t b t') := by
  unfold Machine.addBankFrame
  exact (.ite (.setBankAcc (.ite (.restartWindow (.putb h (clear_page (by decide)))) (.putb h (clear_page (by decide)))))
    (.ite (.bump (.setBankAcc (.ite (.restartWindow (.putb h (clear_page (by decide)))) (.putb h (clear_page (by decide)))))
    (clear_page (by decide))) (.bump (.setBankAcc (.setBankAcc (.ite (.restartWindow (.putb h (clear_page (by decide))))
    (.putb h (clear_page (by decide)))))) (clear_page (by decide)))))

theorem ledgerFrame {n t' : Nat} (h : Kept s t) : Kept s (ledgerFrame t n t') := by
  unfold Machine.ledgerFrame
  exact (.put64 (.forIdx (.forIdx h fun _ _ h => (.addFrame h)) fun _ _ h => (.addBankFrame h)) (clear_page (by decide))
    (clear_page (by decide)))

theorem boardSnap {n : Nat} (h : Kept s t) : Kept s (boardSnap t n) := by
  unfold Machine.boardSnap
  exact .event (.put64 (.forIdx h fun _ _ h => .forIdx h fun _ _ h => .wr h (by simp only [Pg.CHAN]; omega))
    (clear_page (by decide)) (clear_page (by decide)))

theorem readBalls {f : FrameIn} (h : Kept s t) : Kept s (readBalls t f) := by
  unfold Machine.readBalls
  exact (.updated h)

theorem setCommitted {b r : Nat} {v : Bool} (h : Kept s t) : Kept s (setCommitted t b r v) := by
  unfold Machine.setCommitted
  exact (.updated h)

theorem countEcc {c : Nat} {rs : List Nat} (h : Kept s t) : Kept s (countEcc t c rs) := by
  unfold Machine.countEcc
  exact (.foldl h fun _ _ h => (.addCount h clear_chan))

theorem memFlip {e : Nat × Bool} (h : Kept s t) : Kept s (memFlip t e) := by
  unfold Machine.memFlip
  exact (.updated h)

theorem setRstate {c v : Nat} (h : Kept s t) : Kept s (setRstate t c v) := by
  unfold Machine.setRstate
  exact (.put h clear_chan)

theorem endRegs {c : Nat} {e : EndInfo} {last : Nat} (h : Kept s t) : Kept s (endRegs t c e last) := by
  unfold Machine.endRegs
  exact .updated (.put (.puti (.forIdx (.put (.put h clear_chan) clear_chan) fun _ _ h =>
    .wr h (by simp only [Pg.CHAN]; omega)) clear_chan) clear_chan)

theorem closeStep {c : Nat} {e : EndInfo} {last : Nat} (h : Kept s t) : Kept s (closeStep t c e last) := by
  unfold Machine.closeStep
  extract_lets +onlyGivenNames l p
  refine .ite ?_ (.setChan h)
  extract_lets +onlyGivenNames src u1 u2 x u3 u4 y u5
  have h1 : Kept s u1 := .foldl h fun _ _ h => .putb h clear_chan
  have h2 : Kept s u2 := .ite h1 (.foldl h1 fun _ _ h => .put (.put h clear_chan) clear_chan)
  have h5 : Kept s u5 := .setRecipe (.updated (.setChan h2))
  refine .ite ?_ h5
  extract_lets +onlyGivenNames u6 u7 u8
  have h7 : Kept s u7 := .bump (.endRegs h5) clear_chan
  have h8 : Kept s u8 := .ite h7 (.put h7 clear_chan)
  exact .ite (.logStep h8) h8

theorem closeEnded {c last : Nat} {e : Nat × Nat} (h : Kept s t) : Kept s (closeEnded t c last e) := by
  unfold Machine.closeEnded
  exact (.closeStep h)

theorem closePending {last : Nat} (h : Kept s t) : Kept s (closePending t last) := by
  unfold Machine.closePending
  exact (.forIdx h fun _ _ h => (by split; exacts [h, (.closeEnded h)]))

theorem enterRampdown {c : Nat} {fin : Option (Nat × Nat)} (h : Kept s t) : Kept s (enterRampdown t c fin) := by
  unfold Machine.enterRampdown
  exact (.setCstate (.setChan h))

theorem enterOff {c : Nat} {fin : Option (Nat × Nat)} {last : Nat} (h : Kept s t) : Kept s (enterOff t c fin last) := by
  unfold Machine.enterOff
  exact (.setCstate (.clearRunFlags (by split; exacts [(.closeStep (.foldl h fun _ _ h => .stageOff h)), (.foldl h fun _ _ h
    => .stageOff h)])))

theorem actDisable {c last : Nat} (h : Kept s t) : Kept s (actDisable t c last) := by
  unfold Machine.actDisable
  exact (.ite h (.ite (.enterRampdown h) (.ite (.enterOff h) h)))

theorem clearRuns {p : Nat} (h : Kept s t) : Kept s (clearRuns t p) := by
  unfold Machine.clearRuns
  exact (.setPhase h)

theorem phaseFresh {p : Nat} (h : Kept s t) : Kept s (phaseFresh t p) := by
  unfold Machine.phaseFresh
  exact (.put (.putb (.setPhase h) clear_phase) clear_phase)

theorem revertFactoryLocks (h : Kept s t) : Kept s (revertFactoryLocks t) := by
  unfold Machine.revertFactoryLocks
  exact (.foldl h fun _ _ h => (.putLogged h (clear_off (by decide))))

theorem preCheckFail {c : Nat} (h : Kept s t) : Kept s (preCheckFail t c) := by
  unfold Machine.preCheckFail
  exact (.setChan (.ite (.put (.put (.put (.putLogged h clear_chan) clear_chan) clear_chan) clear_chan) (.putLogged h
    clear_chan)))

theorem enterConnect {c : Nat} (h : Kept s t) : Kept s (enterConnect t c) := by
  suffices ∀ g, g = @Machine.enterConnect → Kept s (g t c) from this _ rfl
  intro g e
  delta Machine.enterConnect at e
  subst e
  beta_reduce
  extract_lets +onlyGivenNames p mode u
  have hu : Kept s u := .revertFactoryLocks (.putb h clear_chan)
  cases preCheck u c mode with
  | some x => exact .preCheckFail hu
  | none =>
    dsimp -zeta only
    extract_lets +onlyGivenNames res g u1 u2 u3 x v0 u4 u5 u6 u7 u8 u9
    have h1 : Kept s u1 := .foldl hu fun _ _ h => .phaseFresh (.phaseFresh h)
    have h2 : Kept s u2 := .foldl h1 fun _ _ h => .putb (.setChan h) clear_bank
    have h3 : Kept s u3 := .ite (.foldl h2 fun _ _ h => .putb h clear_chan) (.foldl h2 fun _ _ h => .startStepAcc h)
    have h6 : Kept s u6 := .putb (.put (.setChan h3) clear_chan) clear_chan
    have h7 : Kept s u7 := .ite h6 (.putb (.put h6 clear_chan) clear_chan)
    exact .setCstate (.put (.put (.putb h7 clear_chan) clear_chan) clear_chan)

theorem markWaiting {c : Nat} (h : Kept s t) : Kept s (markWaiting t c) := by
  unfold Machine.markWaiting
  exact (.ite h (.putb h clear_chan))

theorem tryConnect {starts : Bool} {c : Nat} (h : Kept s t) : Kept s (tryConnect t starts c) := by
  unfold Machine.tryConnect
  exact (.ite h (.ite (.enterConnect h) (.putb h clear_chan)))

theorem actContact {c a : Nat} (h : Kept s t) : Kept s (actContact t c a) := by
  unfold Machine.actContact
  exact (.raise (.chanSafe (.event h)))

theorem actGuards {l : Nat} {b : Bool × Bool × Bool} (h : Kept s t) : Kept s (actGuards t l b) := by
  unfold Machine.actGuards
  exact (.ite (.raise (.ite (.raise (.ite (.raise (.setChan h)) (.setChan h))) (.ite (.raise (.setChan h)) (.setChan h))))
    (.ite (.raise (.ite (.raise (.setChan h)) (.setChan h))) (.ite (.raise (.setChan h)) (.setChan h))))

theorem countProbe {c : Nat} (h : Kept s t) : Kept s (countProbe t c) := by
  unfold Machine.countProbe
  exact (.setChan h)

theorem applyMode {c : Nat} (h : Kept s t) : Kept s (applyMode t c) := by
  unfold Machine.applyMode
  exact (.ite h (.ite h (.put (.putb (.putb (.putb (.put (.put (.setChan h) clear_chan) clear_chan) clear_chan) clear_chan)
    clear_chan) clear_chan)))

theorem actZv {c : Nat} (h : Kept s t) : Kept s (actZv t c) := by
  unfold Machine.actZv
  exact (.ite (.event (.putb h clear_chan)) h)

theorem stepVref {c len : Nat} (h : Kept s t) : Kept s (stepVref t c len) := by
  unfold Machine.stepVref
  exact (.ite (.put (.setChan h) clear_chan) h)

theorem stepPulse {c : Nat} (h : Kept s t) : Kept s (stepPulse t c) := by
  unfold Machine.stepPulse
  exact (.ite h (.ite (.setChan h) (.ite (.event (.putb (.put (.setChan h) clear_chan) clear_chan)) (.put (.setChan h)
    clear_chan))))

theorem voltageLoop (h : Kept s t) : Kept s (voltageLoop t).2 := .updated h

theorem targetOf {c : Nat} (h : Kept s t) : Kept s (targetOf t c).2.2 := by
  unfold Machine.targetOf
  extract_lets +onlyGivenNames p m x iset mag
  refine .third h (.third h (.third h (.third ?_ (.third ?_ (.third h (.third h (.third h h)))))))
  · exact .voltageLoop h
  · exact .voltageLoop h

theorem tryRun {c : Nat} (h : Kept s t) : Kept s (tryRun t c) := by
  unfold Machine.tryRun
  exact .ite (.setChan (.targetOf (.setCstate h))) h

theorem countRetargets {old : State} {c : Nat} (h : Kept s t) : Kept s (countRetargets old t c) := by
  unfold Machine.countRetargets
  extract_lets +onlyGivenNames a x y u
  have hu : Kept s u := .ite (.setGrade h) h
  exact .ite (.addCount hu clear_chan) hu

theorem standingTarget {c : Nat} (h : Kept s t) : Kept s (standingTarget t c).2.2 := by
  unfold Machine.standingTarget
  exact .third h (.targetOf h)

theorem stepRef {c len : Nat} {ok edge : Bool} (h : Kept s t) : Kept s (stepRef t c len ok edge) := by
  unfold Machine.stepRef
  extract_lets +onlyGivenNames p st x u
  have hu : Kept s u := .putb (.setChan h) clear_chan
  refine .ite ?_ (.ite (.setChan hu) (.ite (.setChan hu) (.setChan hu)))
  extract_lets +onlyGivenNames target u1 y u2 m iset kept cv z u3 u4 u5
  have h1 : Kept s u1 := .third (.targetOf hu) (.standingTarget hu)
  have h3 : Kept s u3 := .setChan (.setChan h1)
  have h4 : Kept s u4 := .ite (.put h3 clear_chan) h3
  exact .setChan (.putb (.putb h4 clear_chan) clear_chan)

theorem commitRef {c len : Nat} (h : Kept s t) : Kept s (commitRef t c len) := by
  unfold Machine.commitRef
  exact (.puti (.setChan (.ite (.event (.putb (.ite (.event (.putb (.ite (.event (.putb h clear_chan)) (.putb h clear_chan))
    clear_chan)) (.putb (.ite (.event (.putb h clear_chan)) (.putb h clear_chan)) clear_chan)) clear_chan)) (.putb (.ite
    (.event (.putb (.ite (.event (.putb h clear_chan)) (.putb h clear_chan)) clear_chan)) (.putb (.ite (.event (.putb h
    clear_chan)) (.putb h clear_chan)) clear_chan)) clear_chan))) clear_chan)

theorem setSwitching {c : Nat} (h : Kept s t) : Kept s (setSwitching t c) := by
  unfold Machine.setSwitching
  exact (.foldl (.ite h (.setChan h)) fun _ _ h => (.ite (.putb (.ite h (.putb (.clearRuns (.setPhase h)) clear_phase))
    clear_phase) (.ite (.phaseLow h) (.clearRuns (.phaseLow h)))))

theorem tryRampEnd {c last : Nat} (h : Kept s t) : Kept s (tryRampEnd t c last) := by
  unfold Machine.tryRampEnd
  exact (.ite (.enterOff h) h)

theorem trySafeExit {c : Nat} (h : Kept s t) : Kept s (trySafeExit t c) := by
  unfold Machine.trySafeExit
  exact (.ite (.setCstate h) h)

theorem leaveSafe (h : Kept s t) : Kept s (leaveSafe t) := by
  unfold Machine.leaveSafe
  exact (.refreshFaultN (.forIdx (.refreshSafe h) fun _ _ h => .trySafeExit h))

theorem clampNow {l : Nat} (h : Kept s t) : Kept s (clampNow t l) := by
  unfold Machine.clampNow
  exact (.ite (.puti (.setChan (.ite (.putb h clear_chan) (.event (.putb h clear_chan)))) clear_chan) h)

theorem dropOut {p cause kind : Nat} {addr : Nat} (h : Kept s t) : Kept s (dropOut t p cause kind addr) := by
  unfold Machine.dropOut
  exact (.clampNow (.ite (.chanSafe (.raise (.setPhase (.phaseLow (.put (.event (.putb (.ite h (.put h clear_phase))
    clear_phase)) clear_phase))))) (.raise (.setPhase (.phaseLow (.put (.event (.putb (.ite h (.put h clear_phase))
    clear_phase)) clear_phase))))))

theorem slowTrip {p : Nat} (h : Kept s t) : Kept s (slowTrip t p) := by
  unfold Machine.slowTrip
  exact (.ite (.dropOut h) h)

theorem slowFrame {p : Nat} {imon : Int} {len : Nat} (h : Kept s t) : Kept s (slowFrame t p imon len) := by
  unfold Machine.slowFrame
  exact (.putb (.ite (.event (.put (.setPhase h) clear_phase)) (.put (.setPhase h) clear_phase)) clear_phase)

theorem phaseFrame {p : Nat} {imon : Int} (h : Kept s t) : Kept s (phaseFrame t p imon) := by
  unfold Machine.phaseFrame
  exact (.ite (.putSat (.putb (.ite (.put (.putb (.setPhase h) clear_phase) clear_phase) (.putb (.setPhase h) clear_phase))
    clear_phase) clear_phase) (.putb (.ite (.put (.putb (.setPhase h) clear_phase) clear_phase) (.putb (.setPhase h)
    clear_phase)) clear_phase))

theorem countSwitching {c : Nat} (h : Kept s t) : Kept s (countSwitching t c) := by
  unfold Machine.countSwitching
  exact (.ite (.setChan h) h)

theorem setTrims {c : Nat} {t' : Int} (h : Kept s t) : Kept s (setTrims t c t') := by
  unfold Machine.setTrims
  exact (.putSat (.putSat h clear_phase) clear_phase)

theorem setTrimLimit {c : Nat} {b : Bool} (h : Kept s t) : Kept s (setTrimLimit t c b) := by
  unfold Machine.setTrimLimit
  exact (.foldl h fun _ _ h => (.ite (.event (.putb h clear_phase)) (.putb h clear_phase)))

theorem balanceStep {c : Nat} {ia : Int} {ib : Int} (h : Kept s t) : Kept s (balanceStep t c ia ib) := by
  unfold Machine.balanceStep
  exact (.setTrimLimit (.setTrims h))

theorem setBalActive {c : Nat} {b : Bool} (h : Kept s t) : Kept s (setBalActive t c b) := by
  unfold Machine.setBalActive
  exact (.foldl h fun _ _ h => (.putb h clear_phase))

theorem balancePass {c : Nat} {ia : Int} {ib : Int} (h : Kept s t) : Kept s (balancePass t c ia ib) := by
  unfold Machine.balancePass
  exact (.balanceStep (.setBalActive (.setChan (.ite h (.event (.event h))))))

theorem balanceFrame {c : Nat} {ia : Int} {ib : Int} (h : Kept s t) : Kept s (balanceFrame t c ia ib) := by
  unfold Machine.balanceFrame
  exact (.ite (.ite (.balancePass h) h) (.setTrimLimit (.setBalActive (.setTrims h))))

theorem shortChan {l : Nat} (h : Kept s t) : Kept s (shortChan t l) := by
  unfold Machine.shortChan
  exact (.chanSafe (.raise h))

theorem countZv {l : Nat} (h : Kept s t) : Kept s (countZv t l) := by
  unfold Machine.countZv
  exact (.setChan h)

theorem writeTargets {c r z : Nat} (h : Kept s t) : Kept s (writeTargets t c r z) := by
  unfold Machine.writeTargets
  exact (.ite (.put (.puti (.put h clear_chan) clear_chan) clear_chan) (.ite (.puti (.puti (.put h clear_chan) clear_chan)
    clear_chan) (.ite (.puti (.puti (.put h clear_chan) clear_chan) clear_chan) (.puti (.put h clear_chan) clear_chan))))

theorem writeStep {c r z : Nat} (h : Kept s t) : Kept s (writeStep t c r z) := by
  unfold Machine.writeStep
  exact (.put (.ite (.put (.put (.put (.put (.put (.put (.put (.put (.put (.put (.writeTargets h) clear_chan) clear_chan)
    clear_chan) clear_chan) clear_chan) clear_chan) clear_chan) clear_chan) clear_chan) clear_chan) (.put (.put (.put (.put
    (.put (.put (.put (.put (.writeTargets h) clear_chan) clear_chan) clear_chan) clear_chan) clear_chan) clear_chan)
    clear_chan) clear_chan)) clear_chan)

theorem markEvent {c : Nat} {m : Met} (h : Kept s t) : Kept s (markEvent t c m) := by
  unfold Machine.markEvent
  exact (.ite h (.updated (.setRecipe h)))

theorem qvCheck {c : Nat} {met : List Met} (h : Kept s t) : Kept s (qvCheck t c met) := by
  unfold Machine.qvCheck
  exact (by dsimp only; split; exacts [h, (.ite (.raise (.putSat (.putSat (.putb h clear_chan) clear_chan) clear_chan)) h)])

theorem decideFrame {c : Nat} (h : Kept s t) : Kept s (decideFrame t c).1 := by
  unfold Machine.decideFrame
  extract_lets +onlyGivenNames p rc
  refine .first h ?_
  extract_lets +onlyGivenNames u1 u2
  have h1 : Kept s u1 := by unfold u1; split; exacts [.putSat h clear_chan, h]
  have h2 : Kept s u2 := by unfold u2; split; exacts [.putSat h1 clear_chan, h1]
  exact .first h2 (.qvCheck (.foldl (.putb h2 clear_chan) fun _ _ h => .markEvent h))

theorem freshContext {c : Nat} (h : Kept s t) : Kept s (freshContext t c) := by
  unfold Machine.freshContext
  exact (.foldl (.setChan (.put (.putb (.putb (.putb (.put (.setRecipe h) clear_chan) clear_chan) clear_chan) clear_chan)
    clear_chan)) fun _ _ h => (.setChan h))

theorem showBad {c : Nat} {e : Nat × Nat} (h : Kept s t) : Kept s (showBad t c e) := by
  unfold Machine.showBad
  exact (.put (.put h clear_chan) clear_chan)

theorem loadStep {c n : Nat} (h : Kept s t) : Kept s (loadStep t c n) := by
  unfold Machine.loadStep
  exact (.countEcc (.writeStep (.setRecipe (.put (.put (.put h clear_chan) clear_chan) clear_chan))))

theorem endRecipe {c : Nat} {a : Choice} {act result last : Nat} (h : Kept s t) : Kept s (endRecipe t c a act
  result last) := by
  unfold Machine.endRecipe
  exact (.ite (.enterOff (.putLogged (.closeStep h) clear_chan)) (.enterRampdown (.putLogged (.closeStep h) clear_chan)))

theorem openNext {c t' : Nat} {a : Choice} {last : Nat} (h : Kept s t) : Kept s (openNext t c t' a last) := by
  unfold Machine.openNext
  exact (by dsimp only; split; exacts [(.endRecipe (.showBad h)), (.updated (.bump (.logStep (.setRstate (.loadStep
    (.freshContext (.foldl (.closeStep h) fun _ _ h => .startStepAcc h))))) clear_chan))])

theorem takeAction {c : Nat} {a : Choice} {last : Nat} (h : Kept s t) : Kept s (takeAction t c a last) := by
  have go : ∀ u k, Kept s u → Kept s (if k < listLen t c then Machine.openNext u c k a last
      else Machine.endRecipe u c a a.act 3 last) := fun _ _ h => .ite (.openNext h) (.endRecipe h)
  unfold Machine.takeAction
  exact .ite (go _ _ h) (.ite (.ite (go _ _ h) (.ite (go _ _ (.put h clear_chan)) (go _ _ (.put h clear_chan))))
    (.ite (go _ _ h) (.ite (.endRecipe h) (.ite (.endRecipe h) (.setRstate h)))))

theorem moveZone {c z : Nat} (h : Kept s t) : Kept s (moveZone t c z) := by
  unfold Machine.moveZone
  exact (.ite (.bump (.put h clear_chan) clear_chan) (.writeTargets (.bump (.put h clear_chan) clear_chan)))

theorem applyZone {c z : Nat} (h : Kept s t) : Kept s (applyZone t c z) := by
  unfold Machine.applyZone
  exact (.setRstate (.moveZone h))

theorem applyDecision {c : Nat} {a : Option Choice} {z : Option Nat} {last : Nat} (h : Kept s t) : Kept s (applyDecision t c
  a z last) := by
  unfold Machine.applyDecision
  exact (.ite (.setRecipe h) (by dsimp only; split; exacts [(by split; exacts [(.moveZone (.takeAction (.setRecipe h))),
    (.takeAction (.setRecipe h))]), (by split; exacts [(.applyZone (.setRecipe h)), (.setRecipe h)])]))

theorem startRun {c : Nat} (h : Kept s t) : Kept s (startRun t c) := by
  unfold Machine.startRun
  exact (.ite (.foldl h fun _ _ h => (.setChan h)) h)

theorem rejectList {c : Nat} {e : Nat × Nat} (h : Kept s t) : Kept s (rejectList t c e) := by
  unfold Machine.rejectList
  exact (.event (.setRstate (.showBad (.setChan (.putLogged h clear_chan)))))

theorem startRecipe {c : Nat} (h : Kept s t) : Kept s (startRecipe t c) := by
  unfold Machine.startRecipe
  exact (.ite (.setRecipe h) (.ite (.setRstate (.setRecipe h)) (by dsimp only; split; exacts [(.rejectList (.setRecipe h)),
    (.setRstate (.ite (.refuse (.loadStep (.freshContext (.put (.put (.setRecipe h) clear_chan) clear_chan)))) (.putLogged
    (.loadStep (.freshContext (.put (.put (.setRecipe h) clear_chan) clear_chan))) clear_chan)))])))

theorem recipeConnected {c : Nat} {resumed : Bool} (h : Kept s t) : Kept s (recipeConnected t c resumed) := by
  unfold Machine.recipeConnected
  exact (.ite (.ite (.bump (.logStep (.setRecipe (.setRstate (.setRecipe h)))) clear_chan) (.updated (.bump (.logStep
    (.setRecipe (.setRstate (.setRecipe h)))) clear_chan))) (.ite (.updated h) h))

theorem zoneConnect {c : Nat} (h : Kept s t) : Kept s (zoneConnect t c) := by
  unfold Machine.zoneConnect
  exact (.ite (.writeTargets (.put h clear_chan)) h)

theorem connectChan {starts : Bool} {c : Nat} (h : Kept s t) : Kept s (connectChan t starts c) := by
  unfold Machine.connectChan
  exact (.ite (.recipeConnected (.tryConnect (.ite (.zoneConnect h) h))) (.tryConnect (.ite (.zoneConnect h) h)))

theorem connectAll (h : Kept s t) : Kept s (connectAll t) := by
  unfold Machine.connectAll
  exact (.foldl (.forIdx h fun _ _ h => (.connectChan h)) fun _ _ h => (.raiseIdle h))

theorem endWaiting {c : Nat} (h : Kept s t) : Kept s (endWaiting t c) := by
  unfold Machine.endWaiting
  exact (.ite (.setRstate h) h)

theorem recipeFrame {c : Nat} (h : Kept s t) : Kept s (recipeFrame t c) := by
  unfold Machine.recipeFrame
  exact (.ite (.ite (.bump (.setRecipe h) clear_chan) (.setRecipe h)) h)

theorem resumeStep {c : Nat} (h : Kept s t) : Kept s (resumeStep t c) := by
  unfold Machine.resumeStep
  exact (.ite (.setRstate (.countEcc (.writeStep (.put (.setChan h) clear_chan)))) (.setChan h))

theorem setEstate {e v : Nat} (h : Kept s t) : Kept s (setEstate t e v) := by
  unfold Machine.setEstate
  exact (.ite (.putb (.putBit (.putBit (.putBit (.put h clear_eng) (clear_page (by decide))) (clear_page (by decide)))
    (clear_page (by decide))) (clear_page (by decide))) (.putBit (.putBit (.putBit (.put h clear_eng) (clear_page (by
    decide))) (clear_page (by decide))) (clear_page (by decide))))

theorem setCarried {e b : Nat} (h : Kept s t) : Kept s (setCarried t e b) := by
  unfold Machine.setCarried
  exact (.put (.put h clear_eng) (clear_page (by decide)))

theorem staleResults {e : Nat} (h : Kept s t) : Kept s (staleResults t e) := by
  unfold Machine.staleResults
  exact (.forIdx h fun _ _ h => (.ite (.put h clear_result) h))

theorem refreshSuspended {e : Nat} (h : Kept s t) : Kept s (refreshSuspended t e) := by
  unfold Machine.refreshSuspended
  exact (.ite (.putb (.ite (.staleResults h) h) clear_eng) h)

theorem askRedo {c : Nat} (h : Kept s t) : Kept s (askRedo t c) := by
  unfold Machine.askRedo
  exact (.ite (.setRecipe h) h)

theorem stopEngine {e cause : Nat} (h : Kept s t) : Kept s (stopEngine t e cause) := by
  unfold Machine.stopEngine
  extract_lets +onlyGivenNames bank sent u1 u2 u3 u4 u5 x u6 y u7 u8 u9
  have h3 : Kept s u3 := .event (.put (.put (.setEstate h) clear_eng) clear_eng)
  have h5 : Kept s u5 := .put (.event (.bump h3 (clear_page (by decide)))) (clear_page (by decide))
  have h6 : Kept s u6 := .setEng h5
  have h8 : Kept s u8 := .refreshSuspended (.ite (.setCarried (.setEng h6)) (.ite (.setEng h6) h6))
  have h9 : Kept s u9 := by unfold u9; clear_value bank; split; exacts [.foldl (.setEng h8) fun _ _ h => .askRedo h, h8]
  exact .raise h9

theorem holdChan {c : Nat} (h : Kept s t) : Kept s (holdChan t c) := by
  unfold Machine.holdChan
  exact (.ite (.setCstate (.put (.put (.applyMode h) clear_chan) clear_chan)) h)

theorem holdBank {b : Nat} (h : Kept s t) : Kept s (holdBank t b) := by
  unfold Machine.holdBank
  exact (.ite h (.ite (.ite (by dsimp only; split; exacts [(.refreshSuspended (.setEng (.setCarried (.setEstate (.setEng
    (.foldl h fun _ _ h => .holdChan h)))))), (.raise (.setEng (.foldl h fun _ _ h => .holdChan h)))]) (.raise (.setEng
    (.foldl h fun _ _ h => .holdChan h)))) (.ite (.foldl h fun _ _ h => .holdChan h) h)))

theorem unholdChan {c : Nat} (h : Kept s t) : Kept s (unholdChan t c) := by
  unfold Machine.unholdChan
  exact (.ite (.setCstate (.put (.setChan h) clear_chan)) h)

theorem revalidate {c : Nat} (h : Kept s t) : Kept s (revalidate t c) := by
  unfold Machine.revalidate
  exact (.ite (.setRstate (.setRecipe h)) (.setRecipe h))

theorem takeOver {b : Nat} (h : Kept s t) : Kept s (takeOver t b) := by
  unfold Machine.takeOver
  exact (by dsimp only; split; exacts [h, (.ite (.raise (.event (.foldl (.setEng h) fun _ _ h => (.revalidate (.unholdChan
    h))))) (.setEng h))])

theorem checkOverrun {e : Nat} (h : Kept s t) : Kept s (checkOverrun t e) := by
  unfold Machine.checkOverrun
  exact (.ite (.raise (.bump h clear_eng)) h)

theorem checkHeartbeat {n e : Nat} (h : Kept s t) : Kept s (checkHeartbeat t n e) := by
  unfold Machine.checkHeartbeat
  exact (.ite (by dsimp only; split; exacts [(.ite (.ite (.stopEngine (.setEng h)) (.setEng h)) (.stopEngine (.checkOverrun
    h))), (.ite (.stopEngine (.setEng h)) (.ite (.stopEngine (.setEng h)) (.setEng h)))]) (.setEng (.checkOverrun h)))

theorem beginRestart {e : Nat} (h : Kept s t) : Kept s (beginRestart t e) := by
  unfold Machine.beginRestart
  exact (.refreshSuspended (.setEstate (.setEng h)))

theorem autoRestart {e : Nat} (h : Kept s t) : Kept s (autoRestart t e) := by
  unfold Machine.autoRestart
  exact (.ite (.beginRestart h) h)

theorem engineBoundary (h : Kept s t) : Kept s (engineBoundary t) := by
  unfold Machine.engineBoundary
  exact (.forIdx (.forIdx h fun _ _ h => .takeOver h) fun _ _ h => .holdBank h)

theorem endRights {e : Nat} (h : Kept s t) : Kept s (endRights t e) := by
  unfold Machine.endRights
  exact (.setEng h)

theorem heartbeatBoundary {n : Nat} (h : Kept s t) : Kept s (heartbeatBoundary t n) := by
  unfold Machine.heartbeatBoundary
  exact (.forIdx (.autoRestart (.autoRestart (.endRights (.endRights h)))) fun _ _ h => (.checkHeartbeat h))

theorem checkSet {t' : Nat} (h : Kept s t) : Kept s (checkSet t t') := by
  unfold Machine.checkSet
  exact (.ite (.put (.putb h (clear_page (by decide))) (clear_page (by decide))) (.event (.put (.putb h (clear_page (by
    decide))) (clear_page (by decide)))))

theorem refreshInUse (h : Kept s t) : Kept s (refreshInUse t) := by
  unfold Machine.refreshInUse
  exact (.forIdx h fun _ _ h => (.putb h (clear_page (by decide))))

theorem refreshLoad (h : Kept s t) : Kept s (refreshLoad t) := by
  unfold Machine.refreshLoad
  exact (.put (.put (.put h (clear_page (by decide))) (clear_page (by decide))) (clear_page (by decide)))

theorem discard {c fn code : Nat} (h : Kept s t) : Kept s (discard t c fn code) := by
  unfold Machine.discard
  exact (.event (.bump (.bump (.put (.put h clear_result) clear_result) clear_result) (clear_page (by decide))))

theorem discardAll {c code : Nat} {keepCap : Bool} {keepPend : Bool} (h : Kept s t) : Kept s (discardAll t c code
  keepCap keepPend) := by
  unfold Machine.discardAll
  exact (.setGrade (.ite (.discard (.ite (.discard (.ite (.discard (.ite (.discard (.ite (.discard h) h)) (.ite (.discard h)
    h))) (.ite (.discard (.ite (.discard h) h)) (.ite (.discard h) h)))) (.ite (.discard (.ite (.discard (.ite (.discard h)
    h)) (.ite (.discard h) h))) (.ite (.discard (.ite (.discard h) h)) (.ite (.discard h) h))))) (.ite (.discard (.ite
    (.discard (.ite (.discard (.ite (.discard h) h)) (.ite (.discard h) h))) (.ite (.discard (.ite (.discard h) h)) (.ite
    (.discard h) h)))) (.ite (.discard (.ite (.discard (.ite (.discard h) h)) (.ite (.discard h) h))) (.ite (.discard (.ite
    (.discard h) h)) (.ite (.discard h) h))))))

theorem gradeLatch {c : Nat} (h : Kept s t) : Kept s (gradeLatch t c) := by
  unfold Machine.gradeLatch
  exact (.ite (.setGrade h) h)

theorem gradeOpen {c : Nat} (h : Kept s t) : Kept s (gradeOpen t c) := by
  unfold Machine.gradeOpen
  exact (.ite (.setGrade h) (.setGrade (.ite (.setGrade h) (.discard (.setGrade h)))))

theorem queueResult {c block : Nat} {words : List (Nat × Nat)} {u : Option Bool} (h : Kept s t) : Kept s (queueResult
  t c block words u) := by
  unfold Machine.queueResult
  exact (.setGrade h)

theorem capResult {c : Nat} {r : CapRun} {inc : Bool} (h : Kept s t) : Kept s (capResult t c r inc) := by
  unfold Machine.capResult
  exact (.updated (.queueResult h))

theorem dcirResult {c : Nat} {r : DcirRun} {nopulse : Bool} {inc : Bool} (h : Kept s t) : Kept s (dcirResult t c r nopulse
  inc) := by
  unfold Machine.dcirResult
  exact (.updated (.queueResult h))

theorem ocvResult {c : Nat} {r : OcvRun} (h : Kept s t) : Kept s (ocvResult t c r) := by
  unfold Machine.ocvResult
  exact (.queueResult h)

theorem kResult {c : Nat} {r : KRun} (h : Kept s t) : Kept s (kResult t c r) := by
  unfold Machine.kResult
  exact (.ite (.discard h) (.updated (.queueResult h)))

theorem impedanceResult {c : Nat} {w : ImpWindow} (h : Kept s t) : Kept s (impedanceResult t c w) := by
  unfold Machine.impedanceResult
  exact (.updated (.queueResult h))

theorem closeImp {c : Nat} (h : Kept s t) : Kept s (closeImp t c) := by
  unfold Machine.closeImp
  exact (by dsimp only; split; exacts [(.impedanceResult (.setGrade h)), h])

theorem closeDcir {c : Nat} (h : Kept s t) : Kept s (closeDcir t c) := by
  unfold Machine.closeDcir
  exact (by dsimp only; split; exacts [(.ite (.dcirResult (.setGrade h)) h), h])

theorem closeOcv {c : Nat} (h : Kept s t) : Kept s (closeOcv t c) := by
  unfold Machine.closeOcv
  exact (by dsimp only; split; exacts [(.ite (.ocvResult (.setGrade h)) h), h])

theorem windowFrame {c : Nat} (h : Kept s t) : Kept s (windowFrame t c) := by
  unfold Machine.windowFrame
  exact (by dsimp only; split; exacts [(by split; exacts [(.setGrade (.discard h)), (.ite (.setGrade h) (.setGrade (.closeImp
    h)))]), h])

theorem capFrame {c n : Nat} (h : Kept s t) : Kept s (capFrame t c n) := by
  unfold Machine.capFrame
  exact (by dsimp only; split; exacts [h, (.ite (.setGrade h) (.ite (.capResult (.setGrade h)) (.setGrade h)))])

theorem dcirFrame {c n : Nat} (h : Kept s t) : Kept s (dcirFrame t c n) := by
  unfold Machine.dcirFrame
  exact (by dsimp only; split; exacts [h, (.ite (.setGrade h) (.ite h (by split; exacts [(.setGrade (.discard h)), (.setGrade
    h)])))])

theorem restFrame {c n : Nat} (h : Kept s t) : Kept s (restFrame t c n) := by
  unfold Machine.restFrame
  exact (.setGrade h)

theorem gradeFrame {c n : Nat} (h : Kept s t) : Kept s (gradeFrame t c n) := by
  unfold Machine.gradeFrame
  exact (.ite h (.ite (.dcirFrame (.discardAll h)) (.ite (.capFrame (.discardAll h)) (.restFrame (.dcirFrame (.capFrame
    (.windowFrame h)))))))

theorem gradeClose {c result : Nat} (h : Kept s t) : Kept s (gradeClose t c result) := by
  unfold Machine.gradeClose
  extract_lets +onlyGivenNames u1 g ok u2 u3 u4 g'
  have h1 : Kept s u1 := .closeOcv (.closeDcir (.closeImp h))
  have h2 : Kept s u2 := by unfold u2; split; exacts [.ite (.capResult h1) h1, h1]
  have h3 : Kept s u3 := by unfold u3; split; exacts [.ite (.dcirResult h2) h2, h2]
  have h4 : Kept s u4 := by unfold u4; split; exacts [.ite (.kResult h3) h3, h3]
  exact .discardAll (.setGrade h4)

theorem dcirEdge {c : Nat} (h : Kept s t) : Kept s (dcirEdge t c) := by
  unfold Machine.dcirEdge
  exact (by dsimp only; split; exacts [h, (.ite (.ite (.dcirResult (.setGrade h)) (.setGrade (.ite (.discard h) h))) h)])

theorem toneBoundary {c : Nat} (h : Kept s t) : Kept s (toneBoundary t c) := by
  unfold Machine.toneBoundary
  exact (by dsimp only; split; exacts [(.setGrade h), (.ite (by split; exacts [h, (.ite h (.setGrade h))]) (.setGrade h))])

theorem admitWindow {c : Nat} (h : Kept s t) : Kept s (admitWindow t c) := by
  unfold Machine.admitWindow
  exact (by dsimp only; split; exacts [(.ite h (.ite (.setGrade h) (.bump h (clear_page (by decide))))), h])

theorem toneStatus {c : Nat} (h : Kept s t) : Kept s (toneStatus t c) := by
  unfold Machine.toneStatus
  exact (.put h clear_result)

theorem applyPerturb {c : Nat} (h : Kept s t) : Kept s (applyPerturb t c) := by
  unfold Machine.applyPerturb
  exact (.ite (.setChan h) (.setChan (.ite (.ite (.putb h clear_chan) (.event (.putb h clear_chan))) h)))

theorem gradeBegin {c : Nat} (h : Kept s t) : Kept s (gradeBegin t c) := by
  unfold Machine.gradeBegin
  exact (.ite (.ite (.setGrade h) h) (.applyPerturb (.toneStatus (.admitWindow (.toneBoundary (.dcirEdge (.ite (.setGrade h)
    h)))))))

theorem allocate {len : Nat} (h : Kept s t) : Kept s (allocate t len) := by
  unfold Machine.allocate
  exact (.forIdx (.put (.forIdx h fun _ _ h => (.put h (clear_page (by decide)))) (clear_page (by decide))) fun _ _ h =>
    (.put h (clear_page (by decide))))

theorem takeLoans {len : Nat} (h : Kept s t) : Kept s (takeLoans t len) := by
  unfold Machine.takeLoans
  exact (.ite (.putb (.updated h) (clear_page (by decide))) (.ite (.put (.put (.updated (.putb (.updated h) (clear_page (by
    decide)))) (clear_page (by decide))) (clear_page (by decide))) (.event (.bump (.put (.put (.updated (.putb (.updated h)
    (clear_page (by decide)))) (clear_page (by decide))) (clear_page (by decide))) (clear_page (by decide))))))

theorem applyLimits {len : Nat} (h : Kept s t) : Kept s (applyLimits t len) := by
  unfold Machine.applyLimits
  exact (.forIdx (.updated (.forIdx h fun _ _ h => (.setChan h))) fun _ _ h => (.updated (.foldl h fun _ _ h => (.setChan
    h))))

theorem countOverdraw (h : Kept s t) : Kept s (countOverdraw t) := by
  unfold Machine.countOverdraw
  exact (.ite (.bump h (clear_page (by decide))) h)

theorem countLimited (h : Kept s t) : Kept s (countLimited t) := by
  unfold Machine.countLimited
  exact (.forIdx h fun _ _ h => (.ite (.updated h) (.updated h)))

theorem setView {i v : Nat} (h : Kept s t) : Kept s (setView t i v) := by
  unfold Machine.setView
  exact (.put h (clear_page (by decide)))

theorem setReserve {v : Nat} (h : Kept s t) : Kept s (setReserve t v) := by
  unfold Machine.setReserve
  exact (.put h (clear_page (by decide)))

theorem startGrant {i amt op : Nat} (h : Kept s t) : Kept s (startGrant t i amt op) := by
  unfold Machine.startGrant
  exact (.setReserve (.put (.put (.put h (clear_page (by decide))) (clear_page (by decide))) (clear_page (by decide))))

theorem endGrant {i : Nat} (h : Kept s t) : Kept s (endGrant t i) := by
  unfold Machine.endGrant
  exact (.put (.put h (clear_page (by decide))) (clear_page (by decide)))

theorem creditSlot {i w : Nat} (h : Kept s t) : Kept s (creditSlot t i w) := by
  unfold Machine.creditSlot
  exact (.ite (.updated (.ite (.updated (.setReserve (.setView (.ite (.endGrant (.setReserve (.setView h))) h)))) (.ite
    (.endGrant (.setReserve (.setView h))) h))) (.ite (.updated (.setReserve (.setView (.ite (.endGrant (.setReserve
    (.setView h))) h)))) (.ite (.endGrant (.setReserve (.setView h))) h)))

theorem closeRing {t' : Nat × List Nat} (h : Kept s t) : Kept s (closeRing t t') := by
  unfold Machine.closeRing
  exact (.ite h (.ite (.raise (.event (.putb (.foldl (.foldl h fun _ _ h => (.setView (.put (.endGrant h) (clear_page (by
    decide))))) fun _ _ h => (.ite h (.endGrant (.setView h)))) (clear_page (by decide))))) (.bump (.updated (.putb (.put
    (.setReserve (.puti (.foldl (.foldl h fun _ _ h => (.setView (.put (.endGrant h) (clear_page (by decide))))) fun _ _ h =>
    (.ite h (.endGrant (.setView h)))) (clear_page (by decide)))) (clear_page (by decide))) (clear_page (by decide))))
    (clear_page (by decide)))))

theorem keeperGrants (h : Kept s t) : Kept s (keeperGrants t) := by
  unfold Machine.keeperGrants
  extract_lets +onlyGivenNames p st ids r u
  have hu : Kept s u := .foldlFirst h fun _ _ h => .first (.updated (.startGrant h)) h
  extract_lets +onlyGivenNames max lending t' req l
  have hl : Kept s l.1 := by
    unfold l
    refine .first ?_ hu
    split
    · exact .first (.startGrant hu) hu
    · exact hu
  exact .ite (.put hl (clear_page (by decide))) hl

theorem voidsDone {here : List Nat} (h : Kept s t) : Kept s (voidsDone t here) := by
  unfold Machine.voidsDone
  exact (.updated (.put h (clear_page (by decide))))

theorem keeperBoundary (h : Kept s t) : Kept s (keeperBoundary t) := by
  unfold Machine.keeperBoundary
  exact (.ite h (.updated (.ite (by dsimp only; split; exacts [(.ite (.ite (.ite (.closeRing (.ite (.voidsDone (.updated
    (.put h (clear_page (by decide))))) (.updated (.put h (clear_page (by decide)))))) (.ite (.voidsDone (.updated (.put h
    (clear_page (by decide))))) (.updated (.put h (clear_page (by decide)))))) (.foldl (.ite (.voidsDone (.updated (.put h
    (clear_page (by decide))))) (.updated (.put h (clear_page (by decide))))) fun _ _ h => (.creditSlot h))) (.updated h)),
    (.updated h)]) (.keeperGrants (by dsimp only; split; exacts [(.ite (.ite (.ite (.closeRing (.ite (.voidsDone (.updated
    (.put h (clear_page (by decide))))) (.updated (.put h (clear_page (by decide)))))) (.ite (.voidsDone (.updated (.put h
    (clear_page (by decide))))) (.updated (.put h (clear_page (by decide)))))) (.foldl (.ite (.voidsDone (.updated (.put h
    (clear_page (by decide))))) (.updated (.put h (clear_page (by decide))))) fun _ _ h => (.creditSlot h))) (.updated h)),
    (.updated h)])))))

theorem endLoan (h : Kept s t) : Kept s (endLoan t) := by
  unfold Machine.endLoan
  exact (.ite (.updated (.addCount (.put h (clear_page (by decide))) (clear_page (by decide)))) h)

theorem unfreeze {slot : Option Nat} (h : Kept s t) : Kept s (unfreeze t slot) := by
  unfold Machine.unfreeze
  exact (.updated (.event (by dsimp only; split; exacts [(.putb (.putb h (clear_page (by decide))) (clear_page (by decide))),
    (.updated (.putb (.put (.ite (.putb (.putb h (clear_page (by decide))) (clear_page (by decide))) (.put (.putb (.putb h
    (clear_page (by decide))) (clear_page (by decide))) (clear_page (by decide)))) (clear_page (by decide))) (clear_page (by
    decide))))])))

theorem takeSlot {w : Nat} (h : Kept s t) : Kept s (takeSlot t w) := by
  unfold Machine.takeSlot
  extract_lets +onlyGivenNames p k u1 k' next hot v v' u2 u3
  have h1 : Kept s u1 := by unfold u1; split; exacts [.ite (.updated h) h, h]
  have hv : Kept s v' := .event (.addCount (.put h1 (clear_page (by decide))) (clear_page (by decide)))
  have h2 : Kept s u2 := .ite (.updated h1) (.updated hv)
  have h3 : Kept s u3 := .ite h2 (.ite (.ite (.updated h1) (.updated h1))
    (.ite (.putb (.put (.put h1 (clear_page (by decide))) (clear_page (by decide))) (clear_page (by decide))) h1))
  exact .ite (.putb (.put h3 (clear_page (by decide))) (clear_page (by decide))) h3

theorem deviceReceive (h : Kept s t) : Kept s (deviceReceive t) := by
  unfold Machine.deviceReceive
  extract_lets +onlyGivenNames p u1 u2
  have h2 : Kept s u2 := .putb (.endLoan (.putb h (clear_page (by decide)))) (clear_page (by decide))
  cases u2.commons.rx with
  | none => exact .updated h2
  | some train =>
    dsimp -zeta only
    extract_lets +onlyGivenNames w wOk hOk u3 u4 key u5 y y' u6 was u7
    have h3 : Kept s u3 := .ite h2 (.bump h2 (clear_page (by decide)))
    have h4 : Kept s u4 := .ite h3 (.bump h3 (clear_page (by decide)))
    have h5 : Kept s u5 := .put (.put h4 (clear_page (by decide))) (clear_page (by decide))
    have h6 : Kept s u6 := .ite (.updated h5) (.updated h4)
    have h7 : Kept s u7 := .ite (.unfreeze h6) h6
    exact .ite (.takeSlot h7) h7

theorem countSurplus (h : Kept s t) : Kept s (countSurplus t) := by
  unfold Machine.countSurplus
  exact (.updated h)

theorem makeUplink (h : Kept s t) : Kept s (makeUplink t) := by
  unfold Machine.makeUplink
  exact (.updated (.ite (.put h (clear_page (by decide))) h))

theorem newRingFrame (h : Kept s t) : Kept s (newRingFrame t) := by
  unfold Machine.newRingFrame
  exact (.updated h)

theorem commonsBoundary {len : Nat} (h : Kept s t) : Kept s (commonsBoundary t len) := by
  unfold Machine.commonsBoundary
  exact (.newRingFrame (.makeUplink (.countSurplus (.takeLoans (.allocate (.deviceReceive (.keeperBoundary h)))))))

theorem otpResult {r : Nat} (h : Kept s t) : Kept s (otpResult t r) := by
  unfold Machine.otpResult
  exact (.put h (clear_page (by decide)))

theorem setPageKind {n kind : Nat} (h : Kept s t) : Kept s (setPageKind t n kind) := by
  unfold Machine.setPageKind
  exact (.updated h)

theorem setPageKinds {l : List Nat} {kind : Nat} (h : Kept s t) : Kept s (setPageKinds t l kind) := by
  unfold Machine.setPageKinds
  exact (.foldl h fun _ _ h => (.setPageKind h))

theorem retire {l : List Nat} (h : Kept s t) : Kept s (retire t l) := by
  unfold Machine.retire
  exact (.ite h (.addCount (.setPageKinds h) (clear_page (by decide))))

theorem programPages {n : Nat} (h : Kept s t) : Kept s (programPages t n).1 := by
  unfold Machine.programPages
  exact .setPageKinds (.retire h)

theorem queueErase {l : List Nat} (h : Kept s t) : Kept s (queueErase t l) := by
  unfold Machine.queueErase
  exact (.updated (.setPageKinds h))

theorem setSlot {id k : Nat} {x : Option GSlot} (h : Kept s t) : Kept s (setSlot t id k x) := by
  unfold Machine.setSlot
  exact (.updated h)

theorem writeSlot {id : Nat} {p : Payload} {valid : Bool} {pages : List Nat} (h : Kept s t) : Kept s (writeSlot t id p valid
  pages) := by
  unfold Machine.writeSlot
  exact (.queueErase (.setSlot (.setPageKinds h)))

theorem holdOpen (h : Kept s t) : Kept s (holdOpen t) := by
  unfold Machine.holdOpen
  exact (.ite (.updated (.setPageKinds h)) h)

theorem ckptCommitted {c : Ckpt} (h : Kept s t) : Kept s (ckptCommitted t c) := by
  unfold Machine.ckptCommitted
  exact (.ite (.ite (.holdOpen (.updated (.updated (.putb (.putb (.put (.event (.bump (.put64 h (clear_page (by decide))
    (clear_page (by decide))) (clear_page (by decide)))) (clear_page (by decide))) (clear_page (by decide))) (clear_page (by
    decide)))))) (.updated (.queueErase (.updated (.putb (.putb (.put (.event (.bump (.put64 h (clear_page (by decide))
    (clear_page (by decide))) (clear_page (by decide)))) (clear_page (by decide))) (clear_page (by decide))) (clear_page (by
    decide))))))) (.updated (.putb (.putb (.put (.event (.bump (.put64 h (clear_page (by decide)) (clear_page (by decide)))
    (clear_page (by decide)))) (clear_page (by decide))) (clear_page (by decide))) (clear_page (by decide)))))

theorem mateCommitted {l : List Nat} (h : Kept s t) : Kept s (mateCommitted t l) := by
  unfold Machine.mateCommitted
  exact (.forIdx h fun _ _ h => (.ite (.putb h clear_chan) h))

theorem recCommitted (h : Kept s t) : Kept s (recCommitted t) := by
  unfold Machine.recCommitted
  exact (.putb (.event (.bumpWrap (.updated h) (clear_page (by decide)))) (clear_page (by decide)))

theorem joinRing {seq : Nat} {es : List LogEntry} {drop : Nat} {pages : List Nat} (h : Kept s t) : Kept s (joinRing t seq es
  drop pages) := by
  unfold Machine.joinRing
  exact (.queueErase (.updated (.setPageKinds h)))

theorem showRing (h : Kept s t) : Kept s (showRing t) := by
  unfold Machine.showRing
  exact (by split; exacts [(.put (.put h (clear_page (by decide))) (clear_page (by decide))), h])

theorem logCommitted {seq : Nat} {es : List LogEntry} {drop : Nat} {pages : List Nat} (h : Kept s t) : Kept s (logCommitted t
  seq es drop pages) := by
  unfold Machine.logCommitted
  exact (.showRing (.updated (.joinRing h)))

theorem committedAs {id : Nat} {p : Payload} (h : Kept s t) : Kept s (committedAs t id p) := by
  unfold Machine.committedAs
  exact (by dsimp only; split; exacts [(.ckptCommitted h), (.ite (.mateCommitted h) (.ite (.updated h) (.ite (.event (.putb h
    (clear_page (by decide)))) h))), (.ite (.recCommitted h) (.ite (.event (by split; exacts [(.put (.put h (clear_page (by
    decide))) (clear_page (by decide))), (.put h (clear_page (by decide)))])) h)), h])

theorem startCommit (h : Kept s t) : Kept s (startCommit t) := by
  unfold Machine.startCommit
  exact (.ite h (.ite h (by dsimp only; split; exacts [h, (.ite (.updated h) (.ite (.updated (.setPageKinds h)) (.updated
    h)))])))

theorem requestCommit {id : Nat} {p : Payload} (h : Kept s t) : Kept s (requestCommit t id p) := by
  unfold Machine.requestCommit
  exact (.startCommit (.updated h))

theorem requestCkpt {c : Ckpt} (h : Kept s t) : Kept s (requestCkpt t c) := by
  unfold Machine.requestCkpt
  exact (.requestCommit (.putb h (clear_page (by decide))))

theorem completeOpen {c : Ckpt} {pages : List Nat} (h : Kept s t) : Kept s (completeOpen t c pages) := by
  unfold Machine.completeOpen
  exact (.setSlot (.setPageKinds h))

theorem finishCommit {r : GReq} {pages : List Nat} (h : Kept s t) : Kept s (finishCommit t r pages) := by
  unfold Machine.finishCommit
  exact (.ite (.logCommitted (.event (.bump (by split; exacts [(.ite (.completeOpen h) (.writeSlot h)), (.ite h (.writeSlot
    h)), (.writeSlot h)]) (clear_page (by decide))))) (.committedAs (.event (.bump (by split; exacts [(.ite (.completeOpen h)
    (.writeSlot h)), (.ite h (.writeSlot h)), (.writeSlot h)]) (clear_page (by decide))))))

theorem commitNow {id : Nat} {p : Payload} (h : Kept s t) : Kept s (commitNow t id p) := by
  unfold Machine.commitNow
  exact .finishCommit (.programPages h)

theorem recollect (h : Kept s t) : Kept s (recollect t) := by
  unfold Machine.recollect
  exact (.updated h)

theorem loseRecord (h : Kept s t) : Kept s (loseRecord t) := by
  unfold Machine.loseRecord
  exact (.putb (.bump (.updated h) (clear_page (by decide))) (clear_page (by decide)))

theorem abandonCommit (h : Kept s t) : Kept s (abandonCommit t) := by
  unfold Machine.abandonCommit
  exact (by dsimp only; split; exacts [h, (.ite (.loseRecord (.ite (.recollect (.queueErase (.updated h))) (.ite
    (.setPageKinds (.updated h)) (.writeSlot (.updated h))))) (.ite (.recollect (.queueErase (.updated h))) (.ite
    (.setPageKinds (.updated h)) (.writeSlot (.updated h)))))])

theorem showRover {b : Nat} (h : Kept s t) : Kept s (showRover t b) := by
  unfold Machine.showRover
  exact (.putb (.put (.put h clear_bank) clear_bank) clear_bank)

theorem showStep {b : Nat} (h : Kept s t) : Kept s (showStep t b) := by
  unfold Machine.showStep
  exact (.put (.put (.put h clear_bank) clear_bank) clear_bank)

theorem calFrame {b : Nat} (h : Kept s t) : Kept s (calFrame t b) := by
  unfold Machine.calFrame
  exact (.showStep (.ite (.bump (.setBank h) clear_bank) (.setBank h)))

theorem commitRetired (h : Kept s t) : Kept s (commitRetired t) := by
  unfold Machine.commitRetired
  exact (.requestCommit h)

theorem dutyLost {b d : Nat} (h : Kept s t) : Kept s (dutyLost t b d) := by
  unfold Machine.dutyLost
  exact (.raise h)

theorem countCycle {b : Nat} (h : Kept s t) : Kept s (countCycle t b) := by
  unfold Machine.countCycle
  exact (.ite (.event (.putb (.bump h clear_bank) clear_bank)) h)

theorem retireSlice {b k : Nat} (h : Kept s t) : Kept s (retireSlice t b k) := by
  unfold Machine.retireSlice
  exact (.countCycle (.commitRetired (.showStep (.showRover (.ite (.setBank (.setBank (.putBit (.putBit (.event (.setRole h))
    clear_bank) clear_bank))) (.ite (by dsimp only; split; exacts [(.setBank (.setRole (.setBank (.putBit (.putBit (.event
    (.setRole h)) clear_bank) clear_bank)))), (.dutyLost (.setBank (.putBit (.putBit (.event (.setRole h)) clear_bank)
    clear_bank)))]) (.setBank (.putBit (.putBit (.event (.setRole h)) clear_bank) clear_bank))))))))

theorem retireFlagged {b : Nat} (h : Kept s t) : Kept s (retireFlagged t b) := by
  unfold Machine.retireFlagged
  exact (.foldl (.setBank h) fun _ _ h => (.retireSlice (.raise h)))

theorem setSqueue {src : Nat} {l : List SRec} (h : Kept s t) : Kept s (setSqueue t src l) := by
  unfold Machine.setSqueue
  exact (.updated h)

theorem setSregion {k : Nat} {l : List (Nat × List Nat)} (h : Kept s t) : Kept s (setSregion t k l) := by
  unfold Machine.setSregion
  exact (.updated h)

theorem refreshStreamN (h : Kept s t) : Kept s (refreshStreamN t) := by
  unfold Machine.refreshStreamN
  exact (.putb h (clear_page (by decide)))

theorem refreshFill {k : Nat} (h : Kept s t) : Kept s (refreshFill t k) := by
  unfold Machine.refreshFill
  exact (.refreshStreamN (.ite (.event (.putBit (.put h (clear_page (by decide))) (clear_page (by decide)))) (.putBit (.put h
    (clear_page (by decide))) (clear_page (by decide)))))

theorem countDrop {src n : Nat} (h : Kept s t) : Kept s (countDrop t src n) := by
  unfold Machine.countDrop
  exact (.ite (.addCount (.addCount (.updated h) (clear_page (by decide))) (clear_page (by decide))) (.updated h))

theorem dropRecord {src : Nat} (h : Kept s t) : Kept s (dropRecord t src) := by
  unfold Machine.dropRecord
  exact (.ite (.event (.countDrop h)) (.raise (.updated (.event (.countDrop h)))))

theorem createRecord {r : SRec} (h : Kept s t) : Kept s (createRecord t r) := by
  unfold Machine.createRecord
  exact (.ite h (.ite (.setSqueue h) (.dropRecord h)))

theorem writeRecord {k : Nat} {r : SRec} (h : Kept s t) : Kept s (writeRecord t k r) := by
  unfold Machine.writeRecord
  exact (.refreshFill (.bump (.bumpWrap (.updated (.setSregion h)) (clear_page (by decide))) (clear_page (by decide))))

theorem startStream {k : Nat} (h : Kept s t) : Kept s (startStream t k) := by
  unfold Machine.startStream
  exact (.writeRecord (.updated (.put (.put (.put (.setSregion h) (clear_page (by decide))) (clear_page (by decide)))
    (clear_page (by decide)))))

theorem streamBoundary (h : Kept s t) : Kept s (streamBoundary t) := by
  unfold Machine.streamBoundary
  exact (.updated (.foldl (.ite (.foldl (.foldl h fun _ _ h => (.ite (.startStream h) (.ite (.refreshFill h) h))) fun _ _ h
    => (.ite (.createRecord h) h)) (.foldl h fun _ _ h => (.ite (.startStream h) (.ite (.refreshFill h) h)))) fun _ _ h =>
    (.createRecord h)))

theorem measAbort (h : Kept s t) : Kept s (measAbort t) := by
  unfold Machine.measAbort
  exact (.updated (.put h (clear_page (by decide))))

theorem tickTo {v : Nat} (h : Kept s t) : Kept s (tickTo t v) := by
  unfold Machine.tickTo
  exact (.ite (.updated h) h)

theorem tickFrame {len : Nat} (h : Kept s t) : Kept s (tickFrame t len) := by
  unfold Machine.tickFrame
  exact (.updated (.tickTo h))

theorem clearNow {origin value : Nat} (h : Kept s t) : Kept s (clearNow t origin value) := by
  unfold Machine.clearNow
  exact (.ite h (.ite (.logChange (.ite (.put (.event (.latch (.ite (.updated h) (.event (.updated h))))) (clear_page (by
    decide))) (.ite (.updated h) (.event (.updated h))))) (.logReject (.ite (.put (.event (.latch (.ite (.updated h) (.event
    (.updated h))))) (clear_page (by decide))) (.ite (.updated h) (.event (.updated h)))))))

theorem clearsDue (h : Kept s t) : Kept s (clearsDue t) := by
  unfold Machine.clearsDue
  exact (.foldl (.updated h) fun _ _ h => (.clearNow h))

theorem peerFault (h : Kept s t) : Kept s (peerFault t) := by
  unfold Machine.peerFault
  exact (.ite (.raise (.chipSafeWith (.publishFaultN (.updated h)))) (.chipSafeWith (.publishFaultN (.updated h))))

theorem keyStart {k kind : Nat} (h : Kept s t) : Kept s (keyStart t k kind) := by
  unfold Machine.keyStart
  exact (.updated h)

theorem keyDrop {k : Nat} (h : Kept s t) : Kept s (keyDrop t k) := by
  unfold Machine.keyDrop
  exact (.updated h)

theorem testFail {origin off value : Nat} (h : Kept s t) : Kept s (testFail t origin off value) := by
  unfold Machine.testFail
  exact (.raise (.refuse (.keyDrop h)))

theorem refuseAll {w : Wr} {evs : List Nat} (h : Kept s t) : Kept s (refuseAll t w evs) := by
  unfold Machine.refuseAll
  exact (.logReject (.foldl h fun _ _ h => (.event h)))

theorem entryOf {fs : List FieldDef} {w : Wr} {before : Nat} (h : Kept s t) : Kept s (entryOf t fs w before) := by
  unfold Machine.entryOf
  refine .ite ?_ h
  by_cases hp : persistWrite w = true <;> simp only [hp, if_true, if_false, Bool.false_eq_true]
  · exact .ite (.logPersist h) (.logPersist h)
  · exact .ite (.logChange h) (.logChange h)

theorem refusalEffect {w : Wr} (h : Kept s t) : Kept s (refusalEffect t w) := by
  unfold Machine.refusalEffect
  exact (.ite (.ite h (.event h)) (by split; exacts [(.ite (.putb h (clear_page (by decide))) (.ite (.measAbort h) h)), (.ite
    (by split; exacts [(.otpResult h), h]) h), (.ite (.putb h (clear_off (by decide))) h), h]))

theorem storeWord {w : Wr} (hw : 0 < w.page) (h : Kept s t) : Kept s (storeWord t w) := by
  unfold Machine.storeWord
  exact .ite (.updated h) (.wr (.ite (.updated h) h) (by omega))

theorem actEstim {w : Wr} (h : Kept s t) : Kept s (actEstim t w) := by
  unfold Machine.actEstim
  exact (.ite (.ite (.putb h (clear_page (by decide))) (.checkSet h)) (.ite (.putb h (clear_page (by decide))) (.ite
    (.requestCommit h) h)))

theorem restartChanged {w : Wr} {l : List (Nat × Nat × Nat)} (h : Kept s t) : Kept s (restartChanged t w l) := by
  unfold Machine.restartChanged
  exact (.foldl h fun _ _ h => (.ite (.avgRestart h) h))

theorem clearAt {b t' : Nat} (h : Kept s t) : Kept s (clearAt t b t') := by
  unfold Machine.clearAt
  exact (.setBank h)

theorem actBank {w : Wr} (h : Kept s t) : Kept s (actBank t w) := by
  unfold Machine.actBank
  exact (.ite (.ite (.setBank h) h) (.ite (.restartChanged h) (.ite (.restartChanged h) (.ite (.ite (.clearAt (.ite (.clearAt
    h) h)) (.ite (.clearAt h) h)) (.ite (.ite h (.clearAt h)) (.ite (.commitRetired (.setBank h)) h))))))

theorem setMates {c n : Nat} (h : Kept s t) : Kept s (setMates t c n) := by
  unfold Machine.setMates
  exact (.ite (.raise (.event (.ite (.raise (.event (.ite h (.putb (.put h clear_chan) clear_chan)))) (.ite h (.putb (.put h
    clear_chan) clear_chan))))) (.ite (.raise (.event (.ite h (.putb (.put h clear_chan) clear_chan)))) (.ite h (.putb (.put
    h clear_chan) clear_chan))))

theorem actCellCmd {w : Wr} (h : Kept s t) : Kept s (actCellCmd t w) := by
  unfold Machine.actCellCmd
  exact (.requestCommit (.ite (.setMates (.ite (.foldl h fun _ _ h => (.setMates (.forIdx (.setChan h) fun _ _ h =>
    (.putLogged h clear_chan)))) h)) (.ite (.foldl h fun _ _ h => (.setMates (.forIdx (.setChan h) fun _ _ h => (.putLogged h
    clear_chan)))) h)))

theorem actControl {w : Wr} (hw : 0 < w.page) (h : Kept s t) : Kept s (actControl t w) := by
  unfold Machine.actControl
  exact .ite (.put (.ite (.resumeStep h) h) (clear_page hw)) (.ite (.setChan h) h)

theorem actChan {w : Wr} (hw : 0 < w.page) (h : Kept s t) : Kept s (actChan t w) := by
  unfold Machine.actChan
  exact (.ite (.actControl hw h) (.ite (.actCellCmd h) (.ite (.setChan h) (.ite (.ite (.setRecipe (.ite (.setRecipe (.ite
    (.putb (.setRstate h) (clear_off (by decide))) h)) (.ite (.putb (.setRstate h) (clear_off (by decide))) h))) (.ite
    (.setRecipe (.ite (.putb (.setRstate h) (clear_off (by decide))) h)) (.ite (.putb (.setRstate h) (clear_off (by decide)))
    h))) h))))

theorem refused {w : Wr} {evs : List Nat} (h : Kept s t) : Kept s (refused t w evs).1 := by
  unfold Machine.refused
  exact .refusalEffect (.refuseAll h)

theorem lockRefused {w : Wr} (h : Kept s t) : Kept s (lockRefused t w).1 := by
  unfold Machine.lockRefused
  exact .refused (.updated h)

theorem writeLock {w : Wr} (ho : w.o ≠ Org.HOST) (h : Kept s t) : Kept s (writeLock t w).1 := by
  unfold Machine.writeLock
  rw [if_pos ho]
  exact .refused h

theorem recipeRefused {o b addr : Nat} {v ev : Nat} (h : Kept s t) : Kept s (recipeRefused t o b addr
  v ev) := by
  unfold Machine.recipeRefused
  exact (.logReject (.event h))

theorem logRecord {o b r : Nat} (h : Kept s t) : Kept s (logRecord t o b r) := by
  unfold Machine.logRecord
  exact (.ite h (.bumpWrap (.addEntry (.updated h)) clear_bank))

theorem recipeStore {o b addr v : Nat} (ha : 0x400 ≤ addr) (h : Kept s t) : Kept s (recipeStore t o b addr v) := by
  unfold Machine.recipeStore
  extract_lets +onlyGivenNames r k was changed u y u'
  have h' : Kept s u' := .updated (.wr (.ite (.updated h) h) (by omega))
  exact .ite (.logRecord (.setCommitted h')) (.setCommitted h')

theorem writeRecipe {o addr v : Nat} (ha : 0x400 ≤ addr) (h : Kept s t) : Kept s (writeRecipe t o addr v).1 := by
  unfold Machine.writeRecipe
  exact .first (.recipeRefused h) (.first (.recipeRefused h) (.first (.recipeRefused h) (.recipeStore ha h)))

theorem setAligned {b : Bool} (h : Kept s t) : Kept s (setAligned t b) := by
  unfold Machine.setAligned
  exact (.putb (.putb (.ite (.event h) h) (clear_page (by decide))) (clear_bit (by decide)))

theorem alignSource (h : Kept s t) : Kept s (alignSource t) := by
  unfold Machine.alignSource
  exact (.ite (.setAligned h) h)

theorem realign (h : Kept s t) : Kept s (realign t) := by
  unfold Machine.realign
  exact (.updated (.putb (.setAligned h) (clear_page (by decide))))

theorem decideAll {ok : Nat → Bool} (h : Kept s t) : Kept s (decideAll t ok).1 := by
  unfold Machine.decideAll
  exact .foldlFirst h fun _ _ h => .first (.decideFrame h) h

theorem releaseHeld (h : Kept s t) : Kept s (releaseHeld t) := by
  unfold Machine.releaseHeld
  exact (.ite (.realign (.updated h)) (.alignSource (.updated h)))

theorem releaseGangs (h : Kept s t) : Kept s (releaseGangs t) := by
  unfold Machine.releaseGangs
  exact (.forIdx (.updated h) fun _ _ h => (.ite (.putLogged h clear_chan) h))

theorem releaseSeverity (h : Kept s t) : Kept s (releaseSeverity t) := by
  unfold Machine.releaseSeverity
  exact (.updated h)

theorem snapMark {n : Nat} (h : Kept s t) : Kept s (snapMark t n) := by
  unfold Machine.snapMark
  exact (.ite (.updated (.event (.put64 (.ite (.updated (.boardSnap h)) h) (clear_page (by decide)) (clear_page (by
    decide))))) (.ite (.updated (.boardSnap h)) h))

theorem accountFrame {f : FrameIn} {n len : Nat} (h : Kept s t) : Kept s (accountFrame t f n len) := by
  unfold Machine.accountFrame
  exact (.snapMark (.closePending (.forLeads (.forLeads (.ledgerFrame (.forIdx h fun _ _ h => (.measureBank (.latchBank h))))
    fun _ _ h => (.gradeFrame h)) fun _ _ h => .recipeFrame h)))

theorem checkFrame (h : Kept s t) : Kept s (checkFrame t) := by
  unfold Machine.checkFrame
  exact (.forIdx (.forLeads (.forIdx (.foldl (.foldl h fun _ _ h => (.actContact h)) fun _ _ h => (.actGuards h)) fun _ _ h
    => .countProbe h) fun _ _ h => .countZv h) fun _ _ h => (.trackRp h))

theorem clearsFrame {peerLow : Bool} (h : Kept s t) : Kept s (clearsFrame t peerLow) := by
  unfold Machine.clearsFrame
  exact (.clearsDue (.ite h (.publishFaultN (.updated h))))

theorem safeFrame {peerLow : Bool} (h : Kept s t) : Kept s (safeFrame t peerLow) := by
  unfold Machine.safeFrame
  exact (.leaveSafe (.ite (.peerFault h) h))

theorem advanceRef {ok : Nat → Bool} {c len : Nat} (h : Kept s t) : Kept s (advanceRef t ok c len) := by
  unfold Machine.advanceRef
  exact .countRetargets (.stepRef (.stepPulse (.stepVref (.applyMode h))))

theorem reactFirst {ds : List (Nat × Option Choice × Option Nat)} (h : Kept s t) : Kept s (reactFirst t ds) := by
  unfold Machine.reactFirst
  exact (.foldl h fun _ _ h => (.ite (.ite (.shortChan (.foldl h fun _ _ h => (.slowTrip (.slowTrip h)))) (.foldl h fun _ _ h
    => (.slowTrip (.slowTrip h)))) h))

theorem regulate {ok : Nat → Bool} {ds : List (Nat × Option Choice × Option Nat)} {n len : Nat} (h : Kept s t) : Kept
  s (regulate t ok ds n len) := by
  unfold Machine.regulate
  exact (.forLeads (.forLeads (.forLeads (.forLeads (.heartbeatBoundary (.engineBoundary (.foldl h fun _ _ h =>
    (.applyDecision h)))) fun _ _ h => .endWaiting h) fun _ _ h => (.actDisable h)) fun _ _ h => .actZv h) fun _ _ h =>
    (.advanceRef h))

theorem phasesFrame {imons : List Int} (h : Kept s t) : Kept s (phasesFrame t imons) := by
  unfold Machine.phasesFrame
  exact (.forIdx (.forIdx h fun _ _ h => (.phaseFrame h)) fun _ _ h => (.balanceFrame (.countSwitching h)))

theorem autoResume {c : Nat} (h : Kept s t) : Kept s (autoResume t c) := by
  unfold Machine.autoResume
  exact (.ite (.ite (.putLogged (.resumeStep h) clear_chan) (.event (.putb h clear_chan))) h)

theorem connectTime {c len : Nat} (h : Kept s t) : Kept s (connectTime t c len) := by
  unfold Machine.connectTime
  exact (.ite (.setChan h) h)

theorem permit {ok : Nat → Bool} {n len : Nat} (h : Kept s t) : Kept s (permit t ok n len) := by
  unfold Machine.permit
  exact (.forLeads (.forIdx (.forLeads (.forLeads (.applyLimits (.connectAll (.commonsBoundary (.forLeads (.forLeads (.forIdx
    h fun _ _ h => (.connectTime h)) fun _ _ h => .tryRun h) fun _ _ h => (.markWaiting (.autoResume h)))))) fun _ _ h =>
    (.ite h (.commitRef h))) fun _ _ h => (.tryRampEnd h)) fun _ _ h => .setSwitching h) fun _ _ h => (.ite (.startRecipe h)
    h))

theorem gradeBoundary (h : Kept s t) : Kept s (gradeBoundary t) := by
  unfold Machine.gradeBoundary
  exact (.refreshLoad (.refreshInUse (.forIdx (.updated (.forLeads (.foldl (.foldl h fun _ _ h => (.gradeClose h)) fun _ _ h
    => .gradeOpen h) fun _ _ h => .gradeLatch h)) fun _ _ h => .gradeBegin h)))

theorem recordFrame {due : Bool} {steps : List Nat} (h : Kept s t) : Kept s (recordFrame t due steps) := by
  unfold Machine.recordFrame
  exact (by dsimp only; split; exacts [(.requestCommit (.updated h)), (by split; exacts [(.ite h (.requestCommit h)), h])])

theorem isoFrame {lev : Nat} (h : Kept s t) : Kept s (isoFrame t lev) := by
  unfold Machine.isoFrame
  exact (.forIdx h fun _ _ h => (.putb (.setChan h) clear_phase))

theorem shadowFrame (h : Kept s t) : Kept s (shadowFrame t) := by
  unfold Machine.shadowFrame
  exact (.foldl (.updated (.updated h)) fun _ _ h => (.requestCkpt h))

theorem sortFifo {was : Nat} (h : Kept s t) : Kept s (sortFifo t was) := by
  unfold Machine.sortFifo
  exact (.ite (.updated h) (.event (.addCount (.updated h) (clear_page (by decide)))))

end Kept

end Sys2Proof.Machine

end
section
/-! PROOF. A boundary that begins a frame counts it, and nothing else of the boundary moves the frame number (R83, R92). The staged
writes of the engines reach the pages of the banks and of the grading only (R34). -/

namespace Sys2Proof.Machine

variable {s t : State}

/-! ### Writes that an engine of a bank or of the grading stages -/

theorem page_of_bankRight {b page : Nat} (h : bankRight b page = true) : 0x20 ≤ page := by
  simp only [bankRight, Bool.or_eq_true, decide_eq_true_eq, Pg.BANK, Pg.CHAN, Pg.PHASE, Pg.ENG, Pg.RECIPE] at h
  omega

/-- ENG.0 to ENG.9 write no page below the banks' but ESTIM. -/
theorem page_of_staged {n page : Nat} (hn : n < 10) (h : mayWrite t (Org.ENG n) page = true) : page = Pg.ESTIM ∨ 0x20 ≤ page := by
  unfold mayWrite at h
  rw [if_neg (by simp only [Org.ENG, Org.HOST, Org.FACTORY]; omega)] at h
  split at h
  · exact .inr (page_of_bankRight h)
  · rw [if_pos (by simp only [Org.ENG] at *; omega)] at h
    simp only [Bool.or_eq_true, Bool.and_eq_true, decide_eq_true_eq] at h
    rcases h with (((h | h) | ⟨h, -⟩) | ⟨-, h⟩) | h
    · exact .inl h
    · exact .inr (by simp only [h, Pg.ENG]; omega)
    · exact .inr (by simp only [Pg.RESULT] at h; omega)
    · exact .inr (page_of_bankRight h)
    · cases hb : (t.eng (Org.ENG n - 0x10)).ranBank with
      | none => rw [hb] at h; cases h
      | some b => rw [hb] at h; exact .inr (page_of_bankRight h)

/-- The kinds of those pages. -/
theorem kind_of_staged {page : Nat} {k : PageKind} (hp : page = Pg.ESTIM ∨ 0x20 ≤ page) (hk : pageKind page = some k) :
    k = .estim ∨ k = .bank ∨ k = .chan ∨ k = .phase ∨ k = .eng ∨ k = .recipe ∨ k = .result := by
  have h := pageKind_pages hk
  have he : Pg.ESTIM = 0x12 := rfl
  cases k
  case estim | bank | chan | phase | eng | recipe | result => simp
  all_goals
    simp only [kindPages] at h
    omega

/-- The state as a frame begins: its number counts up, and the transit's settings for it come into force. -/
def frameCounted (s : State) : State :=
  { s with
    frame := (s.frame + 1) % 2 ^ 64
    transit := { s.transit with adjust := s.transit.nextAdjust, nextAdjust := 0, edge := s.transit.nextEdge, nextEdge := none, closed := false } }

namespace Kept

theorem actPageWrite {w : Wr} (hw : 0 < w.page)
    (hk : w.kind = .estim ∨ w.kind = .bank ∨ w.kind = .chan ∨ w.kind = .phase ∨ w.kind = .eng ∨ w.kind = .recipe ∨ w.kind = .result)
    (h : Kept s t) : Kept s (actPageWrite t w) := by
  unfold Machine.actPageWrite
  refine .ite h ?_
  rcases hk with e | e | e | e | e | e | e <;> rw [e]
  · exact .actEstim h
  · exact .actBank h
  · exact .actChan hw h
  all_goals exact h

theorem acceptWrite {fs : List FieldDef} {w : Wr} (hw : 0 < w.page)
    (hk : w.kind = .estim ∨ w.kind = .bank ∨ w.kind = .chan ∨ w.kind = .phase ∨ w.kind = .eng ∨ w.kind = .recipe ∨ w.kind = .result)
    (h : Kept s t) : Kept s (acceptWrite t fs w) :=
  .ite (.actPageWrite hw hk (.entryOf (.storeWord hw h))) (.entryOf (.actPageWrite hw hk (.storeWord hw h)))

theorem rulesWrite {fs : List FieldDef} {w : Wr} (h : Kept s t) (ha : Kept s (Machine.acceptWrite t fs w)) :
    Kept s (rulesWrite t fs w).1 := by
  unfold Machine.rulesWrite
  dsimp only
  split
  · exact .refused h
  · exact .first (.refused h) h
  · exact .first (.refused h) (.first h ha)

theorem rightsWrite {n : Nat} {fs : List FieldDef} {w : Wr} (hn : n < 10) (ho : w.o = Org.ENG n)
    (hk : pageKind w.page = some w.kind) (h : Kept s t) : Kept s (rightsWrite t false fs w).1 := by
  unfold Machine.rightsWrite
  by_cases hm : mayWrite t w.o w.page = true
  · rw [ho] at hm
    have hp := page_of_staged hn hm
    have hw : 0 < w.page := by
      have he : Pg.ESTIM = 0x12 := rfl
      omega
    have kinds := kind_of_staged hp hk
    have notFault : faultCommand w = false := by
      unfold faultCommand
      rcases kinds with e | e | e | e | e | e | e <;> rw [e] <;> rfl
    simp only [ho, hm, notFault, Bool.not_true, Bool.and_false, Bool.false_eq_true, if_false]
    exact (.first (.refused h) (.rulesWrite h (.acceptWrite hw kinds h)))
  · rw [Bool.not_eq_true] at hm
    rw [hm]
    exact .refuseAll h

/-- A staged write of an engine (R275). -/
theorem writeReg {n addr v : Nat} (hn : n < 10) (h : Kept s t) : Kept s (writeReg t (Org.ENG n) addr v).1 := by
  unfold Machine.writeReg Machine.writeCore
  refine .first h ?_
  split
  · exact h
  · rename_i hk
    have hp := (pageKind_pages hk).1
    exact .writeRecipe (by simp only [kindPages] at hp; omega) h
  · rename_i k _ hk
    refine .first h (.first (.testFail h) (.first (.writeLock ?_ h) (.first (.lockRefused h) (.rightsWrite hn rfl hk h))))
    show Org.ENG n ≠ Org.HOST
    simp only [Org.ENG, Org.HOST]
    omega

theorem applyStaged {alive : Nat → Bool} (h : Kept s t) : Kept s (applyStaged t alive) := by
  unfold Machine.applyStaged
  dsimp only
  refine foldl_mem (.updated h) fun u n hn hu => .ite (foldl_mem hu fun x e he hx => ?_) hu
  rw [List.mem_range] at hn
  have ho : e.1 = Org.ENG n := by simpa using (List.mem_filter.mp he).2
  rw [ho]
  exact .writeReg hn hx
theorem beginFrame (len : Nat) : Kept (frameCounted t) (beginFrame t len) :=
  .tickFrame (.put .refl (clear_page (by decide)))

end Kept

theorem frame_fullBoundary (s : State) (f : FrameIn) : (fullBoundary s f).frame = (s.frame + 1) % 2 ^ 64 := by
  unfold fullBoundary
  extract_lets +onlyGivenNames n len u1 u2 u3 steps was due y u4 okB okE ok d u5 u6 seeded u7 u8 u9 u10 u11 u12 u13 u14 u15 u16
  have flipped : Kept s u2 := .foldl (.foldl .refl fun _ _ h => .memFlip h) fun _ _ h => .bump h clear_eng
  have decided : Kept s d.1 := .decideAll (.updated (.countLimited (.countOverdraw flipped)))
  have before : Kept s u5 := .forLeads decided fun _ _ h => .ite (.startRun h) h
  have begun : Kept (frameCounted u5) u6 := .applyStaged (.beginFrame len)
  have accounted : Kept (frameCounted u5) u8 := .forIdx (.accountFrame (.clearsFrame (.releaseHeld begun))) fun _ _ h => .retireFlagged h
  have recorded : Kept (frameCounted u5) u10 := .recordFrame (.forIdx accounted fun _ _ h => .calFrame h)
  have checked : Kept (frameCounted u5) u11 :=
    .releaseGangs (.safeFrame (.foldl (.checkFrame recorded) fun _ _ h => .seedBank h))
  have slowed : Kept (frameCounted u5) u12 := .forIdx checked fun _ _ h => .slowFrame h
  have switched : Kept (frameCounted u5) u13 := .phasesFrame (.regulate (.reactFirst slowed))
  have permitted : Kept (frameCounted u5) u14 := .closePending (.permit switched)
  have shown : Kept (frameCounted u5) u16 :=
    .shadowFrame (.captureSource (.isoFrame (.streamBoundary (.gradeBoundary permitted))))
  have ended := (Kept.releaseSeverity (.sortFifo (was := was) (.flushLog shown))).frame
  rw [ended]
  show (u5.frame + 1) % 2 ^ 64 = _
  rw [before.frame]

end Sys2Proof.Machine

open Sys2Proof Sys2Proof.Machine

/-- Settles O20: in FULL the boundary is `fullBoundary`, which counts one frame. -/
theorem frameNumberAdvances : Obligations.FrameNumberAdvances := by
  unfold Obligations.FrameNumberAdvances
  intro s f full going
  have powered : s.powered = true := by
    simp only [State.full, State.inService, Bool.and_eq_true] at full
    exact full.1
  refine ⟨_, rfl, ?_, powered, rfl, rfl, rfl⟩
  show (flushLog (frameBoundary s f)).frame = _
  rw [(Kept.flushLog (s := frameBoundary s f) .refl).frame, frameBoundary, going, full]
  exact frame_fullBoundary (readBalls s f) f

end
section
/-! PROOF. The start of the device: the self-test, REFCLK, MAIN_START and the PLL (R46, R49, R52, R70, R77). -/

namespace Sys2Proof.Machine

variable {s t u : State} {c : Instr} {P : State → Prop} {o : Out} {b : Bool} {act : State → State}

/-! ### The end of a command -/

/-- What `finish` answers: the act's state with its messages sent and the queue, the supply and the OTP put back. -/
def ended (s t : State) : State :=
  { flushLog t with pending := s.pending, powered := s.powered, otpA := s.otpA, otpB := s.otpB }

theorem sameOuter_ended (s t : State) : sameOuter s (ended s t) := ⟨rfl, rfl, rfl, rfl⟩

theorem rd_ended (s t : State) (a : Nat) : (ended s t).rd a = (flushLog t).rd a := rfl

theorem get_ended (s t : State) (p : Nat) (f : Fld) : (ended s t).get p f = (flushLog t).get p f :=
  State.get_congr p f (rd_ended s t _)

theorem service_ended (s t : State) : (ended s t).service = t.service :=
  (get_ended s t _ _).trans (flushLog_held noAddr t).service

theorem get_ended_of {p : Nat} {f : Fld} (s t : State) (ho : f.off < 0x400) (hp : ¬ reactivePage p) (h0 : addrOf p f ≠ 0x40) :
    (ended s t).get p f = t.get p f :=
  (get_ended s t p f).trans ((flushLog_held noAddr t).get ho hp (fun e => e) h0)

theorem chipFlag_ended {f : Fld} (s t : State) (hf : f.off = 0x40) (hb : f.lo ≤ f.hi) (hn : f.hi < 23) :
    (ended s t).flag Pg.CHIP f = t.flag Pg.CHIP f :=
  (congrArg (fun n => decide (n = 1)) (get_ended s t _ _)).trans ((flushLog_held noAddr t).chipFlag hf hb (.inl hn))

theorem svc_ended (s t : State) : (ended s t).svc = t.svc := by
  have h : (ended s t).svc = (flushLog t).svc := rfl
  exact h.trans ((flushLog_held noAddr t).field State.svc)

theorem rcUs_ended (s t : State) : (ended s t).rcUs = t.rcUs := by
  have h : (ended s t).rcUs = (flushLog t).rcUs := rfl
  exact h.trans ((flushLog_held noAddr t).field State.rcUs)

/-- A command that is an event. -/
theorem gives_end (hx : exec c s = o) (ho : o = takes s b act) (hb : b = true) (p : P (ended s (act s))) : gives c s P :=
  ⟨_, by rw [hx, ho, takes, if_pos hb]; rfl, p⟩

/-! ### The engines' pages -/

/-- `t` has the registers of the ENG pages and of those above, and the power path, of `s`. -/
structure EngKept (s t : State) : Prop where
  rd : ∀ a, 0x40000 ≤ a → t.rd a = s.rd a
  backup : t.backup = s.backup

theorem EngKept.refl : EngKept s s := ⟨fun _ _ => rfl, rfl⟩

theorem EngKept.put {p v : Nat} {f : Fld} (h : EngKept s t) (hp : p < 0x100) (ho : f.off < 0x400) : EngKept s (t.put p f v) :=
  ⟨fun a ha => (t.rd_put_ne v (by simp only [addrOf]; omega)).trans (h.rd a ha), h.backup⟩

theorem EngKept.held (h : EngKept s t) (k : Held noAddr t u) : EngKept s u :=
  ⟨fun a ha => (k.rd a (by simp only [reactivePage]; omega) (fun e => e) (by omega)).trans (h.rd a ha),
    (k.field State.backup).trans h.backup⟩

theorem EngKept.same (h : EngKept s t) (hr : u.regs = t.regs) (hb : u.backup = t.backup) : EngKept s u :=
  ⟨fun a ha => by rw [← h.rd a ha, State.rd, State.rd, hr], hb.trans h.backup⟩

theorem EngKept.estate (h : EngKept s t) (e : Nat) : estate t e = estate s e :=
  State.get_congr _ _ (h.rd _ (by simp only [addrOf, Pg.ENG]; omega))

theorem EngKept.enter (h : EngKept s t) (v : Nat) : EngKept s (t.enter v) := by
  have shown : EngKept s ((t.put Pg.CHIP Reg.CHIP.STATUS_SERVICE v).event Pg.CHIP 0) :=
    (h.put (by decide) (by decide)).put (f := ⟨0x008, 0, 0, 0⟩) (by decide) (by decide)
  unfold State.enter
  split
  · exact h
  · exact shown.held ((Held.refl _).latch)

theorem EngKept.ite {p : Prop} [Decidable p] {a b : State} (ha : EngKept s a) (hb : EngKept s b) :
    EngKept s (if p then a else b) := by
  split
  · exact ha
  · exact hb

theorem EngKept.foldl {α : Type} {step : State → α → State} {l : List α} (h : EngKept s t)
    (H : ∀ u x, EngKept s u → EngKept s (step u x)) : EngKept s (l.foldl step t) := by
  induction l generalizing t with
  | nil => exact h
  | cons x l ih => exact ih (H t x h)

theorem EngKept.setRail {r : Nat} {x : RailState} (h : EngKept s t) : EngKept s (setRail t r x) := h.same rfl rfl

theorem EngKept.setStart {b : Bool} (h : EngKept s t) : EngKept s { t with hk := { t.hk with start := b } } := h.same rfl rfl

theorem EngKept.enterUp (h : EngKept s t) (b : Bool) : EngKept s (enterUp t b) := by
  unfold Machine.enterUp
  extract_lets +onlyGivenNames p u1 u2 u3
  have h1 : EngKept s u1 := (h.put (by decide) (by decide)).put (by decide) (by decide)
  have h2 : EngKept s u2 := .ite (h1.put (by decide) (by decide)) h1
  have h3 : EngKept s u3 := .foldl h2 fun _ _ h => h.setRail
  exact h3.setStart.put (by decide) (by decide)

theorem held_refreshFaultN (s : State) : Held noAddr s (refreshFaultN s) := by
  unfold refreshFaultN
  extract_lets +onlyGivenNames was low u
  have hu : Held noAddr s u := Held.publishFaultN ((Held.refl s).putb rFault (by decide))
  exact .ite hu.chipSafeWith hu

theorem EngKept.enterReduced (h : EngKept s t) : EngKept s (enterReduced t) := by
  have shown := (h.enter Svc.REDUCED).held (held_refreshFaultN _)
  unfold Machine.enterReduced
  dsimp only
  split
  · exact shown.enterUp true
  · exact shown

theorem EngKept.gaugeReseed (h : EngKept s t) (mv : Nat) : EngKept s (gaugeReseed t mv) := by
  have seeded : ∀ v, EngKept s (seedCharge t v) := fun v => h.put (by decide) (by decide)
  unfold Machine.gaugeReseed Machine.dropConfidence
  dsimp only
  split
  · exact ((seeded _).put (by decide) (by decide)).same rfl rfl
  · exact (seeded _).same rfl rfl

/-! ### The service state -/

theorem service_enter (s : State) (v : Nat) (hv : v < 8) : (s.enter v).service = v := by
  have shown : ((s.put Pg.CHIP Reg.CHIP.STATUS_SERVICE v).event Pg.CHIP 0).service = v := by
    rw [State.service, State.event, State.get_put_ne _ _ (by decide), State.get_put_same _ _ _ _ (by decide) (by decide)]
    exact Nat.mod_eq_of_lt hv
  unfold State.enter
  split
  · assumption
  · exact (Kept.latch .refl).service.trans shown

theorem service_enterUp (s : State) (b : Bool) : (enterUp s b).service = s.service := by
  unfold enterUp
  extract_lets +onlyGivenNames p u1 u2 u3
  have h1 : Kept s u1 := .putb (.put .refl (clear_page (by decide))) (clear_page (by decide))
  have h2 : Kept s u2 := .ite (.put h1 (clear_page (by decide))) h1
  have h3 : Kept s u3 := .foldl h2 fun _ _ h => .updated h
  exact (Kept.putb (.updated h3) (clear_bit (by decide))).service

theorem service_enterReduced (s : State) : (enterReduced s).service = Svc.REDUCED := by
  have entered : (refreshFaultN (s.enter Svc.REDUCED)).service = Svc.REDUCED :=
    (held_refreshFaultN _).service.trans (service_enter s _ (by decide))
  unfold enterReduced
  dsimp only
  split
  · rw [service_enterUp, entered]
  · exact entered

theorem backup_forIdx {n : Nat} {step : State → Nat → State} (h : ∀ u k, (step u k).backup = u.backup) :
    (forIdx n s step).backup = s.backup := by
  unfold forIdx
  induction List.range n generalizing s with
  | nil => rfl
  | cons k l ih => exact (ih (s := step s k)).trans (h s k)

theorem backup_setEstate (s : State) (e v : Nat) : (setEstate s e v).backup = s.backup := by
  unfold setEstate
  dsimp only
  split <;> simp

/-- A field of a page below the engines' leaves an engine's state. -/
theorem estate_put {p x e : Nat} {f : Fld} (hp : p < 0x100) (ho : f.off < 0x400) : estate (s.put p f x) e = estate s e :=
  (EngKept.put .refl hp ho).estate e

theorem estate_setEstate (s : State) (e : Nat) {v : Nat} (hv : v < 8) : estate (setEstate s e v) e = v := by
  have shown : estate (s.put (Pg.ENG e) Reg.ENG.STATE_STATE v) e = v :=
    (State.get_put_same _ _ _ _ (by decide) (by decide)).trans (Nat.mod_eq_of_lt hv)
  unfold setEstate State.putBit
  extract_lets +onlyGivenNames u1 u2 u3 u4
  have h4 : estate u4 e = v := by
    rw [estate_put (by decide) (by simp), estate_put (by decide) (by simp), estate_put (by decide) (by simp), shown]
  split
  · exact (estate_put (by decide) (by decide)).trans h4
  · exact h4

/-- The state of another engine stands. -/
theorem estate_setEstate_ne (s : State) {e d v : Nat} (h : d ≠ e) : estate (setEstate s e v) d = estate s d := by
  have shown : estate (s.put (Pg.ENG e) Reg.ENG.STATE_STATE v) d = estate s d :=
    State.get_put_ne _ _ (by simp only [addrOf, Pg.ENG]; omega)
  unfold setEstate State.putBit
  extract_lets +onlyGivenNames u1 u2 u3 u4
  have h4 : estate u4 d = estate s d := by
    rw [estate_put (by decide) (by simp), estate_put (by decide) (by simp), estate_put (by decide) (by simp), shown]
  split
  · exact (estate_put (by decide) (by decide)).trans h4
  · exact h4

/-! ### The self-test -/

/-- The engines of the hardware once the self-test has passed. -/
def selftestBooted (s : State) (vbak : Nat) : State :=
  gaugeReseed (setEstate (setEstate (loadSafety (readRegion s 0)) 10 Es.RUNNING) 11 Es.RUNNING) vbak

theorem backup_selftestBooted (s : State) (vbak : Nat) : (selftestBooted s vbak).backup = s.backup := by
  have loaded : (loadSafety (readRegion s 0)).backup = s.backup := backup_forIdx fun _ _ => rfl
  rw [selftestBooted, (EngKept.gaugeReseed .refl vbak).backup, backup_setEstate, backup_setEstate, loaded]

theorem estate_selftestBooted (s : State) (vbak : Nat) :
    estate (selftestBooted s vbak) 10 = Es.RUNNING ∧ estate (selftestBooted s vbak) 11 = Es.RUNNING := by
  have kept := EngKept.gaugeReseed (s := setEstate (setEstate (loadSafety (readRegion s 0)) 10 Es.RUNNING) 11 Es.RUNNING) .refl vbak
  refine ⟨?_, ?_⟩
  · rw [selftestBooted, kept.estate, estate_setEstate_ne _ (by decide), estate_setEstate _ _ (by decide)]
  · rw [selftestBooted, kept.estate, estate_setEstate _ _ (by decide)]

theorem otpPass_readRegion (s : State) (r : Nat) : otpPass (readRegion s r) 0 = otpPass s 0 := rfl

/-- A self-test that passes, with the safety region valid and the power path up, ends in REDUCED. -/
theorem selftestDone_pass (vbak : Nat) (valid : otpPass s 0 = true) (path : s.backup.path = true) :
    selftestDone s true vbak = enterReduced (selftestBooted s vbak) := by
  have up : (selftestBooted s vbak).backup.path = true := by rw [backup_selftestBooted, path]
  unfold selftestDone
  rw [if_neg (by decide)]
  dsimp only
  rw [otpPass_readRegion, if_pos valid]
  change (if (packStart (selftestBooted s vbak) vbak).backup.latch && !(packStart (selftestBooted s vbak) vbak).backup.path then _ else
    enterReduced (packStart (selftestBooted s vbak) vbak)) = _
  rw [packStart, if_pos up, up]
  simp

theorem estate_ended (s t : State) (e : Nat) : estate (ended s t) e = estate t e :=
  (get_ended s t _ _).trans ((EngKept.held .refl (flushLog_held noAddr t)).estate e)

theorem estate_selftestReduced (s : State) (vbak : Nat) :
    estate (enterReduced (selftestBooted s vbak)) 10 = Es.RUNNING ∧ estate (enterReduced (selftestBooted s vbak)) 11 = Es.RUNNING := by
  have kept := EngKept.enterReduced (s := selftestBooted s vbak) .refl
  rw [kept.estate, kept.estate]
  exact estate_selftestBooted s vbak

/-! ### REFCLK qualified, the PLL locked -/

/-- A state with CLOCK's part set. -/
def withClockOnly (v : State) (c : ClockState) : State := { v with clock := c }

theorem get_withClockOnly (v : State) (c : ClockState) (p : Nat) (f : Fld) : (withClockOnly v c).get p f = v.get p f :=
  State.get_congr p f rfl

theorem flag_withClockOnly (v : State) (c : ClockState) (p : Nat) (f : Fld) : (withClockOnly v c).flag p f = v.flag p f :=
  congrArg (fun n => decide (n = 1)) (get_withClockOnly v c p f)

theorem onlyBits.withClockOnly {l : List (Nat × Fld)} {ps : List Nat} (h : onlyBits s t l ps) (c : ClockState) :
    onlyBits s (withClockOnly t c) l ps := h.regs rfl

theorem withClockOnly_kept (h : onlyRegs s t) (room : logRoom s 0) (c : ClockState) :
    sameOuter s (withClockOnly t c) ∧ logRoom (withClockOnly t c) 0 := ⟨h.sameOuter, h.room room⟩

theorem withClockOnly_rest (h : onlyRegs s t) (c : ClockState) : { withClockOnly t c with regs := s.regs, clock := s.clock } = s :=
  congrArg (fun x : State => { x with clock := s.clock }) h

theorem withClockOnly_episode (h : onlyRegs s t) :
    { withClockOnly t { t.clock with refEpisode := false } with
      regs := s.regs, clock := { (withClockOnly t { t.clock with refEpisode := false }).clock with refEpisode := s.clock.refEpisode } } = s :=
  congrArg (fun x : State => { x with clock := { x.clock with refEpisode := s.clock.refEpisode } }) h

theorem exec_refclkQualified (s : State) (khz : Nat) : exec (.refclkQualified khz) s = takes s
    (s.reducedOrLater && railQual s 2 && !s.flag Pg.CLOCK Reg.CLOCK.STATUS_REFCLK_QUAL && refWindow s && khzOk s khz)
    (fun s => withClockOnly (qualified s khz) { (qualified s khz).clock with refEpisode := false }) := by
  show execRefclkQualified khz s = _
  unfold execRefclkQualified withClockOnly qualified qualify
  rfl

theorem exec_pllLocked (s : State) : exec .pllLocked s = takes s
    (s.inService Svc.MAIN_START && !s.flag Pg.CLOCK Reg.CLOCK.STATUS_PLL_LOCK)
    (fun s => withClockOnly (setPll s true) { s.clock with pllEpisode := false }) := rfl

/-! ### MAIN_START -/

/-- Beside registers and the alert, `t` is `s`. -/
abbrev onlyAlert (s t : State) : Prop := { t with regs := s.regs, alert := s.alert } = s

theorem onlyAlert_of_regs (h : onlyRegs s t) : onlyAlert s t := congrArg (fun x : State => { x with alert := s.alert }) h

theorem onlyAlert.put {p v : Nat} {f : Fld} (h : onlyAlert s t) : onlyAlert s (t.put p f v) := h

theorem onlyAlert.setAlert {b : Bool} (h : onlyAlert s t) : onlyAlert s { t with alert := b } := h

theorem onlyAlert.ite {p : Prop} [Decidable p] {a b : State} (ha : onlyAlert s a) (hb : onlyAlert s b) :
    onlyAlert s (if p then a else b) := by
  split
  · exact ha
  · exact hb

theorem onlyAlert.latch (h : onlyAlert s t) (k : Nat) : onlyAlert s (t.latch k) := by
  unfold State.latch
  exact .ite h (.ite h.put.setAlert h.put)

theorem onlyAlert.enter (h : onlyAlert s t) (v : Nat) : onlyAlert s (t.enter v) := by
  unfold State.enter
  exact .ite h (.latch (.put (.put h)) 0)

theorem onlyAlert.kept (h : onlyAlert s t) (room : logRoom s 0) : sameOuter s t ∧ logRoom t 0 := by
  have field : ∀ {α : Type} (g : State → α), g { t with regs := s.regs, alert := s.alert } = g s := fun g => congrArg g h
  exact ⟨⟨field State.pending, field State.powered, field State.otpA, field State.otpB⟩,
    room.same (field State.log) (congrArg FaultState.logPending (field State.fault))⟩

theorem onlyBits.setAlert {l : List (Nat × Fld)} {ps : List Nat} {b : Bool} (h : onlyBits s t l ps) :
    onlyBits s { t with alert := b } l ps := h.regs rfl

theorem onlyBits.latch {l : List (Nat × Fld)} {ps : List Nat} {k : Nat} (h : onlyBits s t l ps)
    (c : covers l ps Pg.TWOWIRE ⟨Reg.TWOWIRE.STATUS_LATCHED.off, Reg.TWOWIRE.STATUS_LATCHED.lo + k, Reg.TWOWIRE.STATUS_LATCHED.lo + k, 0⟩) :
    onlyBits s (t.latch k) l ps := by
  unfold State.latch
  exact .ite h (.ite (h.putBit c).setAlert (h.putBit c))

/-- The fields that an entry to a service state writes. -/
def enterFields : List (Nat × Fld) :=
  [(Pg.CHIP, Reg.CHIP.STATUS_SERVICE), (Pg.CHIP, ⟨0x008, 0, 0, 0⟩), (Pg.TWOWIRE, Reg.TWOWIRE.STATUS_LATCHED)]

theorem onlyBits_enter (s : State) (v : Nat) : onlyBits s (s.enter v) enterFields [] := by
  unfold State.enter
  refine .ite (onlyBits.refl s) (onlyBits.latch (onlyBits.event (onlyBits.put (onlyBits.refl s) ?_) ?_) ?_) <;> decide

/-- The device enters MAIN_START with its GO taken. -/
def mainStarted (s : State) : State := (s.putb Pg.CHIP Reg.CHIP.STATUS_GO_PENDING false).enter Svc.MAIN_START

theorem onlyBits_mainStarted (s : State) : onlyBits s (mainStarted s) [(Pg.CHIP, Reg.CHIP.STATUS_SERVICE),
    (Pg.CHIP, Reg.CHIP.STATUS_GO_PENDING), (Pg.CHIP, ⟨0x008, 0, 0, 0⟩), (Pg.TWOWIRE, Reg.TWOWIRE.STATUS_LATCHED)] [] :=
  ((onlyBits.refl s).putb (by decide)).trans ((onlyBits_enter _ _).weaken (by decide) (List.Subset.refl _))

theorem goPending_mainStarted (s : State) : (mainStarted s).flag Pg.CHIP Reg.CHIP.STATUS_GO_PENDING = false := by
  rw [mainStarted, (onlyBits_enter _ _).flag_apart (by decide) List.not_mem_nil (by decide) (by decide)]
  simp (disch := decide) [State.flag, State.putb, State.get_put_same, Fld.width, b2n]

theorem onlyAlert_mainStarted (s : State) : onlyAlert s (mainStarted s) := .enter (onlyAlert_of_regs (.put (rfl : onlyRegs s s))) _

end Sys2Proof.Machine

open Sys2Proof Sys2Proof.Machine

/-- Settles O15: each event's condition holds, and its act writes the fields listed; the self-test that passes enters REDUCED after the
safety region is loaded and ENG.10 and ENG.11 run. -/
theorem safetyStartGoesOn : Obligations.SafetyStartGoesOn := by
  unfold Obligations.SafetyStartGoesOn
  refine ⟨?_, ?_, ?_, ?_, ?_⟩
  · intro s v start first waits room
    exact gives_takes _ (act := fun s => selftestDone s false v) rfl rfl (by simp [start, first, waits]) ⟨rfl, rfl, rfl, rfl⟩ (room.same rfl rfl)
      ⟨rfl, onlyBits.regs (onlyBits.refl s) rfl, rfl⟩
  · intro s v start first waits valid path
    refine gives_end (act := fun s => selftestDone s true v) rfl rfl (by simp [start, first, waits]) ?_
    rw [selftestDone_pass v valid path]
    obtain ⟨e10, e11⟩ := estate_selftestReduced s v
    exact ⟨(service_ended _ _).trans (service_enterReduced _), (estate_ended _ _ _).trans e10, (estate_ended _ _ _).trans e11⟩
  · intro s khz powered rail window qual hk lo hi room
    have only := onlyRegs_qualified s khz
    obtain ⟨f1, f2, f3, f4⟩ := qualified_fields (s := s) hk
    obtain ⟨outer, room'⟩ := withClockOnly_kept only room { (qualified s khz).clock with refEpisode := false }
    refine gives_takes _ (act := fun s => withClockOnly (qualified s khz) { (qualified s khz).clock with refEpisode := false })
      (exec_refclkQualified s khz) rfl (by simp [powered, rail, window, qual, khzOk, lo, hi]) outer room' ?_
    simp only [flag_withClockOnly, get_withClockOnly]
    exact ⟨f1, f2, f3, f4, (onlyBits_qualified s khz).withClockOnly _, rfl, withClockOnly_episode only⟩
  · intro s reduced waits up qual begins room
    obtain ⟨outer, room'⟩ := (onlyAlert_mainStarted s).kept room
    refine gives_takes _ (act := mainStarted) rfl rfl ?_ outer room'
      ⟨service_enter _ _ (by decide), goPending_mainStarted s, onlyBits_mainStarted s, onlyAlert_mainStarted s⟩
    rw [reduced, waits, up, qual]
    simpa using begins
  · intro s start unlocked room
    have only := onlyRegs.setPll (b := true) (rfl : onlyRegs s s)
    obtain ⟨outer, room'⟩ := withClockOnly_kept only room { s.clock with pllEpisode := false }
    obtain ⟨pll, pllChip⟩ := pllLock_setPll s true
    refine gives_takes _ (act := fun s => withClockOnly (setPll s true) { s.clock with pllEpisode := false })
      (exec_pllLocked s) rfl (by simp [start, unlocked]) outer room' ?_
    simp only [flag_withClockOnly]
    exact ⟨pll, pllChip, (onlyBits_setPll s true).withClockOnly _, withClockOnly_rest only _⟩

end
section
/-! PROOF. The start of the main domain and its restart (R46, R54, R56, R57, R64, R77). -/

namespace Sys2Proof.Machine

variable {s t u : State}

/-! ### The service part and the RC time -/

/-- `t` has the resets that wait, and the RC time, of `s`. -/
structure SvcKept (s t : State) : Prop where
  svc : t.svc = s.svc
  rcUs : t.rcUs = s.rcUs

namespace SvcKept

theorem refl : SvcKept s s := ⟨rfl, rfl⟩

theorem trans (h : SvcKept s t) (k : SvcKept t u) : SvcKept s u := ⟨k.svc.trans h.svc, k.rcUs.trans h.rcUs⟩

theorem put {p v : Nat} {f : Fld} (h : SvcKept s t) : SvcKept s (t.put p f v) := ⟨h.svc, h.rcUs⟩

theorem held (h : SvcKept s t) (k : Held noAddr t u) : SvcKept s u :=
  h.trans ⟨k.field State.svc, k.field State.rcUs⟩

theorem same (h : SvcKept s t) (hs : u.svc = t.svc) (hr : u.rcUs = t.rcUs) : SvcKept s u := ⟨hs.trans h.svc, hr.trans h.rcUs⟩

theorem ite {c : Prop} [Decidable c] {a b : State} (ha : SvcKept s a) (hb : SvcKept s b) : SvcKept s (if c then a else b) := by
  split
  · exact ha
  · exact hb

theorem foldl {α : Type} {step : State → α → State} {l : List α} (h : SvcKept s t)
    (H : ∀ u x, SvcKept s u → SvcKept s (step u x)) : SvcKept s (l.foldl step t) := by
  induction l generalizing t with
  | nil => exact h
  | cons x l ih => exact ih (H t x h)

theorem forIdx {n : Nat} {step : State → Nat → State} (h : SvcKept s t) (H : ∀ u x, SvcKept s u → SvcKept s (step u x)) :
    SvcKept s (forIdx n t step) := h.foldl H

theorem addEntry {o p off old new : Nat} {f : LogFlags} (h : SvcKept s t) : SvcKept s (addEntry t o p off old new f) :=
  h.held (Held.addEntry (Held.refl t))

theorem putLogged {o p v : Nat} {f : Fld} (h : SvcKept s t) : SvcKept s (putLogged t o p f v) := by
  unfold Machine.putLogged logChange
  exact .ite h (.put (.addEntry (.put h)))

theorem setCarried {e b : Nat} (h : SvcKept s t) : SvcKept s (setCarried t e b) := .put (.put h)

theorem countDrop {src n : Nat} (h : SvcKept s t) : SvcKept s (countDrop t src n) := by
  unfold Machine.countDrop
  extract_lets +onlyGivenNames p st u
  have hu : SvcKept s u := h.same rfl rfl
  exact .ite (.put (.put hu)) hu

theorem loseEvents (h : SvcKept s t) : SvcKept s (loseEvents t) := by
  unfold Machine.loseEvents
  exact .foldl h fun _ _ h => .ite (.countDrop h) h

theorem streamWarm (h : SvcKept s t) : SvcKept s (streamWarm t) := by
  unfold Machine.streamWarm
  extract_lets +onlyGivenNames u
  have hu : SvcKept s u := .foldl (.loseEvents h) fun _ _ h => .ite h (.countDrop h)
  clear_value u
  exact hu.same rfl rfl

theorem resetLocks (h : SvcKept s t) : SvcKept s (resetLocks t false) := by
  unfold Machine.resetLocks Machine.revertFactoryLocks
  exact .ite (.foldl (.foldl h fun _ _ h => .putLogged h) fun _ _ h => .putLogged h) (.foldl h fun _ _ h => .putLogged h)

theorem testEnd (h : SvcKept s t) : SvcKept s (testEnd t) := by
  unfold Machine.testEnd
  exact .ite (.addEntry (.put h)) h

theorem mainFlagsOff (h : SvcKept s t) : SvcKept s (mainFlagsOff t) := by
  unfold Machine.mainFlagsOff
  refine .forIdx (.put (.put (.put (.put (.put (.put (.put (.put h)))))))) fun _ _ h => ?_
  extract_lets +onlyGivenNames dead u1 u2 u3
  have h3 : SvcKept s u3 := .ite (.setCarried (.put (.put h))) (.put (.put h))
  exact .ite (.put h3) h3

theorem warmWipe (h : SvcKept s t) : SvcKept s (warmWipe t) := by
  unfold Machine.warmWipe
  extract_lets +onlyGivenNames u c k
  have hu : SvcKept s u := .testEnd (.streamWarm (.resetLocks h))
  exact .mainFlagsOff (hu.same rfl rfl)

theorem latch {k : Nat} (h : SvcKept s t) : SvcKept s (t.latch k) := h.held (Held.latch (Held.refl t))

theorem enter {v : Nat} (h : SvcKept s t) : SvcKept s (t.enter v) := by
  unfold State.enter
  exact .ite h (.latch (.put (.put h)))

theorem enterUp {b : Bool} (h : SvcKept s t) : SvcKept s (enterUp t b) := by
  unfold Machine.enterUp
  extract_lets +onlyGivenNames p u1 u2 u3
  have h1 : SvcKept s u1 := .put (.put h)
  have h3 : SvcKept s u3 := .foldl (.ite (.put h1) h1) fun _ _ h => h.same rfl rfl
  exact .put (h3.same rfl rfl)

theorem enterReduced (h : SvcKept s t) : SvcKept s (enterReduced t) := by
  have shown : SvcKept s (refreshFaultN (t.enter Svc.REDUCED)) := (SvcKept.enter h).held (held_refreshFaultN _)
  unfold Machine.enterReduced
  exact .ite (.enterUp shown) shown

theorem raisePll {a : Nat} (h : SvcKept s t) : SvcKept s (raisePll t a) := by
  unfold Machine.raisePll
  refine .ite h (.trans (h.same (u := { t with clock := { t.clock with pllEpisode := true } }) rfl rfl) ?_)
  have said := (Held.refl (E := header Pg.CLOCK) { t with clock := { t.clock with pllEpisode := true } }).raise
    (p := Pg.CLOCK) (k := Kind.PLL_UNLOCK) (a := a) fun _ h => h
  exact ⟨said.field State.svc, said.field State.rcUs⟩

theorem ended (h : SvcKept s t) : SvcKept s (ended u t) := ⟨(svc_ended u t).trans h.svc, (rcUs_ended u t).trans h.rcUs⟩

end SvcKept

/-- The state of a restart of the main domain, before it enters REDUCED. -/
def restarting (s : State) : State :=
  { warmWipe (causeBit s 6) with svc := { (warmWipe (causeBit s 6)).svc with restarted := true } }

theorem restarting_svc (s : State) :
    (restarting s).svc = { s.svc with restarted := true } ∧ (restarting s).rcUs = s.rcUs := by
  have wiped : SvcKept s (warmWipe (causeBit s 6)) := .warmWipe (.put .refl)
  refine ⟨?_, wiped.rcUs⟩
  rw [← wiped.svc]
  rfl

theorem mainRestart_eq (h : rowWaits s = false) : mainRestart s = enterReduced (restarting s) := by
  unfold mainRestart
  rw [if_neg (by simp [h])]
  rfl

/-- A restart of the main domain ends in REDUCED, with none waiting. -/
theorem mainRestart_fields (h : rowWaits s = false) : (mainRestart s).service = Svc.REDUCED ∧
    (mainRestart s).svc = { s.svc with restarted := true } ∧ (mainRestart s).rcUs = s.rcUs := by
  have kept : SvcKept (restarting s) (enterReduced (restarting s)) := .enterReduced .refl
  obtain ⟨svc, rcUs⟩ := restarting_svc s
  rw [mainRestart_eq h]
  exact ⟨service_enterReduced _, kept.svc.trans svc, kept.rcUs.trans rcUs⟩

theorem rowWaits_congr (h : t.svc = s.svc) : rowWaits t = rowWaits s := by rw [rowWaits, rowWaits, h]

theorem warmPend_of_rowWaits (h : rowWaits s = false) : s.svc.warmPend = none := by
  simp only [rowWaits, Bool.or_eq_false_iff, Option.isSome_eq_false_iff, Option.isNone_iff_eq_none] at h
  exact h.2

/-! ### The OTP and the engines -/

theorem flag_putb_same (t : State) (p : Nat) (f : Fld) (b : Bool) (h : f.lo = f.hi) (h32 : f.hi < 32) :
    (t.putb p f b).flag p f = b := by
  have w : f.width = 1 := by simp only [Fld.width]; omega
  rw [State.flag, State.putb, State.get_put_same _ _ _ _ (by omega) h32, w]
  cases b <;> rfl

/-- `t` has the CHIP:STATUS register of `s`. -/
structure StatusKept (s t : State) : Prop where
  rd : t.rd 0x40 = s.rd 0x40

namespace StatusKept

theorem refl : StatusKept s s := ⟨rfl⟩

theorem put {p v : Nat} {f : Fld} (h : StatusKept s t) (hp : addrOf p f ≠ 0x40) : StatusKept s (t.put p f v) :=
  ⟨(t.rd_put_ne v (Ne.symm hp)).trans h.rd⟩

theorem ite {c : Prop} [Decidable c] {a b : State} (ha : StatusKept s a) (hb : StatusKept s b) : StatusKept s (if c then a else b) := by
  split
  · exact ha
  · exact hb

theorem forIdx {n : Nat} {step : State → Nat → State} (h : StatusKept s t)
    (H : ∀ u x, StatusKept s u → StatusKept s (step u x)) : StatusKept s (forIdx n t step) := by
  unfold Machine.forIdx
  induction List.range n generalizing t with
  | nil => exact h
  | cons x l ih => exact ih (H t x h)

theorem flag {f : Fld} (h : StatusKept s t) (hf : f.off = 0x40) : t.flag Pg.CHIP f = s.flag Pg.CHIP f := by
  have e : addrOf Pg.CHIP f = 0x40 := by simp [addrOf, hf]
  exact congrArg (fun n => decide (n = 1)) (State.get_congr Pg.CHIP f (by rw [e]; exact h.rd))

/-- A page above CHIP. -/
theorem putPage {p v : Nat} {f : Fld} (h : StatusKept s t) (hp : 0 < p) : StatusKept s (t.put p f v) :=
  h.put (by simp only [addrOf]; omega)

theorem setEstate {e v : Nat} (h : StatusKept s t) : StatusKept s (setEstate t e v) := by
  unfold Machine.setEstate
  extract_lets +onlyGivenNames u1 u2 u3 u4
  have h4 : StatusKept s u4 := .putPage (.putPage (.putPage (.putPage h (Nat.add_pos_left (by decide) e)) (by decide)) (by decide)) (by decide)
  exact .ite (.putPage h4 (by decide)) h4

theorem refreshSuspended {e : Nat} (h : StatusKept s t) : StatusKept s (refreshSuspended t e) := by
  unfold Machine.refreshSuspended Machine.staleResults
  have stale : StatusKept s (Machine.forIdx 32 t fun s c => if estimatorOf (c / 4) = e then
      s.put (Pg.RESULT c) Reg.RESULT.RES_STATUS_STALE (s.get (Pg.RESULT c) Reg.RESULT.RES_STATUS_STALE ||| s.get (Pg.RESULT c) Reg.RESULT.RES_STATUS_VALID)
    else s) := .forIdx h fun _ c h => .ite (.putPage h (Nat.add_pos_left (by decide) c)) h
  exact .ite (.putPage (.ite stale h) (Nat.add_pos_left (by decide) e)) h

end StatusKept

/-- The main engines run and the device is about to join. -/
def enginesUp (t : State) : State :=
  let u := forIdx 10 (t.putb Pg.CHIP Reg.CHIP.STATUS_ENGINES_UP true) (fun s e =>
    if !s.engPresent e then s else if estate s e = Es.DEAD then refreshSuspended s e else refreshSuspended (setEstate s e Es.RUNNING) e)
  u.putb Pg.TRANSIT Reg.TRANSIT.STATUS_ROLE_ACTIVE (joinRole u)

theorem joinStart_eq (s : State) :
    joinStart s = (enginesUp (if s.gran.loadNeeded then granaryLoad s else startCommit s)).enter Svc.JOINING := rfl

theorem enginesUp_flag (t : State) : (enginesUp t).flag Pg.CHIP Reg.CHIP.STATUS_ENGINES_UP = true := by
  have kept : StatusKept (t.putb Pg.CHIP Reg.CHIP.STATUS_ENGINES_UP true) (enginesUp t) :=
    .putPage (.forIdx .refl fun _ _ h => .ite h (.ite (.refreshSuspended h) (.refreshSuspended (.setEstate h)))) (by decide)
  rw [kept.flag rfl]
  exact flag_putb_same _ _ _ _ rfl (by decide)

theorem joinStart_fields (s : State) :
    (joinStart s).service = Svc.JOINING ∧ (joinStart s).flag Pg.CHIP Reg.CHIP.STATUS_ENGINES_UP = true := by
  rw [joinStart_eq]
  refine ⟨service_enter _ _ (by decide), ?_⟩
  rw [(onlyBits_enter _ _).flag_apart (by decide) List.not_mem_nil (by decide) (by decide)]
  exact enginesUp_flag _

theorem otpLoaded_flag (s : State) : (otpLoaded s).flag Pg.CHIP Reg.CHIP.STATUS_OTP_LOADED = true :=
  flag_putb_same _ _ _ _ rfl (by decide)

/-! ### The transit's wait -/

/-- The state with the wait's message marked as said. -/
def waitRaised (s : State) : State := { s with transit := { s.transit with waitRaised := true } }

theorem waitRaised_rest {E : Nat → Prop} (held : Held E (waitRaised s) t) :
    t.transit.waitRaised = true ∧ onlyReaction s { t with transit := s.transit } :=
  ⟨congrArg TransitState.waitRaised (held.field State.transit),
    (congrArg (fun x : State => { x with
      regs := s.regs, log := s.log, fault := s.fault, phases := s.phases, chans := s.chans, alert := s.alert, transit := s.transit })
      held.rest)⟩

theorem effSeverity_waitRaised (s : State) (p k a : Nat) : effSeverity (waitRaised s) p k a = effSeverity s p k a :=
  effSeverity_congr rfl rfl

theorem onlyBits_of_waitRaised {l : List (Nat × Fld)} {ps : List Nat} (h : onlyBits (waitRaised s) t l ps) : onlyBits s t l ps := h

end Sys2Proof.Machine

open Sys2Proof Sys2Proof.Machine

/-- Settles O16: the restart and the start write their service state last; the wait of a follower is one message. -/
theorem mainStartJoins : Obligations.MainStartJoins := by
  unfold Obligations.MainStartJoins
  refine ⟨?_, ?_, ?_, ?_⟩
  · intro s start waits unlocked
    have said : SvcKept s (raisePll s 1) := .raisePll .refl
    obtain ⟨service, svc, rcUs⟩ := mainRestart_fields ((rowWaits_congr said.svc).trans waits)
    refine gives_end (act := fun s => mainRestart (raisePll s 1)) rfl rfl (by simp [start, unlocked])
      ⟨(service_ended _ _).trans service, ?_, ?_, rfl, rfl, rfl, (rcUs_ended _ _).trans (rcUs.trans said.rcUs)⟩
    · rw [svc_ended, svc]
    · rw [svc_ended, svc, said.svc]
      exact warmPend_of_rowWaits waits
  · intro s start locked loaded
    exact gives_end (act := otpLoaded) rfl rfl (by simp [start, locked, loaded])
      ⟨(chipFlag_ended _ _ rfl (by decide) (by decide)).trans (otpLoaded_flag s), rfl, rfl, rfl⟩
  · intro s start waits loaded
    obtain ⟨service, up⟩ := joinStart_fields s
    exact gives_end (act := joinStart) rfl rfl (by simp [start, waits, loaded])
      ⟨(service_ended _ _).trans service, (chipFlag_ended _ _ rfl (by decide) (by decide)).trans up, rfl, rfl, rfl⟩
  · intro s join follower aligned first
    have after := saidIn_raise (waitRaised s) Pg.TRANSIT Kind.TRANSIT_SKEW 0
    obtain ⟨raised, rest⟩ := waitRaised_rest after.held
    have shown := after.said (by decide)
    rw [said, effSeverity_waitRaised] at shown
    exact gives_flush _ (act := fun s => raise (waitRaised s) Pg.TRANSIT Kind.TRANSIT_SKEW 0) rfl rfl
      (by simp [join, follower, aligned, first]) (sameOuter_raise _ _ _ _)
      ⟨shown, raised, onlyBits_of_waitRaised after.bits, rest⟩

end
section
/-! PROOF. The boundaries of a join, GO and the resets (R46, R56, R58, R62 to R67, R70). -/

namespace Sys2Proof.Machine

variable {s t u : State}

/-! ### The boundary of a join -/

namespace Kept

theorem enterBank {b : Nat} (h : Kept s t) : Kept s (enterBank t b) := by
  unfold Machine.enterBank
  extract_lets +onlyGivenNames p map live u1 u2 rover u3 u4 x u6 u7
  have h2 : Kept s u2 := .foldl (.forIdx h fun _ _ h => .setRole h) fun _ _ h => .setRole h
  have h3 : Kept s u3 := by
    unfold u3
    clear_value rover
    split
    · exact .setRole h2
    · exact h2
  have h7 : Kept s u7 := .forIdx (.setBank (.put h3 clear_bank)) fun _ _ h => .setChan h
  exact .foldl (.showStep (.showRover (.seedBank h7))) fun _ _ h => .ite (.dutyLost h) h

/-- After the entry to FULL its service state stands. -/
theorem enterFull (h : Kept s (t.enter Svc.FULL)) : Kept s (enterFull t) := by
  unfold Machine.enterFull
  extract_lets +onlyGivenNames p fresh u1 u2 u3 u4 u5 x y u6 c u7 u8 u9 z u10 u11 z' u12 u13 u14
  have h4 : Kept s u4 := .putb (.ite (.event (.put h (clear_off (by decide)))) (.put h (clear_off (by decide)))) (clear_bit (by decide))
  have h6 : Kept s u6 := .updated (.putb h4 (clear_page (by decide)))
  have h8 : Kept s u8 := .ite (.forIdx (.put h6 (clear_page (by decide))) fun _ _ h => .endGrant (.setView h)) h6
  have hz : Kept s z' := .updated (.updated (.putb h8 (clear_page (by decide))))
  have h12 : Kept s u12 := .forIdx hz fun _ _ h => .enterBank h
  have h13 : Kept s u13 := .refreshFaultN (.refreshSafe (.updated h12))
  have h14 : Kept s u14 := .forIdx h13 fun _ c h => .ite (.put h clear_chan) h
  exact .updated h14

theorem enterRing (h : Kept s t) : Kept s (enterRing t) := by
  unfold Machine.enterRing
  extract_lets +onlyGivenNames u1 x u2
  have h2 : Kept s u2 := .updated (.putb h (clear_page (by decide)))
  exact .newRingFrame (.makeUplink (.ite (.updated h2) h2))

theorem drivePulse (h : Kept s t) : Kept s (drivePulse t) := .updated h

end Kept

theorem service_of_inService {v : Nat} (h : s.inService v = true) : s.service = v := by
  simp only [State.inService, Bool.and_eq_true, decide_eq_true_eq] at h
  exact h.2

theorem full_of_inService {v : Nat} (h : s.inService v = true) (hv : v ≠ Svc.FULL) : s.full = false := by
  simp [State.full, State.inService, service_of_inService h, hv]

/-- The state at a boundary of JOINING, its inputs read. -/
def joinRead (s : State) (f : FrameIn) : State := readInput (readBalls s f) f.peerLow

theorem frameBoundary_joining (f : FrameIn) (joining : s.inService Svc.JOINING = true) (going : frameStopped s = false) :
    frameBoundary s f = joinBoundary (joinRead s f) := by
  rw [frameBoundary, going, full_of_inService joining (by decide), joining]
  rfl

/-- The inputs leave the pages that no reaction touches. -/
theorem flag_joinRead (s : State) (g : FrameIn) {p : Nat} {f : Fld} (ho : f.off < 0x400) (hp : ¬ reactivePage p) (h0 : addrOf p f ≠ 0x40) :
    (joinRead s g).flag p f = s.flag p f := by
  have held : Held noAddr { readBalls s g with fault := { (readBalls s g).fault with peerLow := g.peerLow } } (joinRead s g) :=
    (Held.refl _).publishFaultN
  have balls : State.flag { readBalls s g with fault := { (readBalls s g).fault with peerLow := g.peerLow } } p f = s.flag p f := rfl
  exact (held.flag ho hp (fun e => e) h0).trans balls

theorem kept_joinRead (s : State) (f : FrameIn) : Kept s (joinRead s f) := .publishFaultN (.updated (.readBalls .refl))

theorem setAligned_fields (t : State) :
    (drivePulse (setAligned t true)).flag Pg.TRANSIT Reg.TRANSIT.STATUS_ALIGNED = true ∧
      (drivePulse (setAligned t true)).flag Pg.CHIP Reg.CHIP.STATUS_TRANSIT_ALIGNED = true ∧
      (drivePulse (setAligned t true)).service = t.service := by
  have pulse : ∀ (u : State) (p : Nat) (f : Fld), (drivePulse u).flag p f = u.flag p f := fun _ _ _ => rfl
  have flags : ∀ u : State, ((u.putb Pg.TRANSIT Reg.TRANSIT.STATUS_ALIGNED true).putb Pg.CHIP Reg.CHIP.STATUS_TRANSIT_ALIGNED true).flag
      Pg.TRANSIT Reg.TRANSIT.STATUS_ALIGNED = true := by
    intro u
    simp (disch := decide) [State.flag, State.putb, State.get_put_same, State.get_put_ne, Fld.width, b2n]
  rw [pulse, pulse]
  exact ⟨flags _, flag_putb_same _ _ _ _ rfl (by decide), (Kept.drivePulse (.setAligned .refl)).service⟩

/-! ### A warm reset commanded -/

end Sys2Proof.Machine

open Sys2Proof Sys2Proof.Machine

/-- Settles O19: the source is aligned at the first boundary of JOINING, and FULL is entered once it is. -/
theorem joiningSourceAligns : Obligations.JoiningSourceAligns := by
  unfold Obligations.JoiningSourceAligns
  refine ⟨?_, ?_⟩
  · intro s f joining going source unaligned
    have source' : isSource (joinRead s f) = true := (flag_joinRead s f (by decide) (by decide) (by decide)).trans source
    have unaligned' := (flag_joinRead s f (f := Reg.TRANSIT.STATUS_ALIGNED) (p := Pg.TRANSIT) (by decide) (by decide) (by decide)).trans unaligned
    have boundary : frameBoundary s f = drivePulse (setAligned (joinRead s f) true) := by
      rw [frameBoundary_joining f joining going, joinBoundary, unaligned', if_neg (by decide), alignSource, source', unaligned']
      rfl
    obtain ⟨aligned, chip, service⟩ := setAligned_fields (joinRead s f)
    refine gives_end (act := fun s => frameBoundary s f) rfl rfl rfl ?_
    rw [boundary]
    refine ⟨?_, (chipFlag_ended _ _ rfl (by decide) (by decide)).trans chip, ?_, rfl, rfl, rfl⟩
    · exact (congrArg (fun n => decide (n = 1)) (get_ended_of _ _ (by decide) (by decide) (by decide))).trans aligned
    · rw [service_ended, service, (kept_joinRead s f).service]
      exact service_of_inService joining
  · intro s f joining going source aligned
    have aligned' := (flag_joinRead s f (f := Reg.TRANSIT.STATUS_ALIGNED) (p := Pg.TRANSIT) (by decide) (by decide) (by decide)).trans aligned
    have service : (joinBoundary (joinRead s f)).service = Svc.FULL := by
      rw [joinBoundary, if_pos aligned']
      exact (Kept.drivePulse (.enterRing (.enterFull .refl))).service.trans (service_enter _ _ (by decide))
    refine gives_end (act := fun s => frameBoundary s f) rfl rfl rfl ?_
    rw [frameBoundary_joining f joining going]
    exact ⟨(service_ended _ _).trans service, rfl, rfl, rfl⟩

end
section
/-! PROOF. GO and the reset commands (R62 to R67, R70, R72). -/

namespace Sys2Proof.Machine

variable {s t u : State} {k : PageKind} {o page off v : Nat}

theorem powered_of_reachable {a : Nat} (h : reachable s a = true) : s.powered = true := by
  simp only [reachable, pagePresent, Bool.and_eq_true] at h
  obtain ⟨⟨-, -, present⟩, -⟩ := h
  split at present
  · exact powered_of_full present
  · simp only [State.reducedOrLater, Bool.and_eq_true] at present
    exact present.1

theorem Held.svc {E : Nat → Prop} (h : Held E s t) : t.svc = s.svc := h.field State.svc

theorem Held.powered {E : Nat → Prop} (h : Held E s t) : t.powered = s.powered := h.field State.powered

/-! ### An entry, whatever the change log holds -/

/-- The address of a page's CHANGE_SEQ. -/
def seqOf (page a : Nat) : Prop := a = page * 0x400 + 0x024

theorem held_logChange (page : Nat) {old new : Nat} : Held (seqOf page) s (logChange s o page off old new) :=
  (Held.addEntry (Held.refl s)).putE rfl (by simp only [addrOf]; omega)

theorem held_logPersist (page : Nat) {old new : Nat} : Held (seqOf page) s (logPersist s o page off old new) :=
  (Held.addEntry (Held.refl s)).putE rfl (by simp only [addrOf]; omega)

theorem held_rewritten (E : Nat → Prop) (s : State) (a : Nat) : Held E s (rewritten s a) :=
  ⟨fun b _ _ _ => rd_rewritten s a b, fun f _ _ _ => get_rewritten s a 0 f, rfl⟩

theorem held_entryOf {fs : List FieldDef} {w : Wr} {before : Nat} : Held (seqOf w.page) s (entryOf s fs w before) := by
  unfold entryOf
  refine .ite ?_ (Held.refl s)
  dsimp only
  split <;> split
  · exact held_logPersist _
  · exact held_logChange _
  · exact held_logPersist _
  · exact held_logChange _

theorem held_entered : Held (seqOf page) s (entered s o k page off v) :=
  (held_rewritten _ s _).trans (held_entryOf (w := wrAt s o k page off v))

theorem onlyBits_logged (page : Nat) {old new : Nat} {f : LogFlags} : onlyBits s
    ((addEntry s o page off old new f).bumpWrap page Reg.HEADER.CHANGE_SEQ)
    [changeSeq page, (Pg.CHIP, Reg.CHIP.STATUS_FAULT_N_IN)] reactionPages :=
  (((Held.addEntry (Held.refl (E := noAddr) s)).onlyBits_reaction).weaken (by simp) (List.Subset.refl _)).bumpSeq (.head _)

theorem onlyBits_entered : onlyBits s (entered s o k page off v) [changeSeq page, (Pg.CHIP, Reg.CHIP.STATUS_FAULT_N_IN)] reactionPages := by
  refine ((onlyBits_rewritten s (page * 0x400 + off)).weaken (List.nil_subset _) (List.nil_subset _)).trans ?_
  unfold entered entryOf
  refine .ite ?_ (onlyBits.refl _)
  dsimp only
  split <;> split <;> exact onlyBits_logged page

/-- The reaction to a warm reset triggered after an entry of the CHIP page. -/
theorem warm_after_entry {bit : Nat} (h : Held (seqOf Pg.CHIP) s u)
    (bits : onlyBits s u [changeSeq Pg.CHIP, (Pg.CHIP, Reg.CHIP.STATUS_FAULT_N_IN)] reactionPages) (warm : s.svc.warmPend = none) (held : Held noAddr (withWarm u bit) t) :
    t.svc.warmPend = some bit ∧
      onlyBits s t [(Pg.CHIP, Reg.HEADER.CHANGE_SEQ), (Pg.CHIP, Reg.CHIP.STATUS_FAULT_N_IN)] reactionPages ∧
      onlyReaction s { t with svc := { t.svc with warmPend := none } } := by
  have pending : t.svc.warmPend = some bit := congrArg SvcState.warmPend (held.field State.svc)
  have svc : { s.svc with warmPend := none } = s.svc := by rw [← warm]
  refine ⟨pending, bits.trans ((onlyBits_of_withWarm held.onlyBits_reaction).weaken (by simp) (List.Subset.refl _)), ?_⟩
  have after := congrArg (fun x : State => { x with
    regs := s.regs, log := s.log, fault := s.fault, phases := s.phases, chans := s.chans, alert := s.alert
    svc := { x.svc with warmPend := none } }) held.rest
  have before := congrArg (fun x : State => { x with svc := { x.svc with warmPend := none } }) h.rest
  dsimp only at before
  rw [svc] at before
  exact after.trans before

/-- RESET_CMD with its key and CMD WARM. -/
theorem writeReg_resetWarm (reach : reachable s 0x48 = true) (keys : keySeq s Pg.CHIP = none)
    (service : s.service = Svc.MAIN_START ∨ s.service = Svc.JOINING ∨ s.service = Svc.FULL) :
    writeReg s Org.HOST (Pg.CHIP * 0x400 + 0x048) 0x5E7A0001 =
      (warmTrigger (entered s Org.HOST .chip Pg.CHIP 0x048 0x5E7A0001) 3, .ok) := by
  have powered := powered_of_reachable reach
  have rule : rulePage s (wrAt s Org.HOST .chip Pg.CHIP 0x048 0x5E7A0001) = .take := by
    have host : (wrAt s Org.HOST .chip Pg.CHIP 0x048 0x5E7A0001).o = Org.HOST := rfl
    have full : s.service = Svc.FULL → s.full = true := fun h => by simp [State.full, State.inService, powered, h]
    have taken : s.service = Svc.MAIN_START ∨ s.service = Svc.JOINING ∨ s.full = true := by
      rcases service with h | h | h
      · exact .inl h
      · exact .inr (.inl h)
      · exact .inr (.inr (full h))
    have key : bitsOf (woBits (kindFields .chip 0x048) 0x5E7A0001) 31 16 = 0x5E7A := by decide
    have cmd : bitsOf (woBits (kindFields .chip 0x048) 0x5E7A0001) 1 0 = 1 := by decide
    simp [rulePage, ruleChip, taken, key, cmd]
  have act : ∀ u, actPageWrite u (wrAt s Org.HOST .chip Pg.CHIP 0x048 0x5E7A0001) = warmTrigger u 3 := by
    intro u
    have cmd : bitsOf (woBits (kindFields .chip 0x048) 0x5E7A0001) 1 0 = 1 := by decide
    simp [actPageWrite, actChip, cmd]
  rw [writeReg_command (s := s) (o := Org.HOST) (k := .chip) (page := Pg.CHIP) (off := 0x048) (v := 0x5E7A0001) rfl (by decide)
    reach (fun _ => keys) (by decide) (mayWrite_host s _) rule (.inl (by decide)), act]

/-! ### The cold reset -/

theorem service_setFrame (u : State) (n : Nat) : State.service { u with frame := n } = u.service := rfl

theorem service_closeFrame (s : State) (f : FrameIn) (n : Nat) : (closeFrame s f n).service = s.service := by
  unfold closeFrame
  split
  · extract_lets +onlyGivenNames u1 u2 u3
    have h3 : Kept s u3 := .ledgerFrame (.forIdx (.readBalls .refl) fun _ _ h => .latchBank h)
    exact (service_setFrame u3 _).trans h3.service
  · rfl

theorem service_coldCommand (s : State) (f : FrameIn) (n : Nat) :
    (coldCommand s f n).service = s.service ∧ (coldCommand s f n).svc.coldPend = true := by
  unfold coldCommand
  split
  · extract_lets +onlyGivenNames u1 m u2 u3 u4
    have h1 : Kept s u1 := .chipSafeWith .refl
    have h2 : u2.service = s.service := (service_closeFrame _ _ _).trans h1.service
    have h4 : Kept u2 u4 := .commitNow (.abandonCommit (.closePending .refl))
    exact ⟨(Kept.updated h4).service.trans h2, rfl⟩
  · exact ⟨(Kept.updated (.readBalls .refl)).service, rfl⟩

/-- RESET_CMD COLD where it is accepted: its entry, and the reset held to the end of the frame. -/
def coldHeld (s : State) (f : FrameIn) (n : Nat) : State :=
  let u := logChange s Org.HOST Pg.CHIP 0x048 0 0x5E7A0002
  if u.svc.coldPend then u else coldCommand u f n

theorem coldHeld_fields (s : State) (f : FrameIn) (n : Nat) :
    (coldHeld s f n).service = s.service ∧ (coldHeld s f n).svc.coldPend = true := by
  have logged : Kept s (logChange s Org.HOST Pg.CHIP 0x048 0 0x5E7A0002) := .logChange .refl
  unfold coldHeld
  dsimp only
  split
  · exact ⟨logged.service, ‹_›⟩
  · obtain ⟨service, pending⟩ := service_coldCommand (logChange s Org.HOST Pg.CHIP 0x048 0 0x5E7A0002) f n
    exact ⟨service.trans logged.service, pending⟩

/-! ### The warm reset -/

namespace SvcKept

theorem startCommit (h : SvcKept s t) : SvcKept s (startCommit t) := by
  unfold Machine.startCommit
  refine .ite h (.ite h ?_)
  split
  · exact h
  · extract_lets +onlyGivenNames r isOpen
    refine .ite (h.same rfl rfl) (.ite ?_ (h.same rfl rfl))
    have kinds : SvcKept s (setPageKinds t (leastWorn t (slotPages r.id)) 1) := .foldl h fun _ _ h => h.same rfl rfl
    exact kinds.same rfl rfl

end SvcKept

/-- The last part of a warm reset's entry: the main domain is wiped, the device waits for its completion. -/
def warmEntered (w : State) : State :=
  let s := { w with svc := { w.svc with warmPend := none, warmDone := true } }
  let s := { s with gran := { s.gran with loadNeeded := s.gran.loadNeeded && s.inService Svc.MAIN_START } }
  startCommit (refreshFaultN (s.enter Svc.WARM_RESET))

theorem warmEntry_eq (s : State) (bit : Nat) (f : FrameIn) (n : Nat) : ∃ w, warmEntry s bit f n = warmEntered w := ⟨_, rfl⟩

theorem warmEntered_fields (w : State) : (warmEntered w).service = Svc.WARM_RESET ∧
    (warmEntered w).svc.warmPend = none ∧ (warmEntered w).svc.warmDone = true := by
  unfold warmEntered
  extract_lets x v z y
  have hy : y.svc = { w.svc with warmPend := none, warmDone := true } := rfl
  clear_value y
  have entered : SvcKept y (startCommit (refreshFaultN (y.enter Svc.WARM_RESET))) :=
    .startCommit (.held (.enter .refl) (held_refreshFaultN _))
  refine ⟨?_, ?_, ?_⟩
  · exact (Kept.startCommit (.refreshFaultN .refl)).service.trans (service_enter _ _ (by decide))
  · rw [entered.svc, hy]
  · rw [entered.svc, hy]

theorem warmEntry_fields (s : State) (bit : Nat) (f : FrameIn) (n : Nat) : (warmEntry s bit f n).service = Svc.WARM_RESET ∧
    (warmEntry s bit f n).svc.warmPend = none ∧ (warmEntry s bit f n).svc.warmDone = true := by
  obtain ⟨w, entry⟩ := warmEntry_eq s bit f n
  rw [entry]
  exact warmEntered_fields w

theorem exec_warmResetEntry {bit : Nat} (f : FrameIn) (n : Nat) (warm : s.svc.warmPend = some bit) : exec (.warmResetEntry f n) s =
    takes s (s.powered && s.gran.busy.isNone && !s.svc.coldPend) (fun s => warmEntry s bit f n) := by
  show execWarmResetEntry f n s = _
  rw [execWarmResetEntry, warm]

/-! ### The end of a main reset -/

/-- The fields that an entry to REDUCED writes beside its reaction. -/
def reducedFields : List (Nat × Fld) :=
  [(Pg.CHIP, Reg.CHIP.STATUS_SERVICE), (Pg.CHIP, ⟨0x008, 0, 0, 0⟩), (Pg.TWOWIRE, Reg.TWOWIRE.STATUS_LATCHED),
    (Pg.HKSEQ, Reg.HKSEQ.STATUS_STATE), (Pg.HKSEQ, Reg.HKSEQ.STATUS_EMERG_OFF), (Pg.HKSEQ, Reg.HKSEQ.STATUS_FAILS),
    (Pg.CHIP, Reg.CHIP.STATUS_HK_UP), (Pg.CHIP, Reg.CHIP.STATUS_FAULT_N_IN)]

theorem onlyBits.foldl {α : Type} {l : List (Nat × Fld)} {ps : List Nat} {step : State → α → State} {xs : List α}
    (h : onlyBits s t l ps) (H : ∀ u x, onlyBits s u l ps → onlyBits s (step u x) l ps) : onlyBits s (xs.foldl step t) l ps := by
  induction xs generalizing t with
  | nil => exact h
  | cons x xs ih => exact ih (H t x h)

theorem onlyBits_enterUp (s : State) (b : Bool) : onlyBits s (enterUp s b) [(Pg.HKSEQ, Reg.HKSEQ.STATUS_STATE),
    (Pg.HKSEQ, Reg.HKSEQ.STATUS_EMERG_OFF), (Pg.HKSEQ, Reg.HKSEQ.STATUS_FAILS), (Pg.CHIP, Reg.CHIP.STATUS_HK_UP)] [] := by
  unfold enterUp
  extract_lets +onlyGivenNames p u1 u2 u3
  have h1 : onlyBits s u1 [(Pg.HKSEQ, Reg.HKSEQ.STATUS_STATE), (Pg.HKSEQ, Reg.HKSEQ.STATUS_EMERG_OFF),
      (Pg.HKSEQ, Reg.HKSEQ.STATUS_FAILS), (Pg.CHIP, Reg.CHIP.STATUS_HK_UP)] [] :=
    ((onlyBits.refl s).put (by decide)).putb (by decide)
  have h2 : onlyBits s u2 [(Pg.HKSEQ, Reg.HKSEQ.STATUS_STATE), (Pg.HKSEQ, Reg.HKSEQ.STATUS_EMERG_OFF),
      (Pg.HKSEQ, Reg.HKSEQ.STATUS_FAILS), (Pg.CHIP, Reg.CHIP.STATUS_HK_UP)] [] := .ite (h1.put (by decide)) h1
  have h3 : onlyBits s u3 [(Pg.HKSEQ, Reg.HKSEQ.STATUS_STATE), (Pg.HKSEQ, Reg.HKSEQ.STATUS_EMERG_OFF),
      (Pg.HKSEQ, Reg.HKSEQ.STATUS_FAILS), (Pg.CHIP, Reg.CHIP.STATUS_HK_UP)] [] := h2.foldl fun _ _ h => h.regs rfl
  clear_value u3
  exact (h3.regs (u := { u3 with hk := { u3.hk with start := true } }) rfl).putb (by decide)

theorem onlyBits_enterReduced (s : State) : onlyBits s (enterReduced s) reducedFields reactionPages := by
  have shown : onlyBits s (refreshFaultN (s.enter Svc.REDUCED)) reducedFields reactionPages :=
    ((onlyBits_enter s Svc.REDUCED).weaken (by decide) (List.nil_subset _)).trans
      ((held_refreshFaultN _).onlyBits_reaction.weaken (by decide) (List.Subset.refl _))
  unfold enterReduced
  dsimp only
  split
  · exact shown.trans ((onlyBits_enterUp _ true).weaken (by decide) (List.nil_subset _))
  · exact shown

/-- The main domain starts anew, or the device waits for REFCLK. -/
def mainResetEnded (s : State) : State :=
  if s.flag Pg.CLOCK Reg.CLOCK.STATUS_REFCLK_QUAL then s.enter Svc.MAIN_START else enterReduced s

theorem mainResetEnded_fields (s : State) :
    (mainResetEnded s).service = (if s.flag Pg.CLOCK Reg.CLOCK.STATUS_REFCLK_QUAL then Svc.MAIN_START else Svc.REDUCED) ∧
      (mainResetEnded s).get Pg.CHIP Reg.CHIP.WARM_COUNT = s.get Pg.CHIP Reg.CHIP.WARM_COUNT := by
  unfold mainResetEnded
  split
  · exact ⟨service_enter _ _ (by decide), (onlyBits_enter _ _).get_apart (by decide) List.not_mem_nil (by decide) (by decide)⟩
  · exact ⟨service_enterReduced _, (onlyBits_enterReduced _).get_apart (by decide) (by decide) (by decide) (by decide)⟩

theorem warmCount_bump (s : State) : (s.bump Pg.CHIP Reg.CHIP.WARM_COUNT).get Pg.CHIP Reg.CHIP.WARM_COUNT =
    min (s.get Pg.CHIP Reg.CHIP.WARM_COUNT + 1) (2 ^ Reg.CHIP.WARM_COUNT.width - 1) := by
  rw [State.bump, get_addCount_same _ _ _ _ (by decide) (by decide), Nat.min_comm]

end Sys2Proof.Machine

open Sys2Proof Sys2Proof.Machine

/-- Settles O17: GO and WARM are writes that their page takes; a cold reset waits for the end of its frame; a warm reset is entered
and ends with the service state written last. -/
theorem resetCommandsTakeEffect : Obligations.ResetCommandsTakeEffect := by
  unfold Obligations.ResetCommandsTakeEffect
  refine ⟨?_, ?_, ?_, ?_, ?_⟩
  · intro s reach keys idle room
    obtain ⟨flag, bits, rest, room'⟩ := go_spec room
    exact gives_hostWrite (page := Pg.CHIP) (off := 0x04C) rfl rfl (writeReg_go reach keys idle) rest.sameOuter room'
      ⟨flag, bits, rest⟩
  · intro s reach keys service warm cold
    have entry := held_entered (s := s) (o := Org.HOST) (k := .chip) (page := Pg.CHIP) (off := 0x048) (v := 0x5E7A0001)
    have triggered := warmTrigger_eq (bit := 3) (entry.powered.trans (powered_of_reachable reach))
      (by rwa [entry.service]) ((congrArg SvcState.warmPend entry.svc).trans warm) ((congrArg SvcState.coldPend entry.svc).trans cold)
    have write := writeReg_resetWarm reach keys service
    rw [triggered] at write
    refine gives_hostWrite_flush (page := Pg.CHIP) (off := 0x048) rfl rfl write
      (entry.sameOuter.trans ((sameOuter_withWarm _ _).trans (sameOuter_chipSafe _ _ _)))
      (warm_after_entry entry onlyBits_entered warm (held_warm _ _))
  · intro s f len powered reach
    obtain ⟨service, pending⟩ := coldHeld_fields s f len
    have accepted : coldAccepted s .host = true := by simp [coldAccepted, powered, reach]
    refine gives_end (act := fun s => if coldAccepted s .host then coldHeld s f len else writeOf s .host Pg.CHIP 0x048 0x5E7A0002)
      rfl rfl rfl ?_
    rw [if_pos accepted]
    refine ⟨?_, powered, (service_ended _ _).trans service, rfl, rfl, rfl⟩
    rw [svc_ended, pending]
  · intro s f len bit powered warm cold idle
    obtain ⟨service, none, done⟩ := warmEntry_fields s bit f len
    have outer := sameOuter_ended s (warmEntry s bit f len)
    refine gives_end (act := fun s => warmEntry s bit f len) (exec_warmResetEntry f len warm) rfl (by simp [powered, idle, cold])
      ⟨(service_ended _ _).trans service, ?_, ?_, outer.2.2.1, outer.2.2.2, outer.1⟩
    · rw [svc_ended, none]
    · rw [svc_ended, done]
  · intro s reset waits
    obtain ⟨service, count⟩ := mainResetEnded_fields (s.bump Pg.CHIP Reg.CHIP.WARM_COUNT)
    have qual : (s.bump Pg.CHIP Reg.CHIP.WARM_COUNT).flag Pg.CLOCK Reg.CLOCK.STATUS_REFCLK_QUAL = s.flag Pg.CLOCK Reg.CLOCK.STATUS_REFCLK_QUAL :=
      ((onlyBits.refl s).bump (l := [(Pg.CHIP, Reg.CHIP.WARM_COUNT)]) (by decide)).flag_apart (by decide) List.not_mem_nil (by decide) (by decide)
    refine gives_end (act := fun s => mainResetEnded (s.bump Pg.CHIP Reg.CHIP.WARM_COUNT)) rfl rfl (by simp [reset, waits]) ⟨?_, ?_⟩
    · rw [service_ended, service, qual]
    · rw [get_ended_of _ _ (by decide) (by decide) (by decide), count, warmCount_bump]

end
section
/-! PROOF. A write of one field of CONTROL writes the register's other bits back as they stand, a RESUME bit that the register file
holds among them: such a write asks for a resumption (R164, R235). -/

namespace Sys2Proof.Machine

/-- A device in FULL whose register file holds the bit RESUME of channel 3's CONTROL. -/
def resumeHeld : State := Tests.full.put (Pg.CHAN 3) Reg.CHAN.CONTROL_RESUME 1

/-- ENABLE of channel 3 after a command. -/
def enableAfter (o : Out) : Nat :=
  match o with
  | .next t => t.get (Pg.CHAN 3) Reg.CHAN.CONTROL_ENABLE
  | _ => 0

theorem enableAfter_chanEnable : enableAfter (exec (.chanEnable .host 3) resumeHeld) = 0 := by decide +kernel

theorem resumeHeld_meets : hostReach resumeHeld (Pg.CHAN 3) 0x040 ∧ resumeHeld.follower 3 = false ∧
    resumeHeld.get (Pg.CHAN 3) Reg.CHAN.CONTROL_ENABLE = 0 ∧ resumeHeld.get (Pg.CHAN 3) Reg.CHAN.CONTROL_SOURCE = 0 ∧
    resumeHeld.cstate 3 = Ch.OFF ∧ estop resumeHeld = false ∧ startBarred resumeHeld 3 = false ∧
    rangesOk (fieldsAt (Pg.CHAN 3) 0x040) (withField resumeHeld (Pg.CHAN 3) Reg.CHAN.CONTROL_ENABLE 1) = true ∧
    logRoom resumeHeld 1 := by decide +kernel

end Sys2Proof.Machine

open Sys2Proof Sys2Proof.Machine

/-- Refutes O25: where the register file holds RESUME, the write of ENABLE asks for a resumption too; with no interrupted step it is
refused, and ENABLE stays 0. -/
theorem not_channelsObeyTheHost : ¬ Obligations.ChannelsObeyTheHost := by
  unfold Obligations.ChannelsObeyTheHost
  rintro ⟨h, -⟩
  obtain ⟨reach, lead, disabled, source, off, noStop, free, ranges, room⟩ := resumeHeld_meets
  obtain ⟨t, e, enabled, -⟩ := h resumeHeld 3 (by decide) reach lead disabled source off noStop free ranges room
  have refused := enableAfter_chanEnable
  rw [e] at refused
  exact absurd (enabled.symm.trans refused) (by decide)

end
section
/-! PROOF. The ledger's commands by the host port and its latched reads (R214, R220, R230 to R233). -/

namespace Sys2Proof.Machine

variable {s u : State} {c b addr : Nat}

/-! ### Commands -/

/-- A command of the host port that the rules of its page take. -/
theorem writeReg_hostCommand {k : PageKind} {page off v : Nat} (reach : hostReach s page off) (hk : pageKind page = some k)
    (reg : commandReg k off = true) (hv : v < 2 ^ 32) (rule : rulePage s (wrAt s Org.HOST k page off v) = .take)
    (acts : woBits (kindFields k off) v ≠ 0 ∨ actsUnchanged k off = true) :
    writeReg s Org.HOST (page * 0x400 + off) v =
      (actPageWrite (entered s Org.HOST k page off v) (wrAt s Org.HOST k page off v), .ok) :=
  writeReg_command hk reg reach.1 (fun _ => reach.2.1) hv (mayWrite_host s _) rule acts

/-- Does a command with this word make an entry? -/
def commandEntry (k : PageKind) (off v : Nat) : Bool :=
  (kindFields k off).any (fun f => decide (f.cls = .c) && decide (bitsOf (woBits (kindFields k off) v) f.hi f.lo ≠ 0))

theorem makesEntry_command {k : PageKind} {page off v o : Nat} (wo : allWo (kindFields k off) = true) :
    makesEntry (kindFields k off) (wrAt s o k page off v) = commandEntry k off v := by
  unfold makesEntry commandEntry
  rw [Bool.eq_iff_iff, List.any_eq_true, List.any_eq_true]
  refine exists_congr fun f => and_congr_right fun hf => ?_
  have acc := List.all_eq_true.mp wo f hf
  simp only [decide_eq_true_eq] at acc
  rw [if_pos acc, wrAt_wo]

/-- A command of the host port that makes an entry: the command is done on the state with its entry made. -/
theorem hostCommand_logged {k : PageKind} {page off v : Nat} (reach : hostReach s page off) (hk : pageKind page = some k)
    (reg : commandReg k off = true) (hv : v < 2 ^ 32) (rule : rulePage s (wrAt s Org.HOST k page off v) = .take)
    (acts : woBits (kindFields k off) v ≠ 0 ∨ actsUnchanged k off = true) (entry : commandEntry k off v = true) (room : logRoom s 1) :
    ∃ u, writeReg s Org.HOST (page * 0x400 + off) v = (actPageWrite u (wrAt s Org.HOST k page off v), .ok) ∧ Logged s u page ∧
      u.log.fill = s.log.fill + 1 := by
  have wo : allWo (kindFields k off) = true := by
    simp only [commandReg, Bool.and_eq_true] at reg
    exact reg.1.1.1.2
  exact ⟨_, writeReg_hostCommand reach hk reg hv rule acts, logged_entered room, fill_entered room ((makesEntry_command wo).trans entry)⟩

theorem actPageWrite_ckptNow : actPageWrite u (wrAt s Org.HOST .ledger Pg.LEDGER 0x044 2) = noteReason u 3 := by
  have ckpt : bitsOf (woBits (kindFields .ledger 0x044) 2) 1 1 = 1 := by decide
  have snap : bitsOf (woBits (kindFields .ledger 0x044) 2) 0 0 = 0 := by decide
  simp [actPageWrite, actLedger, ckpt, snap]

theorem actPageWrite_ledgerSnap : actPageWrite u (wrAt s Org.HOST .ledger Pg.LEDGER 0x044 1) =
    { u with ledger := { u.ledger with snapPending := true } } := by
  have ckpt : bitsOf (woBits (kindFields .ledger 0x044) 1) 1 1 = 0 := by decide
  have snap : bitsOf (woBits (kindFields .ledger 0x044) 1) 0 0 = 1 := by decide
  simp [actPageWrite, actLedger, ckpt, snap]

theorem actPageWrite_clrRun : actPageWrite u (wrAt s Org.HOST .chan (Pg.CHAN c) 0x154 1) =
    u.setChan c { u.chan c with clrRun := true } := by
  have here : Pg.CHAN c - 0x40 = c := by simp only [Pg.CHAN]; omega
  simp [actPageWrite, actChan, here]

theorem rulePage_clrRun : rulePage s (wrAt s Org.HOST .chan (Pg.CHAN c) 0x154 1) = .take := by
  have asked : woBits (kindFields .chan 0x154) 1 ≠ 0 := by decide
  have other : 0x154 ∉ setpointRegs ∧ 0x154 ∉ offRegs := by decide
  have host : (wrAt s Org.HOST .chan (Pg.CHAN c) 0x154 1).o = Org.HOST := rfl
  simp [rulePage, ruleChan, asked, other]

/-- BANK_CMD of a bank's balance account. -/
theorem busClr_reg (hb : b < 8) : commandReg .ledger (0x134 + 64 * b) = true ∧
    woBits (kindFields .ledger (0x134 + 64 * b)) 1 ≠ 0 ∧ commandEntry .ledger (0x134 + 64 * b) 1 = true := by
  interval_cases b <;> decide

theorem rulePage_ledger {page off v o : Nat} (map : ¬ (0x014 ≤ off ∧ off ≤ 0x01C)) :
    rulePage s (wrAt s o .ledger page off v) = .take := by
  rw [rulePage, wrAt_off, if_neg map]
  rfl

theorem actPageWrite_busClr (hb : b < 8) : actPageWrite u (wrAt s Org.HOST .ledger Pg.LEDGER (0x134 + 64 * b) 1) =
    u.setBankAcc b { u.bankAcc b with busClr := true } := by
  obtain ⟨-, asked, -⟩ := busClr_reg hb
  have notCmd : 0x134 + 64 * b ≠ 0x044 := by omega
  have whole : (0x134 + 64 * b - 0x134) % 0x40 = 0 := by omega
  have inside : (0x134 + 64 * b - 0x134) / 0x40 < 8 := by omega
  have bank : (0x134 + 64 * b - 0x100) / 0x40 = b := by omega
  have notMap : ¬ (0x014 ≤ 0x134 + 64 * b ∧ 0x134 + 64 * b ≤ 0x01C) := by omega
  have late : ¬ 0x134 + 64 * b < 0x40 := by omega
  simp [actPageWrite, actLedger, notCmd, bank, asked, late, hb]

theorem mem_noteReason (s : State) (r : Nat) : r ∈ (noteReason s r).ledger.pendingReasons ∧
    ∀ x ∈ s.ledger.pendingReasons, x ∈ (noteReason s r).ledger.pendingReasons := by
  unfold noteReason
  dsimp only
  split
  · next h => exact ⟨by simpa using h, fun x h => h⟩
  · exact ⟨by simp, fun x h => by simp [h]⟩

theorem clrRun_setChan (s : State) (c : Nat) : ((s.setChan c { s.chan c with clrRun := true }).chan c).clrRun = true := by
  rw [State.chan, State.setChan, Table.get_set_same]

theorem busClr_setBankAcc (s : State) (b : Nat) :
    ((s.setBankAcc b { s.bankAcc b with busClr := true }).bankAcc b).busClr = true := by
  rw [State.bankAcc, State.setBankAcc, Table.get_set_same]

/-! ### The read of a channel's account -/

theorem latchesOnly_accSnap (hc : c < 32) : LatchesOnly .chan (Pg.CHAN c) 0x100 where
  kind := pageKind_chan hc
  inPage := by decide
  live := rfl
  plain := by decide
  noRc := by
    rw [fieldsAt, pageKind_chan hc]
    decide

theorem accSnap_block {j : Nat} (hj : j < 20) : 0x104 + 4 * j ∈ latches .chan 0x100 :=
  List.mem_map_of_mem (f := fun i => 0x104 + 4 * i) (List.mem_range.mpr hj)

end Sys2Proof.Machine

open Sys2Proof Sys2Proof.Machine

/-- Settles O32: the commands are writes that their page takes, each with its entry but SNAP; the reads only latch. -/
theorem ledgerCommandsOfTheHost : Obligations.LedgerCommandsOfTheHost := by
  unfold Obligations.LedgerCommandsOfTheHost
  refine ⟨?_, ?_, ?_, ?_, ?_, ?_⟩
  · intro s reach room
    obtain ⟨u, write, logged, fill⟩ := hostCommand_logged (k := .ledger) (v := 2) reach rfl (by decide) (by decide)
      (rulePage_ledger (by decide)) (.inl (by decide)) (by decide) room
    rw [actPageWrite_ckptNow] at write
    obtain ⟨noted, kept⟩ := mem_noteReason u 3
    rw [show u.ledger = s.ledger from logged.rest.field State.ledger] at kept
    have outer := logged.rest.sameOuter
    exact gives_hostWrite (page := Pg.LEDGER) (off := 0x044) (b := true) rfl rfl write outer logged.room
      ⟨fill, noted, kept, logged.bits.regs rfl,
        congrArg (fun x : State => { x with ledger := { x.ledger with pendingReasons := s.ledger.pendingReasons } }) logged.rest⟩
  · intro s reach room
    have write := writeReg_hostCommand (k := .ledger) (v := 1) reach rfl (by decide) (by decide) (rulePage_ledger (by decide))
      (.inl (by decide))
    rw [actPageWrite_ledgerSnap, entered_none ((makesEntry_command (by decide)).trans (by decide))] at write
    exact gives_hostWrite (page := Pg.LEDGER) (off := 0x044) (b := true) rfl rfl write ⟨rfl, rfl, rfl, rfl⟩ room
      ⟨rfl, onlyBits.regs (onlyBits_rewritten s _) rfl, rfl⟩
  · intro s c hc reach room
    obtain ⟨u, write, logged, fill⟩ := hostCommand_logged (k := .chan) (v := 1) reach (pageKind_chan hc) (by decide) (by decide)
      rulePage_clrRun (.inl (by decide)) (by decide) room
    rw [actPageWrite_clrRun] at write
    have outer := logged.rest.sameOuter
    exact gives_hostWrite (page := Pg.CHAN c) (off := 0x154) rfl (decide_eq_true hc) write outer logged.room
      ⟨fill, clrRun_setChan _ _, logged.bits.regs rfl, congrArg (fun x : State => { x with chans := s.chans }) logged.rest⟩
  · intro s b hb reach room
    obtain ⟨reg, asked, entry⟩ := busClr_reg hb
    obtain ⟨u, write, logged, fill⟩ := hostCommand_logged (k := .ledger) (v := 1) reach rfl reg (by decide)
      (rulePage_ledger (by omega)) (.inl asked) entry room
    rw [actPageWrite_busClr hb] at write
    have outer := logged.rest.sameOuter
    exact gives_hostWrite (page := Pg.LEDGER) (off := 0x134 + 64 * b) rfl (decide_eq_true hb) write outer logged.room
      ⟨fill, busClr_setBankAcc _ _, logged.bits.regs rfl, congrArg (fun x : State => { x with bankAccs := s.bankAccs }) logged.rest⟩
  · intro s c hc reach room
    refine (latchesOnly_accSnap hc).gives_read (q := .host) rfl (decide_eq_true hc) reach rfl room
      ⟨rfl, fun j hj => ?_, (onlyBits.refl s).regs rfl, rfl⟩
    rw [Nat.add_assoc]
    exact (get_latchOffs ..).trans (if_pos (accSnap_block hj))
  · intro s addr lo reach room
    have rest := latchOffs_rest s Org.HOST Pg.LEDGER [addr % 0x400 + 4]
    have read := readOf_loWord (q := .host) lo reach rfl
    obtain ⟨page, -, -, page', -⟩ := isLoWord_spec lo
    have hi : addr + 4 = Pg.LEDGER * 0x400 + (addr % 0x400 + 4) := by omega
    refine gives_takes _ (act := fun s => readOf s .host (addr / 0x400) (addr % 0x400)) rfl rfl lo ?_ ?_ ?_ <;> rw [read]
    · exact ⟨rfl, rfl, rfl, rfl⟩
    · exact room
    · refine ⟨rfl, ?_, (onlyBits.refl s).regs rfl, congrArg (fun u : State => { u with reply := s.reply }) rest⟩
      rw [hi]
      exact (get_latchOffs ..).trans (if_pos (List.mem_singleton_self _))

end
section
/-! PROOF. A list that is rejected takes ENABLE back (R252): where the channel was enabled, that write makes an entry, so a failed
validation may change the change log too. -/

namespace Sys2Proof.Machine

/-- A device in FULL with a list of channel 5 under validation and the channel enabled. -/
def enabledValidating : State := Tests.validates.put (Pg.CHAN 5) Reg.CHAN.CONTROL_ENABLE 1

/-- The number of entries in the change log after a command. -/
def fillAfter (o : Out) : Nat :=
  match o with
  | .next t => t.log.fill
  | _ => 0

theorem fillAfter_validation : fillAfter (exec (.recipeValidationDone 5) enabledValidating) = 1 := by decide +kernel

theorem enabledValidating_meets : validating enabledValidating 5 = true ∧ validate enabledValidating 5 = some (1, 64) ∧
    enabledValidating.memErr = [] ∧ logRoom enabledValidating 0 ∧ enabledValidating.log.fill = 0 := by decide +kernel

theorem log_of_onlyRegisters {s t : State} (h : { t with regs := s.regs } = s) : t.log = s.log :=
  (congrArg State.log h : _)

end Sys2Proof.Machine

open Sys2Proof Sys2Proof.Machine

/-- Refutes O33: the validation that finds a failure on an enabled channel clears ENABLE and makes an entry, so more than registers
change. -/
theorem not_recipesAreStartedAndValidated : ¬ Obligations.RecipesAreStartedAndValidated := by
  unfold Obligations.RecipesAreStartedAndValidated
  rintro ⟨-, -, h, -⟩
  obtain ⟨running, found, memory, room, empty⟩ := enabledValidating_meets
  obtain ⟨t, e, -, -, -, rest⟩ := h enabledValidating 5 1 64 running found (by decide) memory room
  have entry := fillAfter_validation
  rw [e, fillAfter, log_of_onlyRegisters rest, empty] at entry
  exact absurd entry (by decide)

end
section
/-! PROOF. The restart of the sequencer's engine thaws the gauge (R281, R397): GAUGE.STATUS.FROZEN is written with the state of
ENG.10. -/

namespace Sys2Proof.Machine

/-- A device in FULL whose ENG.10 restarts, the gauge frozen meanwhile. -/
def sequencerRestarts : State :=
  (Tests.full.setEng 10 { Tests.full.eng 10 with restarting := true }).putb Pg.GAUGE Reg.GAUGE.STATUS_FROZEN true

/-- The address of GAUGE.STATUS. -/
def gaugeStatus : Nat := addrOf Pg.GAUGE Reg.GAUGE.STATUS_FROZEN

/-- FROZEN of the gauge after a command. -/
def frozenAfter (o : Out) : Bool :=
  match o with
  | .next t => bitOf (t.rd gaugeStatus).toNat Reg.GAUGE.STATUS_FROZEN.lo
  | _ => true

theorem frozenAfter_restart : frozenAfter (exec (.engineRestartDone 10 true) sequencerRestarts) = false := by decide +kernel

theorem sequencerRestarts_meets : sequencerRestarts.reducedOrLater = true ∧ (sequencerRestarts.eng 10).restarting = true ∧
    logRoom sequencerRestarts 0 ∧ bitOf (sequencerRestarts.rd gaugeStatus).toNat Reg.GAUGE.STATUS_FROZEN.lo = true := by decide +kernel

end Sys2Proof.Machine

open Sys2Proof Sys2Proof.Machine

/-- Refutes O35: the restart of ENG.10 writes GAUGE.STATUS.FROZEN, which is on none of the pages that clause 3 names. -/
theorem not_enginesRestartAndBanksReturn : ¬ Obligations.EnginesRestartAndBanksReturn := by
  unfold Obligations.EnginesRestartAndBanksReturn
  rintro ⟨-, -, h, -⟩
  obtain ⟨reduced, restarting, room, frozen⟩ := sequencerRestarts_meets
  obtain ⟨t, e, -, -, -, bits, -⟩ := h sequencerRestarts 10 reduced (by decide) restarting room
  have thawed := frozenAfter_restart
  rw [e, frozenAfter, bits gaugeStatus Reg.GAUGE.STATUS_FROZEN.lo (by decide) (by decide), frozen] at thawed
  exact absurd thawed (by decide)

end
section
/-! PROOF. A published result whose record finds its queue full is lost with STREAM_DROP (R460); where the severity map makes that
message one that drives FAULT_N (R341), CHIP:STATUS.FAULT_N_IN falls with the pin. -/

namespace Sys2Proof.Machine

/-- A record that waits in the queue of estimator 8. -/
def waitingRecord : SRec := ⟨0, 0x28, 4, []⟩

/-- A device of one bank in FULL. -/
def oneBank : State := Tests.full.put Pg.CHIP Reg.CHIP.IDENT_MEMBER 1

/-- FAULT_N released and its input high, STREAM_DROP of severity 4, from which on the pin is driven. -/
def dropDrivesPin : State :=
  let s := (oneBank.putb Pg.FAULT Reg.FAULT.STATUS_FAULT_N_OUT false).putb Pg.CHIP Reg.CHIP.STATUS_FAULT_N_IN true
  (s.put Pg.STREAM ⟨0x01C, 17, 15, 0⟩ 4).put Pg.FAULT Reg.FAULT.CFG_PIN_THRESH 4

/-- The same with the estimator's records routed to stream channel 0, its queue full, and a result of channel 3 waiting. -/
def queueFull : State :=
  let s := (dropDrivesPin.put Pg.STREAM Reg.STREAM.ROUTE (4 * 256)).putBit Pg.STREAM Reg.STREAM.CTRL_EN 0 true
  (setSqueue s 0x28 (List.replicate 64 waitingRecord)).setGrade 3 { s.grade 3 with results := [⟨2, [], none, 0, 0, true⟩] }

/-- The address of CHIP:STATUS. -/
def chipStatus : Nat := addrOf Pg.CHIP Reg.CHIP.STATUS_FAULT_N_IN

/-- The input level of FAULT_N after a command. -/
def pinAfter (o : Out) : Bool :=
  match o with
  | .next t => bitOf (t.rd chipStatus).toNat Reg.CHIP.STATUS_FAULT_N_IN.lo
  | _ => true

theorem pinAfter_publish : pinAfter (exec (.resultPublish 3) queueFull) = false := by decide +kernel

theorem queueFull_meets : queueFull.full = true ∧ (queueFull.grade 3).results = [⟨2, [], none, 0, 0, true⟩] ∧ logRoom queueFull 0 ∧
    bitOf (queueFull.rd chipStatus).toNat Reg.CHIP.STATUS_FAULT_N_IN.lo = true := by decide +kernel

end Sys2Proof.Machine

open Sys2Proof Sys2Proof.Machine

/-- Refutes O36: the published result's record is lost with a message that drives FAULT_N, and CHIP:STATUS.FAULT_N_IN is on none of
the pages that clause 4 names. -/
theorem not_gradingResultsComeOut : ¬ Obligations.GradingResultsComeOut := by
  unfold Obligations.GradingResultsComeOut
  rintro ⟨-, -, -, h⟩
  obtain ⟨full, waiting, room, high⟩ := queueFull_meets
  obtain ⟨t, e, -, -, -, -, -, -, bits, -⟩ := h queueFull 3 _ [] full (by decide) waiting (by decide) (by simp) room
  have low := pinAfter_publish
  rw [e, pinAfter, bits chipStatus Reg.CHIP.STATUS_FAULT_N_IN.lo (by decide) (by decide), high] at low
  exact absurd low (by decide)

end
section
/-! PROOF. The automatic clear of BOARD_FAULT_IN shows FAULT_N anew (R346, R349): where another entry has come to hold the pin, FAULT_N
is driven at that boundary, and the step of a running channel ends there. -/

namespace Sys2Proof.Machine

/-- A device of one bank in FULL, FAULT_N released with the automatic clear on: beside BOARD_FAULT_IN an entry is active whose severity the threshold of the pin
has come down to. -/
def pinHeldAnew : State :=
  let s := oneBank.putb Pg.FAULT Reg.FAULT.STATUS_FAULT_N_OUT false
  let s := (s.putb Pg.FAULT Reg.FAULT.CFG_BOARD_AUTOCLR true).put Pg.FAULT Reg.FAULT.CFG_PIN_THRESH 4
  { s with fault := { s.fault with active :=
      [(actKey Pg.FAULT Kind.BOARD_FAULT_IN, ⟨4, [0]⟩), (actKey Pg.CLOCK Kind.STREAM_DROP, ⟨4, [0]⟩)] } }

/-- The same with a step active on channel 3. -/
def stepUnderHeldPin : State :=
  (pinHeldAnew.put (Pg.CHAN 3) Reg.CHAN.STATUS_STATE Ch.RUN).putb (Pg.CHAN 3) Reg.CHAN.ACC_FLAGS_STEP_ACTIVE true

/-- The steps that have ended, for the next boundary, after a command. -/
def endedAfter (o : Out) : List (Nat × Nat) :=
  match o with
  | .next t => t.ended
  | _ => []

theorem endedAfter_autoclear : endedAfter (exec .boardFaultAutoclear stepUnderHeldPin) = [(3, 2)] := by decide +kernel

theorem stepUnderHeldPin_meets : autoclearDue stepUnderHeldPin = true ∧ logRoom stepUnderHeldPin 0 ∧ stepUnderHeldPin.ended = [] := by
  decide +kernel

theorem ended_of_onlyReaction {s t : State} (h : onlyReaction s t) : t.ended = s.ended :=
  (congrArg State.ended h : _)

end Sys2Proof.Machine

open Sys2Proof Sys2Proof.Machine

/-- Refutes O40: the clear of BOARD_FAULT_IN drives FAULT_N for another entry, and the step that this ends is no reaction of a
message's. -/
theorem not_faultNAndItsClears : ¬ Obligations.FaultNAndItsClears := by
  unfold Obligations.FaultNAndItsClears
  rintro ⟨-, -, h, -⟩
  obtain ⟨due, room, none⟩ := stepUnderHeldPin_meets
  obtain ⟨t, e, -, -, -, rest⟩ := h stepUnderHeldPin due room
  have ended := endedAfter_autoclear
  rw [e, endedAfter, ended_of_onlyReaction rest, none] at ended
  exact absurd ended (by decide)

end
section
/-! PROOF. A hand-back looks at the charge anew (R386, R392): a pack that had been full and that the outage has emptied below the
recharge level is charged again, so that the mark of a full pack falls too. -/

namespace Sys2Proof.Machine

/-- The pack present, charging enabled with a current in its zone, and ENG.10 running. -/
def packReady : State :=
  let s := setSource Tests.red Src.WINDOW
  let s := (s.putb Pg.BACKUP Reg.BACKUP.CHG_STATUS_PRESENT true).putb Pg.BACKUP Reg.BACKUP.CHG_CFG_EN true
  let s := (s.put Pg.BACKUP (Reg.BACKUP.ZONE_I_CODE.ix (packZone s)) 255).put Pg.BACKUP Reg.BACKUP.CHG_CFG_ICHG 100
  setEstate s 10 Es.RUNNING

/-- The same in the hand-back window after QUAL, the pack once full and now below the recharge level. -/
def emptiedPack : State :=
  { packReady with rcUs := 10000000, backup := { packReady.backup with done := true } }

/-- The mark of a full pack after a command. -/
def doneAfter (o : Out) : Bool :=
  match o with
  | .next t => t.backup.done
  | _ => true

theorem doneAfter_handback : doneAfter (exec .handback emptiedPack) = false := by decide +kernel

theorem emptiedPack_meets : emptiedPack.powered = true ∧ handbackDue emptiedPack = true ∧ logRoom emptiedPack 0 ∧
    emptiedPack.backup.done = true := by decide +kernel

theorem done_of_onlyPath (s t : State)
    (h : { t with regs := s.regs, backup := { t.backup with path := s.backup.path, chgSec := s.backup.chgSec } } = s) :
    t.backup.done = s.backup.done := (congrArg (fun u : State => u.backup.done) h : _)

end Sys2Proof.Machine

open Sys2Proof Sys2Proof.Machine

/-- Refutes O46: the hand-back of an emptied pack starts its charge, which takes the mark of a full pack away. -/
theorem not_thePowerPath : ¬ Obligations.ThePowerPath := by
  unfold Obligations.ThePowerPath
  rintro ⟨-, -, -, -, -, -, -, h, -⟩
  obtain ⟨powered, due, room, full⟩ := emptiedPack_meets
  obtain ⟨t, e, -, -, -, -, -, -, rest⟩ := h emptiedPack powered due room
  have cleared := doneAfter_handback
  rw [e, doneAfter, done_of_onlyPath emptiedPack t rest, full] at cleared
  exact absurd cleared (by decide)

end
section
/-! PROOF. WAKE_CFG is written back as it stands but for one field: a RELEASE bit that the register file holds releases WAKE_OUT
with the write of FORCE (R415). -/

namespace Sys2Proof.Machine

/-- A device in FULL whose register file holds the bit RELEASE of WAKE_CFG. -/
def releaseBitHeld : State := Tests.full.put Pg.RTC Reg.RTC.WAKE_CFG_RELEASE 1

/-- WAKE_OUT after a command. -/
def wakeAfter (o : Out) : Bool :=
  match o with
  | .next t => t.flag Pg.RTC Reg.RTC.WAKE_CFG_STATE
  | _ => true

theorem wakeAfter_force : wakeAfter (exec (.wakeForce .host) releaseBitHeld) = false := by decide +kernel

theorem releaseBitHeld_meets : hostReach releaseBitHeld Pg.RTC 0x060 ∧ lockState releaseBitHeld Pg.RTC = 0 ∧
    rangesOk (fieldsAt Pg.RTC 0x060) (withField releaseBitHeld Pg.RTC Reg.RTC.WAKE_CFG_FORCE 1) = true ∧ logRoom releaseBitHeld 1 := by
  decide +kernel

end Sys2Proof.Machine

open Sys2Proof Sys2Proof.Machine

/-- Refutes O51: where the register file holds RELEASE, the write of FORCE releases WAKE_OUT. -/
theorem not_trimAndWakeOut : ¬ Obligations.TrimAndWakeOut := by
  unfold Obligations.TrimAndWakeOut
  rintro ⟨-, -, -, -, h, -⟩
  obtain ⟨reach, unlocked, ranges, room⟩ := releaseBitHeld_meets
  obtain ⟨t, e, asserted, -⟩ := h releaseBitHeld reach unlocked ranges room
  have released := wakeAfter_force
  rw [e, wakeAfter, asserted] at released
  exact absurd released (by decide)

end
section
/-! PROOF. TICK holds more than 56 bits only where the model's counter does: TICK_HI latches what lies above the low word whole
(R417), so that a counter beyond 56 bits shows through it. -/

namespace Sys2Proof.Machine

/-- A device in FULL whose counter stands at 2^56. -/
def tickBeyond : State := { Tests.full with timer := { Tests.full.timer with tick := 2 ^ 56 } }

/-- The word of TICK_HI that the host port's reads answer from after a command. -/
def tickHiAfter (o : Out) : Nat :=
  match o with
  | .next t => Table.get 0 t.snaps (snapKey Org.HOST (Pg.TIMER * 0x400 + 0x044))
  | _ => 0

theorem tickHiAfter_read : tickHiAfter (exec (.tickLoRead .host) tickBeyond) = 2 ^ 24 := by decide +kernel

theorem tickBeyond_meets : reachable tickBeyond (Pg.TIMER * 0x400 + 0x040) = true ∧ originLive tickBeyond .host = true ∧
    logRoom tickBeyond 0 ∧ tickBeyond.timer.tick = 2 ^ 56 := by decide +kernel

end Sys2Proof.Machine

open Sys2Proof Sys2Proof.Machine

/-- Refutes O52: a counter of 2^56 latches 2^24 in TICK_HI, which the statement takes modulo 2^24. -/
theorem not_timersAndGpio : ¬ Obligations.TimersAndGpio := by
  unfold Obligations.TimersAndGpio
  rintro ⟨-, -, -, -, -, h, -⟩
  obtain ⟨reach, live, room, tick⟩ := tickBeyond_meets
  obtain ⟨t, e, -, latched, -⟩ := h tickBeyond .host reach live room
  have whole := tickHiAfter_read
  rw [e, tickHiAfter] at whole
  rw [tick] at latched
  exact absurd (whole.symm.trans latched) (by decide)

end
section
/-! PROOF. ESTOP writes CONTROL of each channel back with ENABLE and AUTO_RESUME cleared (R476): a RESUME bit that the register file
holds makes that write one that asks for a resumption, which ESTOP itself refuses. -/

namespace Sys2Proof.Machine

/-- A device of one bank in FULL with channel 3 enabled, whose register file holds the bit RESUME of its CONTROL. -/
def resumeHeldEnabled : State :=
  (oneBank.put (Pg.CHAN 3) Reg.CHAN.CONTROL_RESUME 1).put (Pg.CHAN 3) Reg.CHAN.CONTROL_ENABLE 1

/-- ENABLE of channel 3 after a command. -/
def stillEnabled (o : Out) : Nat :=
  match o with
  | .next t => t.get (Pg.CHAN 3) Reg.CHAN.CONTROL_ENABLE
  | _ => 0

theorem stillEnabled_estop : stillEnabled (exec .twowireEstop resumeHeldEnabled) = 1 := by decide +kernel

theorem resumeHeldEnabled_meets : resumeHeldEnabled.reducedOrLater = true ∧ leadsOk resumeHeldEnabled = true ∧
    logRoom resumeHeldEnabled 32 ∧ 3 ∈ leadChans resumeHeldEnabled := by decide +kernel

end Sys2Proof.Machine

open Sys2Proof Sys2Proof.Machine

/-- Refutes O60: where the register file holds RESUME, ESTOP's write of CONTROL is refused, and ENABLE stays 1. -/
theorem not_theTwoWireCommands : ¬ Obligations.TheTwoWireCommands := by
  unfold Obligations.TheTwoWireCommands
  rintro ⟨-, h, -⟩
  obtain ⟨reduced, leads, room, lead⟩ := resumeHeldEnabled_meets
  obtain ⟨t, e, -, -, stopped, -⟩ := h resumeHeldEnabled reduced leads room
  have enabled := stillEnabled_estop
  rw [e, stillEnabled, (stopped 3 lead).1] at enabled
  exact absurd enabled (by decide)

end
section
/-! PROOF. What a direct write of one field stores (R26, R30, R92): the field holds its value, beside the change log and the words
that are held for a boundary or a common start. -/

namespace Sys2Proof.Machine

variable {s t u : State} {k : PageKind} {page off v o x hi lo : Nat} {fs : List FieldDef} {f : Fld}

/-! ### Bits of a word -/

theorem testBit_bitsOf (n hi lo i : Nat) : (bitsOf n hi lo).testBit i = (decide (i < hi - lo + 1) && n.testBit (lo + i)) := by
  simp only [bitsOf, Nat.testBit_mod_two_pow, Nat.testBit_div_two_pow, Nat.add_comm i lo]

theorem testBit_bitOf (n j : Nat) : n.testBit j = bitOf n j := by simp only [bitOf, Nat.testBit_eq_decide_div_mod_eq]

theorem testBit_withBits (n x j : Nat) (h : lo ≤ hi) :
    (withBits n hi lo x).testBit j = if lo ≤ j ∧ j ≤ hi then x.testBit (j - lo) else n.testBit j := by
  split
  · next inside =>
    have same := congrArg (Nat.testBit · (j - lo)) (bitsOf_withBits (hi := hi) n x h)
    simp only [testBit_bitsOf, Nat.testBit_mod_two_pow] at same
    rw [show lo + (j - lo) = j by omega, show decide (j - lo < hi - lo + 1) = true from decide_eq_true (by omega)] at same
    simpa using same
  · next outside => rw [testBit_bitOf, testBit_bitOf, bitOf_withBits n x h (by omega)]

/-- Does a register hold no field that a write of ones clears, and every field in order? -/
def plainFields (fs : List FieldDef) : Bool := fs.all (fun f => decide (f.acc ≠ .w1c ∧ f.lo ≤ f.hi))

/-- Does a stored field cover a bit? -/
def storesBit (fs : List FieldDef) (j : Nat) : Bool := fs.any (fun f => decide ((f.acc = .rw ∨ f.acc = .rwl) ∧ f.lo ≤ j ∧ j ≤ f.hi))

/-- What a write stores of a word. -/
def storeField (old v a : Nat) (f : FieldDef) : Nat :=
  if f.acc = .rw ∨ f.acc = .rwl then withBits a f.hi f.lo (bitsOf v f.hi f.lo)
  else if f.acc = .w1c then withBits a f.hi f.lo (bitsOf old f.hi f.lo &&& (bitsOf v f.hi f.lo ^^^ (2 ^ (f.hi - f.lo + 1) - 1)))
  else a

theorem testBit_storeField (old v a j : Nat) (g : FieldDef) (clear : g.acc ≠ .w1c) (h : g.lo ≤ g.hi) :
    (storeField old v a g).testBit j =
      if (g.acc = .rw ∨ g.acc = .rwl) ∧ g.lo ≤ j ∧ j ≤ g.hi then v.testBit j else a.testBit j := by
  unfold storeField
  rw [if_neg clear]
  split
  · next stored =>
    rw [testBit_withBits _ _ _ h]
    by_cases inside : g.lo ≤ j ∧ j ≤ g.hi
    · have : j - g.lo < g.hi - g.lo + 1 := by omega
      rw [if_pos inside, if_pos ⟨stored, inside⟩, testBit_bitsOf, show g.lo + (j - g.lo) = j by omega]
      simp [this]
    · rw [if_neg inside, if_neg (fun c => inside c.2)]
  · next other => rw [if_neg (fun c => other c.1)]

theorem storesBit_cons (g : FieldDef) (fs : List FieldDef) (j : Nat) :
    storesBit (g :: fs) j = (decide ((g.acc = .rw ∨ g.acc = .rwl) ∧ g.lo ≤ j ∧ j ≤ g.hi) || storesBit fs j) := rfl

theorem testBit_storedWord (plain : plainFields fs = true) (old v j : Nat) :
    (storedWord fs old v).testBit j = if storesBit fs j = true then v.testBit j else old.testBit j := by
  suffices ∀ a, (fs.foldl (storeField old v) a).testBit j = if storesBit fs j = true then v.testBit j else a.testBit j from this old
  induction fs with
  | nil => exact fun a => rfl
  | cons g fs ih =>
    intro a
    simp only [plainFields, List.all_cons, Bool.and_eq_true, decide_eq_true_eq] at plain
    rw [List.foldl_cons, ih plain.2, testBit_storeField _ _ _ _ _ plain.1.1 plain.1.2, storesBit_cons]
    simp only [Bool.or_eq_true, decide_eq_true_eq]
    by_cases later : storesBit fs j = true
    · rw [if_pos later, if_pos (.inr later)]
    · rw [if_neg later]
      by_cases here : (g.acc = .rw ∨ g.acc = .rwl) ∧ g.lo ≤ j ∧ j ≤ g.hi
      · rw [if_pos here, if_pos (.inl here)]
      · rw [if_neg here, if_neg (fun c => c.elim here later)]

/-- Does a stored field of a register cover a field? -/
def storesField (fs : List FieldDef) (hi lo : Nat) : Bool := fs.any (fun f => decide ((f.acc = .rw ∨ f.acc = .rwl) ∧ f.lo ≤ lo ∧ hi ≤ f.hi))

/-- A write back of a word with one field changed stores the field. -/
theorem storedWord_withBits (plain : plainFields fs = true) (stored : storesField fs hi lo = true) (h : lo ≤ hi) (old x : Nat) :
    storedWord fs old (withBits old hi lo x) = withBits old hi lo x := by
  obtain ⟨g, hg, covers⟩ := List.any_eq_true.mp stored
  simp only [decide_eq_true_eq] at covers
  refine Nat.eq_of_testBit_eq fun j => ?_
  rw [testBit_storedWord plain, testBit_withBits _ _ _ h]
  by_cases inside : lo ≤ j ∧ j ≤ hi
  · have bit : storesBit fs j = true := List.any_eq_true.mpr ⟨g, hg, decide_eq_true ⟨covers.1, by omega, by omega⟩⟩
    rw [if_pos bit]
  · rw [if_neg inside, ite_self]

/-- A register of one stored field takes the write's bits of it. -/
theorem storedWord_single {g : FieldDef} (acc : g.acc = .rw ∨ g.acc = .rwl) (old v : Nat) :
    storedWord [g] old v = withBits old g.hi g.lo (bitsOf v g.hi g.lo) := if_pos acc

/-! ### The word stored -/

/-- Does a register take its word as it is written, in the register file (R341, R378, R446)? -/
def asWritten (k : PageKind) (off : Nat) : Bool :=
  !(decide (k = .granary) && decide (0x200 ≤ off)) && !decide (0x014 ≤ off ∧ off ≤ 0x01C) &&
    (match k with
      | .chip => decide (off ≠ 0x050)
      | .transit => decide (off ≠ 0x044)
      | .phase => false
      | _ => true)

theorem settled_asWritten (h : asWritten k off = true) (old new : Nat) : settled k page off old new = new := by
  simp only [asWritten, Bool.and_eq_true, Bool.not_eq_true', decide_eq_false_iff_not] at h
  obtain ⟨⟨-, map⟩, kind⟩ := h
  unfold settled
  rw [if_neg map]
  cases k <;> simp_all

/-- A register whose word waits for a boundary in FULL, or for a common start, has its word held when it is first written. -/
def heldWord (s : State) (k : PageKind) (page off : Nat) : State :=
  if ((takesBoundary k off && s.full) || takesCommonStart k off) && !s.held.any (fun e => decide (e.1 = page * 0x400 + off)) then
    { s with held := Table.insert s.held (page * 0x400 + off) (s.rd (page * 0x400 + off)) } else s

theorem heldWord_regs (s : State) (k : PageKind) (page off : Nat) : (heldWord s k page off).regs = s.regs := by
  unfold heldWord
  split <;> rfl

theorem heldWord_eq (s : State) (k : PageKind) (page off : Nat) : { heldWord s k page off with held := s.held } = s := by
  unfold heldWord
  split <;> rfl

theorem heldWord_at_once (h : takesBoundary k off = false ∧ takesCommonStart k off = false) : heldWord s k page off = s := by
  simp only [heldWord, h.1, h.2, Bool.false_and, Bool.false_or, Bool.false_eq_true, if_false]

theorem heldWord_room {n : Nat} (room : logRoom s n) : logRoom (heldWord s k page off) n := by
  unfold heldWord
  split <;> exact room

theorem storeWord_put_held (h : asWritten k off = true) (hf : f.off = off)
    (new : (wrAt s o k page off v).new = withBits (s.rd (page * 0x400 + off)).toNat f.hi f.lo x) :
    storeWord s (wrAt s o k page off v) = (heldWord s k page off).put page f x := by
  subst hf
  simp only [asWritten, Bool.and_eq_true, Bool.not_eq_true', Bool.and_eq_false_iff, decide_eq_false_iff_not] at h
  have window : ¬ (k = .granary ∧ 0x200 ≤ f.off) := by tauto
  have same : (heldWord s k page f.off).rd (page * 0x400 + f.off) = s.rd (page * 0x400 + f.off) := by
    rw [State.rd, heldWord_regs]
    rfl
  unfold storeWord
  refine (if_neg (show ¬ ((wrAt s o k page f.off v).kind = .granary ∧ 0x200 ≤ (wrAt s o k page f.off v).off) from window)).trans ?_
  rw [new, State.put, addrOf, same]
  rfl

/-- A write back of a register with one field changed. -/
theorem new_withField (hf : f.off = off) (plain : asWritten k off = true) (fields : plainFields (kindFields k off) = true)
    (stored : storesField (kindFields k off) f.hi f.lo = true) (h : f.lo ≤ f.hi) :
    (wrAt s o k page off (withField s page f x)).new = withBits (s.rd (page * 0x400 + off)).toNat f.hi f.lo x := by
  subst hf
  exact (settled_asWritten plain _ _).trans (storedWord_withBits fields stored h _ _)

theorem withField_lt (s : State) (page x : Nat) (h : f.lo ≤ f.hi) (h32 : f.hi < 32) : withField s page f x < 2 ^ 32 :=
  withBits_lt _ h h32 (BitVec.isLt _)

/-! ### What the write leaves -/

/-- One field holds a value; beside it only the change log may have moved, and the words held for later. -/
structure Stored (s u : State) (page : Nat) (f : Fld) (x : Nat) : Prop where
  get : u.get page f = x % 2 ^ f.width
  bits : onlyBits s u [(page, f), changeSeq page] [Pg.CHANGELOG]
  rest : onlyLogged s { u with held := s.held }
  room : logRoom u 0

theorem Stored.field {α : Type} (h : Stored s u page f x) (g : State → α) :
    g { u with regs := s.regs, log := s.log, held := s.held } = g s := congrArg g h.rest

theorem Stored.sameOuter (h : Stored s u page f x) : sameOuter s u :=
  ⟨h.field State.pending, h.field State.powered, h.field State.otpA, h.field State.otpB⟩

/-- A register that takes its word at once holds nothing back. -/
theorem Stored.onlyLogged (h : Stored s u page f x) (held : u.held = s.held) : onlyLogged s u := by
  have rest := h.rest
  rw [← held] at rest
  exact rest

theorem stored_put (heldOnly : { t with held := s.held } = s) (regs : t.regs = s.regs) (room : logRoom t 0) (h : f.lo ≤ f.hi) (h32 : f.hi < 32) :
    Stored s (t.put page f x) page f x where
  get := State.get_put_same _ _ _ _ h h32
  bits := onlyBits.put ((onlyBits.refl s).regs regs) (covers_of_mem (.head _) rfl ⟨h, h32⟩ le_rfl le_rfl)
  rest := congrArg (fun y : State => { y with regs := s.regs, log := s.log }) heldOnly
  room := logRoom.put room

theorem Logged.held {w : Nat} (h : Logged s u w) : u.held = s.held := (congrArg State.held h.rest : _)

/-- An entry made after the field is stored. -/
theorem Stored.logged {w : Nat} (h : Stored s t page f x) (e : Logged t u w) (hw : w = page) (ho : f.off < 0x400) (hp : page ≠ Pg.CHANGELOG)
    (hs : f.off ≠ 0x024) : Stored s u page f x where
  get := (e.get ho hp hs).trans h.get
  bits := h.bits.trans (e.bits.weaken (by simp [hw]) (List.Subset.refl _))
  rest := by
    exact (congrArg (fun y : State => ({ y with regs := s.regs, log := s.log, held := s.held } : State)) e.rest).trans h.rest
  room := e.room

theorem woBits_none (h : fs.all (fun f => decide (f.acc ≠ .wo)) = true) (v : Nat) : woBits fs v = 0 := by
  unfold woBits
  generalize hz : (0 : Nat) = z
  clear hz
  induction fs generalizing z with
  | nil => rfl
  | cons g fs ih =>
    simp only [List.all_cons, Bool.and_eq_true, decide_eq_true_eq] at h
    rw [List.foldl_cons, if_neg h.1]
    exact ih h.2 z

/-- A write of one field that the rules of its page take: it stores the field, or changes nothing where the field holds the value. -/
theorem Comes.storeField (h : Comes s o k page off v) (right : mayWrite s o page = true)
    (lock : lockRefuses s (kindFields k off) (wrAt s o k page off v) = false) (fault : k ≠ .fault)
    (rule : rulePage s (wrAt s o k page off v) = .take) (ranges : rangesOk (kindFields k off) (wrAt s o k page off v).new = true)
    (hf : f.off = off) (hb : f.lo ≤ f.hi ∧ f.hi < 32)
    (new : (wrAt s o k page off v).new = withBits (s.rd (page * 0x400 + off)).toNat f.hi f.lo x)
    (noWo : (kindFields k off).all (fun f => decide (f.acc ≠ .wo)) = true) (plain : asWritten k off = true)
    (hp : page ≠ Pg.CHANGELOG) (hs : off ≠ 0x024) (room : logRoom s 1) :
    (∃ u, Machine.writeReg s o (page * 0x400 + off) v = (actPageWrite u (wrAt s o k page off v), .ok) ∧ Stored s u page f x ∧
        (takesBoundary k off = false → takesCommonStart k off = false → u.held = s.held)) ∨
      (Machine.writeReg s o (page * 0x400 + off) v = (s, .same) ∧ Stored s s page f x ∧ actsUnchanged k off = false ∧
        (wrAt s o k page off v).new = (wrAt s o k page off v).old) := by
  have wo := woBits_none noWo v
  have stored : Stored s ((heldWord s k page off).put page f x) page f x :=
    stored_put (heldWord_eq s k page off) (heldWord_regs s k page off) (heldWord_room (room.mono (by omega))) hb.1 hb.2
  by_cases same : (wrAt s o k page off v).new = (s.rd (page * 0x400 + off)).toNat ∧ actsUnchanged k off = false
  · refine .inr ⟨h.same right lock fault rule ranges same.1 wo same.2, ?_, same.2, same.1⟩
    have back : withBits (s.rd (addrOf page f)).toNat f.hi f.lo x = (s.rd (addrOf page f)).toNat := by
      rw [addrOf, hf, ← new]
      exact same.1
    refine ⟨?_, onlyBits.refl s, rfl, room.mono (by omega)⟩
    rw [State.get, ← back, bitsOf_withBits _ _ hb.1]
    rfl
  · refine .inl ⟨_, ?_, Stored.logged (w := page) stored (logged_entryOf (w := wrAt s o k page off v) (fs := kindFields k off) ?_
      (liveWord s (page * 0x400 + off))) rfl ?_ hp ?_, ?_⟩
    · rw [h.store right lock fault rule ranges (fun a _ => ?_), acceptWrite_entry_first (.inl wo), storeWord_put_held plain hf new]
      · rfl
      · cases acts : actsUnchanged k off with
        | true => rfl
        | false => exact absurd ⟨a, acts⟩ same
    · exact logRoom.put (heldWord_room room)
    · exact hf ▸ h.inPage
    · exact hf ▸ hs
    · intro boundary start
      refine (logged_entryOf (w := wrAt s o k page off v) (fs := kindFields k off) ?_ (liveWord s (page * 0x400 + off))).held.trans ?_
      · exact logRoom.put (heldWord_room room)
      · show (heldWord s k page off).held = s.held
        rw [heldWord_at_once ⟨boundary, start⟩]

/-- A command register's write that comes to the rules of its page, which take it, and that makes an entry: the command is done on the
state with its entry made. -/
theorem Comes.command_logged (h : Comes s o k page off v) (right : mayWrite s o page = true)
    (lock : lockRefuses s (kindFields k off) (wrAt s o k page off v) = false) (fault : k ≠ .fault) (plain : plainReg k off = true)
    (wo : allWo (kindFields k off) = true) (rule : rulePage s (wrAt s o k page off v) = .take)
    (acts : woBits (kindFields k off) v ≠ 0) (entry : commandEntry k off v = true) (room : logRoom s 1) :
    ∃ u, Machine.writeReg s o (page * 0x400 + off) v = (actPageWrite u (wrAt s o k page off v), .ok) ∧ Logged s u page ∧
      u.log.fill = s.log.fill + 1 := by
  have same := wrAt_new_command (s := s) (o := o) (page := page) (v := v) plain wo
  have stored : storeWord s (wrAt s o k page off v) = rewritten s (page * 0x400 + off) := by
    rw [storeWord_plain plain, same]
    exact congrArg (s.wr _) (by simp [wrAt])
  refine ⟨entered s o k page off v, ?_, logged_entered room, fill_entered room ((makesEntry_command wo).trans entry)⟩
  rw [h.store right lock fault rule (rangesOk_allWo wo _) (fun _ none => absurd none acts), acceptWrite_entry_first (.inr wo), stored]
  rfl

/-- A command that writes one field by the host port. -/
theorem gives_hostField {c : Instr} {P : State → Prop} {b : Bool} {r : WRes}
    (hx : exec c s = takes s b (fun s => writeField s .host page f x)) (hb : b = true)
    (hw : writeReg s Org.HOST (page * 0x400 + f.off) (withField s page f x) = (t, r)) (outer : sameOuter s t) (room : logRoom t 0)
    (p : P t) : gives c s P := by
  have act : writeField s .host page f x = t := by rw [writeField, writeOf_host, hw]
  refine gives_takes _ (act := fun s => writeField s .host page f x) hx rfl hb ?_ ?_ ?_ <;> simpa only [act]

/-! ### A message said after registers are written -/

/-- A message said from a state whose registers were written: what it shows, and what it leaves. -/
structure Raised (s v t : State) (l : List (Nat × Fld)) (p k a : Nat) : Prop where
  said : said s t p k a
  bits : onlyBits s t (l ++ messageFields p) reactionPages
  get : ∀ f : Fld, f.off < 0x400 → f.off ≠ 0x008 → f.off ≠ 0x010 → t.get p f = v.get p f
  held : Held (header p) v t

theorem raised_raise {l : List (Nat × Fld)} {p k a : Nat} {v : State} (bits : onlyBits s v l []) (held : v.held = s.held)
    (map : l.all (fun e => decide (addrOf e.1 e.2 ≠ p * 0x400 + 0x014 + 4 * ((k - 1) / 10))) = true) (hp : ¬ reactivePage p)
    (h0 : p ≠ 0) : Raised s v (flushLog (raise v p k a)) l p k a := by
  have after := saidIn_raise v p k a
  refine ⟨?_, ?_, fun f ho h8 h10 => ?_, after.held⟩
  · have shown := after.said hp
    rwa [said, effSeverity_congr (bits.rd_apart List.not_mem_nil map) held] at shown
  · exact (bits.weaken (List.subset_append_left _ _) (List.nil_subset _)).trans
      (after.bits.weaken (List.subset_append_right _ _) (List.Subset.refl _))
  · refine after.held.get ho hp ?_ ?_ <;> simp only [header, addrOf] <;> omega

theorem Raised.flag {l : List (Nat × Fld)} {p k a : Nat} {v : State} (h : Raised s v t l p k a) (f : Fld) (ho : f.off < 0x400)
    (h8 : f.off ≠ 0x008) (h10 : f.off ≠ 0x010) : t.flag p f = v.flag p f := by
  rw [State.flag, h.get f ho h8 h10]
  rfl

end Sys2Proof.Machine
end
section
/-! PROOF. The two-wire port (R470 to R479): the status word, discarded transfers, latched bits, the alert response and a bus timeout. -/

namespace Sys2Proof.Machine

variable {s t u : State} {k : PageKind} {page off v o x : Nat} {f : Fld}

/-! ### Fields of a register chain -/

/-- A counter advanced by one stands at its full code. -/
theorem get_bump_same (s : State) (p : Nat) (f : Fld) (h : f.lo ≤ f.hi) (h32 : f.hi < 32) :
    (s.bump p f).get p f = min (2 ^ f.width - 1) (s.get p f + 1) := get_addCount_same s p 1 f h h32

/-- A counter of a whole register. -/
theorem get_bump_word (s : State) (p off : Nat) (r : Nat) :
    (s.bump p ⟨off, 31, 0, r⟩).get p ⟨off, 31, 0, r⟩ = min (2 ^ 32 - 1) (s.get p ⟨off, 31, 0, r⟩ + 1) :=
  get_bump_same s p _ (Nat.zero_le _) (show 31 < 32 by decide)

theorem get_bump_ne (s : State) {p : Nat} {f g : Fld} (h : addrOf p g ≠ addrOf p f) : (s.bump p f).get p g = s.get p g :=
  State.get_put_ne _ _ h

theorem get_event_ne (s : State) {p k : Nat} {g : Fld} (h : addrOf p g ≠ addrOf p ⟨0x008, k, k, 0⟩) : (s.event p k).get p g = s.get p g :=
  State.get_put_ne _ _ h

/-- An event bit that is set reads 1. -/
theorem get_event_same (s : State) (p k : Nat) (hk : k < 32) : (s.event p k).get p ⟨0x008, k, k, 0⟩ = 1 := by
  rw [State.event, State.get_put_same _ _ _ _ le_rfl hk]
  simp [Fld.width]

/-! ### A host write of one field, without an entry -/

/-- A register of a host write: outside the recipe windows, and not read-only. -/
theorem hostComes (reach : hostReach s page off) (hk : pageKind page = some k)
    (here : k ≠ .recipe ∧ off < 0x400 ∧ off ≠ 0x020) (writable : readOnly k page off (kindFields k off) = false) (hv : v < 2 ^ 32) :
    Comes s Org.HOST k page off v :=
  ⟨hk, here.1, here.2.1, hv, reach.1, here.2.2, writable, fun _ => reach.2.2, fun _ => reach.2.1⟩

/-- One field holds a value, and nothing but the field has changed. -/
structure FieldSet (s t : State) (page : Nat) (f : Fld) (x : Nat) : Prop where
  get : t.get page f = x % 2 ^ f.width
  bits : onlyBits s t [(page, f)] []
  regs : onlyRegs s t

theorem fieldSet_put (s : State) (page x : Nat) (h : f.lo ≤ f.hi) (h32 : f.hi < 32) : FieldSet s (s.put page f x) page f x :=
  ⟨State.get_put_same _ _ _ _ h h32, (onlyBits.refl s).put (covers_of_mem (.head _) rfl ⟨h, h32⟩ le_rfl le_rfl), rfl⟩

/-- A state whose register holds the field's value already. -/
theorem fieldSet_same (new : withBits (s.rd (addrOf page f)).toNat f.hi f.lo x = (s.rd (addrOf page f)).toNat) (h : f.lo ≤ f.hi) :
    FieldSet s s page f x := by
  refine ⟨?_, onlyBits.refl s, rfl⟩
  rw [State.get, ← new, bitsOf_withBits _ _ h]
  rfl

/-- A write that its page's rules take, that stores one field, makes no entry and has no effect. -/
theorem Comes.store_silent (h : Comes s o k page off v) (right : mayWrite s o page = true) (plain : plainReg k off = true)
    (lock : lockRefuses s (kindFields k off) (wrAt s o k page off v) = false) (fault : k ≠ .fault)
    (rule : rulePage s (wrAt s o k page off v) = .take) (ranges : rangesOk (kindFields k off) (wrAt s o k page off v).new = true)
    (hf : f.off = off) (hb : f.lo ≤ f.hi ∧ f.hi < 32)
    (new : (wrAt s o k page off v).new = withBits (s.rd (page * 0x400 + off)).toNat f.hi f.lo x)
    (silent : makesEntry (kindFields k off) (wrAt s o k page off v) = false) (wo : woBits (kindFields k off) v = 0)
    (acts : actsUnchanged k off = false) (effect : ∀ u, actPageWrite u (wrAt s o k page off v) = u) :
    ∃ t r, Machine.writeReg s o (page * 0x400 + off) v = (t, r) ∧ FieldSet s t page f x := by
  have here : addrOf page f = page * 0x400 + off := by rw [addrOf, hf]
  by_cases same : (wrAt s o k page off v).new = (s.rd (page * 0x400 + off)).toNat
  · refine ⟨s, .same, h.same right lock fault rule ranges same wo acts, fieldSet_same ?_ hb.1⟩
    rw [here, ← new, same]
  · refine ⟨s.put page f x, .ok, ?_, fieldSet_put s page x hb.1 hb.2⟩
    rw [h.store right lock fault rule ranges (fun e => absurd e same), acceptWrite_entry_first (.inl wo), entryOf_none silent, effect]
    exact congrArg (·, WRes.ok) (storeWord_put plain hf.symm.symm new)

/-! ### STATUS -/

theorem kindFields_twStatus : kindFields .twowire 0x04C = [⟨15, 4, .ro, .v, 0, none⟩, ⟨3, 0, .w1c, .v, 1, none⟩] := by decide

/-- What a write of ones leaves of four latched bits. -/
theorem latched_cleared (x v : Nat) : (x &&& (v % 16 ^^^ 15)) % 2 ^ 4 = x % 16 &&& (15 - v % 16) := by
  have low : v % 16 ^^^ 15 = 15 - v % 16 := by
    have : ∀ n < 16, n ^^^ 15 = 15 - n := by decide
    exact this _ (by omega)
  have small : 15 - v % 16 < 2 ^ 4 := by omega
  rw [low, Nat.and_mod_two_pow, Nat.mod_eq_of_lt small]

theorem writeReg_twStatus (reach : hostReach s Pg.TWOWIRE 0x04C) (v : Nat) :
    ∃ t r, writeReg s Org.HOST (Pg.TWOWIRE * 0x400 + 0x04C) v = (t, r) ∧
      FieldSet s t Pg.TWOWIRE Reg.TWOWIRE.STATUS_LATCHED (s.get Pg.TWOWIRE Reg.TWOWIRE.STATUS_LATCHED &&& (v % 16 ^^^ 15)) := by
  have comes : Comes s Org.HOST .twowire Pg.TWOWIRE 0x04C (v % 2 ^ 32) :=
    hostComes reach rfl (by decide) (by decide) (Nat.mod_lt _ (by decide))
  have low : bitsOf (v % 2 ^ 32) 3 0 = v % 16 := by simp only [bitsOf]; omega
  rw [← writeReg_mod]
  refine comes.store_silent (mayWrite_host s _) (by decide) (lockRefuses_of_no_rwl (by decide) rfl) (by decide) ?_ ?_ rfl (by decide) ?_
    ?_ rfl rfl ?_
  · simp [rulePage, ruleTwowire]
  · simp [rangesOk, kindFields_twStatus]
  · simp only [wrAt, settled_plain (show plainReg .twowire 0x04C = true by decide), kindFields_twStatus, storedWord, List.foldl_cons,
      List.foldl_nil]
    exact congrArg (withBits _ 3 0) (congrArg (fun x => _ &&& (x ^^^ 15)) low)
  · simp [makesEntry, kindFields_twStatus]
  · intro u
    simp [actPageWrite]

/-! ### What is sent and counted -/

theorem nth_of_length_le {α : Type} (d : α) : ∀ (l : List α) (i : Nat), l.length ≤ i → nth d l i = d
  | [], _, _ => rfl
  | _ :: _, 0, h => absurd h (by simp)
  | _ :: l, i + 1, h => nth_of_length_le d l i (by simpa using h)


/-- A discarded transfer counted, before it is noted. -/
def discardCounted (s : State) (l : List Nat) : State :=
  (if pecFailed s l then s.bump Pg.TWOWIRE Reg.TWOWIRE.PEC_ERR else s).bump Pg.TWOWIRE Reg.TWOWIRE.CMD_BAD

/-- The word and its result noted. -/
def discardNoted (u : State) (l : List Nat) : State :=
  (u.put Pg.TWOWIRE Reg.TWOWIRE.LAST_CMD_WORD (commandWord l)).put Pg.TWOWIRE Reg.TWOWIRE.LAST_CMD_RESULT 2

theorem discardCommand_eq (s : State) (l : List Nat) : discardCommand s l = cmdReject (discardNoted (discardCounted s l) l) := rfl

/-- The fields that a rejected command writes beside its own. -/
def rejectFields : List (Nat × Fld) := [(Pg.TWOWIRE, ⟨Reg.TWOWIRE.STATUS_LATCHED.off, 2, 2, 0⟩), (Pg.TWOWIRE, ⟨0x008, 1, 1, 0⟩)]

theorem onlyBits_cmdReject (s : State) : onlyBits s (cmdReject s) rejectFields [] := by
  unfold cmdReject
  refine onlyBits.event (onlyBits.latch (onlyBits.refl s) ?_) ?_ <;> decide

theorem onlyAlert_cmdReject (h : onlyAlert s t) : onlyAlert s (cmdReject t) :=
  onlyAlert.put (.latch h 2)

theorem getBit_latch_same (s : State) (k : Nat) (hk : k < 4) : (s.latch k).getBit Pg.TWOWIRE Reg.TWOWIRE.STATUS_LATCHED k = true := by
  have set : (s.putBit Pg.TWOWIRE Reg.TWOWIRE.STATUS_LATCHED k true).getBit Pg.TWOWIRE Reg.TWOWIRE.STATUS_LATCHED k = true := by
    rw [State.getBit, State.putBit, State.get_put_same _ _ _ _ le_rfl (by simp; omega)]
    simp [Fld.width, b2n]
  unfold State.latch
  split
  · assumption
  · dsimp only
    split
    · exact set
    · exact set

theorem cmdReject_marks (s : State) : (cmdReject s).getBit Pg.TWOWIRE Reg.TWOWIRE.STATUS_LATCHED 2 = true ∧
    (cmdReject s).get Pg.TWOWIRE ⟨0x008, 1, 1, 0⟩ = 1 := by
  refine ⟨?_, get_event_same _ _ _ (by decide)⟩
  rw [State.getBit, cmdReject, State.event, State.get_put_ne _ _ (by decide)]
  exact getBit_latch_same s 2 (by decide)

theorem onlyBits_discardCounted (s : State) (l : List Nat) :
    onlyBits s (discardCounted s l) [(Pg.TWOWIRE, Reg.TWOWIRE.CMD_BAD), (Pg.TWOWIRE, Reg.TWOWIRE.PEC_ERR)] [] := by
  unfold discardCounted
  refine onlyBits.bump (.ite (onlyBits.bump (onlyBits.refl s) ?_) (onlyBits.refl s)) ?_ <;> decide

theorem onlyBits_discardNoted (u : State) (l : List Nat) : onlyBits u (discardNoted u l) [(Pg.TWOWIRE, Reg.TWOWIRE.LAST_CMD)] [] := by
  unfold discardNoted
  refine onlyBits.put (onlyBits.put (onlyBits.refl u) ?_) ?_ <;> decide

theorem discardCounted_counts (s : State) (l : List Nat) :
    (discardCounted s l).get Pg.TWOWIRE Reg.TWOWIRE.CMD_BAD = min (2 ^ 32 - 1) (s.get Pg.TWOWIRE Reg.TWOWIRE.CMD_BAD + 1) ∧
    (discardCounted s l).get Pg.TWOWIRE Reg.TWOWIRE.PEC_ERR =
      if pecFailed s l then min (2 ^ 32 - 1) (s.get Pg.TWOWIRE Reg.TWOWIRE.PEC_ERR + 1) else s.get Pg.TWOWIRE Reg.TWOWIRE.PEC_ERR := by
  unfold discardCounted
  constructor
  · refine (get_bump_word _ _ _ _).trans ?_
    split
    · exact congrArg (fun n => min (2 ^ 32 - 1) (n + 1)) (get_bump_ne _ (by decide))
    · rfl
  · rw [get_bump_ne _ (by decide)]
    split
    · exact get_bump_word _ _ _ _
    · rfl

theorem discardNoted_last (u : State) (l : List Nat) :
    (discardNoted u l).get Pg.TWOWIRE Reg.TWOWIRE.LAST_CMD_WORD = commandWord l ∧
      (discardNoted u l).get Pg.TWOWIRE Reg.TWOWIRE.LAST_CMD_RESULT = 2 := by
  have small : commandWord l < 2 ^ 16 := by unfold commandWord; omega
  unfold discardNoted
  constructor
  · refine (State.get_put_field _ 2 (p := Pg.TWOWIRE) (f := Reg.TWOWIRE.LAST_CMD_RESULT) (f' := Reg.TWOWIRE.LAST_CMD_WORD) rfl (by decide) (by decide) (by decide) (by decide)).trans ?_
    exact (State.get_put_same _ _ _ _ (by decide) (by decide)).trans (Nat.mod_eq_of_lt small)
  · exact State.get_put_same _ _ _ _ (by decide) (by decide)

theorem onlyRegs_discard (s : State) (l : List Nat) : onlyRegs s (discardNoted (discardCounted s l) l) :=
  have counted : onlyRegs s (discardCounted s l) := onlyRegs.put (.ite (onlyRegs.put rfl) rfl)
  .put (.put counted)

/-- Nothing changes but the registers and what the port sends. -/
abbrev onlyWire (s t : State) : Prop := { t with regs := s.regs, reply := s.reply } = s

theorem onlyWire_sendWire (s : State) (l : List Nat) : onlyWire s (sendWire s l) := rfl

theorem onlyWire.put {p x : Nat} {f : Fld} (h : onlyWire s t) : onlyWire s (t.put p f x) := h

theorem onlyWire.field {α : Type} (h : onlyWire s t) (g : State → α) : g { t with regs := s.regs, reply := s.reply } = g s := congrArg g h

theorem onlyWire.sameOuter (h : onlyWire s t) : sameOuter s t :=
  ⟨h.field State.pending, h.field State.powered, h.field State.otpA, h.field State.otpB⟩

theorem onlyWire.room (h : onlyWire s t) (room : logRoom s 0) : logRoom t 0 :=
  room.same (h.field State.log) (congrArg FaultState.logPending (h.field State.fault))

theorem get_sendWire (s : State) (l : List Nat) (p : Nat) (f : Fld) : (sendWire s l).get p f = s.get p f := State.get_congr p f rfl

theorem onlyBits_sendWire (s : State) (l : List Nat) : onlyBits s (sendWire s l) [] [] := (onlyBits.refl s).regs rfl

/-- What is sent ends with its check byte where PEC_EN = 1. -/
theorem withPec_eq (s : State) (head : Nat) (bytes : List Nat) :
    withPec s head bytes = bytes ++ (if s.flag Pg.TWOWIRE Reg.TWOWIRE.CFG_PEC_EN then [crc8 (head :: bytes)] else []) := by
  unfold withPec
  split
  · rfl
  · exact (List.append_nil _).symm

theorem reply_put (s : State) (p x : Nat) (f : Fld) : (s.put p f x).reply = s.reply := rfl

/-- The status word sent and counted. -/
def statusSent (s : State) : State :=
  (sendWire s (withPec s (ownAddr s 1) [statusWord s / 256 % 256, statusWord s % 256])).bump Pg.TWOWIRE Reg.TWOWIRE.READS

theorem statusRead_eq (h : s.reducedOrLater = true) : statusRead s = statusSent s := by
  unfold statusRead
  rw [h, Bool.true_or, if_pos rfl]
  rfl

theorem wire_statusSent (s : State) : (statusSent s).reply.wire = [statusWord s / 256 % 256, statusWord s % 256] ++
    (if s.flag Pg.TWOWIRE Reg.TWOWIRE.CFG_PEC_EN then [crc8 [(0x40 + s.strap) * 2 + 1, statusWord s / 256 % 256, statusWord s % 256]] else []) :=
  withPec_eq s _ _

theorem reads_statusSent (s : State) : (statusSent s).get Pg.TWOWIRE Reg.TWOWIRE.READS = min (2 ^ 32 - 1) (s.get Pg.TWOWIRE Reg.TWOWIRE.READS + 1) :=
  (get_bump_word _ _ _ _).trans (congrArg (fun n => min (2 ^ 32 - 1) (n + 1)) (get_sendWire _ _ _ _))

theorem onlyBits_statusSent (s : State) : onlyBits s (statusSent s) [(Pg.TWOWIRE, Reg.TWOWIRE.READS)] [] :=
  onlyBits.bump ((onlyBits_sendWire s _).weaken (List.nil_subset _) (List.Subset.refl _)) (by decide)

theorem alertRead_eq (h : s.reducedOrLater = true) (alert : s.alert = true) :
    alertRead s true = { sendWire s (withPec s 0x19 [ownAddr s 0]) with alert := false } := by
  simp [alertRead, h, alert]

theorem alertRead_lost (s : State) : alertRead s false = s := by
  unfold alertRead
  rw [Bool.and_false]
  rfl

/-- A controller's bus timeout counted. -/
def timeoutCounted (s : State) : State := arbLost ((s.bump Pg.TWOWIRE Reg.TWOWIRE.BUS_TIMEOUT).event Pg.TWOWIRE 3)

theorem busTimeout_eq (h : s.reducedOrLater = true) (busy : s.fault.crier ≠ [] ∨ 0 < s.backup.tries) :
    busTimeout s true = timeoutCounted s := by
  have busy' : controllerBusy s = true := by
    simp only [controllerBusy, h, Bool.true_and, Bool.or_eq_true, Bool.not_eq_true', List.isEmpty_eq_false_iff, decide_eq_true_eq]
    exact busy
  simp only [busTimeout, busy', Bool.and_self, if_true]
  rfl

theorem timeoutCounted_counts (s : State) :
    (timeoutCounted s).get Pg.TWOWIRE Reg.TWOWIRE.BUS_TIMEOUT = min (2 ^ 32 - 1) (s.get Pg.TWOWIRE Reg.TWOWIRE.BUS_TIMEOUT + 1) ∧
    (timeoutCounted s).get Pg.TWOWIRE Reg.TWOWIRE.ARB_LOST = min (2 ^ 32 - 1) (s.get Pg.TWOWIRE Reg.TWOWIRE.ARB_LOST + 1) ∧
    (timeoutCounted s).get Pg.TWOWIRE ⟨0x008, 2, 2, 0⟩ = 1 ∧ (timeoutCounted s).get Pg.TWOWIRE ⟨0x008, 3, 3, 0⟩ = 1 := by
  unfold timeoutCounted arbLost
  refine ⟨?_, ?_, get_event_same _ _ _ (by decide), ?_⟩
  · rw [get_event_ne _ (by decide), get_bump_ne _ (by decide), get_event_ne _ (by decide)]
    exact get_bump_word _ _ _ _
  · rw [get_event_ne _ (by decide)]
    refine (get_bump_word _ _ _ _).trans (congrArg (fun n => min (2 ^ 32 - 1) (n + 1)) ?_)
    rw [get_event_ne _ (by decide), get_bump_ne _ (by decide)]
  · exact (State.get_put_field _ 1 (p := Pg.TWOWIRE) (f := ⟨0x008, 2, 2, 0⟩) (f' := ⟨0x008, 3, 3, 0⟩) rfl le_rfl (by decide) le_rfl
      (.inr (by decide))).trans ((get_bump_ne _ (by decide)).trans (get_event_same _ _ _ (by decide)))

theorem onlyRegs_timeoutCounted (s : State) : onlyRegs s (timeoutCounted s) := onlyRegs.put (.put (.put (.put rfl)))

theorem onlyBits_timeoutCounted (s : State) : onlyBits s (timeoutCounted s) [(Pg.TWOWIRE, Reg.TWOWIRE.BUS_TIMEOUT),
    (Pg.TWOWIRE, Reg.TWOWIRE.ARB_LOST), (Pg.TWOWIRE, ⟨0x008, 2, 2, 0⟩), (Pg.TWOWIRE, ⟨0x008, 3, 3, 0⟩)] [] := by
  unfold timeoutCounted arbLost
  refine onlyBits.event (onlyBits.bump (onlyBits.event (onlyBits.bump (onlyBits.refl s) ?_) ?_) ?_) ?_ <;> decide

/-- A command that leaves the state as it is. -/
theorem gives_nothing {c : Instr} (hx : exec c s = finish s s) (room : logRoom s 0) :
    gives c s (fun t => onlyBits s t [] [] ∧ { t with regs := s.regs } = s) :=
  gives_finish _ hx rfl (sameOuter.refl s) room ⟨onlyBits.refl s, rfl⟩

/-- A discarded transfer, counted and noted. -/
structure Discarded (s t : State) (l : List Nat) : Prop where
  word : t.get Pg.TWOWIRE Reg.TWOWIRE.LAST_CMD_WORD = commandWord l
  result : t.get Pg.TWOWIRE Reg.TWOWIRE.LAST_CMD_RESULT = 2
  count : t.get Pg.TWOWIRE Reg.TWOWIRE.CMD_BAD = min (2 ^ 32 - 1) (s.get Pg.TWOWIRE Reg.TWOWIRE.CMD_BAD + 1)
  pec : t.get Pg.TWOWIRE Reg.TWOWIRE.PEC_ERR =
    if pecFailed s l then min (2 ^ 32 - 1) (s.get Pg.TWOWIRE Reg.TWOWIRE.PEC_ERR + 1) else s.get Pg.TWOWIRE Reg.TWOWIRE.PEC_ERR
  latched : t.getBit Pg.TWOWIRE Reg.TWOWIRE.STATUS_LATCHED 2 = true
  event : t.get Pg.TWOWIRE ⟨0x008, 1, 1, 0⟩ = 1
  bits : onlyBits s t ([(Pg.TWOWIRE, Reg.TWOWIRE.LAST_CMD), (Pg.TWOWIRE, Reg.TWOWIRE.CMD_BAD), (Pg.TWOWIRE, Reg.TWOWIRE.PEC_ERR)] ++ rejectFields) []

theorem discarded_discardCommand (s : State) (l : List Nat) : Discarded s (discardCommand s l) l := by
  obtain ⟨latched, event⟩ := cmdReject_marks (discardNoted (discardCounted s l) l)
  obtain ⟨count, pec⟩ := discardCounted_counts s l
  obtain ⟨word, result⟩ := discardNoted_last (discardCounted s l) l
  have counted := onlyBits_discardCounted s l
  have noted := onlyBits_discardNoted (discardCounted s l) l
  have rejected := onlyBits_cmdReject (discardNoted (discardCounted s l) l)
  rw [discardCommand_eq]
  refine ⟨?_, ?_, ?_, ?_, latched, event, ?_⟩
  · exact (rejected.get_apart (by decide) List.not_mem_nil (by decide) (by decide)).trans word
  · exact (rejected.get_apart (by decide) List.not_mem_nil (by decide) (by decide)).trans result
  · exact ((rejected.get_apart (by decide) List.not_mem_nil (by decide) (by decide)).trans
      (noted.get_apart (by decide) List.not_mem_nil (by decide) (by decide))).trans count
  · exact ((rejected.get_apart (by decide) List.not_mem_nil (by decide) (by decide)).trans
      (noted.get_apart (by decide) List.not_mem_nil (by decide) (by decide))).trans pec
  · exact ((counted.weaken (by decide) (List.Subset.refl _)).trans (noted.weaken (by decide) (List.Subset.refl _))).trans
      (rejected.weaken (by decide) (List.Subset.refl _))

/-- An event that does not come about leaves the state as it is. -/
theorem gives_untaken {c : Instr} {b : Bool} {act : State → State} (hx : exec c s = takes s b act) (hb : b = false) :
    gives c s (fun t => onlyBits s t [] [] ∧ { t with regs := s.regs } = s) := by
  refine ⟨s, ?_, onlyBits.refl s, rfl⟩
  rw [hx, takes, hb]
  rfl

end Sys2Proof.Machine

open Sys2Proof Sys2Proof.Machine

/-- Settles O59: what is sent is read off, each counter and mark written once. -/
theorem theTwoWirePort : Obligations.TheTwoWirePort := by
  unfold Obligations.TheTwoWirePort
  refine ⟨?_, ?_, ?_, ?_, ?_, ?_, ?_⟩
  · intro s reduced room
    have sent : onlyWire s (statusSent s) := .put (onlyWire_sendWire s _)
    exact gives_finish _ (c := .twowireStatusRead) rfl (congrArg (finish s) (statusRead_eq reduced)) sent.sameOuter (sent.room room)
      ⟨wire_statusSent s, fun i hi => nth_of_length_le _ _ _ hi, reads_statusSent s, onlyBits_statusSent s, sent⟩
  · intro s l late reduced bad room
    obtain ⟨word, result, count, pec, latched, event, bits⟩ := discarded_discardCommand s l
    have rest : onlyAlert s (discardCommand s l) := onlyAlert_cmdReject (onlyAlert_of_regs (onlyRegs_discard s l))
    obtain ⟨outer, room'⟩ := rest.kept room
    exact gives_takes _ (c := .twowireCmdDiscard l late) (act := fun s => discardCommand s l) rfl rfl (by rw [reduced, bad]; rfl) outer room'
      ⟨word, result, count, pec, latched, event, bits, rest⟩
  · intro s l late reduced good room
    exact gives_untaken (c := .twowireCmdDiscard l late) (act := fun s => discardCommand s l) rfl (by rw [good, Bool.and_false])
  · intro s v reach room
    obtain ⟨t, r, write, set⟩ := writeReg_twStatus reach v
    refine gives_hostWrite (page := Pg.TWOWIRE) (off := 0x04C) (b := true) rfl rfl write set.regs.sameOuter (set.regs.room room)
      ⟨?_, set.bits, set.regs⟩
    have small : s.get Pg.TWOWIRE Reg.TWOWIRE.STATUS_LATCHED % 16 = s.get Pg.TWOWIRE Reg.TWOWIRE.STATUS_LATCHED := by
      simp only [State.get, bitsOf]; omega
    have cleared := latched_cleared (s.get Pg.TWOWIRE Reg.TWOWIRE.STATUS_LATCHED) v
    rw [small] at cleared
    exact set.get.trans cleared
  · intro s won reduced alert room
    cases won with
    | false =>
      exact gives_finish _ (c := .alertResponseRead false) rfl (congrArg (finish s) (alertRead_lost s)) (sameOuter.refl s) room
        ⟨alert, fun h => absurd h (by decide), onlyBits.refl s, rfl⟩
    | true =>
      exact gives_finish _ (c := .alertResponseRead true) rfl (congrArg (finish s) (alertRead_eq reduced alert)) ⟨rfl, rfl, rfl, rfl⟩ room
        ⟨rfl, fun _ => withPec_eq s _ _, (onlyBits.refl s).regs rfl, rfl⟩
  · intro s reduced busy room
    obtain ⟨count, lost, e2, e3⟩ := timeoutCounted_counts s
    exact gives_finish _ (c := .twowireBusTimeout true) rfl (congrArg (finish s) (busTimeout_eq reduced busy))
      (onlyRegs_timeoutCounted s).sameOuter ((onlyRegs_timeoutCounted s).room room)
      ⟨count, lost, e2, e3, onlyBits_timeoutCounted s, onlyRegs_timeoutCounted s⟩
  · intro s room
    exact gives_nothing (c := .twowireBusTimeout false) rfl room

end
section
/-! PROOF. The transit's edges, its match window, contention, MARK and PERIOD (R82 to R89). -/

namespace Sys2Proof.Machine

variable {s t u : State} {e : Int}

/-! ### The match window -/

/-- A word of 16 bits holds a small integer. -/
theorem signed_unsigned_16 (range : -(2 ^ 15) < e ∧ e < 2 ^ 15) : signed 16 (unsigned 16 e % 2 ^ 16) = e := by
  unfold signed unsigned
  split <;> omega

/-- A field that holds an integer that fits its width reads it back. -/
theorem geti_puti_16 (s : State) (p off r : Nat) (small : absI e < 2 ^ 15) : (s.puti p ⟨off, 15, 0, r⟩ e).geti p ⟨off, 15, 0, r⟩ = e := by
  have same : (s.puti p ⟨off, 15, 0, r⟩ e).get p ⟨off, 15, 0, r⟩ = unsigned 16 e % 2 ^ 16 :=
    State.get_put_same _ _ _ _ (Nat.zero_le _) (show 15 < 32 by decide)
  have range : -(2 ^ 15) < e ∧ e < 2 ^ 15 := by
    unfold absI at small
    split at small <;> omega
  rw [State.geti, same]
  exact signed_unsigned_16 range

/-- The registers that a matched edge writes, before REALIGNING. -/
def errorShown (s : State) (e : Int) : State :=
  let v := s.puti Pg.TRANSIT Reg.TRANSIT.SKEW_ERROR e
  (v.put Pg.TRANSIT Reg.TRANSIT.SKEW_MAX_ABS (max (v.get Pg.TRANSIT Reg.TRANSIT.SKEW_MAX_ABS) (satNat 16 (absI e).toNat))).putb Pg.TRANSIT
    Reg.TRANSIT.STATUS_FREEWHEEL false

/-- The fields of a matched edge within the window. -/
def matchFields : List (Nat × Fld) := [(Pg.TRANSIT, Reg.TRANSIT.SKEW_ERROR), (Pg.TRANSIT, Reg.TRANSIT.SKEW_MAX_ABS),
  (Pg.TRANSIT, Reg.TRANSIT.STATUS_FREEWHEEL), (Pg.TRANSIT, Reg.TRANSIT.STATUS_REALIGNING)]

theorem onlyBits_errorShown (s : State) (e : Int) : onlyBits s (errorShown s e) matchFields [] := by
  unfold errorShown
  refine onlyBits.putb (onlyBits.put (onlyBits.puti (onlyBits.refl s) ?_) ?_) ?_ <;> decide

theorem onlyRegs_errorShown (s : State) (e : Int) : onlyRegs s (errorShown s e) := .put (.put (.put rfl))

theorem error_errorShown (s : State) (small : absI e < 2 ^ 15) : (errorShown s e).geti Pg.TRANSIT Reg.TRANSIT.SKEW_ERROR = e := by
  have kept : (errorShown s e).get Pg.TRANSIT Reg.TRANSIT.SKEW_ERROR =
      (s.puti Pg.TRANSIT Reg.TRANSIT.SKEW_ERROR e).get Pg.TRANSIT Reg.TRANSIT.SKEW_ERROR := by
    unfold errorShown
    exact (State.get_put_ne _ _ (by decide)).trans (State.get_put_ne _ _ (by decide))
  rw [State.geti, kept]
  exact geti_puti_16 s _ _ _ small

/-- The transit's state after a matched edge within the window. -/
def inWindow (x : TransitState) (e : Int) : TransitState :=
  { x with
    closed := true, edge := none, nextAdjust := clampInt (-64) 64 e, inWindowRun := x.inWindowRun + 1
    episode := x.episode && decide (x.inWindowRun + 1 < 8), missedRun := 0 }

/-- A matched edge within the window, once shown. -/
def edgeTaken (s : State) (e : Int) : State :=
  ({ errorShown s e with transit := inWindow s.transit e }).putb Pg.TRANSIT Reg.TRANSIT.STATUS_REALIGNING (inWindow s.transit e).episode

theorem closeMatch_eq (edge : s.transit.edge = some e) (small : absI e ≤ s.get Pg.TRANSIT Reg.TRANSIT.ALIGN_CFG_SKEW_WIN) :
    closeMatch s = edgeTaken s e := by
  have win : (errorShown s e).get Pg.TRANSIT Reg.TRANSIT.ALIGN_CFG_SKEW_WIN = s.get Pg.TRANSIT Reg.TRANSIT.ALIGN_CFG_SKEW_WIN :=
    (onlyBits_errorShown s e).get_apart (by decide) List.not_mem_nil (by decide) (by decide)
  have within : absI e ≤ ((errorShown s e).get Pg.TRANSIT Reg.TRANSIT.ALIGN_CFG_SKEW_WIN : Int) := win ▸ small
  unfold closeMatch
  dsimp only
  rw [edge]
  exact if_pos within

theorem get_withTransit (v : State) (x : TransitState) (p : Nat) (f : Fld) : ({ v with transit := x } : State).get p f = v.get p f :=
  State.get_congr p f rfl

theorem rest_withTransit {v : State} (h : onlyRegs s v) (x : TransitState) (p : Nat) (f : Fld) (b : Bool) :
    { State.putb { v with transit := x } p f b with regs := s.regs, transit := s.transit } = s :=
  congrArg (fun y : State => { y with transit := s.transit }) h

theorem edgeTaken_rest (s : State) (e : Int) : { edgeTaken s e with regs := s.regs, transit := s.transit } = s :=
  rest_withTransit (onlyRegs_errorShown s e) _ _ _ _

theorem kept_of_transit (rest : { t with regs := s.regs, transit := s.transit } = s) (room : logRoom s 0) : sameOuter s t ∧ logRoom t 0 := by
  have field {α : Type} (g : State → α) : g { t with regs := s.regs, transit := s.transit } = g s := congrArg g rest
  exact ⟨⟨field State.pending, field State.powered, field State.otpA, field State.otpB⟩,
    room.same (field State.log) (congrArg FaultState.logPending (field State.fault))⟩

theorem transit_edgeTaken (s : State) (e : Int) : (edgeTaken s e).transit.edge = none ∧ (edgeTaken s e).transit.missedRun = 0 ∧
    (edgeTaken s e).transit.nextAdjust = clampInt (-64) 64 e := by
  unfold edgeTaken
  generalize errorShown s e = v
  exact ⟨rfl, rfl, rfl⟩

theorem error_edgeTaken (s : State) (small : absI e < 2 ^ 15) : (edgeTaken s e).geti Pg.TRANSIT Reg.TRANSIT.SKEW_ERROR = e := by
  have kept : (edgeTaken s e).get Pg.TRANSIT Reg.TRANSIT.SKEW_ERROR = (errorShown s e).get Pg.TRANSIT Reg.TRANSIT.SKEW_ERROR :=
    (State.get_put_ne _ _ (by decide)).trans (get_withTransit _ _ _ _)
  rw [State.geti, kept]
  exact error_errorShown s small

theorem onlyBits_edgeTaken (s : State) (e : Int) : onlyBits s (edgeTaken s e) matchFields [] :=
  onlyBits.putb ((onlyBits_errorShown s e).regs rfl) (by decide)

/-! ### Contention -/

/-- Contention seen and shown. -/
def contends (s : State) : State :=
  State.putb { s with transit := { s.transit with contention := 2 } } Pg.TRANSIT Reg.TRANSIT.STATUS_CONTENTION true

theorem contentionCheck_eq (once : s.transit.contention = 1) (loud : s.transit.quietUntilUs ≤ s.rcUs) :
    contentionCheck s true = raise (contends s) Pg.TRANSIT Kind.TRANSIT_SKEW 3 := by
  simp only [contentionCheck, once, if_true]
  exact if_neg (Nat.not_lt.mpr loud)

theorem onlyBits_contends (s : State) : onlyBits s (contends s) [(Pg.TRANSIT, Reg.TRANSIT.STATUS_CONTENTION)] [] :=
  onlyBits.putb ((onlyBits.refl s).regs rfl) (by decide)

theorem contention_contends (s : State) : (contends s).flag Pg.TRANSIT Reg.TRANSIT.STATUS_CONTENTION = true :=
  flag_putb_same _ _ _ _ rfl (by decide)

/-- After the transit's own part, a message leaves everything else but for its reaction. -/
theorem onlyReaction_contends {E : Nat → Prop} (held : Held E (contends s) t) : onlyReaction s { t with transit := s.transit } :=
  (congrArg (fun x : State => { x with
    regs := s.regs, log := s.log, fault := s.fault, phases := s.phases, chans := s.chans, alert := s.alert, transit := s.transit })
    held.rest :)

/-! ### PERIOD -/

theorem onlyBits_checkSet {x : State} (j : Nat) (hj : j < 4) (h : onlyBits s x [] [Pg.ESTIM]) : onlyBits s (checkSet x j) [] [Pg.ESTIM] := by
  have valid : covers [] [Pg.ESTIM] Pg.ESTIM (Reg.ESTIM.SET_CFG_VALID.ix j) := by interval_cases j <;> decide
  have fail : covers [] [Pg.ESTIM] Pg.ESTIM (Reg.ESTIM.SET_CFG_FAIL.ix j) := by interval_cases j <;> decide
  have stored : onlyBits s ((x.putb Pg.ESTIM (Reg.ESTIM.SET_CFG_VALID.ix j) (decide (toneCheck x j = 0))).put Pg.ESTIM
      (Reg.ESTIM.SET_CFG_FAIL.ix j) (toneCheck x j)) [] [Pg.ESTIM] := (h.putb valid).put fail
  unfold checkSet
  exact .ite stored (stored.event (by decide))

theorem onlyRegs_checkSet {x : State} (j : Nat) (h : onlyRegs s x) : onlyRegs s (checkSet x j) := by
  unfold checkSet
  exact .ite (.put (.put h)) (.put (.put (.put h)))

theorem onlyBits_checkSets (s : State) : onlyBits s (forIdx 4 s checkSet) [] [Pg.ESTIM] :=
  onlyBits_checkSet 3 (by decide) (onlyBits_checkSet 2 (by decide) (onlyBits_checkSet 1 (by decide) (onlyBits_checkSet 0 (by decide)
    ((onlyBits.refl s).weaken (List.nil_subset _) (List.nil_subset _)))))

theorem onlyRegs_checkSets (s : State) : onlyRegs s (forIdx 4 s checkSet) :=
  onlyRegs_checkSet 3 (onlyRegs_checkSet 2 (onlyRegs_checkSet 1 (onlyRegs_checkSet 0 rfl)))

theorem kindFields_transitCtrl : kindFields .transit 0x040 = [⟨5, 4, .rw, .c, 1, none⟩, ⟨1, 0, .rw, .c, 0, some (0, 2)⟩] := by decide

/-- The tone sets are checked anew where PERIOD changes. -/
theorem actPageWrite_transitCtrl {o page v : Nat} : actPageWrite u (wrAt s o .transit page 0x040 v) =
    if (wrAt s o .transit page 0x040 v).changes Reg.TRANSIT.CTRL_PERIOD then forIdx 4 u checkSet else u := by
  have mark : ¬ (0x040 = Reg.TRANSIT.MARK.off) := by decide
  simp [actPageWrite]

theorem actPageWrite_mark {o page : Nat} : actPageWrite u (wrAt s o .transit page 0x068 1) =
    { u with transit := { u.transit with markPending := true } } := by
  have asked : woBits (kindFields .transit 0x068) 1 ≠ 0 := by decide
  simp [actPageWrite, asked]

theorem rulePage_transit {off v o : Nat} (map : ¬ (0x014 ≤ off ∧ off ≤ 0x01C)) :
    rulePage s (wrAt s o .transit Pg.TRANSIT off v) = ruleTransit s (wrAt s o .transit Pg.TRANSIT off v) := by
  rw [rulePage, wrAt_off, if_neg map]
  rfl

/-- The period's new value with the tone sets checked anew. -/
theorem writeReg_period {v : Nat} (reach : reachable s (Pg.TRANSIT * 0x400 + 0x040) = true) (key : keySeq s Pg.TRANSIT = none)
    (unlocked : lockState s Pg.TRANSIT = 0) (off : s.allOff = true)
    (ranges : rangesOk (fieldsAt Pg.TRANSIT 0x040) (withField s Pg.TRANSIT Reg.TRANSIT.CTRL_PERIOD v) = true) (room : logRoom s 1) :
    ∃ u r, (Machine.writeReg s Org.HOST (Pg.TRANSIT * 0x400 + 0x040) (withField s Pg.TRANSIT Reg.TRANSIT.CTRL_PERIOD v) = (u, r) ∨
        Machine.writeReg s Org.HOST (Pg.TRANSIT * 0x400 + 0x040) (withField s Pg.TRANSIT Reg.TRANSIT.CTRL_PERIOD v) = (forIdx 4 u checkSet, r)) ∧
      Stored s u Pg.TRANSIT Reg.TRANSIT.CTRL_PERIOD v := by
  have small : withField s Pg.TRANSIT Reg.TRANSIT.CTRL_PERIOD v < 2 ^ 32 := withField_lt _ _ _ (by decide) (by decide)
  have comes : Comes s Org.HOST .transit Pg.TRANSIT 0x040 (withField s Pg.TRANSIT Reg.TRANSIT.CTRL_PERIOD v) :=
    ⟨rfl, by decide, by decide, small, reach, by decide, by decide, fun h => absurd h (by decide), fun _ => key⟩
  have new : (wrAt s Org.HOST .transit Pg.TRANSIT 0x040 (withField s Pg.TRANSIT Reg.TRANSIT.CTRL_PERIOD v)).new =
      withField s Pg.TRANSIT Reg.TRANSIT.CTRL_PERIOD v :=
    new_withField rfl (by decide) (by decide) (by decide) (by decide)
  have rule : rulePage s (wrAt s Org.HOST .transit Pg.TRANSIT 0x040 (withField s Pg.TRANSIT Reg.TRANSIT.CTRL_PERIOD v)) = .take := by
    rw [rulePage_transit (by decide), ruleTransit]
    simp [Wr.need, off]
  rcases comes.storeField (f := Reg.TRANSIT.CTRL_PERIOD) (mayWrite_host s _) (lockRefuses_of_unlocked unlocked rfl) (by decide) rule
    (by rw [new, ← fieldsAt_of_kind (page := Pg.TRANSIT) rfl]; exact ranges) rfl (by decide) new (by decide) (by decide) (by decide) (by decide)
    room with ⟨u, write, stored, -⟩ | ⟨write, stored, -⟩
  · rw [actPageWrite_transitCtrl] at write
    refine ⟨u, .ok, ?_, stored⟩
    split at write
    · exact .inr write
    · exact .inl write
  · exact ⟨s, .same, .inl write, stored⟩

/-- The new period beside the checked tone sets. -/
theorem period_checked {v : Nat} (h : Stored s u Pg.TRANSIT Reg.TRANSIT.CTRL_PERIOD v) (only : onlyRegs u t)
    (bits : onlyBits u t [] [Pg.ESTIM]) : t.get Pg.TRANSIT Reg.TRANSIT.CTRL_PERIOD = v % 4 ∧
      onlyBits s t [(Pg.TRANSIT, Reg.TRANSIT.CTRL_PERIOD), changeSeq Pg.TRANSIT] [Pg.CHANGELOG, Pg.ESTIM] ∧
      onlyLogged s { t with held := s.held } ∧ sameOuter s t ∧ logRoom t 0 :=
  ⟨(bits.get_apart (by decide) (by decide) (by decide) (by decide)).trans h.get,
    (h.bits.weaken (List.Subset.refl _) (by decide)).trans (bits.weaken (List.nil_subset _) (by decide)),
    (congrArg (fun x : State => { x with regs := s.regs, log := s.log, held := s.held }) only).trans h.rest,
    h.sameOuter.trans only.sameOuter, only.room h.room⟩

end Sys2Proof.Machine

open Sys2Proof Sys2Proof.Machine

/-- Settles O21: each event of the transit writes its own fields and its own state. -/
theorem transitWatchesItsEdges : Obligations.TransitWatchesItsEdges := by
  unfold Obligations.TransitWatchesItsEdges
  refine ⟨?_, ?_, ?_, ?_, ?_⟩
  · intro s d full follower aligned near early opened room
    have matched : matchEdge s d =
        { s with transit := { s.transit with edge := some (d - s.get Pg.TRANSIT Reg.TRANSIT.ALIGN_CFG_DELAY_COMP) } } := by
      simp only [matchEdge, near, full, opened, early, if_true, Bool.not_false, Bool.and_self, decide_true]
    refine gives_takes _ (c := .transitEdge d)
      (act := fun s => if s.flag Pg.TRANSIT Reg.TRANSIT.STATUS_ALIGNED then matchEdge s d else alignEdge s d) rfl rfl
      (by rw [full, follower]; rfl) ?_ ?_ ?_ <;> rw [if_pos aligned, matched]
    · exact ⟨rfl, rfl, rfl, rfl⟩
    · exact room
    · exact ⟨rfl, (onlyBits.refl s).regs rfl, rfl⟩
  · intro s e full follower aligned edge small room
    have narrow : absI e < 2 ^ 15 := by
      have := s.get_lt Pg.TRANSIT Reg.TRANSIT.ALIGN_CFG_SKEW_WIN
      simp only [Fld.width] at this
      omega
    have rest := edgeTaken_rest s e
    obtain ⟨outer, room'⟩ := kept_of_transit rest room
    refine gives_takes _ (c := .transitMatchWindowClose) (act := closeMatch) rfl rfl (by rw [full, follower, aligned]; rfl) ?_ ?_ ?_ <;>
      rw [closeMatch_eq edge small]
    · exact outer
    · exact room'
    · obtain ⟨none, run, adjust⟩ := transit_edgeTaken s e
      exact ⟨error_edgeTaken s narrow, none, run, adjust, onlyBits_edgeTaken s e, rest⟩
  · intro s full source once loud
    have said := raised_raise (p := Pg.TRANSIT) (k := Kind.TRANSIT_SKEW) (a := 3) (onlyBits_contends s) rfl (by decide) (by decide) (by decide)
    refine gives_flush _ (c := .transitContentionCheck true) (act := fun s => contentionCheck s true) rfl rfl (by rw [full, source]; rfl)
      ?_ ?_ <;> rw [contentionCheck_eq once loud]
    · exact sameOuter.trans (t := contends s) ⟨rfl, rfl, rfl, rfl⟩ (sameOuter_raise _ _ _ _)
    · exact ⟨(said.flag _ (by decide) (by decide) (by decide)).trans (contention_contends s), said.said,
        congrArg TransitState.contention (said.held.field State.transit), said.bits, onlyReaction_contends said.held⟩
  · intro s reach key room
    have write := writeReg_command (k := .transit) (v := 1) (o := Org.HOST) (page := Pg.TRANSIT) (off := 0x068) (s := s) rfl (by decide) reach
      (fun _ => key) (by decide) (mayWrite_host s _) (by rw [rulePage_transit (by decide)]; rfl) (.inl (by decide))
    rw [actPageWrite_mark, entered_none ((makesEntry_command (by decide)).trans (by decide))] at write
    exact gives_hostWrite (page := Pg.TRANSIT) (off := 0x068) (b := true) rfl rfl write ⟨rfl, rfl, rfl, rfl⟩ (room.mono (by omega))
      ⟨rfl, ((onlyBits_rewritten s _).weaken (List.nil_subset _) (List.nil_subset _)).regs rfl, rfl⟩
  · intro s v hv reach key unlocked off ranges room
    obtain ⟨u, r, write, stored⟩ := writeReg_period reach key unlocked off ranges room
    have value : v % 4 = v := Nat.mod_eq_of_lt hv
    rcases write with write | write
    · obtain ⟨period, bits, rest, outer, room'⟩ := period_checked stored (t := u) rfl ((onlyBits.refl u).weaken (List.nil_subset _) (List.nil_subset _))
      exact gives_hostField (c := .transitPeriodWrite .host v) (page := Pg.TRANSIT) (f := Reg.TRANSIT.CTRL_PERIOD) rfl (decide_eq_true hv) write outer room' ⟨period.trans value, bits, rest⟩
    · obtain ⟨period, bits, rest, outer, room'⟩ := period_checked stored (onlyRegs_checkSets u) (onlyBits_checkSets u)
      exact gives_hostField (c := .transitPeriodWrite .host v) (page := Pg.TRANSIT) (f := Reg.TRANSIT.CTRL_PERIOD) rfl (decide_eq_true hv) write outer room' ⟨period.trans value, bits, rest⟩

end
section
/-! PROOF. A balance window closes by BAL_CFG as it is in force (R92, R222): where a write of EN waits for the next boundary, the
register shows EN = 1, and the bank has no account yet whose window could close. -/

namespace Sys2Proof.Machine

/-- A device in FULL whose bank 0 has all 1,024 rows of its balance window, and a write of BAL_CFG.EN that waits for the boundary. -/
def enableWaits : State :=
  { (Tests.full.put Pg.LEDGER (Reg.LEDGER.BAL_CFG_EN.ix 0) 1).put Pg.LEDGER (Reg.LEDGER.BAL_STATUS_INCLUDED.ix 0) 1024 with
    held := [(addrOf Pg.LEDGER (Reg.LEDGER.BAL_CFG_EN.ix 0), 0)] }

/-- The rows in the balance window of bank 0 after a command. -/
def rowsIncluded (o : Out) : Nat :=
  match o with
  | .next t => t.get Pg.LEDGER (Reg.LEDGER.BAL_STATUS_INCLUDED.ix 0)
  | _ => 0

theorem rowsIncluded_close : rowsIncluded (exec (.balanceWindowClose 0) enableWaits) = 1024 := by decide +kernel

theorem enableWaits_meets : enableWaits.full = true ∧ enableWaits.flag Pg.LEDGER (Reg.LEDGER.BAL_CFG_EN.ix 0) = true ∧
    2 ^ enableWaits.get Pg.LEDGER (Reg.LEDGER.BAL_CFG_W.ix 0) ≤ enableWaits.get Pg.LEDGER (Reg.LEDGER.BAL_STATUS_INCLUDED.ix 0) := by
  decide +kernel

end Sys2Proof.Machine

open Sys2Proof Sys2Proof.Machine

/-- Refutes O31: a window whose EN waits for the boundary does not close, and INCLUDED stays 1,024. -/
theorem not_checkpointsAreMade : ¬ Obligations.CheckpointsAreMade := by
  unfold Obligations.CheckpointsAreMade
  rintro ⟨-, -, -, h⟩
  obtain ⟨full, enabled, whole⟩ := enableWaits_meets
  obtain ⟨t, e, emptied, -⟩ := h enableWaits 0 full (by decide) enabled whole
  have rows := rowsIncluded_close
  rw [e, rowsIncluded, emptied] at rows
  exact absurd rows (by decide)

end
section
/-! PROOF. The carrier of phase 0 steps the spread spectrum at each of its cycles (R90): where DEPTH is not 0, a switching cycle moves
the transit's own state. -/

namespace Sys2Proof.Machine

/-- A device of one bank in FULL whose phase 0 switches, with spread spectrum of depth 1. -/
def spreadSwitches : State :=
  { (oneBank.put Pg.TRANSIT Reg.TRANSIT.SSC_CFG_DEPTH 1).setPhase 0 { oneBank.phase 0 with switching := true } with
    transit := { oneBank.transit with spread := ⟨0, 1, 0, 0⟩ } }

/-- Has a command moved the spread spectrum of the device above? -/
def spreadMoved (o : Out) : Bool :=
  match o with
  | .next t => decide (t.transit.spread ≠ spreadSwitches.transit.spread)
  | _ => false

theorem spreadMoved_cycle : spreadMoved (exec (.switchingCycle 0 false) spreadSwitches) = true := by decide +kernel

theorem spreadSwitches_meets : spreadSwitches.full = true ∧ (spreadSwitches.phase 0).switching = true ∧ logRoom spreadSwitches 0 := by
  decide +kernel

/-- What changes in registers, phases, channels and the random bits alone keeps the transit's state. -/
theorem transit_of_cycle {s t : State} (h : { t with regs := s.regs, phases := s.phases, chans := s.chans, free := s.free } = s) :
    t.transit = s.transit := (congrArg State.transit h : _)

end Sys2Proof.Machine

open Sys2Proof Sys2Proof.Machine

/-- Refutes O22: a cycle of phase 0 steps the spread spectrum. -/
theorem not_cyclesAndTrips : ¬ Obligations.CyclesAndTrips := by
  unfold Obligations.CyclesAndTrips
  rintro ⟨h, -, -⟩
  obtain ⟨full, switching, room⟩ := spreadSwitches_meets
  obtain ⟨t, e, -, -, -, -, -, -, -, -, rest⟩ := h spreadSwitches 0 false full (by decide) switching room
  have moved := spreadMoved_cycle
  rw [e, spreadMoved, transit_of_cycle rest, decide_eq_true_eq] at moved
  exact moved rfl

end
section
/-! PROOF. A drop-out found at a boundary that leaves a channel no phase takes it to SAFE, and its step closes at that boundary (R118,
R120, R213): the step is among those that ended, beside what a reaction changes. -/

namespace Sys2Proof.Machine

/-- A device of one bank in FULL whose channel 0 runs a step on phase 0 alone, the slow accumulator of the phase at its trip level. -/
def lastPhaseOverloaded : State :=
  let s := (oneBank.put (Pg.CHAN 0) Reg.CHAN.STATUS_STATE Ch.RUN).putb (Pg.CHAN 0) Reg.CHAN.ACC_FLAGS_STEP_ACTIVE true
  (s.putb (Pg.PHASE 1) Reg.PHASE.CTRL_EN false).setPhase 0 { s.phase 0 with acc := 65535 * 20000000 }

theorem endedAfter_slowTrip : endedAfter (exec (.slowLimitTrip 0) lastPhaseOverloaded) = [(0, 1)] := by decide +kernel

theorem lastPhaseOverloaded_meets : lastPhaseOverloaded.full = true ∧ phaseInService lastPhaseOverloaded 0 = true ∧
    slowCause lastPhaseOverloaded 0 = true ∧ lastPhaseOverloaded.flag (Pg.PHASE 0) Reg.PHASE.STATUS_DROPPED = false ∧
    logRoom lastPhaseOverloaded 37 ∧ lastPhaseOverloaded.ended = [] := by decide +kernel

end Sys2Proof.Machine

open Sys2Proof Sys2Proof.Machine

/-- Refutes O23: the slow limit drops the last phase of a channel, and the channel's step has ended. -/
theorem not_phasesDropOut : ¬ Obligations.PhasesDropOut := by
  unfold Obligations.PhasesDropOut
  rintro ⟨-, -, h⟩
  obtain ⟨full, service, cause, first, room, none⟩ := lastPhaseOverloaded_meets
  obtain ⟨t, e, -, -, -, -, -, rest⟩ := h lastPhaseOverloaded 0 full (by decide) service cause first room
  have ended := endedAfter_slowTrip
  rw [e, endedAfter, ended_of_onlyReaction rest, none] at ended
  exact absurd ended (by decide)

end
section
/-! PROOF. Balancing begins once for a connection (R124): a channel that notes it as begun observes no more, whatever BAL_ACTIVE shows. -/

namespace Sys2Proof.Machine

/-- A device of one bank in FULL whose channel 0 has both phases in service and 64 frames observed, balancing noted as begun. -/
def balancingNoted : State :=
  let s := ((oneBank.putb (Pg.PHASE 0) Reg.PHASE.CTRL_EN true).putb (Pg.PHASE 1) Reg.PHASE.CTRL_EN true).putb (Pg.PHASE 0)
    Reg.PHASE.BAL_CFG_EN true
  s.setChan 0 { s.chan 0 with framesSwitching := 64, balStarted := true }

/-- BAL_ACTIVE of phase 0 after a command. -/
def balActive (o : Out) : Bool :=
  match o with
  | .next t => t.flag (Pg.PHASE 0) Reg.PHASE.STATUS_BAL_ACTIVE
  | _ => true

theorem balActive_observed : balActive (exec (.balancingObservationDone 0) balancingNoted) = false := by decide +kernel

theorem balancingNoted_meets : balancingNoted.full = true ∧ balances balancingNoted 0 = true ∧
    64 ≤ (balancingNoted.chan 0).framesSwitching ∧ balancingNoted.flag (Pg.PHASE 0) Reg.PHASE.STATUS_BAL_ACTIVE = false ∧
    logRoom balancingNoted 0 := by decide +kernel

end Sys2Proof.Machine

open Sys2Proof Sys2Proof.Machine

/-- Refutes O24: where balancing is noted as begun the observation's end changes nothing, and BAL_ACTIVE stays 0. -/
theorem not_connectingAndBalancing : ¬ Obligations.ConnectingAndBalancing := by
  unfold Obligations.ConnectingAndBalancing
  rintro ⟨-, -, h⟩
  obtain ⟨full, both, frames, idle, room⟩ := balancingNoted_meets
  obtain ⟨t, e, active, -⟩ := h balancingNoted 0 full (by decide) both frames idle room
  have inactive := balActive_observed
  rw [e, balActive, active] at inactive
  exact absurd inactive (by decide)

end
section
/-! PROOF. A channel short found at a boundary takes the channel to SAFE, and its step closes at that boundary (R147, R213): the step
is among those that ended, beside what a reaction changes. -/

namespace Sys2Proof.Machine

/-- A device of one bank in FULL whose channel 0 has run a step in ZV for 200 ms. -/
def heldAtZero : State :=
  let s := (oneBank.put (Pg.CHAN 0) Reg.CHAN.STATUS_STATE Ch.RUN).putb (Pg.CHAN 0) Reg.CHAN.ACC_FLAGS_STEP_ACTIVE true
  (s.put (Pg.CHAN 0) Reg.CHAN.STATUS_MODE Mode.ZV).setChan 0 { s.chan 0 with zvRun := 200000 }

theorem endedAfter_zvShort : endedAfter (exec (.channelShortZv 0) heldAtZero) = [(0, 1)] := by decide +kernel

theorem heldAtZero_meets : heldAtZero.full = true ∧ heldAtZero.cstate 0 = Ch.RUN ∧ heldAtZero.cmode (heldAtZero.lead 0) = Mode.ZV ∧
    200000 ≤ (heldAtZero.chan (heldAtZero.lead 0)).zvRun * heldAtZero.periodUs ∧ heldAtZero.ended = [] := by decide +kernel

end Sys2Proof.Machine

open Sys2Proof Sys2Proof.Machine

/-- Refutes O27: the short ends the channel's step at the boundary that finds it. -/
theorem not_channelFaultsOfTheirOwn : ¬ Obligations.ChannelFaultsOfTheirOwn := by
  unfold Obligations.ChannelFaultsOfTheirOwn
  rintro ⟨-, h, -⟩
  obtain ⟨full, run, mode, long, none⟩ := heldAtZero_meets
  obtain ⟨t, e, -, -, -, rest⟩ := h heldAtZero 0 full (by decide) run mode long
  have ended := endedAfter_zvShort
  rw [e, endedAfter, ended_of_onlyReaction rest, none] at ended
  exact absurd ended (by decide)

end
section
/-! PROOF. The OTP is programmed (R423, R429 to R432): a command of PROG_CMD begins its operation, and the operation's end shows its
outcome. -/

namespace Sys2Proof.Machine

variable {s t u : State} {o : OtpOp} {v : Nat}

/-! ### An operation begins -/

theorem lockState_of_otpPermitted {key : Nat} (h : otpPermitted s key = true) : lockState s Pg.OTP = 3 := by
  simp only [otpPermitted, Bool.and_eq_true, decide_eq_true_eq] at h
  exact h.1.1.1

theorem otpPermitted_of_not_refused (h : otpRefusal s v = none) : otpPermitted s (v / 2 ^ 16) = true := by
  by_contra denied
  have denied' : otpPermitted s (v / 2 ^ 16) = false := by simpa using denied
  simp [otpRefusal, -Nat.reducePow, denied'] at h

/-- What PROG_CMD reads of a command word: KEY, REGION and OP. -/
def progWord (v : Nat) : Bool :=
  decide (v < 2 ^ 32) && decide (v % 4 ≠ 0) && decide (woBits (kindFields .otp 0x04C) v ≠ 0) &&
    decide (bitsOf (woBits (kindFields .otp 0x04C) v) 1 0 ≠ 0) && commandEntry .otp 0x04C v

theorem writeReg_prog (hv : progWord v = true) (reach : hostReach s Pg.OTP 0x04C) (free : otpRefusal s v = none) (room : logRoom s 1) :
    ∃ u, writeReg s Org.HOST (Pg.OTP * 0x400 + 0x04C) v = (otpStart u v, .ok) ∧ Logged s u Pg.OTP ∧ u.log.fill = s.log.fill + 1 := by
  simp only [progWord, Bool.and_eq_true, decide_eq_true_eq] at hv
  obtain ⟨⟨⟨⟨small, -⟩, asked⟩, op⟩, entry⟩ := hv
  have open3 := lockState_of_otpPermitted (otpPermitted_of_not_refused free)
  have comes : Comes s Org.HOST .otp Pg.OTP 0x04C v := hostComes reach rfl (by decide) (by decide) small
  have lock : lockRefuses s (kindFields .otp 0x04C) (wrAt s Org.HOST .otp Pg.OTP 0x04C v) = false := by
    simp [lockRefuses, factoryField, open3]
  have rule : rulePage s (wrAt s Org.HOST .otp Pg.OTP 0x04C v) = .take := by
    simp [rulePage, ruleOtp, op, Wr.need, free]
  obtain ⟨u, write, logged, fill⟩ := comes.command_logged (mayWrite_host s _) lock (by decide) (by decide) (by decide) rule asked entry room
  refine ⟨u, write.trans ?_, logged, fill⟩
  simp [actPageWrite, actOtp]

theorem otpWord_logged {p : Nat} (h : Logged s u p) (a : Nat) : otpWord u a = otpWord s a := by
  have outer := h.rest.sameOuter
  rw [otpWord, outer.2.2.1, outer.2.2.2]
  rfl

theorem otpContent_logged {p : Nat} (h : Logged s u p) (r : Nat) : otpContent u r = otpContent s r := by
  simp only [otpContent, otpWord_logged h]

/-- An operation begun on a state with its entry made. -/
theorem otpBegin_logged (h : Logged s u Pg.OTP) (op a d : Nat) : (otpBegin u op a d).flag Pg.OTP Reg.OTP.PROG_STATUS_BUSY = true ∧
    onlyBits s (otpBegin u op a d) [(Pg.OTP, Reg.OTP.PROG_STATUS_BUSY), changeSeq Pg.OTP] [Pg.CHANGELOG] ∧
    onlyLogged s { otpBegin u op a d with otpOp := s.otpOp } ∧ sameOuter s (otpBegin u op a d) ∧ logRoom (otpBegin u op a d) 0 := by
  have outer := h.rest.sameOuter
  refine ⟨flag_putb_same _ _ _ _ rfl (by decide), ?_, congrArg (fun x : State => { x with otpOp := s.otpOp }) h.rest, outer, h.room⟩
  refine onlyBits.regs (onlyBits.putb (h.bits.weaken (List.subset_cons_self _ _) (List.Subset.refl _)) ?_) rfl
  exact covers_of_mem (.head _) rfl (by decide) le_rfl le_rfl

/-! ### An operation ends -/

/-- The registers that the end of a programming operation shows. -/
def programShown (s : State) (op pulses : Nat) (bad : Bool) : State :=
  (otpResult ((if op = 1 then s.put Pg.OTP Reg.OTP.PROG_STATUS_PULSES (if bad then 8 else max 1 (min 8 pulses)) else s).bump Pg.OTP
    Reg.OTP.PROG_COUNT) (if bad then 2 else 0)).event Pg.OTP (if bad then 1 else 0)

/-- Was a bit of the data not verified? -/
def progBad (o : OtpOp) (failA failB : List OtpVerify) : Bool :=
  decide (o.data &&& ((verifyOf failA o.addr).1 ||| (verifyOf failA o.addr).2 ||| (verifyOf failB o.addr).1 |||
    (verifyOf failB o.addr).2) ≠ 0)

/-- The arrays with their weak bits after an operation. -/
def withOtp (s : State) (a b wa wb : Table Nat) : State := { s with otpA := a, otpB := b, otpWeakA := wa, otpWeakB := wb }

theorem programDone_shown (s : State) (o : OtpOp) (pulses : Nat) (failA failB : List OtpVerify) :
    ∃ wa wb, programDone s o pulses failA failB = programShown (withOtp s
      (Table.set 0 s.otpA o.addr (programHalf (Table.get 0 s.otpA o.addr) (Table.get 0 s.otpWeakA o.addr) o.data (verifyOf failA o.addr)).1)
      (Table.set 0 s.otpB o.addr (programHalf (Table.get 0 s.otpB o.addr) (Table.get 0 s.otpWeakB o.addr) o.data (verifyOf failB o.addr)).1)
      wa wb) o.op pulses (progBad o failA failB) := by
  unfold programDone progBad
  exact ⟨_, _, rfl⟩

theorem onlyRegs_programShown (s : State) (op pulses : Nat) (bad : Bool) : onlyRegs s (programShown s op pulses bad) :=
  .put (.put (.put (.ite (.put rfl) rfl)))

theorem result_programShown (s : State) (op pulses : Nat) (bad : Bool) :
    (programShown s op pulses bad).get Pg.OTP Reg.OTP.PROG_STATUS_RESULT = if bad then 2 else 0 := by
  have small : (if bad then 2 else 0) % 16 = if bad then 2 else 0 := by cases bad <;> rfl
  unfold programShown otpResult
  cases bad <;> exact (get_event_ne _ (by decide)).trans ((State.get_put_same _ _ _ _ (by decide) (by decide)).trans small)

theorem event_programShown (s : State) (op pulses : Nat) (bad : Bool) :
    (programShown s op pulses bad).get Pg.OTP ⟨0x008, if bad then 1 else 0, if bad then 1 else 0, 0⟩ = 1 :=
  get_event_same _ _ _ (by cases bad <;> decide)

/-- Registers of other fields than the pulses, before RESULT and the event. -/
theorem get_programShown (s : State) (op pulses : Nat) (bad : Bool) (f : Fld) (h : f.off = 0x050 ∨ f.off = 0x05C)
    (hf : f.off = 0x050 → f.lo ≤ f.hi ∧ 3 < f.lo) :
    (programShown s op pulses bad).get Pg.OTP f = ((if op = 1 then s.put Pg.OTP Reg.OTP.PROG_STATUS_PULSES
      (if bad then 8 else max 1 (min 8 pulses)) else s).bump Pg.OTP Reg.OTP.PROG_COUNT).get Pg.OTP f := by
  unfold programShown otpResult
  rw [get_event_ne _ (by simp only [addrOf]; omega)]
  rcases h with h | h
  · exact State.get_put_field _ _ (by simp only [addrOf, h]) (by decide) (by decide) (hf h).1 (.inr (hf h).2)
  · exact State.get_put_ne _ _ (by simp only [addrOf, h]; decide)

theorem count_programShown (s : State) (op pulses : Nat) (bad : Bool) :
    (programShown s op pulses bad).get Pg.OTP Reg.OTP.PROG_COUNT = min (2 ^ 32 - 1) (s.get Pg.OTP Reg.OTP.PROG_COUNT + 1) := by
  rw [get_programShown _ _ _ _ _ (.inr rfl) (fun h => absurd h (by decide))]
  refine (get_bump_word _ _ _ _).trans (congrArg (fun n => min (2 ^ 32 - 1) (n + 1)) ?_)
  split
  · exact State.get_put_ne _ _ (by decide)
  · rfl

theorem busy_programShown (s : State) (op pulses : Nat) (bad : Bool) :
    (programShown s op pulses bad).get Pg.OTP Reg.OTP.PROG_STATUS_BUSY = s.get Pg.OTP Reg.OTP.PROG_STATUS_BUSY := by
  rw [get_programShown _ _ _ _ _ (.inl rfl) (fun _ => by decide), get_bump_ne _ (by decide)]
  split
  · exact State.get_put_field _ _ rfl (by decide) (by decide) (by decide) (.inl (by decide))
  · rfl

theorem pulses_programShown (s : State) (pulses : Nat) : (programShown s 1 pulses true).get Pg.OTP Reg.OTP.PROG_STATUS_PULSES = 8 := by
  rw [get_programShown _ _ _ _ _ (.inl rfl) (fun _ => by decide), get_bump_ne _ (by decide)]
  exact State.get_put_same _ _ _ _ (by decide) (by decide)

theorem onlyBits_programShown (s : State) (op pulses : Nat) (bad : Bool) : onlyBits s (programShown s op pulses bad)
    [(Pg.OTP, Reg.OTP.PROG_STATUS), (Pg.OTP, Reg.OTP.PROG_COUNT), (Pg.OTP, ⟨0x008, if bad then 1 else 0, if bad then 1 else 0, 0⟩)] [] := by
  unfold programShown otpResult
  refine onlyBits.event (onlyBits.put (onlyBits.bump (.ite (onlyBits.put (onlyBits.refl s) ?_) (onlyBits.refl s)) ?_) ?_) ?_ <;>
    cases bad <;> decide

theorem withOtp_get (s : State) (a b wa wb : Table Nat) (p : Nat) (f : Fld) : (withOtp s a b wa wb).get p f = s.get p f :=
  State.get_congr p f rfl

theorem busy_otpIdle (s : State) : (otpIdle s).get Pg.OTP Reg.OTP.PROG_STATUS_BUSY = 0 :=
  State.get_put_same s Pg.OTP Reg.OTP.PROG_STATUS_BUSY 0 (by decide) (by decide)

theorem get_otpIdle (s : State) (f : Fld) (h : addrOf Pg.OTP f ≠ addrOf Pg.OTP Reg.OTP.PROG_STATUS_BUSY) :
    (otpIdle s).get Pg.OTP f = s.get Pg.OTP f := State.get_put_ne s _ h

theorem onlyBits_otpIdle (s : State) : onlyBits s (otpIdle s) [(Pg.OTP, Reg.OTP.PROG_STATUS_BUSY)] [] :=
  (onlyBits.refl s).put (by decide)

/-- The frame of an operation's end. -/
abbrev onlyOtp (s t : State) : Prop :=
  { t with regs := s.regs, otpA := s.otpA, otpB := s.otpB, otpWeakA := s.otpWeakA, otpWeakB := s.otpWeakB, otpOp := s.otpOp } = s

theorem onlyOtp_of_regs {a b wa wb : Table Nat} (h : onlyRegs (withOtp (otpIdle s) a b wa wb) t) : onlyOtp s t :=
  congrArg (fun x : State => { x with
    regs := s.regs, otpA := s.otpA, otpB := s.otpB, otpWeakA := s.otpWeakA, otpWeakB := s.otpWeakB, otpOp := s.otpOp }) h

theorem onlyOtp.room (h : onlyOtp s t) (room : logRoom s 0) : logRoom t 0 :=
  room.same (congrArg State.log h : _) (congrArg FaultState.logPending (congrArg State.fault h : _))

theorem onlyOtp.outer (h : onlyOtp s t) : t.pending = s.pending ∧ t.powered = s.powered :=
  ⟨(congrArg State.pending h : _), (congrArg State.powered h : _)⟩

/-- An operation that ends in FULL. -/
theorem gives_otpDone {P : State → Prop} {pulses : Nat} {failA failB : List OtpVerify} (full : s.full = true) (op : s.otpOp = some o)
    (done : otpDone s o pulses failA failB = t) (rest : onlyOtp s t) (room : logRoom s 0) (p : P t) :
    gives (.otpProgDone pulses failA failB) s P := by
  refine ⟨t, ?_, p⟩
  obtain ⟨pending, powered⟩ := rest.outer
  have run : exec (.otpProgDone pulses failA failB) s = finishOtp s t := by
    show execOtpProgDone pulses failA failB s = _
    rw [execOtpProgDone, op]
    exact (if_pos full).trans (congrArg (finishOtp s) done)
  rw [run, finishOtp, flushLog_room (rest.room room), ← pending, ← powered]

/-- A programming operation that ends: its registers, its word in the arrays, and the rest. -/
structure Programmed (s t : State) (o : OtpOp) (failA failB : List OtpVerify) : Prop where
  otpA : t.otpA = Table.set 0 s.otpA o.addr
    (programHalf (Table.get 0 s.otpA o.addr) (Table.get 0 s.otpWeakA o.addr) o.data (verifyOf failA o.addr)).1
  otpB : t.otpB = Table.set 0 s.otpB o.addr
    (programHalf (Table.get 0 s.otpB o.addr) (Table.get 0 s.otpWeakB o.addr) o.data (verifyOf failB o.addr)).1
  idle : t.otpOp = none
  busy : t.flag Pg.OTP Reg.OTP.PROG_STATUS_BUSY = false
  result : t.get Pg.OTP Reg.OTP.PROG_STATUS_RESULT = if progBad o failA failB then 2 else 0
  event : t.get Pg.OTP ⟨0x008, if progBad o failA failB then 1 else 0, if progBad o failA failB then 1 else 0, 0⟩ = 1
  count : t.get Pg.OTP Reg.OTP.PROG_COUNT = min (2 ^ 32 - 1) (s.get Pg.OTP Reg.OTP.PROG_COUNT + 1)
  pulses : progBad o failA failB = true → o.op = 1 → t.get Pg.OTP Reg.OTP.PROG_STATUS_PULSES = 8
  bits : onlyBits s t [(Pg.OTP, Reg.OTP.PROG_STATUS), (Pg.OTP, Reg.OTP.PROG_COUNT),
    (Pg.OTP, ⟨0x008, if progBad o failA failB then 1 else 0, if progBad o failA failB then 1 else 0, 0⟩)] []
  rest : onlyOtp s t

theorem onlyRegs.otpArrays (h : onlyRegs s t) : t.otpA = s.otpA ∧ t.otpB = s.otpB ∧ t.otpOp = s.otpOp :=
  ⟨h.field State.otpA, h.field State.otpB, h.field State.otpOp⟩

theorem programmed_otpDone (s : State) (pulses : Nat) (failA failB : List OtpVerify) (op : o.op = 1 ∨ o.op = 2) :
    Programmed s (otpDone s o pulses failA failB) o failA failB := by
  have not3 : o.op ≠ 3 := by omega
  rw [otpDone_eq, if_neg not3]
  obtain ⟨wa, wb, shown⟩ := programDone_shown (otpIdle s) o pulses failA failB
  rw [shown]
  generalize hA : Table.set 0 (otpIdle s).otpA o.addr _ = a
  generalize hB : Table.set 0 (otpIdle s).otpB o.addr _ = b
  have only := onlyRegs_programShown (withOtp (otpIdle s) a b wa wb) o.op pulses (progBad o failA failB)
  obtain ⟨arrA, arrB, none⟩ := only.otpArrays
  have idle : (otpIdle s).otpOp = Option.none := rfl
  refine ⟨arrA.trans hA.symm, arrB.trans hB.symm, none.trans idle, ?_, result_programShown _ _ _ _, event_programShown _ _ _ _, ?_, ?_,
    ?_, onlyOtp_of_regs only⟩
  · rw [State.flag, busy_programShown, withOtp_get, busy_otpIdle]
    rfl
  · rw [count_programShown, withOtp_get, get_otpIdle _ _ (by decide)]
  · intro bad one
    rw [bad, one]
    exact pulses_programShown _ _
  · have first : onlyBits s (withOtp (otpIdle s) a b wa wb) [(Pg.OTP, Reg.OTP.PROG_STATUS), (Pg.OTP, Reg.OTP.PROG_COUNT),
        (Pg.OTP, ⟨0x008, if progBad o failA failB then 1 else 0, if progBad o failA failB then 1 else 0, 0⟩)] [] :=
      onlyBits.regs ((onlyBits.refl s).put (by cases progBad o failA failB <;> decide)) rfl
    exact first.trans (onlyBits_programShown _ _ _ _)

/-- Data that every bit verifies are programmed as they are. -/
theorem without_of_apart {d m n : Nat} (hd : d < 2 ^ 32) (h : d &&& (m ||| n) = 0) : without d m = d := by
  refine Nat.eq_of_testBit_eq fun j => ?_
  have bit := congrArg (Nat.testBit · j) h
  simp only [Nat.testBit_and, Nat.testBit_or, Nat.zero_testBit] at bit
  rw [without, Nat.testBit_and, Nat.testBit_xor, Nat.testBit_mod_two_pow, Nat.testBit_two_pow_sub_one]
  by_cases inside : j < 32
  · cases hdj : d.testBit j <;> simp_all
  · have high : d.testBit j = false := Nat.testBit_lt_two_pow (lt_of_lt_of_le hd (Nat.pow_le_pow_right (by decide) (by omega)))
    simp [high]

theorem otpWord_programmed {failA failB : List OtpVerify} (h : Programmed s t o failA failB) (hd : o.data < 2 ^ 32)
    (goodA : o.data &&& ((verifyOf failA o.addr).1 ||| (verifyOf failA o.addr).2) = 0)
    (goodB : o.data &&& ((verifyOf failB o.addr).1 ||| (verifyOf failB o.addr).2) = 0) :
    otpWord t o.addr = (otpWord s o.addr ||| o.data) := by
  rw [otpWord, h.otpA, h.otpB, Table.get_set_same, Table.get_set_same, programHalf, programHalf, without_of_apart hd goodA,
    without_of_apart hd goodB, otpWord]
  refine Nat.eq_of_testBit_eq fun j => ?_
  simp only [Nat.testBit_or]
  cases o.data.testBit j <;> simp

theorem otpWord_programmed_ne {failA failB : List OtpVerify} (h : Programmed s t o failA failB) {a : Nat} (ha : a ≠ o.addr) :
    otpWord t a = otpWord s a := by
  rw [otpWord, h.otpA, h.otpB, Table.get_set_ne _ _ _ _ ha, Table.get_set_ne _ _ _ _ ha]
  rfl

theorem progBad_good {failA failB : List OtpVerify}
    (goodA : o.data &&& ((verifyOf failA o.addr).1 ||| (verifyOf failA o.addr).2) = 0)
    (goodB : o.data &&& ((verifyOf failB o.addr).1 ||| (verifyOf failB o.addr).2) = 0) : progBad o failA failB = false := by
  rw [progBad, decide_eq_false_iff_not, not_not]
  refine Nat.eq_of_testBit_eq fun j => ?_
  have a := congrArg (Nat.testBit · j) goodA
  have b := congrArg (Nat.testBit · j) goodB
  simp only [Nat.testBit_and, Nat.testBit_or, Nat.zero_testBit] at a b ⊢
  cases hd : o.data.testBit j <;> simp_all

/-! ### A margin read -/

/-- The registers that the end of a margin read shows. -/
def marginShown (s : State) (weak : Nat) : State := (otpResult (s.put Pg.OTP Reg.OTP.PROG_STATUS_WEAK weak) 0).event Pg.OTP 0

theorem marginDone_shown (s : State) (r : Nat) (failA failB : List OtpVerify) : marginDone s r failA failB =
    marginShown (withOtp s s.otpA s.otpB (marginHalf s.otpWeakA r failA) (marginHalf s.otpWeakB r failB))
      (satNat 16 (otpWeak (withOtp s s.otpA s.otpB (marginHalf s.otpWeakA r failA) (marginHalf s.otpWeakB r failB)) r)) := rfl

theorem onlyRegs_marginShown (s : State) (weak : Nat) : onlyRegs s (marginShown s weak) := .put (.put (.put rfl))

theorem onlyBits_marginShown (s : State) (weak : Nat) :
    onlyBits s (marginShown s weak) [(Pg.OTP, Reg.OTP.PROG_STATUS), (Pg.OTP, ⟨0x008, 0, 0, 0⟩)] [] := by
  unfold marginShown otpResult
  refine onlyBits.event (onlyBits.put (onlyBits.put (onlyBits.refl s) ?_) ?_) ?_ <;> decide

theorem marginShown_fields (s : State) (weak : Nat) (hw : weak < 2 ^ 16) :
    (marginShown s weak).get Pg.OTP Reg.OTP.PROG_STATUS_RESULT = 0 ∧ (marginShown s weak).get Pg.OTP Reg.OTP.PROG_STATUS_WEAK = weak ∧
      (marginShown s weak).get Pg.OTP Reg.OTP.PROG_STATUS_BUSY = s.get Pg.OTP Reg.OTP.PROG_STATUS_BUSY := by
  unfold marginShown otpResult
  refine ⟨?_, ?_, ?_⟩
  · rw [get_event_ne _ (by decide)]
    exact State.get_put_same _ _ _ _ (by decide) (by decide)
  · rw [get_event_ne _ (by decide), State.get_put_field (f' := Reg.OTP.PROG_STATUS_WEAK) (f := Reg.OTP.PROG_STATUS_RESULT) _ _ rfl (by decide)
      (by decide) (by decide) (.inr (by decide)), State.get_put_same _ _ _ _ (by decide) (by decide)]
    exact Nat.mod_eq_of_lt hw
  · rw [get_event_ne _ (by decide), State.get_put_field (f' := Reg.OTP.PROG_STATUS_BUSY) (f := Reg.OTP.PROG_STATUS_RESULT) _ _ rfl (by decide)
      (by decide) (by decide) (.inr (by decide)), State.get_put_field (f' := Reg.OTP.PROG_STATUS_BUSY) (f := Reg.OTP.PROG_STATUS_WEAK) _ _ rfl
      (by decide) (by decide) (by decide) (.inl (by decide))]

/-- The weak bits depend on the arrays alone. -/
theorem otpWeak_congr (hA : t.otpA = s.otpA) (hB : t.otpB = s.otpB) (wA : t.otpWeakA = s.otpWeakA) (wB : t.otpWeakB = s.otpWeakB)
    (r : Nat) : otpWeak t r = otpWeak s r := by
  simp only [otpWeak, otpPassing, hA, hB, wA, wB]

theorem satNat_16 (n : Nat) : satNat 16 n = min 65535 n := by
  unfold satNat
  split <;> omega

/-- A margin read of a region that ends. -/
def marginEnded (s : State) (r : Nat) (failA failB : List OtpVerify) : State := marginDone (otpIdle s) r failA failB

/-- What the end of a margin read leaves. -/
structure Margined (s t : State) (r : Nat) (failA failB : List OtpVerify) : Prop where
  idle : t.otpOp = none
  busy : t.flag Pg.OTP Reg.OTP.PROG_STATUS_BUSY = false
  result : t.get Pg.OTP Reg.OTP.PROG_STATUS_RESULT = 0
  weakA : t.otpWeakA = marginHalf s.otpWeakA r failA
  weakB : t.otpWeakB = marginHalf s.otpWeakB r failB
  weak : t.get Pg.OTP Reg.OTP.PROG_STATUS_WEAK = min 65535 (otpWeak t r)
  otpA : t.otpA = s.otpA
  otpB : t.otpB = s.otpB
  bits : onlyBits s t [(Pg.OTP, Reg.OTP.PROG_STATUS), (Pg.OTP, ⟨0x008, 0, 0, 0⟩)] []
  rest : { t with regs := s.regs, otpWeakA := s.otpWeakA, otpWeakB := s.otpWeakB, otpOp := s.otpOp } = s

theorem margined_marginEnded (s : State) (r : Nat) (failA failB : List OtpVerify) :
    Margined s (marginEnded s r failA failB) r failA failB := by
  have weakA : (otpIdle s).otpWeakA = s.otpWeakA := rfl
  have weakB : (otpIdle s).otpWeakB = s.otpWeakB := rfl
  have arrA : (otpIdle s).otpA = s.otpA := rfl
  have arrB : (otpIdle s).otpB = s.otpB := rfl
  rw [marginEnded, marginDone_shown, weakA, weakB, arrA, arrB]
  generalize hA : marginHalf s.otpWeakA r failA = wa
  generalize hB : marginHalf s.otpWeakB r failB = wb
  generalize hw : satNat 16 (otpWeak (withOtp (otpIdle s) s.otpA s.otpB wa wb) r) = weak
  have only := onlyRegs_marginShown (withOtp (otpIdle s) s.otpA s.otpB wa wb) weak
  have bits := onlyBits_marginShown (withOtp (otpIdle s) s.otpA s.otpB wa wb) weak
  have shown := marginShown_fields (withOtp (otpIdle s) s.otpA s.otpB wa wb) weak
  generalize marginShown (withOtp (otpIdle s) s.otpA s.otpB wa wb) weak = t at only bits shown ⊢
  have small : weak < 2 ^ 16 := by rw [← hw, satNat_16]; omega
  obtain ⟨result, shownWeak, busy⟩ := shown small
  have gotA : t.otpWeakA = wa := only.field State.otpWeakA
  have gotB : t.otpWeakB = wb := only.field State.otpWeakB
  have sameA : t.otpA = s.otpA := only.field State.otpA
  have sameB : t.otpB = s.otpB := only.field State.otpB
  have idle : t.otpOp = none := only.field State.otpOp
  refine ⟨idle, ?_, result, gotA.trans hA.symm, gotB.trans hB.symm, ?_, sameA, sameB, ?_, ?_⟩
  · rw [State.flag, busy, withOtp_get, busy_otpIdle]
    rfl
  · rw [shownWeak, ← hw, satNat_16, otpWeak_congr (t := t) (s := withOtp (otpIdle s) s.otpA s.otpB wa wb) sameA sameB gotA gotB]
  · have first : onlyBits s (withOtp (otpIdle s) s.otpA s.otpB wa wb)
        [(Pg.OTP, Reg.OTP.PROG_STATUS), (Pg.OTP, ⟨0x008, 0, 0, 0⟩)] [] := onlyBits.regs ((onlyBits.refl s).put (by decide)) rfl
    exact first.trans bits
  · exact (congrArg (fun x : State => { x with
      regs := s.regs, otpWeakA := s.otpWeakA, otpWeakB := s.otpWeakB, otpOp := s.otpOp }) only :)

theorem Margined.onlyOtp {r : Nat} {failA failB : List OtpVerify} (h : Margined s t r failA failB) : onlyOtp s t := by
  exact (congrArg (fun x : State => { x with otpA := s.otpA, otpB := s.otpB }) h.rest :)

/-- The words of PROG_CMD for CRC and MARGIN of a region. -/
theorem progWord_region {r : Nat} (hr : r < 5) : progWord (0x0F7A0002 + 16 * r) = true ∧ progWord (0x0F7A0003 + 16 * r) = true := by
  interval_cases r <;> decide

theorem otpStart_crc {r : Nat} (hr : r < 5) : otpStart u (0x0F7A0002 + 16 * r) =
    otpBegin u 2 (if otpWord u (otpRegion r).2 = 0 then (otpRegion r).2 else (otpRegion r).2 + 1) (crc32Words (otpContent u r)) := by
  have region : bitsOf (0x0F7A0002 + 16 * r) 6 4 = r := by simp only [bitsOf]; omega
  rw [otpStart, region, if_neg (by omega), if_pos (by omega)]

theorem otpStart_margin {r : Nat} (hr : r < 5) : otpStart u (0x0F7A0003 + 16 * r) = otpBegin u 3 r 0 := by
  have region : bitsOf (0x0F7A0003 + 16 * r) 6 4 = r := by simp only [bitsOf]; omega
  rw [otpStart, region, if_neg (by omega), if_neg (by omega)]

end Sys2Proof.Machine

open Sys2Proof Sys2Proof.Machine

/-- Settles O53: a command that nothing refuses begins its operation after its entry; the end programs the word and shows its outcome. -/
theorem theOtpIsProgrammed : Obligations.TheOtpIsProgrammed := by
  unfold Obligations.TheOtpIsProgrammed
  refine ⟨?_, ?_, ?_, ?_, ?_, ?_⟩
  · intro s reach free room
    obtain ⟨u, write, logged, fill⟩ := writeReg_prog (by decide) reach free room
    obtain ⟨busy, bits, rest, outer, room'⟩ := otpBegin_logged logged 1 (u.get Pg.OTP Reg.OTP.PROG_ADDR_ADDR) (u.get Pg.OTP Reg.OTP.PROG_DATA)
    have addr : u.get Pg.OTP Reg.OTP.PROG_ADDR_ADDR = s.get Pg.OTP Reg.OTP.PROG_ADDR_ADDR := logged.get (by decide) (by decide) (by decide)
    have data : u.get Pg.OTP Reg.OTP.PROG_DATA = s.get Pg.OTP Reg.OTP.PROG_DATA := logged.get (by decide) (by decide) (by decide)
    exact gives_finish _ (c := .otpProgWord .host) rfl (congrArg (finish s) ((writeOf_host _ _ _ _).trans (congrArg Prod.fst write))) outer
      room' ⟨fill, by rw [← addr, ← data]; rfl, busy, bits, rest⟩
  · intro s r c hr reach free hc room
    obtain ⟨u, write, logged, fill⟩ := writeReg_prog (progWord_region hr).1 reach free room
    rw [otpStart_crc hr, otpWord_logged logged, otpContent_logged logged, ← hc] at write
    obtain ⟨busy, bits, rest, outer, room'⟩ := otpBegin_logged logged 2 (if otpWord s c = 0 then c else c + 1) (crc32Words (otpContent s r))
    exact gives_hostWrite (page := Pg.OTP) (off := 0x04C) rfl (decide_eq_true (by omega)) write outer room' ⟨fill, rfl, busy, bits, rest⟩
  · intro s r hr reach free room
    obtain ⟨u, write, logged, fill⟩ := writeReg_prog (progWord_region hr).2 reach free room
    rw [otpStart_margin hr] at write
    obtain ⟨busy, bits, rest, outer, room'⟩ := otpBegin_logged logged 3 r 0
    exact gives_hostWrite (page := Pg.OTP) (off := 0x04C) rfl (decide_eq_true (by omega)) write outer room' ⟨fill, rfl, busy, bits, rest⟩
  · intro s o pulses failA failB full op kind small goodA goodB room
    have done := programmed_otpDone s pulses failA failB kind
    have good := progBad_good goodA goodB
    obtain ⟨-, -, idle, busy, result, event, count, -, bits, rest⟩ := id done
    rw [good] at result event bits
    exact gives_otpDone full op rfl rest room ⟨otpWord_programmed done small goodA goodB, fun a ha => otpWord_programmed_ne done ha, idle,
      busy, result, event, count, bits, rest⟩
  · intro s o pulses failA failB full op kind failed room
    have done := programmed_otpDone s pulses failA failB kind
    have bad : progBad o failA failB = true := decide_eq_true failed
    obtain ⟨-, -, idle, busy, result, event, -, eight, bits, rest⟩ := id done
    rw [bad] at result event bits
    exact gives_otpDone full op rfl rest room ⟨idle, busy, result, eight bad, event, fun a ha => otpWord_programmed_ne done ha, bits, rest⟩
  · intro s r pulses failA failB full op room
    have done := margined_marginEnded s r failA failB
    obtain ⟨idle, busy, result, weakA, weakB, weak, otpA, otpB, bits, rest⟩ := id done
    exact gives_otpDone full op (by rw [otpDone_eq, if_pos rfl]; rfl) done.onlyOtp room
      ⟨idle, busy, result, weakA, weakB, weak, otpA, otpB, bits, rest⟩

end
section
/-! PROOF. The housekeeping rails: switching one off or on, its discharge and its slot write the fields of that rail, HK_UP and the
log, and leave the other rails alone. -/

namespace Sys2Proof.Machine

variable {s t u : State} {r j n origin : Nat}

/-! ### A field put with its entry -/

/-- What a field put with its entry leaves. -/
structure PutLogged (s t : State) (p : Nat) (f : Fld) (v : Nat) : Prop where
  bits : onlyBits s t [(p, f), changeSeq p] [Pg.CHANGELOG]
  rest : onlyLogged s t
  get : t.get p f = v % 2 ^ f.width

theorem putLogged_spec {p v : Nat} {f : Fld} (room : logRoom s 1) (lo : f.lo ≤ f.hi) (hi : f.hi < 32) (off : f.off < 0x400)
    (seq : f.off ≠ 0x024) (page : p ≠ Pg.CHANGELOG) : PutLogged s (putLogged s origin p f v) p f v := by
  unfold putLogged
  dsimp only
  split
  case isTrue same =>
    refine ⟨onlyBits.refl s, rfl, ?_⟩
    have put := State.get_put_same s p f v lo hi
    rw [State.get, ← same] at put
    exact put
  case isFalse =>
    have entry := logged_logChange (s := s.put p f v) (o := origin) (page := p) (off := f.off) (old := (s.rd (addrOf p f)).toNat)
      (new := ((s.put p f v).rd (addrOf p f)).toNat) room.put
    have put : onlyBits s (s.put p f v) [(p, f), changeSeq p] [Pg.CHANGELOG] :=
      (onlyBits.refl s).put (covers_of_mem (.head _) rfl ⟨lo, hi⟩ le_rfl le_rfl)
    exact ⟨put.trans (entry.bits.weaken (List.subset_cons_self _ _) (List.Subset.refl _)), onlyLogged.trans (t := s.put p f v) rfl entry.rest,
      (entry.get off page seq).trans (State.get_put_same s p f v lo hi)⟩

/-- A field that already holds the value is not written again. -/
theorem putLogged_same {p v : Nat} {f : Fld} (lo : f.lo ≤ f.hi) (hi : f.hi < 32) (h : s.get p f = v) : putLogged s origin p f v = s := by
  have same : (s.rd (addrOf p f)).toNat = ((s.put p f v).rd (addrOf p f)).toNat := by
    rw [State.rd_put_same _ _ _ _ lo hi]
    refine Nat.eq_of_testBit_eq fun j => ?_
    rw [testBit_withBits _ _ _ lo]
    split
    case isTrue inside =>
      obtain ⟨low, high⟩ := inside
      have width : j - f.lo < f.hi - f.lo + 1 := by omega
      rw [← h, State.get, bitsOf, Nat.testBit_mod_two_pow, Nat.testBit_div_two_pow, decide_eq_true width, Bool.true_and,
        Nat.sub_add_cancel low]
    case isFalse => rfl
  unfold putLogged
  exact if_pos same

/-! ### One rail -/

/-- The registers that switching a rail and its slots write. -/
def railFields (r : Nat) : List (Nat × Fld) :=
  [(Pg.HKRAIL, Reg.HKRAIL.CTRL_EN.ix r), changeSeq Pg.HKRAIL, (Pg.HKRAIL, Reg.HKRAIL.STATUS_ON.ix r),
    (Pg.HKRAIL, Reg.HKRAIL.STATUS_PG.ix r), (Pg.HKRAIL, Reg.HKRAIL.STATUS_QUALIFIED.ix r), (Pg.HKRAIL, Reg.HKRAIL.STATUS_CURLIM.ix r),
    (Pg.HKRAIL, Reg.HKRAIL.STATUS_DISCHARGING.ix r), (Pg.HKRAIL, Reg.HKRAIL.STATUS_SLEW_DONE.ix r),
    (Pg.HKRAIL, Reg.HKRAIL.VREF_VOLTAGE.ix r), (Pg.HKRAIL, Reg.HKRAIL.SLEW_RETARGET.ix r), (Pg.HKRAIL, ⟨0x008, 0, 0, 0⟩),
    (Pg.CHIP, Reg.CHIP.STATUS_HK_UP)]

/-- A state with another's registers, log, rails and reset outputs. -/
def railsOf (s t : State) : State :=
  { t with regs := s.regs, log := s.log, hk := { t.hk with rails := s.hk.rails, rst1 := s.hk.rst1, rst2 := s.hk.rst2 } }

/-- The rails and the reset outputs, the registers and the log alone may differ. -/
def onlyRails (s t : State) : Prop := railsOf s t = s

theorem onlyRails.trans (h : onlyRails s t) (k : onlyRails t u) : onlyRails s u := by
  have step : railsOf s (railsOf t u) = railsOf s t := congrArg (railsOf s) k
  exact step.trans h

theorem onlyRails_of_logged (h : onlyLogged s t) : onlyRails s t := by
  have step : railsOf s { t with regs := s.regs, log := s.log } = railsOf s s := congrArg (railsOf s) h
  exact step

/-- A step of one rail: what it writes, and that no other rail moves and no reset output is released. -/
structure RailStep (s t : State) (r : Nat) : Prop where
  bits : onlyBits s t (railFields r) [Pg.CHANGELOG]
  rest : onlyRails s t
  other : ∀ j, j ≠ r → rail t j = rail s j
  rst : (s.hk.rst1 = false → t.hk.rst1 = false) ∧ (s.hk.rst2 = false → t.hk.rst2 = false)

namespace RailStep

theorem refl : RailStep s s r := ⟨onlyBits.refl s, rfl, fun _ _ => rfl, id, id⟩

theorem trans (h : RailStep s t r) (k : RailStep t u r) : RailStep s u r :=
  ⟨h.bits.trans k.bits, h.rest.trans k.rest, fun j n => (k.other j n).trans (h.other j n), fun x => k.rst.1 (h.rst.1 x),
    fun x => k.rst.2 (h.rst.2 x)⟩

theorem ofPut {p v : Nat} {f : Fld} (h : RailStep s t r) (m : (p, f) ∈ railFields r) (lo : f.lo ≤ f.hi ∧ f.hi < 32) :
    RailStep s (t.put p f v) r :=
  ⟨h.bits.put ⟨lo.1, lo.2, .inr ⟨_, m, rfl, le_rfl, le_rfl⟩⟩, h.rest, h.other, h.rst⟩

theorem ofLogged {l : List (Nat × Fld)} (h : onlyBits s t l [Pg.CHANGELOG]) (hl : l ⊆ railFields r) (rest : onlyLogged s t) : RailStep s t r :=
  have hk : t.hk = s.hk := (congrArg State.hk rest :)
  ⟨h.weaken hl (List.Subset.refl _), onlyRails_of_logged rest, fun j _ => by rw [rail, hk]; rfl, by rw [hk]; exact ⟨id, id⟩⟩

theorem setRail (h : RailStep s t r) (x : RailState) : RailStep s (setRail t r x) r :=
  ⟨h.bits.regs rfl, h.rest, fun j n => (Table.get_set_ne _ _ _ _ n).trans (h.other j n), h.rst⟩

theorem setReset (h : RailStep s t r) (k : Nat) : RailStep s (setReset t k false) r := by
  unfold Machine.setReset
  by_cases e : k = 0
  · rw [if_pos e]
    exact ⟨h.bits.regs rfl, h.rest, h.other, fun _ => rfl, h.rst.2⟩
  · rw [if_neg e]
    exact ⟨h.bits.regs rfl, h.rest, h.other, h.rst.1, fun _ => rfl⟩

theorem refreshHkUp (h : RailStep s t r) : RailStep s (refreshHkUp t) r :=
  h.ofPut (by simp [railFields]) (by decide)

theorem refreshDischarge (h : RailStep s t r) : RailStep s (refreshDischarge t r) r :=
  h.ofPut (by simp [railFields]) (by simp [Fld.ix])

theorem resetsOfRail (h : RailStep s t r) : RailStep s (resetsOfRail t r) r := by
  unfold Machine.resetsOfRail
  simp only [List.foldl_cons, List.foldl_nil]
  have step (x : State) (k : Nat) (h : RailStep s x r) (b : Bool) : RailStep s (if b then Machine.setReset x k false else x) r := by
    cases b
    · exact h
    · exact h.setReset k
  exact step _ _ (step _ _ h _) _

/-- A field of the rails' page that the step does not write. -/
theorem get {f : Fld} (h : RailStep s t r) (hl : apart (railFields r) Pg.HKRAIL f = true) (off : f.off < 0x400) (lo : f.lo ≤ f.hi) :
    t.get Pg.HKRAIL f = s.get Pg.HKRAIL f := h.bits.get_apart off (by decide) hl lo

end RailStep

end Sys2Proof.Machine
end
section
/-! PROOF. Switching a rail off or on, and what that leaves of the other rails and of the page. -/

namespace Sys2Proof.Machine

variable {s t u : State} {r j n origin : Nat}

/-! ### Reading the rails after a step of one of them -/

theorem rail_setRail (s : State) (r : Nat) (x : RailState) : rail (setRail s r x) r = x := Table.get_set_same _ _ _ _

theorem apart_rail : ∀ r < 4, ∀ j < 4, j ≠ r → apart (railFields r) Pg.HKRAIL (Reg.HKRAIL.STATUS_ON.ix j) = true ∧
    apart (railFields r) Pg.HKRAIL (Reg.HKRAIL.STATUS_QUALIFIED.ix j) = true ∧
    apart (railFields r) Pg.HKRAIL (Reg.HKRAIL.STATUS_DISCHARGING.ix j) = true ∧
    apart (railFields r) Pg.HKRAIL (Reg.HKRAIL.STATUS_SLEW_DONE.ix j) = true ∧
    apart (railFields r) Pg.HKRAIL (Reg.HKRAIL.CTRL_EN.ix j) = true := by decide

theorem apart_vset : ∀ r < 4, ∀ j < 4, apart (railFields r) Pg.HKRAIL (Reg.HKRAIL.VSET_VOLTAGE.ix j) = true ∧
    apart (railFields r) Pg.HKRAIL (Reg.HKRAIL.CTRL_DISCH.ix j) = true := by decide

/-- An index of a rail keeps its offset in the page. -/
theorem rail_off {f : Fld} (hj : j < 4) (hf : f.off + 4 * f.stride ≤ 0x400) : (f.ix j).off < 0x400 ∨ f.stride = 0 := by
  rcases Nat.eq_zero_or_pos f.stride with z | pos
  · exact .inr z
  · left
    have : j * f.stride ≤ 3 * f.stride := Nat.mul_le_mul_right _ (by omega)
    simp only [Fld.ix]
    omega

section

variable (h : RailStep s t r)
include h

theorem RailStep.railOn (hr : r < 4) (hj : j < 4) (ne : j ≠ r) : railOn t j = railOn s j :=
  h.bits.flag_apart (by simp [Fld.ix]; omega) (by decide) (apart_rail r hr j hj ne).1 le_rfl

theorem RailStep.discharging (hr : r < 4) (hj : j < 4) (ne : j ≠ r) :
    t.flag Pg.HKRAIL (Reg.HKRAIL.STATUS_DISCHARGING.ix j) = s.flag Pg.HKRAIL (Reg.HKRAIL.STATUS_DISCHARGING.ix j) :=
  h.bits.flag_apart (by simp [Fld.ix]; omega) (by decide) (apart_rail r hr j hj ne).2.2.1 le_rfl

theorem RailStep.vset (hr : r < 4) (hj : j < 4) :
    t.get Pg.HKRAIL (Reg.HKRAIL.VSET_VOLTAGE.ix j) = s.get Pg.HKRAIL (Reg.HKRAIL.VSET_VOLTAGE.ix j) :=
  h.get (apart_vset r hr j hj).1 (by simp [Fld.ix]; omega) (by simp [Fld.ix])

/-- The pages that a step of a rail writes, each rail's alike. -/
theorem RailStep.pages (l : List (Nat × Fld)) (hl : (Pg.CHIP, Reg.CHIP.STATUS_HK_UP) ∈ l) (hr : r < 4) :
    onlyBits s t l [Pg.HKRAIL, Pg.CHANGELOG] := by
  refine h.bits.ofPages (by decide) fun e he => ?_
  have split : ∀ r < 4, ∀ e ∈ railFields r, e = (Pg.CHIP, Reg.CHIP.STATUS_HK_UP) ∨ addrOf e.1 e.2 / 0x400 ∈ [Pg.HKRAIL, Pg.CHANGELOG] := by
    decide
  rcases split r hr e he with rfl | page
  · exact .inl hl
  · exact .inr page

end

theorem get_of_regs {p : Nat} {f : Fld} (h : t.regs = s.regs) : t.get p f = s.get p f :=
  State.get_congr p f (by rw [State.rd, State.rd, h])

/-- What a rail's switching writes once the rail is shown on or off. -/
def railAfter (r : Nat) : List (Nat × Fld) :=
  [(Pg.HKRAIL, Reg.HKRAIL.STATUS_PG.ix r), (Pg.HKRAIL, Reg.HKRAIL.STATUS_QUALIFIED.ix r), (Pg.HKRAIL, Reg.HKRAIL.STATUS_CURLIM.ix r),
    (Pg.HKRAIL, Reg.HKRAIL.STATUS_DISCHARGING.ix r), (Pg.HKRAIL, Reg.HKRAIL.STATUS_SLEW_DONE.ix r),
    (Pg.HKRAIL, Reg.HKRAIL.VREF_VOLTAGE.ix r), (Pg.CHIP, Reg.CHIP.STATUS_HK_UP)]

theorem railAfter_sub (r : Nat) : railAfter r ⊆ railFields r := by
  intro e he
  simp only [railAfter, railFields, List.mem_cons, List.not_mem_nil, or_false] at he ⊢
  tauto

theorem apart_railAfter : ∀ r < 4, apart (railAfter r) Pg.HKRAIL (Reg.HKRAIL.STATUS_ON.ix r) = true ∧
    apart (railAfter r) Pg.HKRAIL (Reg.HKRAIL.CTRL_EN.ix r) = true := by decide

theorem railOn_of_after (h : onlyBits s t (railAfter r) []) (hr : r < 4) : railOn t r = railOn s r :=
  h.flag_apart (by simp [Fld.ix]; omega) List.not_mem_nil (apart_railAfter r hr).1 le_rfl

theorem onlyBits.putListed {p v : Nat} {f : Fld} {l : List (Nat × Fld)} {ps : List Nat} (h : onlyBits s t l ps) (m : (p, f) ∈ l)
    (lo : f.lo ≤ f.hi ∧ f.hi < 32) : onlyBits s (t.put p f v) l ps :=
  h.put ⟨lo.1, lo.2, .inr ⟨_, m, rfl, le_rfl, le_rfl⟩⟩

theorem onlyBits.hkUp (h : onlyBits s t (railAfter r) []) : onlyBits s (refreshHkUp t) (railAfter r) [] :=
  h.putListed (by simp [railAfter]) (by decide)

theorem onlyBits.discharge (h : onlyBits s t (railAfter r) []) : onlyBits s (refreshDischarge t r) (railAfter r) [] :=
  h.putListed (by simp [railAfter]) (by simp [Fld.ix])

theorem onlyBits.setRail {l : List (Nat × Fld)} {ps : List Nat} (h : onlyBits s t l ps) (j : Nat) (x : RailState) :
    onlyBits s (setRail t j x) l ps := h.regs rfl

/-! ### Switching a rail off -/

/-- A rail shown as off or on, with CTRL.EN and its entry. -/
def railShown (s : State) (r origin : Nat) (b : Bool) : State :=
  (putLogged s origin Pg.HKRAIL (Reg.HKRAIL.CTRL_EN.ix r) (b2n b)).putb Pg.HKRAIL (Reg.HKRAIL.STATUS_ON.ix r) b

/-- The other marks of a rail that is off. -/
def railCleared (s : State) (r : Nat) : State :=
  let s := s.putb Pg.HKRAIL (Reg.HKRAIL.STATUS_PG.ix r) false
  let s := (s.putb Pg.HKRAIL (Reg.HKRAIL.STATUS_QUALIFIED.ix r) false).putb Pg.HKRAIL (Reg.HKRAIL.STATUS_CURLIM.ix r) false
  (s.put Pg.HKRAIL (Reg.HKRAIL.VREF_VOLTAGE.ix r) 0).putb Pg.HKRAIL (Reg.HKRAIL.STATUS_SLEW_DONE.ix r) true

/-- The state of a rail just switched off. -/
def railIdle (x : RailState) : RailState := { RailState.init with fails := x.fails, offWait := true, low := false, drained := false }

/-- A rail that is shown off, brought to rest. -/
def railRested (s : State) (r : Nat) : State :=
  refreshHkUp (resetsOfRail (refreshDischarge (setRail (railCleared s r) r (railIdle (rail (railCleared s r) r))) r) r)

theorem railOff_on (on : railOn s r = true) : railOff s r origin = railRested (railShown s r origin false) r := by
  unfold railOff
  rw [on]
  rfl

theorem railOff_off (off : railOn s r = false) : railOff s r origin = s := by
  unfold railOff
  rw [off]
  rfl

theorem railShown_spec {b : Bool} (room : logRoom s 1) (hr : r < 4) : RailStep s (railShown s r origin b) r ∧
    railOn (railShown s r origin b) r = b ∧
    (railShown s r origin b).get Pg.HKRAIL (Reg.HKRAIL.CTRL_EN.ix r) = b2n b := by
  obtain ⟨bits, rest, get⟩ := putLogged_spec (origin := origin) (p := Pg.HKRAIL) (v := b2n b) (f := Reg.HKRAIL.CTRL_EN.ix r) room
    (by simp [Fld.ix]) (by simp [Fld.ix]) (by simp [Fld.ix]; omega) (by simp [Fld.ix]; omega) (by decide)
  unfold railShown
  refine ⟨RailStep.ofPut (.ofLogged bits (by simp [railFields]) rest) (by simp [railFields]) (by simp [Fld.ix]), ?_, ?_⟩
  · rw [railOn, State.flag, State.putb, State.get_put_same _ _ _ _ (by simp [Fld.ix]) (by simp [Fld.ix])]
    cases b <;> rfl
  · rw [State.putb, State.get_put_ne _ _ (by simp only [addrOf, Fld.ix]; omega), get]
    cases b <;> rfl

theorem logRoom_railShown {b : Bool} (room : logRoom s (n + 1)) : logRoom (railShown s r origin b) n := room.putLogged.putb

theorem resetsOfRail_regs (s : State) (r : Nat) : (resetsOfRail s r).regs = s.regs ∧ (resetsOfRail s r).log = s.log ∧
    (resetsOfRail s r).fault = s.fault ∧ (resetsOfRail s r).hk.rails = s.hk.rails := by
  have step (x : State) (k : Nat) (b : Bool) : ∀ y, y = (if b then setReset x k false else x) → y.regs = x.regs ∧ y.log = x.log ∧
      y.fault = x.fault ∧ y.hk.rails = x.hk.rails := by
    rintro y rfl
    cases b
    · exact ⟨rfl, rfl, rfl, rfl⟩
    · unfold setReset
      by_cases e : k = 0
      · simp [e]
      · simp [e]
  unfold resetsOfRail
  simp only [List.foldl_cons, List.foldl_nil]
  obtain ⟨regs, log, fault, rails⟩ := step s 0 _ _ rfl
  obtain ⟨regs', log', fault', rails'⟩ := step (if bitOf (seqField s (Reg.HKSEQ.RST_CFG_MASK.ix 0)) r then setReset s 0 false else s) 1 _ _ rfl
  exact ⟨regs'.trans regs, log'.trans log, fault'.trans fault, rails'.trans rails⟩

theorem onlyBits_railCleared (s : State) (r : Nat) : onlyBits s (railCleared s r) (railAfter r) [] :=
  ((((onlyBits.refl s).putListed (by simp [railAfter]) (by simp [Fld.ix])).putListed (by simp [railAfter]) (by simp [Fld.ix])).putListed
    (by simp [railAfter]) (by simp [Fld.ix])).putListed (by simp [railAfter]) (by simp [Fld.ix]) |>.putListed (by simp [railAfter])
    (by simp [Fld.ix])

theorem onlyBits_railRested (s : State) (r : Nat) : onlyBits s (railRested s r) (railAfter r) [] := by
  have rested : onlyBits s (refreshDischarge (setRail (railCleared s r) r (railIdle (rail (railCleared s r) r))) r) (railAfter r) [] :=
    ((onlyBits_railCleared s r).setRail r _).discharge
  exact (rested.regs (resetsOfRail_regs _ _).1).hkUp

theorem railStep_railRested (s : State) (r : Nat) : RailStep s (railRested s r) r := by
  have cleared : RailStep s (railCleared s r) r :=
    ((((RailStep.refl.ofPut (by simp [railFields]) (by simp [Fld.ix])).ofPut (by simp [railFields]) (by simp [Fld.ix])).ofPut
      (by simp [railFields]) (by simp [Fld.ix])).ofPut (by simp [railFields]) (by simp [Fld.ix])).ofPut (by simp [railFields])
      (by simp [Fld.ix])
  exact (cleared.setRail _).refreshDischarge.resetsOfRail.refreshHkUp

theorem rail_refreshHkUp (s : State) (j : Nat) : rail (refreshHkUp s) j = rail s j := rfl

theorem rail_refreshDischarge (s : State) (r j : Nat) : rail (refreshDischarge s r) j = rail s j := rfl

theorem rail_resetsOfRail (s : State) (r j : Nat) : rail (resetsOfRail s r) j = rail s j := by
  rw [rail, (resetsOfRail_regs s r).2.2.2]
  rfl

theorem rail_railRested (s : State) (r : Nat) : (rail (railRested s r) r).drained = false := by
  rw [railRested, rail_refreshHkUp, rail_resetsOfRail, rail_refreshDischarge, rail_setRail]
  rfl

theorem logRoom.setRail {x : RailState} (h : logRoom s n) : logRoom (setRail s r x) n := h

theorem logRoom_railRested (room : logRoom s n) : logRoom (railRested s r) n := by
  have cleared : logRoom (railCleared s r) n := room
  obtain ⟨-, log, fault, -⟩ := resetsOfRail_regs (refreshDischarge (Machine.setRail (railCleared s r) r
    (railIdle (rail (railCleared s r) r))) r) r
  have rested : logRoom (refreshDischarge (Machine.setRail (railCleared s r) r (railIdle (rail (railCleared s r) r))) r) n :=
    cleared.setRail.putb
  exact (rested.same log (congrArg FaultState.logPending fault)).putb

theorem railStep_railOff (room : logRoom s 1) (hr : r < 4) : RailStep s (railOff s r origin) r := by
  cases on : railOn s r
  · rw [railOff_off on]
    exact .refl
  · rw [railOff_on on]
    exact (railShown_spec room hr).1.trans (railStep_railRested _ r)

theorem railOn_railOff (room : logRoom s 1) (hr : r < 4) : railOn (railOff s r origin) r = false := by
  cases on : railOn s r
  · rw [railOff_off on, on]
  · rw [railOff_on on, railOn_of_after (onlyBits_railRested _ r) hr, (railShown_spec room hr).2.1]

theorem rail_railOff (on : railOn s r = true) : (rail (railOff s r origin) r).drained = false := by
  rw [railOff_on on, rail_railRested]

theorem logRoom_railOff (room : logRoom s (n + 1)) : logRoom (railOff s r origin) n := by
  cases on : railOn s r
  · rw [railOff_off on]
    exact room.mono (by omega)
  · rw [railOff_on on]
    exact logRoom_railRested (logRoom_railShown room)

/-! ### Switching a rail on -/

/-- A rail that starts has no power-good, is not qualified and not discharged. -/
def railDark (s : State) (r : Nat) : State :=
  let s := s.putb Pg.HKRAIL (Reg.HKRAIL.STATUS_PG.ix r) false
  (s.putb Pg.HKRAIL (Reg.HKRAIL.STATUS_QUALIFIED.ix r) false).putb Pg.HKRAIL (Reg.HKRAIL.STATUS_DISCHARGING.ix r) false

/-- The other marks of a rail that starts. -/
def railRaised (s : State) (r : Nat) : State := (railDark s r).putb Pg.HKRAIL (Reg.HKRAIL.STATUS_SLEW_DONE.ix r) false

/-- The state of a rail just switched on, towards a target. -/
def railRising (x : RailState) (target us : Nat) : RailState :=
  { RailState.init with fails := x.fails, target := target, low := false, drained := false, onUs := us }

/-- A rail that is shown on, started towards its target. -/
def railStarted (s : State) (r : Nat) : State :=
  refreshHkUp (setRail (railRaised s r) r (railRising (rail (railRaised s r) r)
    ((railDark s r).get Pg.HKRAIL (Reg.HKRAIL.VSET_VOLTAGE.ix r)) (railRaised s r).rcUs))

/-- A rail as its start leaves it. -/
structure RailStarts (s t : State) (r : Nat) : Prop where
  step : RailStep s t r
  on : railOn t r = true
  qual : railQual t r = false
  slew : t.flag Pg.HKRAIL (Reg.HKRAIL.STATUS_SLEW_DONE.ix r) = false
  enabled : t.get Pg.HKRAIL (Reg.HKRAIL.CTRL_EN.ix r) = 1
  target : (rail t r).target = s.get Pg.HKRAIL (Reg.HKRAIL.VSET_VOLTAGE.ix r)
  rst : t.hk.rst1 = s.hk.rst1 ∧ t.hk.rst2 = s.hk.rst2

theorem onlyBits_railRaised (s : State) (r : Nat) : onlyBits s (railRaised s r) (railAfter r) [] :=
  (((onlyBits.refl s).putListed (by simp [railAfter]) (by simp [Fld.ix])).putListed (by simp [railAfter]) (by simp [Fld.ix])).putListed
    (by simp [railAfter]) (by simp [Fld.ix]) |>.putListed (by simp [railAfter]) (by simp [Fld.ix])

theorem onlyBits_railStarted (s : State) (r : Nat) : onlyBits s (railStarted s r) (railAfter r) [] :=
  ((onlyBits_railRaised s r).setRail r _).hkUp

theorem flag_put_zero (s : State) (p : Nat) (f : Fld) (lo : f.lo ≤ f.hi) (hi : f.hi < 32) : (s.putb p f false).flag p f = false := by
  rw [State.flag, State.putb, State.get_put_same _ _ _ _ lo hi]
  simp [b2n]

/-- What follows the mark of qualification when a rail starts. -/
def railUnslewed (s : State) (r : Nat) : State :=
  (s.putb Pg.HKRAIL (Reg.HKRAIL.STATUS_DISCHARGING.ix r) false).putb Pg.HKRAIL (Reg.HKRAIL.STATUS_SLEW_DONE.ix r) false

theorem onlyBits_railUnslewed (s : State) (r : Nat) : onlyBits s (railUnslewed s r)
    [(Pg.HKRAIL, Reg.HKRAIL.STATUS_DISCHARGING.ix r), (Pg.HKRAIL, Reg.HKRAIL.STATUS_SLEW_DONE.ix r)] [] :=
  ((onlyBits.refl s).putListed (.head _) (by simp [Fld.ix])).putListed (.tail _ (.head _)) (by simp [Fld.ix])

theorem railQual_railUnslewed (s : State) (hr : r < 4) : railQual (railUnslewed s r) r = railQual s r := by
  have clear : ∀ r < 4, apart [(Pg.HKRAIL, Reg.HKRAIL.STATUS_DISCHARGING.ix r), (Pg.HKRAIL, Reg.HKRAIL.STATUS_SLEW_DONE.ix r)] Pg.HKRAIL
    (Reg.HKRAIL.STATUS_QUALIFIED.ix r) = true := by decide
  exact (onlyBits_railUnslewed s r).flag_apart (by simp [Fld.ix]; omega) List.not_mem_nil (clear r hr) le_rfl

theorem railRaised_eq (s : State) (r : Nat) : railRaised s r = railUnslewed ((s.putb Pg.HKRAIL (Reg.HKRAIL.STATUS_PG.ix r) false).putb
    Pg.HKRAIL (Reg.HKRAIL.STATUS_QUALIFIED.ix r) false) r := rfl

theorem marks_railRaised (s : State) (hr : r < 4) : railQual (railRaised s r) r = false ∧
    (railRaised s r).flag Pg.HKRAIL (Reg.HKRAIL.STATUS_SLEW_DONE.ix r) = false := by
  rw [railRaised_eq, railQual_railUnslewed _ hr]
  exact ⟨flag_put_zero _ _ _ le_rfl (by simp [Fld.ix]), flag_put_zero _ _ _ le_rfl (by simp [Fld.ix])⟩

theorem railStart_eq (s : State) (r origin : Nat) : railStart s r origin = railStarted (railShown s r origin true) r := rfl

theorem onlyBits_railDark (s : State) (r : Nat) : onlyBits s (railDark s r) (railAfter r) [] :=
  (((onlyBits.refl s).putListed (by simp [railAfter]) (by simp [Fld.ix])).putListed (by simp [railAfter]) (by simp [Fld.ix])).putListed
    (by simp [railAfter]) (by simp [Fld.ix])

theorem railStep_railStarted (s : State) (r : Nat) : RailStep s (railStarted s r) r :=
  ((((((RailStep.refl.ofPut (by simp [railFields]) (by simp [Fld.ix])).ofPut (by simp [railFields]) (by simp [Fld.ix])).ofPut
    (by simp [railFields]) (by simp [Fld.ix])).ofPut (by simp [railFields]) (by simp [Fld.ix]))).setRail _).refreshHkUp

theorem get_setRail (s : State) (r : Nat) (x : RailState) (p : Nat) (f : Fld) : (setRail s r x).get p f = s.get p f := rfl

theorem get_refreshHkUp (s : State) {p : Nat} {f : Fld} (h : addrOf p f ≠ addrOf Pg.CHIP Reg.CHIP.STATUS_HK_UP) :
    (refreshHkUp s).get p f = s.get p f := State.get_put_ne _ _ h

/-- A mark of the rails' page after a rail's start is that of the rail raised. -/
theorem flag_railStarted (s : State) (r : Nat) {f : Fld} (hf : f.off < 0x400) :
    (railStarted s r).flag Pg.HKRAIL f = (railRaised s r).flag Pg.HKRAIL f := by
  have apart : addrOf Pg.HKRAIL f ≠ addrOf Pg.CHIP Reg.CHIP.STATUS_HK_UP := by simp only [addrOf, Pg.CHIP, Pg.HKRAIL]; omega
  exact congrArg (fun n => decide (n = 1)) ((get_refreshHkUp _ apart).trans (get_setRail _ _ _ _ _))

theorem rail_railStarted (s : State) (r : Nat) :
    (rail (railStarted s r) r).target = (railDark s r).get Pg.HKRAIL (Reg.HKRAIL.VSET_VOLTAGE.ix r) := by
  rw [railStarted, rail_refreshHkUp, rail_setRail]
  rfl

theorem rst_railStarted (s : State) (r : Nat) : (railStarted s r).hk.rst1 = s.hk.rst1 ∧ (railStarted s r).hk.rst2 = s.hk.rst2 := ⟨rfl, rfl⟩

theorem hk_putLogged {p v : Nat} {f : Fld} (room : logRoom s 1) (lo : f.lo ≤ f.hi) (hi : f.hi < 32) (off : f.off < 0x400)
    (seq : f.off ≠ 0x024) (page : p ≠ Pg.CHANGELOG) : (putLogged s origin p f v).hk = s.hk :=
  (congrArg State.hk (putLogged_spec room lo hi off seq page).rest :)

/-- A rail that is shown on starts. -/
theorem railStarts_of_shown (shown : RailStep s u r) (on : railOn u r = true) (enabled : u.get Pg.HKRAIL (Reg.HKRAIL.CTRL_EN.ix r) = 1)
    (hk : u.hk = s.hk) (hr : r < 4) : RailStarts s (railStarted u r) r := by
  have vset := shown.vset hr hr
  obtain ⟨qual, slew⟩ := marks_railRaised u hr
  have bits := onlyBits_railStarted u r
  have dark := (onlyBits_railDark u r).weaken (railAfter_sub r) (List.nil_subset [Pg.CHANGELOG])
  refine ⟨shown.trans (railStep_railStarted u r), ?_, ?_, ?_, ?_, ?_, ?_, ?_⟩
  · rw [railOn_of_after bits hr, on]
  · exact (flag_railStarted u r (by simp [Fld.ix]; omega)).trans qual
  · exact (flag_railStarted u r (by simp [Fld.ix]; omega)).trans slew
  · exact (bits.get_apart (by simp [Fld.ix]; omega) List.not_mem_nil (apart_railAfter r hr).2 (by simp [Fld.ix])).trans enabled
  · rw [rail_railStarted, ← vset]
    exact dark.get_apart (by simp [Fld.ix]; omega) (by decide) (apart_vset r hr r hr).1 (by simp [Fld.ix])
  · rw [(rst_railStarted u r).1, hk]
  · rw [(rst_railStarted u r).2, hk]

theorem railStarts (room : logRoom s 1) (hr : r < 4) : RailStarts s (railStart s r origin) r := by
  obtain ⟨shown, on, enabled⟩ := railShown_spec (origin := origin) (b := true) room hr
  have hk : (railShown s r origin true).hk = s.hk := hk_putLogged room (by simp [Fld.ix]) (by simp [Fld.ix])
    (by simp [Fld.ix]; omega) (by simp [Fld.ix]; omega) (by decide)
  rw [railStart_eq]
  exact railStarts_of_shown shown on enabled hk hr

theorem logRoom_railStarted (room : logRoom s n) : logRoom (railStarted s r) n := by
  have raised : logRoom (railRaised s r) n := room
  exact raised.setRail.putb

theorem logRoom_railStart (room : logRoom s (n + 1)) : logRoom (railStart s r origin) n := by
  rw [railStart_eq]
  exact logRoom_railStarted (logRoom_railShown room)

end Sys2Proof.Machine
end
section
/-! PROOF. All housekeeping rails switched off, and both reset outputs driven low. -/

namespace Sys2Proof.Machine

variable {s t u : State} {r j n origin : Nat}

/-- A step of any of the rails: what it writes, and that no reset output is released. -/
structure RailsStep (s t : State) : Prop where
  bits : onlyBits s t [(Pg.CHIP, Reg.CHIP.STATUS_HK_UP)] [Pg.HKRAIL, Pg.CHANGELOG]
  rest : onlyRails s t
  rst : (s.hk.rst1 = false → t.hk.rst1 = false) ∧ (s.hk.rst2 = false → t.hk.rst2 = false)
  map : ∀ i < 3, t.rd (Pg.HKRAIL * 0x400 + 0x014 + 4 * i) = s.rd (Pg.HKRAIL * 0x400 + 0x014 + 4 * i)

theorem RailsStep.refl : RailsStep s s := ⟨onlyBits.refl s, rfl, ⟨id, id⟩, fun _ _ => rfl⟩

theorem RailsStep.trans (h : RailsStep s t) (k : RailsStep t u) : RailsStep s u :=
  ⟨h.bits.trans k.bits, h.rest.trans k.rest, ⟨fun x => k.rst.1 (h.rst.1 x), fun x => k.rst.2 (h.rst.2 x)⟩,
    fun i hi => (k.map i hi).trans (h.map i hi)⟩

theorem railFields_map : ∀ r < 4, ∀ i < 3, (railFields r).all (fun e => decide (addrOf e.1 e.2 ≠ Pg.HKRAIL * 0x400 + 0x014 + 4 * i)) = true := by
  decide

theorem RailStep.rails (h : RailStep s t r) (hr : r < 4) : RailsStep s t := ⟨h.pages _ (.head _) hr, h.rest, h.rst, fun i hi =>
  h.bits.rd_apart (by simp only [Pg.HKRAIL, Pg.CHANGELOG, List.mem_singleton]; omega) (railFields_map r hr i hi)⟩

/-- The rails of a list that are on. -/
def railsOn (s : State) (l : List Nat) : Nat := (l.filter (railOn s)).length

theorem railsOn_congr {l : List Nat} (h : ∀ j ∈ l, railOn t j = railOn s j) : railsOn t l = railsOn s l := by
  unfold railsOn
  rw [List.filter_congr h]

theorem railsOn_cons (s : State) (r : Nat) (l : List Nat) : railsOn s (r :: l) = railsOn s l + if railOn s r then 1 else 0 := by
  unfold railsOn
  cases on : railOn s r <;> simp [on]

/-- What switching off the rails of a list leaves. -/
structure RailsOff (s t : State) (l : List Nat) (n : Nat) : Prop where
  step : RailsStep s t
  off : ∀ j ∈ l, railOn t j = false
  others : ∀ j < 4, j ∉ l → railOn t j = railOn s j ∧ rail t j = rail s j
  drained : ∀ j ∈ l, railOn s j = true → (rail t j).drained = false
  room : logRoom t n

theorem logRoom_railOff_count (room : logRoom s (n + if railOn s r then 1 else 0)) : logRoom (railOff s r origin) n := by
  cases on : railOn s r
  · rw [railOff_off on]
    exact room.mono (by omega)
  · rw [on] at room
    exact logRoom_railOff room

theorem railStep_railOff_count (room : logRoom s (n + if railOn s r then 1 else 0)) (hr : r < 4) :
    RailStep s (railOff s r origin) r ∧ railOn (railOff s r origin) r = false := by
  cases on : railOn s r
  · rw [railOff_off on]
    exact ⟨.refl, on⟩
  · rw [on] at room
    exact ⟨railStep_railOff (room.mono (by simp)) hr, railOn_railOff (room.mono (by simp)) hr⟩

theorem railsOff_foldl {l : List Nat} (nodup : l.Nodup) (small : ∀ j ∈ l, j < 4) (room : logRoom s (n + railsOn s l)) :
    RailsOff s (l.foldl (fun s r => railOff s r origin) s) l n := by
  induction l generalizing s with
  | nil => exact ⟨.refl, by simp, fun _ _ _ => ⟨rfl, rfl⟩, by simp, room⟩
  | cons r l ih =>
    obtain ⟨fresh, nodup⟩ := List.nodup_cons.mp nodup
    have hr := small r (.head _)
    have ne (j : Nat) (hj : j ∈ l) : j ≠ r := fun e => fresh (e ▸ hj)
    rw [railsOn_cons, ← Nat.add_assoc] at room
    obtain ⟨one, off⟩ := railStep_railOff_count (origin := origin) room hr
    have count : railsOn (railOff s r origin) l = railsOn s l := railsOn_congr fun j hj =>
      one.railOn hr (small j (.tail _ hj)) (ne j hj)
    have tail := ih (s := railOff s r origin) nodup (fun j hj => small j (.tail _ hj))
      (by rw [count]; exact logRoom_railOff_count room)
    rw [List.foldl_cons]
    generalize l.foldl (fun s r => railOff s r origin) (railOff s r origin) = t at tail
    obtain ⟨atEnd, stays⟩ := tail.others r hr fresh
    refine ⟨(one.rails hr).trans tail.step, fun j hj => ?_, fun j hj out => ?_, fun j hj on => ?_, tail.room⟩
    · rcases List.mem_cons.mp hj with rfl | hj
      · rw [atEnd, off]
      · exact tail.off j hj
    · obtain ⟨out, out'⟩ := not_or.mp (mt List.mem_cons.mpr out)
      obtain ⟨on, st⟩ := tail.others j hj out'
      exact ⟨on.trans (one.railOn hr hj out), st.trans (one.other j out)⟩
    · rcases List.mem_cons.mp hj with rfl | hj
      · rw [stays]
        exact rail_railOff on
      · exact tail.drained j hj ((one.railOn hr (small j (.tail _ hj)) (ne j hj)).trans on)

theorem railsStep_resetsLow (s : State) : RailsStep s (resetsLow s) := by
  have step := ((RailStep.refl (s := s) (r := 0)).setReset 0).setReset 1
  exact ⟨(onlyBits.refl s).regs rfl, step.rest, step.rst, fun _ _ => rfl⟩

theorem resetsLow_low (s : State) : (resetsLow s).hk.rst1 = false ∧ (resetsLow s).hk.rst2 = false := ⟨rfl, rfl⟩

theorem railsOn_le (s : State) (l : List Nat) : railsOn s l ≤ l.length := List.length_filter_le _ _

/-- All rails off, both reset outputs low. -/
structure AllOff (s t : State) (n : Nat) : Prop where
  step : RailsStep s t
  off : ∀ j < 4, railOn t j = false
  drained : ∀ j < 4, railOn s j = true → (rail t j).drained = false
  low : t.hk.rst1 = false ∧ t.hk.rst2 = false
  room : logRoom t n

theorem allOff_count (room : logRoom s (n + railsOn s (List.range 4))) : AllOff s (allRailsOff s origin) n := by
  have low := railsStep_resetsLow s
  have off := railsOff_foldl (s := resetsLow s) (n := n) (origin := origin) List.nodup_range (fun j hj => List.mem_range.mp hj) room
  have mem (j : Nat) (hj : j < 4) : j ∈ List.range 4 := List.mem_range.mpr hj
  exact ⟨low.trans off.step, fun j hj => off.off j (mem j hj), fun j hj on => off.drained j (mem j hj) on,
    ⟨off.step.rst.1 (resetsLow_low s).1, off.step.rst.2 (resetsLow_low s).2⟩, off.room⟩

theorem allOff (room : logRoom s (n + 4)) : AllOff s (allRailsOff s origin) n :=
  allOff_count (room.mono (by have : railsOn s (List.range 4) ≤ 4 := railsOn_le s _; omega))

/-- A rail that is off already stays as it is. -/
theorem rail_foldl_off {l : List Nat} (nodup : l.Nodup) (small : ∀ j ∈ l, j < 4) (room : logRoom s (n + railsOn s l)) (hj : j < 4)
    (off : railOn s j = false) : rail (l.foldl (fun s r => railOff s r origin) s) j = rail s j := by
  induction l generalizing s with
  | nil => rfl
  | cons r l ih =>
    obtain ⟨fresh, nodup⟩ := List.nodup_cons.mp nodup
    have hr := small r (.head _)
    rw [railsOn_cons, ← Nat.add_assoc] at room
    obtain ⟨one, gone⟩ := railStep_railOff_count (origin := origin) room hr
    have count : railsOn (railOff s r origin) l = railsOn s l := railsOn_congr fun i hi =>
      one.railOn hr (small i (.tail _ hi)) (fun e => fresh (e ▸ hi))
    have same : railOn (railOff s r origin) j = false ∧ rail (railOff s r origin) j = rail s j := by
      by_cases e : j = r
      · subst e
        exact ⟨gone, by rw [railOff_off off]⟩
      · exact ⟨(one.railOn hr hj e).trans off, one.other j e⟩
    rw [List.foldl_cons]
    exact (ih nodup (fun i hi => small i (.tail _ hi)) (by rw [count]; exact logRoom_railOff_count room) same.1).trans same.2

theorem allRailsOff_rail (room : logRoom s (n + railsOn s (List.range 4))) (j : Nat) (hj : j < 4) (off : railOn s j = false) :
    rail (allRailsOff s origin) j = rail s j :=
  rail_foldl_off (s := resetsLow s) List.nodup_range (fun _ h => List.mem_range.mp h) room hj off

/-! ### Rails discharged -/

/-- The rails of a list forced to discharge. -/
def forcedDown (s : State) (l : List Nat) : State :=
  l.foldl (fun s r => refreshDischarge (setRail s r { rail s r with forced := true }) r) s

theorem shutRails_eq (s : State) (r : Nat) :
    shutRails s r = forcedDown (allRailsOff (railOff s r Org.HW) Org.HW) ((List.range 4).filter (railOn s)) := rfl

theorem railStep_forced (s : State) (r : Nat) : RailStep s (refreshDischarge (setRail s r { rail s r with forced := true }) r) r :=
  (RailStep.refl.setRail _).refreshDischarge

theorem discharging_forced (off : railOn s r = false) (drained : (rail s r).drained = false) :
    (refreshDischarge (setRail s r { rail s r with forced := true }) r).flag Pg.HKRAIL (Reg.HKRAIL.STATUS_DISCHARGING.ix r) = true := by
  have off' : railOn (setRail s r { rail s r with forced := true }) r = false := off
  have on : (!railOn (setRail s r { rail s r with forced := true }) r &&
      ((setRail s r { rail s r with forced := true }).flag Pg.HKRAIL (Reg.HKRAIL.CTRL_DISCH.ix r) ||
        (rail (setRail s r { rail s r with forced := true }) r).forced) &&
      !(rail (setRail s r { rail s r with forced := true }) r).drained) = true := by
    rw [off', rail_setRail]
    simp [drained]
  rw [refreshDischarge, on, State.flag, State.putb, State.get_put_same _ _ _ _ (by simp [Fld.ix]) (by simp [Fld.ix])]
  rfl

/-- What forcing the rails of a list to discharge leaves. -/
structure Forced (s t : State) (l : List Nat) (n : Nat) : Prop where
  step : RailsStep s t
  on : ∀ j < 4, railOn t j = railOn s j
  discharging : ∀ j ∈ l, t.flag Pg.HKRAIL (Reg.HKRAIL.STATUS_DISCHARGING.ix j) = true
  others : ∀ j < 4, j ∉ l → t.flag Pg.HKRAIL (Reg.HKRAIL.STATUS_DISCHARGING.ix j) = s.flag Pg.HKRAIL (Reg.HKRAIL.STATUS_DISCHARGING.ix j)
  room : logRoom t n

theorem apart_discharging : ∀ r < 4, ∀ j < 4, apart [(Pg.HKRAIL, Reg.HKRAIL.STATUS_DISCHARGING.ix r)] Pg.HKRAIL (Reg.HKRAIL.STATUS_ON.ix j) = true := by
  decide

theorem railOn_forced (s : State) (hr : r < 4) (hj : j < 4) : railOn (refreshDischarge (setRail s r { rail s r with forced := true }) r) j = railOn s j := by
  have bits : onlyBits s (refreshDischarge (setRail s r { rail s r with forced := true }) r)
      [(Pg.HKRAIL, Reg.HKRAIL.STATUS_DISCHARGING.ix r)] [] :=
    ((onlyBits.refl s).setRail r _).putListed (.head _) (by simp [Fld.ix])
  refine congrArg (fun n => decide (n = 1)) (bits.get_apart (by simp [Fld.ix]; omega) List.not_mem_nil
    (apart_discharging r hr j hj) le_rfl)

theorem forced_forcedDown {l : List Nat} (nodup : l.Nodup) (small : ∀ j ∈ l, j < 4) (off : ∀ j ∈ l, railOn s j = false)
    (drained : ∀ j ∈ l, (rail s j).drained = false) (room : logRoom s n) : Forced s (forcedDown s l) l n := by
  induction l generalizing s with
  | nil => exact ⟨.refl, fun _ _ => rfl, by simp, fun _ _ _ => rfl, room⟩
  | cons r l ih =>
    obtain ⟨fresh, nodup⟩ := List.nodup_cons.mp nodup
    have hr := small r (.head _)
    have one := railStep_forced s r
    have discharging := discharging_forced (off r (.head _)) (drained r (.head _))
    have kept : logRoom (refreshDischarge (setRail s r { rail s r with forced := true }) r) n := room.setRail.putb
    have on (j : Nat) (hj : j < 4) := railOn_forced s hr hj
    unfold forcedDown
    rw [List.foldl_cons]
    generalize refreshDischarge (setRail s r { rail s r with forced := true }) r = u at one discharging kept on
    have tail := ih (s := u) nodup (fun j hj => small j (.tail _ hj)) (fun j hj => (on j (small j (.tail _ hj))).trans (off j (.tail _ hj)))
      (fun j hj => by rw [one.other j (fun e => fresh (e ▸ hj))]; exact drained j (.tail _ hj)) kept
    refine ⟨(one.rails hr).trans tail.step, fun j hj => (tail.on j hj).trans (on j hj), fun j hj => ?_, fun j hj out => ?_, tail.room⟩
    · rcases List.mem_cons.mp hj with rfl | hj
      · exact (tail.others j hr fresh).trans discharging
      · exact tail.discharging j hj
    · obtain ⟨ne, out⟩ := not_or.mp (mt List.mem_cons.mpr out)
      exact (tail.others j hj out).trans (one.discharging hr hj ne)

/-- All rails shut, those that were on discharging. -/
structure Shut (s t : State) : Prop where
  step : RailsStep s t
  off : ∀ j < 4, railOn t j = false
  low : t.hk.rst1 = false ∧ t.hk.rst2 = false
  discharging : ∀ j < 4, railOn s j = true → t.flag Pg.HKRAIL (Reg.HKRAIL.STATUS_DISCHARGING.ix j) = true

theorem railsOn_railOff (one : RailStep s t r) (off : railOn t r = false) (hr : r < 4) (on : railOn s r = true) :
    railsOn t (List.range 4) + 1 = railsOn s (List.range 4) := by
  have split (u : State) : railsOn u (List.range 4) = (if railOn u 0 then 1 else 0) + (if railOn u 1 then 1 else 0) +
      (if railOn u 2 then 1 else 0) + (if railOn u 3 then 1 else 0) := by
    rw [show List.range 4 = [0, 1, 2, 3] from rfl, railsOn_cons, railsOn_cons, railsOn_cons, railsOn_cons]
    simp only [railsOn, List.filter_nil, List.length_nil]
    omega
  rw [split, split]
  have same (j : Nat) (hj : j < 4) (ne : j ≠ r) := one.railOn hr hj ne
  have cases : r = 0 ∨ r = 1 ∨ r = 2 ∨ r = 3 := by omega
  rcases cases with rfl | rfl | rfl | rfl
  · rw [same 1 (by decide) (by decide), same 2 (by decide) (by decide), same 3 (by decide) (by decide), off, on]
    simp; omega
  · rw [same 0 (by decide) (by decide), same 2 (by decide) (by decide), same 3 (by decide) (by decide), off, on]
    simp; omega
  · rw [same 0 (by decide) (by decide), same 1 (by decide) (by decide), same 3 (by decide) (by decide), off, on]
    simp; omega
  · rw [same 0 (by decide) (by decide), same 1 (by decide) (by decide), same 2 (by decide) (by decide), off, on]
    simp

theorem shut_shutRails (room : logRoom s 4) (hr : r < 4) (on : railOn s r = true) : Shut s (shutRails s r) := by
  have one := railStep_railOff (origin := Org.HW) (room.mono (by decide)) hr
  have off := railOn_railOff (origin := Org.HW) (room.mono (by decide)) hr
  have dry := rail_railOff (origin := Org.HW) on
  have fewer := railsOn_railOff one off hr on
  have atMost : railsOn s (List.range 4) ≤ 4 := railsOn_le s _
  have room1 : logRoom (railOff s r Org.HW) (0 + railsOn (railOff s r Org.HW) (List.range 4)) :=
    (logRoom_railOff (n := 3) room).mono (by omega)
  have all := allOff_count (origin := Org.HW) room1
  have kept := (allRailsOff_rail (origin := Org.HW) room1)
  rw [shutRails_eq]
  have mem (j : Nat) : j ∈ (List.range 4).filter (railOn s) ↔ j < 4 ∧ railOn s j = true := by simp
  have forced := forced_forcedDown (l := (List.range 4).filter (railOn s)) (List.nodup_range.filter _)
    (fun j hj => ((mem j).mp hj).1) (fun j hj => all.off j ((mem j).mp hj).1) (fun j hj => by
      obtain ⟨hj, jon⟩ := (mem j).mp hj
      by_cases e : j = r
      · subst e
        rw [kept j hj off]
        exact dry
      · exact all.drained j hj ((one.railOn hr hj e).trans jon)) all.room
  exact ⟨((one.rails hr).trans all.step).trans forced.step, fun j hj => (forced.on j hj).trans (all.off j hj),
    ⟨forced.step.rst.1 all.low.1, forced.step.rst.2 all.low.2⟩, fun j hj jon => forced.discharging j ((mem j).mpr ⟨hj, jon⟩)⟩

end Sys2Proof.Machine
end
section
/-! PROOF. The supply's start and end and the cold reset (R46, R63, R67, R72): the state that a cold reset builds holds the reset value
of every register but the RTC's and a few of CHIP and BACKUP, and the entries for the locks that return fit the cleared log. -/

namespace Sys2Proof.Machine

variable {s t u : State} {a : Nat}

/-! ### Entries in the cleared log -/

/-- An entry that the change log's CTRL does not make persistent changes the CHANGELOG page, a CHANGE_SEQ and the log alone. -/
structure Entries (s t : State) (n : Nat) : Prop where
  rd : ∀ a, a / 0x400 ≠ Pg.CHANGELOG → a % 0x400 ≠ 0x024 → t.rd a = s.rd a
  ctrl : t.rd (addrOf Pg.CHANGELOG Reg.CHANGELOG.CTRL_PERSIST_ORIGIN) = s.rd (addrOf Pg.CHANGELOG Reg.CHANGELOG.CTRL_PERSIST_ORIGIN)
  fill : t.log.fill ≤ s.log.fill + n
  rest : onlyLogged s t

theorem Entries.refl (s : State) : Entries s s 0 := ⟨fun _ _ _ => rfl, rfl, le_rfl, rfl⟩

theorem Entries.trans {m n : Nat} (h : Entries s t m) (k : Entries t u n) : Entries s u (m + n) :=
  ⟨fun a p o => (k.rd a p o).trans (h.rd a p o), k.ctrl.trans h.ctrl, by have := k.fill; have := h.fill; omega, onlyLogged.trans h.rest k.rest⟩

/-- Are entries of the hardware not persistent? -/
def hwPlain (s : State) : Bool := !s.getBit Pg.CHANGELOG Reg.CHANGELOG.CTRL_PERSIST_ORIGIN (persistBit Org.HW)

theorem hwPlain_congr (h : t.rd (addrOf Pg.CHANGELOG Reg.CHANGELOG.CTRL_PERSIST_ORIGIN) =
    s.rd (addrOf Pg.CHANGELOG Reg.CHANGELOG.CTRL_PERSIST_ORIGIN)) : hwPlain t = hwPlain s :=
  congrArg (fun n => !decide (n = 1)) (State.get_congr Pg.CHANGELOG ⟨Reg.CHANGELOG.CTRL_PERSIST_ORIGIN.off,
    Reg.CHANGELOG.CTRL_PERSIST_ORIGIN.lo + persistBit Org.HW, Reg.CHANGELOG.CTRL_PERSIST_ORIGIN.lo + persistBit Org.HW, 0⟩ h)

theorem Entries.hwPlain {n : Nat} (h : Entries s t n) : hwPlain t = hwPlain s := hwPlain_congr h.ctrl

theorem entries_addEntry {page off old new : Nat} (plain : hwPlain s = true) (h : s.log.fill < 1024) :
    Entries s (addEntry s Org.HW page off old new LogFlags.plain) 1 := by
  have bit : s.getBit Pg.CHANGELOG Reg.CHANGELOG.CTRL_PERSIST_ORIGIN (persistBit Org.HW) = false := by simpa [hwPlain] using plain
  have eq : addEntry s Org.HW page off old new LogFlags.plain =
      (logRing s (logEntry s Org.HW page off old new LogFlags.plain false)).bumpWrap Pg.CHANGELOG Reg.CHANGELOG.TOTAL := by
    unfold addEntry
    rw [bit]
    rfl
  have ring := onlyBits_logRing (e := logEntry s Org.HW page off old new LogFlags.plain false) h
  have bits := ring.bumpWrap (p := Pg.CHANGELOG) (f := Reg.CHANGELOG.TOTAL) (by decide)
  rw [eq]
  refine ⟨fun a p o => bits.rd_apart List.not_mem_nil ?_, bits.rd_apart List.not_mem_nil (by decide), ?_, ?_⟩
  · refine List.all_eq_true.mpr fun e he => decide_eq_true fun c => p ?_
    have inLog := logFields_inLog e he
    rw [c, List.mem_singleton] at inLog
    exact inLog
  · simp only [State.bumpWrap_rest, (logRing_room h).1, le_refl]
  · exact (onlyLogged_logRing h).bumpWrap

theorem entries_bumpSeq (h : Entries s t 1) (page : Nat) : Entries s (t.bumpWrap page Reg.HEADER.CHANGE_SEQ) 1 := by
  have apart (b : Nat) (o : b % 0x400 ≠ 0x024) : (t.bumpWrap page Reg.HEADER.CHANGE_SEQ).rd b = t.rd b :=
    State.rd_put_ne _ _ (by simp only [addrOf]; omega)
  exact ⟨fun b p o => (apart b o).trans (h.rd b p o), (apart _ (by decide)).trans h.ctrl, by simpa using h.fill, h.rest.bumpWrap⟩

theorem entries_logChange {page off old new : Nat} (plain : hwPlain s = true) (h : s.log.fill < 1024) :
    Entries s (logChange s Org.HW page off old new) 1 := entries_bumpSeq (entries_addEntry plain h) page

theorem entries_foldl {l : List Nat} {step : State → Nat → State} (H : ∀ u p, hwPlain u = true → u.log.fill < 1024 → Entries u (step u p) 1)
    (plain : hwPlain s = true) (room : s.log.fill + l.length < 1024) : Entries s (l.foldl step s) l.length := by
  induction l generalizing s with
  | nil => exact .refl s
  | cons p l ih =>
    rw [List.length_cons] at room
    have one := H s p plain (by omega)
    have fill := one.fill
    rw [List.foldl_cons, List.length_cons, Nat.add_comm]
    exact one.trans (ih (one.hwPlain.trans plain) (by omega))

/-! ### The state that a cold reset builds -/

/-- The registers of a cold reset before CHIP and BACKUP are set: the RTC's kept, the others at reset. -/
def coldRegs (s : State) : Table Word :=
  (s.regs.filter (fun e => decide (e.1 / 0x400 = Pg.RTC ∧ 0x040 ≤ e.1 % 0x400))).foldl (fun t e => Table.set (resetWord e.1) t e.1 e.2)
    State.reset.regs

theorem get_foldl_set {d : Word} {l : Table Word} {t : Table Word} (h : ∀ e ∈ l, a ≠ e.1) :
    Table.get d (l.foldl (fun t e => Table.set (resetWord e.1) t e.1 e.2) t) a = Table.get d t a := by
  induction l generalizing t with
  | nil => rfl
  | cons e l ih =>
    rw [List.foldl_cons, ih (fun x hx => h x (.tail _ hx))]
    exact Table.get_set_ne _ _ _ _ (h e (.head _))

theorem get_coldRegs (h : a / 0x400 ≠ Pg.RTC) : Table.get (resetWord a) (coldRegs s) a = State.reset.rd a := by
  refine get_foldl_set fun e he c => h ?_
  have kept := (List.mem_filter.mp he).2
  simp only [decide_eq_true_eq] at kept
  rw [c]
  exact kept.1

/-- CHIP:IDENT, RESET_CAUSE and BACKUP:PATH_STATUS as a cold reset sets them, and the trickle charge. -/
def coldMarks (n s : State) (bit : Nat) : State :=
  let n := (n.put Pg.CHIP Reg.CHIP.IDENT_ID_STRAP s.svc.straps).put Pg.CHIP Reg.CHIP.IDENT_MEMBER (s.get Pg.CHIP Reg.CHIP.IDENT_MEMBER)
  let n := n.wr (Pg.CHIP * 0x400 + 0x044) (BitVec.ofNat 32 (2 ^ bit))
  refreshTrickle ((n.put Pg.BACKUP Reg.BACKUP.PATH_STATUS_SOURCE (s.get Pg.BACKUP Reg.BACKUP.PATH_STATUS_SOURCE)).putb Pg.BACKUP
    Reg.BACKUP.PATH_STATUS_BAT_SW (s.flag Pg.BACKUP Reg.BACKUP.PATH_STATUS_BAT_SW))

/-- The pages whose hard or factory lock a cold reset returns. -/
def returnedLocks (s : State) : List Nat :=
  (List.range 0x320).filter (fun p => decide ((pageKind p).isSome) && decide (pageKind p ≠ some .recipe) &&
    decide (2 ≤ s.get p Reg.HEADER.LOCK_STATE))

/-- The entry of a page whose lock returns. -/
def lockReturned (s n : State) (p : Nat) : State := logChange n Org.HW p 0x020 (s.get p Reg.HEADER.LOCK_STATE * 256) (resetNat p 0x020)

/-- The entries of a cold reset: for each lock that returns, and for the test mode that ends. -/
def coldEntries (n s : State) : State :=
  let n := (returnedLocks s).foldl (lockReturned s) n
  if s.flag Pg.FAULT Reg.FAULT.STATUS_TEST_MODE then
    addEntry n Org.HW Pg.FAULT 0x044 (s.rd (addrOf Pg.FAULT Reg.FAULT.STATUS_TEST_MODE)).toNat
      (n.rd (addrOf Pg.FAULT Reg.FAULT.STATUS_TEST_MODE)).toNat LogFlags.plain
  else n

/-- What a cold reset starts from: the parts of the state that it keeps, the others at reset. -/
structure ColdBase (s r : State) : Prop where
  regs : r.regs = coldRegs s
  powered : r.powered = true
  frame : r.frame = 0
  logNew : r.log = LogState.init
  quiet : r.fault.logPending = []
  straps : r.svc.straps = s.svc.straps
  cold : r.svc.coldPend = false
  path : r.backup.path = s.backup.path
  otp : r.otpA = s.otpA ∧ r.otpB = s.otpB
  slots : r.gran.slots = s.gran.slots
  pending : r.pending = s.pending

/-- The state that a cold reset starts from (the model's own, before the marks). -/
def coldFresh (s : State) : State :=
  { State.reset with
    regs := coldRegs s
    free := s.free
    rcUs := s.rcUs
    svc := { SvcState.init with startUs := s.rcUs, straps := s.svc.straps, keys := s.svc.keys }
    fault := { FaultState.init with peerLow := s.fault.peerLow, testPin := s.fault.testPin }
    backup := { BackupState.init with path := s.backup.path, latch := s.backup.latch }
    rtc := { s.rtc with measLost := true }
    snaps := s.snaps.filter (fun e => decide (e.1 % 2 ^ 24 / 0x400 = Pg.RTC))
    timer := { TimerState.init with ext := s.timer.ext }
    otpA := s.otpA
    otpB := s.otpB
    otpWeakA := s.otpWeakA
    otpWeakB := s.otpWeakB
    gran := { s.gran with busy := none, pend := [], stage := [], loadNeeded := true }
    ledger := { LedgerState.init with openNeeded := s.ledger.openNeeded, openSlotErased := s.ledger.openSlotErased }
    pending := s.pending }

theorem coldBase_coldFresh (s : State) : ColdBase s (coldFresh s) where
  regs := rfl
  powered := rfl
  frame := rfl
  logNew := rfl
  quiet := rfl
  straps := rfl
  cold := rfl
  path := rfl
  otp := ⟨rfl, rfl⟩
  slots := rfl
  pending := rfl

theorem coldBuild_split (s : State) (bit : Nat) : coldBuild s bit = coldEntries (coldMarks (coldFresh s) s bit) s := by
  unfold coldBuild coldEntries coldMarks coldFresh coldRegs returnedLocks lockReturned
  rfl

/-- An address that CHIP:IDENT, RESET_CAUSE and BACKUP:PATH_STATUS do not have. -/
def unmarked (a : Nat) : Prop := a ≠ addrOf Pg.CHIP Reg.CHIP.IDENT_ID_STRAP ∧ a ≠ Pg.CHIP * 0x400 + 0x044 ∧
  a ≠ addrOf Pg.BACKUP Reg.BACKUP.PATH_STATUS_SOURCE

theorem rd_refreshTrickle (n : State) (a : Nat) : (refreshTrickle n).rd a = n.rd a := rfl

theorem rd_coldMarks (n s : State) (bit : Nat) (h : unmarked a) : (coldMarks n s bit).rd a = n.rd a := by
  obtain ⟨ident, cause, path⟩ := h
  unfold coldMarks
  have bat : a ≠ addrOf Pg.BACKUP Reg.BACKUP.PATH_STATUS_BAT_SW := path
  have member : a ≠ addrOf Pg.CHIP Reg.CHIP.IDENT_MEMBER := ident
  rw [rd_refreshTrickle, State.putb, State.rd_put_ne _ _ bat, State.rd_put_ne _ _ path, State.rd_wr_ne _ _ cause,
    State.rd_put_ne _ _ member, State.rd_put_ne _ _ ident]

theorem cause_coldMarks (n s : State) (bit : Nat) : (coldMarks n s bit).rd (Pg.CHIP * 0x400 + 0x044) = BitVec.ofNat 32 (2 ^ bit) := by
  unfold coldMarks
  rw [rd_refreshTrickle, State.putb, State.rd_put_ne _ _ (by decide), State.rd_put_ne _ _ (by decide), State.rd_wr_same]

theorem strap_coldMarks (n s : State) (bit : Nat) (h : s.svc.straps < 8) :
    (coldMarks n s bit).get Pg.CHIP Reg.CHIP.IDENT_ID_STRAP = s.svc.straps := by
  unfold coldMarks
  rw [State.get_congr (t := refreshTrickle _) Pg.CHIP _ (rd_refreshTrickle _ _), State.putb, State.get_put_ne _ _ (by decide),
    State.get_put_ne _ _ (by decide), State.get_congr Pg.CHIP Reg.CHIP.IDENT_ID_STRAP (State.rd_wr_ne _ _ (by decide)),
    State.get_put_field (f' := Reg.CHIP.IDENT_ID_STRAP) (f := Reg.CHIP.IDENT_MEMBER) _ _ rfl (by decide) (by decide) (by decide) (by decide),
    State.get_put_same _ _ _ _ (by decide) (by decide)]
  exact Nat.mod_eq_of_lt h

theorem refreshTrickle_rest (n : State) : { refreshTrickle n with rtc := n.rtc } = n := rfl

/-- Does a step change registers and the RTC alone? -/
def onlyRegsRtc (s t : State) : Prop := { t with regs := s.regs, rtc := s.rtc } = s

theorem onlyRegsRtc_refresh (h : { t with regs := s.regs } = s) : onlyRegsRtc s (refreshTrickle t) := by
  have step := refreshTrickle_rest t
  have inner : { ({ refreshTrickle t with rtc := t.rtc } : State) with regs := s.regs } = s := by rw [step]; exact h
  have rtc : s.rtc = t.rtc := (congrArg State.rtc h).symm
  unfold onlyRegsRtc
  rw [rtc]
  exact inner

/-- The marks change registers and the trickle charge alone. -/
theorem coldMarks_rest (n s : State) (bit : Nat) : onlyRegsRtc n (coldMarks n s bit) := by
  unfold coldMarks
  refine onlyRegsRtc_refresh ?_
  simp only [State.putb, State.put, State.wr]

theorem length_returnedLocks (s : State) : (returnedLocks s).length ≤ 800 := (List.length_filter_le _ _).trans (by simp)

theorem entries_coldEntries {n : State} (plain : hwPlain n = true) (empty : n.log.fill = 0) : Entries n (coldEntries n s) 801 := by
  have len := length_returnedLocks s
  have locks := entries_foldl (l := returnedLocks s) (step := lockReturned s) (fun u p hu hf => entries_logChange hu hf) plain (by omega)
  have fill := locks.fill
  have upTo (m : Nat) (x : State) (h : Entries n x m) (hm : m ≤ 801) : Entries n x 801 :=
    ⟨h.rd, h.ctrl, by have := h.fill; omega, h.rest⟩
  unfold coldEntries
  dsimp only
  split
  · exact upTo _ _ (locks.trans (entries_addEntry (locks.hwPlain.trans plain) (by omega))) (by omega)
  · exact upTo _ _ locks (by omega)

/-! ### What the cold reset leaves -/

/-- The state after a cold reset with a cause bit. -/
structure ColdBuilt (s t : State) (bit : Nat) : Prop where
  rd : ∀ a, a / 0x400 ≠ Pg.CHANGELOG → a / 0x400 ≠ Pg.RTC → a % 0x400 ≠ 0x024 → unmarked a → t.rd a = State.reset.rd a
  cause : t.rd (Pg.CHIP * 0x400 + 0x044) = BitVec.ofNat 32 (2 ^ bit)
  strap : s.svc.straps < 8 → t.get Pg.CHIP Reg.CHIP.IDENT_ID_STRAP = s.svc.straps
  powered : t.powered = true
  frame : t.frame = 0
  quiet : t.fault.logPending = []
  straps : t.svc.straps = s.svc.straps
  cold : t.svc.coldPend = false
  path : t.backup.path = s.backup.path
  otp : t.otpA = s.otpA ∧ t.otpB = s.otpB
  slots : t.gran.slots = s.gran.slots
  pending : t.pending = s.pending

theorem coldMarks_field {α : Type} (n s : State) (bit : Nat) (g : State → α) :
    g { coldMarks n s bit with regs := n.regs, rtc := n.rtc } = g n := congrArg g (coldMarks_rest n s bit)

theorem coldBuilt_coldBuild (s : State) (bit : Nat) : ColdBuilt s (coldBuild s bit) bit := by
  rw [coldBuild_split]
  have base := coldBase_coldFresh s
  generalize coldFresh s = r at base ⊢
  have rdBase (a : Nat) (h : a / 0x400 ≠ Pg.RTC) : r.rd a = State.reset.rd a := by
    rw [State.rd, base.regs, get_coldRegs h]
  have log : (coldMarks r s bit).log = LogState.init := (coldMarks_field r s bit State.log :).trans base.logNew
  have plain : hwPlain (coldMarks r s bit) = true := by
    have ctrl : (coldMarks r s bit).rd (addrOf Pg.CHANGELOG Reg.CHANGELOG.CTRL_PERSIST_ORIGIN) =
        State.reset.rd (addrOf Pg.CHANGELOG Reg.CHANGELOG.CTRL_PERSIST_ORIGIN) :=
      (rd_coldMarks r s bit (by unfold unmarked; decide)).trans (rdBase _ (by decide))
    exact (hwPlain_congr ctrl).trans (by decide)
  have made := entries_coldEntries (s := s) plain (by rw [log]; rfl)
  have field {α : Type} (g : State → α) : g { coldEntries (coldMarks r s bit) s with
      regs := (coldMarks r s bit).regs, log := (coldMarks r s bit).log } = g (coldMarks r s bit) := congrArg g made.rest
  refine ⟨fun a p q o m => ?_, ?_, fun small => ?_, ?_, ?_, ?_, ?_, ?_, ?_, ⟨?_, ?_⟩, ?_, ?_⟩
  · rw [made.rd a p o, rd_coldMarks r s bit m, rdBase a q]
  · rw [made.rd _ (by decide) (by decide), cause_coldMarks]
  · rw [State.get_congr Pg.CHIP _ (made.rd _ (by decide) (by decide)), strap_coldMarks r s bit small]
  · exact (field State.powered :).trans ((coldMarks_field r s bit State.powered :).trans base.powered)
  · exact (field State.frame :).trans ((coldMarks_field r s bit State.frame :).trans base.frame)
  · exact (congrArg FaultState.logPending (field State.fault :) :).trans
      ((congrArg FaultState.logPending (coldMarks_field r s bit State.fault :) :).trans base.quiet)
  · exact (congrArg SvcState.straps (field State.svc :) :).trans
      ((congrArg SvcState.straps (coldMarks_field r s bit State.svc :) :).trans base.straps)
  · exact (congrArg SvcState.coldPend (field State.svc :) :).trans
      ((congrArg SvcState.coldPend (coldMarks_field r s bit State.svc :) :).trans base.cold)
  · exact (congrArg BackupState.path (field State.backup :) :).trans
      ((congrArg BackupState.path (coldMarks_field r s bit State.backup :) :).trans base.path)
  · exact (field State.otpA :).trans ((coldMarks_field r s bit State.otpA :).trans base.otp.1)
  · exact (field State.otpB :).trans ((coldMarks_field r s bit State.otpB :).trans base.otp.2)
  · exact (congrArg GranaryState.slots (field State.gran :) :).trans
      ((congrArg GranaryState.slots (coldMarks_field r s bit State.gran :) :).trans base.slots)
  · exact (field State.pending :).trans ((coldMarks_field r s bit State.pending :).trans base.pending)

end Sys2Proof.Machine
end
section
/-! PROOF. O14: the supply's start and end, and the cold reset. -/

namespace Sys2Proof.Machine

variable {s t u : State} {a : Nat}

theorem flushLog_quiet (h : s.fault.logPending = []) : flushLog s = s := by
  have e : s.fault = { s.fault with logPending := [] } := by rw [← h]
  unfold flushLog
  rw [h, List.foldl_nil, ← e]

/-! ### Main pages at reset -/

theorem rd_reset_main (main : pageIsMain (a / 0x400) = true) : State.reset.rd a = resetWord a := by
  have fault : 0x1844 ≠ a := fun e => by rw [← e] at main; revert main; decide
  have gauge : 0x3C58 ≠ a := fun e => by rw [← e] at main; revert main; decide
  unfold State.reset State.rd
  simp only [Table.get, if_neg fault, if_neg gauge]

theorem page_of_main (main : pageIsMain (a / 0x400) = true) {p : Nat} (h : pageIsMain p = false) : a / 0x400 ≠ p := by
  intro e
  rw [e, h] at main
  exact Bool.noConfusion main

theorem unmarked_of_page (chip : a / 0x400 ≠ Pg.CHIP) (backup : a / 0x400 ≠ Pg.BACKUP) : unmarked a := by
  refine ⟨fun e => chip ?_, fun e => chip ?_, fun e => backup ?_⟩ <;> rw [e] <;> decide

theorem ColdBuilt.rd_main {bit : Nat} (h : ColdBuilt s t bit) (main : pageIsMain (a / 0x400) = true) (seq : a % 0x400 ≠ 0x024) :
    t.rd a = resetWord a :=
  (h.rd a (page_of_main main (by decide)) (page_of_main main (by decide)) seq (unmarked_of_page (page_of_main main (by decide))
    (page_of_main main (by decide)))).trans (rd_reset_main main)

/-- A state whose main pages read as a cold reset's. -/
theorem mainAtReset_of {bit : Nat} (h : ColdBuilt s t bit) (k : ∀ a, pageIsMain (a / 0x400) = true → u.rd a = t.rd a) : mainAtReset u :=
  fun a main seq => (k a main).trans (h.rd_main main seq)

theorem ColdBuilt.service {bit : Nat} (h : ColdBuilt s t bit) : t.service = Svc.SAFETY_START :=
  (State.get_congr Pg.CHIP Reg.CHIP.STATUS_SERVICE (h.rd _ (by decide) (by decide) (by decide) (by unfold unmarked; decide))).trans
    (by decide)

theorem ColdBuilt.railOn {bit r : Nat} (h : ColdBuilt s t bit) (hr : r < 4) : railOn t r = false := by
  have off : ∀ r < 4, Machine.railOn State.reset r = false := by decide
  have place : ∀ r < 4, addrOf Pg.HKRAIL (Reg.HKRAIL.STATUS_ON.ix r) / 0x400 ≠ Pg.CHANGELOG ∧
      addrOf Pg.HKRAIL (Reg.HKRAIL.STATUS_ON.ix r) / 0x400 ≠ Pg.RTC ∧ addrOf Pg.HKRAIL (Reg.HKRAIL.STATUS_ON.ix r) % 0x400 ≠ 0x024 ∧
      addrOf Pg.HKRAIL (Reg.HKRAIL.STATUS_ON.ix r) / 0x400 ≠ Pg.CHIP ∧
      addrOf Pg.HKRAIL (Reg.HKRAIL.STATUS_ON.ix r) / 0x400 ≠ Pg.BACKUP := by decide
  obtain ⟨log, rtc, seq, chip, backup⟩ := place r hr
  have same := State.get_congr Pg.HKRAIL (Reg.HKRAIL.STATUS_ON.ix r) (h.rd _ log rtc seq (unmarked_of_page chip backup))
  rw [Machine.railOn, State.flag, same]
  exact off r hr

theorem ColdBuilt.resetCause {bit : Nat} (h : ColdBuilt s t bit) (hb : bit = 0 ∨ bit = 1) :
    t.get Pg.CHIP Reg.CHIP.RESET_CAUSE = bit + 1 := by
  have word : t.get Pg.CHIP Reg.CHIP.RESET_CAUSE = bitsOf (BitVec.ofNat 32 (2 ^ bit)).toNat Reg.CHIP.RESET_CAUSE.hi Reg.CHIP.RESET_CAUSE.lo :=
    congrArg (fun w : Word => bitsOf w.toNat Reg.CHIP.RESET_CAUSE.hi Reg.CHIP.RESET_CAUSE.lo) h.cause
  rw [word]
  rcases hb with rfl | rfl <;> decide

/-! ### VSYS_POWER_ON -/

theorem get_filter {d : Word} {keep : Nat → Bool} {l : Table Word} (h : keep a = true) :
    Table.get d (l.filter (fun e => keep e.1)) a = Table.get d l a := by
  induction l with
  | nil => rfl
  | cons e l ih =>
    by_cases c : e.1 = a
    · rw [List.filter_cons_of_pos (by rw [c]; exact h)]
      simp only [Table.get, c, if_true]
    · have skip : Table.get d (e :: l) a = Table.get d l a := by simp only [Table.get, if_neg c]
      rw [skip, ← ih, List.filter_cons]
      split
      · simp only [Table.get, if_neg c]
      · rfl

theorem rd_rtcPowerOn (s : State) (h : a / 0x400 ≠ Pg.RTC) : (rtcPowerOn s).rd a = s.rd a :=
  get_filter (keep := fun b => !(decide (b / 0x400 = Pg.RTC) && decide (0x040 ≤ b % 0x400))) (by simp [h])

/-- What the backup domain's start leaves alone. -/
theorem rtcPowerOn_rest (s : State) : { rtcPowerOn s with regs := s.regs, snaps := s.snaps, rtc := s.rtc } = s := rfl

/-- The backup domain started where it is not alive, and the pack's mark cleared. -/
def domainUp (s : State) : State := (if s.rtc.alive then s else rtcPowerOn s).putb Pg.RTC Reg.RTC.STATUS_ON_VBK false

theorem domainUp_rest (s : State) : { domainUp s with regs := s.regs, snaps := s.snaps, rtc := s.rtc } = s := by
  unfold domainUp
  split
  · rfl
  · exact rtcPowerOn_rest s

theorem rd_domainUp (s : State) (h : a / 0x400 ≠ Pg.RTC) : (domainUp s).rd a = s.rd a := by
  have apart : a ≠ addrOf Pg.RTC Reg.RTC.STATUS_ON_VBK := fun e => h (by rw [e]; decide)
  unfold domainUp
  rw [State.putb, State.rd_put_ne _ _ apart]
  split
  · rfl
  · exact rd_rtcPowerOn s h

/-- A device with supply and its straps sampled. -/
def sampled (s : State) (strap : Nat) : State := { s with powered := true, svc := { s.svc with straps := strap } }

theorem powerUp_eq (s : State) (strap : Nat) : powerUp s strap = domainUp (coldBuild (sampled s strap) 0) := rfl

theorem vsysPowerOn_starts (s : State) (strap : Nat) (off : s.powered = false) (small : strap < 8)
    (path : s.backup.path = true ∨ s.backup.latch = false) : gives (.vsysPowerOn strap) s (fun t =>
      t.powered = true ∧ t.service = Svc.SAFETY_START ∧ t.strap = strap ∧ t.svc.straps = strap ∧
      t.get Pg.CHIP Reg.CHIP.RESET_CAUSE = 1 ∧ t.frame = 0 ∧ mainAtReset t ∧ t.otpA = s.otpA ∧ t.otpB = s.otpB ∧
      t.pending = s.pending) := by
  have built := coldBuilt_coldBuild (sampled s strap) 0
  have up := powerUp_eq s strap
  generalize coldBuild (sampled s strap) 0 = v at built up
  have field {α : Type} (g : State → α) : g { domainUp v with regs := v.regs, snaps := v.snaps, rtc := v.rtc } = g v :=
    congrArg g (domainUp_rest v)
  have same {p : Nat} (hp : p ≠ Pg.RTC) (f : Fld) (hf : f.off < 0x400) : (domainUp v).get p f = v.get p f := by
    refine State.get_congr p f (rd_domainUp v ?_)
    simp only [addrOf]
    omega
  have quiet : (domainUp v).fault.logPending = [] := (congrArg FaultState.logPending (field State.fault :) :).trans built.quiet
  have straps : v.svc.straps = strap := built.straps
  refine ⟨{ domainUp v with pending := s.pending, otpA := s.otpA, otpB := s.otpB }, ?_, ?_⟩
  · show execVsysPowerOn strap s = _
    rw [execVsysPowerOn, if_pos ⟨off, small, path⟩, finishSupply, up, flushLog_quiet quiet]
  · refine ⟨(field State.powered :).trans built.powered, (same (by decide) _ (by decide)).trans built.service, ?_, ?_, ?_, ?_,
      mainAtReset_of built fun a main => rd_domainUp v (page_of_main main (by decide)), rfl, rfl, rfl⟩
    · exact (same (by decide) _ (by decide)).trans (built.strap small)
    · exact (congrArg SvcState.straps (field State.svc :) :).trans straps
    · exact (same (by decide) _ (by decide)).trans (built.resetCause (.inl rfl))
    · exact (field State.frame :).trans built.frame

/-! ### VSYS_POWER_LOSS -/

/-- The registers that the loss of VSYS writes over the cold state. -/
def packShown (s : State) : State :=
  (s.resetReg Pg.BACKUP Reg.BACKUP.PATH_STATUS.off).putb Pg.RTC Reg.RTC.STATUS_ON_VBK true

theorem rd_packShown (s : State) (backup : a / 0x400 ≠ Pg.BACKUP) (rtc : a / 0x400 ≠ Pg.RTC) : (packShown s).rd a = s.rd a := by
  have path : a ≠ Pg.BACKUP * 0x400 + Reg.BACKUP.PATH_STATUS.off := fun e => backup (by rw [e]; decide)
  have vbk : a ≠ addrOf Pg.RTC Reg.RTC.STATUS_ON_VBK := fun e => rtc (by rw [e]; decide)
  rw [packShown, State.putb, State.rd_put_ne _ _ vbk, State.resetReg, State.rd_wr_ne _ _ path]

/-- A state without supply: the log and the trickle charge gone, the path converter off. -/
def unpowered (s : State) : State :=
  { s with log := LogState.init, backup := { s.backup with path := false }, rtc := { s.rtc with trickle := none }, reply := Reply.init }

theorem powerDown_eq (s : State) : powerDown s = unpowered (packShown (coldBuild (tearEmergency (abandonCommit s)) 0)) := rfl

theorem packShown_rest (s : State) : onlyRegs s (packShown s) := rfl

theorem vsysPowerLoss_ends_supply (s : State) (on : s.powered = true) : gives .vsysPowerLoss s (fun t =>
      t.powered = false ∧ t.service = Svc.SAFETY_START ∧ t.flag Pg.RTC Reg.RTC.STATUS_ON_VBK = true ∧
      t.backup.path = false ∧ t.frame = 0 ∧ mainAtReset t ∧ t.otpA = s.otpA ∧ t.otpB = s.otpB ∧
      t.pending = s.pending) := by
  have built := coldBuilt_coldBuild (tearEmergency (abandonCommit s)) 0
  have down := powerDown_eq s
  generalize coldBuild (tearEmergency (abandonCommit s)) 0 = v at built down
  have rest := packShown_rest v
  have shown (a : Nat) (backup : a / 0x400 ≠ Pg.BACKUP) (rtc : a / 0x400 ≠ Pg.RTC) : (packShown v).rd a = v.rd a :=
    rd_packShown v backup rtc
  have mark : (packShown v).flag Pg.RTC Reg.RTC.STATUS_ON_VBK = true := flag_putb_same _ _ _ _ rfl (by decide)
  generalize packShown v = w at rest shown mark down
  have quiet : w.fault.logPending = [] := (congrArg FaultState.logPending (rest.field State.fault) :).trans built.quiet
  refine ⟨{ unpowered w with powered := false, pending := s.pending, otpA := s.otpA, otpB := s.otpB }, ?_, ?_⟩
  · have flushed : flushLog { unpowered w with powered := false } = { unpowered w with powered := false } := flushLog_quiet quiet
    show execVsysPowerLoss s = _
    rw [execVsysPowerLoss, if_pos on, finishSupply, down, flushed]
  · refine ⟨rfl, ?_, mark, rfl, (rest.field State.frame :).trans built.frame, mainAtReset_of built fun a main =>
      shown a (page_of_main main (by decide)) (page_of_main main (by decide)), rfl, rfl, rfl⟩
    exact (State.get_congr (t := w) Pg.CHIP Reg.CHIP.STATUS_SERVICE (shown _ (by decide) (by decide))).trans built.service

/-! ### COLD_RESET_EXECUTE -/

/-- `t` has the service part and the Granary of `s`. -/
structure PartsKept (s t : State) : Prop where
  svc : t.svc = s.svc
  gran : t.gran = s.gran

namespace PartsKept

theorem refl : PartsKept s s := ⟨rfl, rfl⟩

theorem put {p v : Nat} {f : Fld} (h : PartsKept s t) : PartsKept s (t.put p f v) := ⟨h.svc, h.gran⟩

theorem hk (h : PartsKept s t) (svc : u.svc = t.svc) (gran : u.gran = t.gran) : PartsKept s u := ⟨svc.trans h.svc, gran.trans h.gran⟩

theorem ite {c : Prop} [Decidable c] {a b : State} (ha : PartsKept s a) (hb : PartsKept s b) : PartsKept s (if c then a else b) := by
  split
  · exact ha
  · exact hb

theorem addEntry {o p off old new : Nat} {f : LogFlags} (h : PartsKept s t) : PartsKept s (addEntry t o p off old new f) := by
  have held : Held noAddr t (Machine.addEntry t o p off old new f) := Held.addEntry (Held.refl t)
  exact h.hk (held.field State.svc) (held.field State.gran)

theorem putLogged {o p v : Nat} {f : Fld} (h : PartsKept s t) : PartsKept s (putLogged t o p f v) := by
  unfold Machine.putLogged logChange
  exact .ite h (.put (.addEntry (.put h)))

theorem setReset {k : Nat} {b : Bool} (h : PartsKept s t) : PartsKept s (setReset t k b) := h.hk rfl rfl

theorem foldl {α : Type} {step : State → α → State} {l : List α} (h : PartsKept s t)
    (H : ∀ u x, PartsKept s u → PartsKept s (step u x)) : PartsKept s (l.foldl step t) := by
  induction l generalizing t with
  | nil => exact h
  | cons x l ih => exact ih (H t x h)

theorem setRail {r : Nat} {x : RailState} (h : PartsKept s t) : PartsKept s (setRail t r x) := h.hk rfl rfl

theorem railRested {r : Nat} (h : PartsKept s t) : PartsKept s (railRested t r) := by
  have cleared : PartsKept s (railCleared t r) := PartsKept.put (.put (.put (.put (.put h))))
  have rested : PartsKept s (refreshDischarge (Machine.setRail (railCleared t r) r (railIdle (rail (railCleared t r) r))) r) :=
    .put cleared.setRail
  exact .put (.foldl rested fun _ _ h => .ite h.setReset h)

theorem railOff {r o : Nat} (h : PartsKept s t) : PartsKept s (railOff t r o) := by
  cases on : Machine.railOn t r
  · rw [railOff_off on]
    exact h
  · rw [railOff_on on]
    exact .railRested (.put (.putLogged h))

theorem allRailsOff {o : Nat} (h : PartsKept s t) : PartsKept s (allRailsOff t o) :=
  .foldl (.setReset (.setReset h)) fun _ _ h => h.railOff

end PartsKept

theorem coldReset_executes (s : State) (on : s.powered = true) (due : s.svc.coldPend = true) : gives .coldResetExecute s (fun t =>
      t.powered = true ∧ t.service = Svc.SAFETY_START ∧ t.svc.coldPend = false ∧
      (s.svc.straps < 8 → t.strap = s.svc.straps) ∧ t.get Pg.CHIP Reg.CHIP.RESET_CAUSE = 2 ∧ t.frame = 0 ∧
      mainAtReset t ∧ t.gran.slots = s.gran.slots ∧ (∀ r < 4, railOn t r = false) ∧ t.otpA = s.otpA ∧
      t.otpB = s.otpB ∧ t.pending = s.pending) := by
  have kept : PartsKept s (allRailsOff s Org.HW) := PartsKept.refl.allRailsOff
  have built := coldBuilt_coldBuild (allRailsOff s Org.HW) 1
  have run : exec .coldResetExecute s = takes s (s.powered && s.svc.coldPend) (fun s => coldBuild (allRailsOff s Org.HW) 1) := rfl
  have straps : (allRailsOff s Org.HW).svc.straps = s.svc.straps := congrArg SvcState.straps kept.svc
  have slots : (allRailsOff s Org.HW).gran.slots = s.gran.slots := congrArg GranaryState.slots kept.gran
  rw [takes, if_pos (by rw [on, due]; rfl), finish, flushLog_quiet built.quiet] at run
  generalize coldBuild (allRailsOff s Org.HW) 1 = v at built run
  refine ⟨_, run, on, built.service, built.cold, fun small => ?_, built.resetCause (.inr rfl), built.frame,
    mainAtReset_of built fun _ _ => rfl, built.slots.trans slots, fun r hr => built.railOn hr, rfl, rfl, rfl⟩
  exact (built.strap (by rw [straps]; exact small)).trans straps

end Sys2Proof.Machine

open Sys2Proof Sys2Proof.Machine

/-- Settles O14: a cold reset's state holds every main page at reset, and each of the three events adds its own marks. -/
theorem supplyStartsAndEndsTheDevice : Obligations.SupplyStartsAndEndsTheDevice := by
  unfold Obligations.SupplyStartsAndEndsTheDevice
  exact ⟨vsysPowerOn_starts, vsysPowerLoss_ends_supply, coldReset_executes⟩

end
section
/-! PROOF. O45: what starts a housekeeping sequence, what ends it, and the rails that the host switches in ON. -/

namespace Sys2Proof.Machine

variable {s t u : State} {r j n : Nat} {clear : Bool}

/-! ### A sequence that starts -/

/-- The registers of a sequence in UP. -/
def upShown (s : State) (clear : Bool) : State :=
  let s := (setHk s Hq.UP).putb Pg.HKSEQ Reg.HKSEQ.STATUS_EMERG_OFF false
  if clear then s.put Pg.HKSEQ Reg.HKSEQ.STATUS_FAILS 0 else s

/-- Every rail's failed windows forgotten. -/
def failsCleared (s : State) : State := (List.range 4).foldl (fun s r => setRail s r { rail s r with fails := 0 }) s

/-- A common start due. -/
def startDue (s : State) : State := { s with hk := { s.hk with start := true } }

theorem enterUp_eq (s : State) (clear : Bool) : enterUp s clear = refreshHkUp (startDue (failsCleared (upShown s clear))) := rfl

theorem failsCleared_rest (s : State) : { failsCleared s with hk := { (failsCleared s).hk with rails := s.hk.rails } } = s := by
  have step (l : List Nat) (u : State) (h : { u with hk := { u.hk with rails := s.hk.rails } } = s) :
      { l.foldl (fun s r => setRail s r { rail s r with fails := 0 }) u with
        hk := { (l.foldl (fun s r => setRail s r { rail s r with fails := 0 }) u).hk with rails := s.hk.rails } } = s := by
    induction l generalizing u with
    | nil => exact h
    | cons r l ih => exact ih _ h
  exact step _ s rfl

theorem fails_setRail (s : State) (r j : Nat) (h : (rail s j).fails = 0) :
    (rail (setRail s r { rail s r with fails := 0 }) j).fails = 0 := by
  by_cases e : j = r
  · subst e
    rw [rail_setRail]
  · rw [show rail (setRail s r { rail s r with fails := 0 }) j = rail s j from Table.get_set_ne _ _ _ _ e, h]

theorem fails_failsCleared (s : State) (hj : j < 4) : (rail (failsCleared s) j).fails = 0 := by
  have step (l : List Nat) (u : State) (h : j ∈ l ∨ (rail u j).fails = 0) :
      (rail (l.foldl (fun s r => setRail s r { rail s r with fails := 0 }) u) j).fails = 0 := by
    induction l generalizing u with
    | nil => simpa using h
    | cons r l ih =>
      refine ih _ ?_
      by_cases e : j = r
      · subst e
        exact .inr (by rw [rail_setRail])
      · rcases h with m | h
        · exact .inl (List.mem_of_ne_of_mem e m)
        · exact .inr (fails_setRail u r j h)
  exact step _ s (.inl (List.mem_range.mpr hj))

/-- What a start leaves where it leaves FAILS alone. -/
structure Upped (s t : State) : Prop where
  state : hkState t = Hq.UP
  start : t.hk.start = true
  emerg : t.flag Pg.HKSEQ Reg.HKSEQ.STATUS_EMERG_OFF = false
  hkUp : t.flag Pg.CHIP Reg.CHIP.STATUS_HK_UP = false
  fails : ∀ j < 4, (rail t j).fails = 0
  rest : { t with regs := s.regs, hk := { t.hk with start := s.hk.start, rails := s.hk.rails } } = s

theorem hkState_refreshHkUp (s : State) : hkState (refreshHkUp s) = hkState s := get_refreshHkUp s (by decide)

theorem hkState_startDue (s : State) : hkState (startDue s) = hkState s := rfl

theorem regs_failsCleared (s : State) : (failsCleared s).regs = s.regs := (congrArg State.regs (failsCleared_rest s) :)

theorem hkState_failsCleared (s : State) : hkState (failsCleared s) = hkState s := get_of_regs (regs_failsCleared s)

theorem flag_of_regs {p : Nat} {f : Fld} (h : t.regs = s.regs) : t.flag p f = s.flag p f := by
  rw [State.flag, get_of_regs h]
  rfl

theorem upShown_marks (s : State) (clear : Bool) : hkState (upShown s clear) = Hq.UP ∧
    (upShown s clear).flag Pg.HKSEQ Reg.HKSEQ.STATUS_EMERG_OFF = false := by
  have base : hkState ((setHk s Hq.UP).putb Pg.HKSEQ Reg.HKSEQ.STATUS_EMERG_OFF false) = Hq.UP := by
    rw [hkState, State.putb, State.get_put_field (f' := Reg.HKSEQ.STATUS_STATE) (f := Reg.HKSEQ.STATUS_EMERG_OFF) _ _ rfl
      (by decide) (by decide) (by decide) (by decide), setHk, State.get_put_same _ _ _ _ (by decide) (by decide)]
    rfl
  have off := flag_put_zero (setHk s Hq.UP) Pg.HKSEQ Reg.HKSEQ.STATUS_EMERG_OFF (by decide) (by decide)
  unfold upShown
  cases clear
  · exact ⟨base, off⟩
  · refine ⟨?_, ?_⟩
    · exact (State.get_put_field (f' := Reg.HKSEQ.STATUS_STATE) (f := Reg.HKSEQ.STATUS_FAILS) _ _ rfl (by decide) (by decide)
        (by decide) (by decide)).trans base
    · exact (congrArg (fun n => decide (n = 1)) (State.get_put_field (f' := Reg.HKSEQ.STATUS_EMERG_OFF) (f := Reg.HKSEQ.STATUS_FAILS)
        _ _ rfl (by decide) (by decide) (by decide) (by decide))).trans off

theorem hkUp_refreshHkUp (h : hkState s ≠ Hq.ON) : (refreshHkUp s).flag Pg.CHIP Reg.CHIP.STATUS_HK_UP = false := by
  rw [refreshHkUp, decide_eq_false h]
  exact flag_put_zero _ _ _ le_rfl (by decide)

theorem upShown_rest (s : State) (clear : Bool) : onlyRegs s (upShown s clear) := by
  have base : onlyRegs s ((setHk s Hq.UP).putb Pg.HKSEQ Reg.HKSEQ.STATUS_EMERG_OFF false) := .put (.put (rfl : onlyRegs s s))
  unfold upShown
  cases clear
  · exact base
  · exact .put base

theorem get_startDue (s : State) (p : Nat) (f : Fld) : (startDue s).get p f = s.get p f := rfl

/-- A state with another's registers, rails and mark of a start. -/
def startOf (s t : State) : State := { t with regs := s.regs, hk := { t.hk with start := s.hk.start, rails := s.hk.rails } }

theorem startOf_rest {v : State} (shown : onlyRegs s u) (rest : { v with hk := { v.hk with rails := u.hk.rails } } = u) :
    startOf s (refreshHkUp (startDue v)) = s := by
  have first : startOf s { v with hk := { v.hk with rails := u.hk.rails } } = startOf s u := congrArg (startOf s) rest
  have second : startOf s { u with regs := s.regs } = startOf s s := congrArg (startOf s) shown
  exact first.trans second

theorem upped_enterUp (s : State) (clear : Bool) : Upped s (enterUp s clear) := by
  rw [enterUp_eq]
  obtain ⟨state, emerg⟩ := upShown_marks s clear
  have shown := upShown_rest s clear
  generalize upShown s clear = u at state emerg shown
  have rest := failsCleared_rest u
  have fails (j : Nat) (hj : j < 4) := fails_failsCleared u hj
  have state' := (hkState_failsCleared u).trans state
  have emerg' := (flag_of_regs (p := Pg.HKSEQ) (f := Reg.HKSEQ.STATUS_EMERG_OFF) (regs_failsCleared u)).trans emerg
  generalize failsCleared u = v at rest fails state' emerg'
  refine ⟨?_, rfl, ?_, ?_, fun j hj => ?_, ?_⟩
  · rw [hkState_refreshHkUp, hkState_startDue, state']
  · refine (congrArg (fun n => decide (n = 1)) (get_refreshHkUp (p := Pg.HKSEQ) (f := Reg.HKSEQ.STATUS_EMERG_OFF) _ (by decide))).trans ?_
    exact (flag_of_regs (t := startDue v) rfl).trans emerg'
  · refine hkUp_refreshHkUp ?_
    rw [hkState_startDue, state']
    decide
  · exact fails j hj
  · exact startOf_rest shown rest

theorem onlyBits.startDue {l : List (Nat × Fld)} {ps : List Nat} (h : onlyBits s t l ps) : onlyBits s (startDue t) l ps := h.regs rfl

theorem onlyBits.hkUpListed {l : List (Nat × Fld)} {ps : List Nat} (h : onlyBits s t l ps) (m : (Pg.CHIP, Reg.CHIP.STATUS_HK_UP) ∈ l) :
    onlyBits s (refreshHkUp t) l ps := h.putListed m (by decide)

theorem onlyBits_enterUp_plain (s : State) : onlyBits s (enterUp s false) [(Pg.HKSEQ, Reg.HKSEQ.STATUS_STATE),
    (Pg.HKSEQ, Reg.HKSEQ.STATUS_EMERG_OFF), (Pg.CHIP, Reg.CHIP.STATUS_HK_UP)] [] := by
  have shown : onlyBits s (upShown s false) [(Pg.HKSEQ, Reg.HKSEQ.STATUS_STATE), (Pg.HKSEQ, Reg.HKSEQ.STATUS_EMERG_OFF),
      (Pg.CHIP, Reg.CHIP.STATUS_HK_UP)] [] := ((onlyBits.refl s).put (by decide)).putb (by decide)
  rw [enterUp_eq]
  exact ((shown.regs (regs_failsCleared _)).startDue).hkUpListed (.tail _ (.tail _ (.head _)))

theorem enterUp_fails (s : State) : (enterUp s true).get Pg.HKSEQ Reg.HKSEQ.STATUS_FAILS = 0 := by
  rw [enterUp_eq, get_refreshHkUp _ (by decide), get_startDue,
    get_of_regs (regs_failsCleared _), upShown, if_pos rfl, State.get_put_same _ _ _ _ (by decide) (by decide)]
  rfl

/-! ### The host's commands -/

/-- A command of HKSEQ by the host port that the sequencer takes, its key with it. -/
theorem hkseqCommand {op : Nat} {v : State → State} (reach : hostReach s Pg.HKSEQ 0x044) (hop : op = 1 ∨ op = 2) (room : logRoom s 1)
    (takes : ∀ u, hkState u = hkState s → hkCommand u op Org.HOST = some (v u)) :
    ∃ u, writeReg s Org.HOST (Pg.HKSEQ * 0x400 + 0x044) (0x5EC00000 + op) = (v u, .ok) ∧ Logged s u Pg.HKSEQ := by
  have word : bitsOf (woBits (kindFields .hkseq 0x044) (0x5EC00000 + op)) 31 16 = 0x5EC0 ∧
      bitsOf (woBits (kindFields .hkseq 0x044) (0x5EC00000 + op)) 1 0 = op ∧ woBits (kindFields .hkseq 0x044) (0x5EC00000 + op) ≠ 0 ∧
      commandEntry .hkseq 0x044 (0x5EC00000 + op) = true ∧ 0x5EC00000 + op < 2 ^ 32 := by
    rcases hop with rfl | rfl <;> decide
  obtain ⟨key, code, asked, entry, small⟩ := word
  have rule : rulePage s (wrAt s Org.HOST .hkseq Pg.HKSEQ 0x044 (0x5EC00000 + op)) = .take := by
    have here := takes s rfl
    simp [rulePage, ruleHkseq, Wr.cmd, key, code, here, Wr.need]
  obtain ⟨u, write, logged, -⟩ := hostCommand_logged (k := .hkseq) reach rfl (by decide) small rule (.inl asked) entry room
  have act : actPageWrite u (wrAt s Org.HOST .hkseq Pg.HKSEQ 0x044 (0x5EC00000 + op)) = v u := by
    have there := takes u (logged.get (by decide) (by decide) (by decide))
    simp [actPageWrite, actHkseq, Wr.cmd, code, there]
  rw [act] at write
  exact ⟨u, write, logged⟩

theorem hkCommand_up (off : hkState s = Hq.OFF) : hkCommand s 1 Org.HOST = some (enterUp s true) := by
  simp [hkCommand, upAllowed, cmdUp, off]

theorem hkCommand_down (on : hkState s = Hq.ON ∨ hkState s = Hq.UP) : hkCommand s 2 Org.HOST = some (enterDown s Org.HOST) := by
  have allowed : downAllowed s = true := decide_eq_true on.symm
  simp [hkCommand, allowed]

/-! ### A sequence that ends -/

/-- The registers of a sequence in DOWN, and its request. -/
def downShown (s : State) : State := (setHk s Hq.DOWN).put Pg.HKSEQ Reg.HKSEQ.OFF_RESULT_RESULT 0

/-- A common start due for a DOWN that an origin asked for. -/
def downDue (s : State) (o was : Nat) : State := { s with hk := { s.hk with start := true, downReq := some (o, was) } }

theorem enterDown_eq (s : State) (o : Nat) :
    enterDown s o = refreshHkUp (downDue (downShown s) o (s.get Pg.HKSEQ Reg.HKSEQ.OFF_RESULT_RESULT)) := rfl

theorem get_downDue (s : State) (o was p : Nat) (f : Fld) : (downDue s o was).get p f = s.get p f := rfl

theorem downShown_marks (s : State) : hkState (downShown s) = Hq.DOWN ∧ (downShown s).get Pg.HKSEQ Reg.HKSEQ.OFF_RESULT_RESULT = 0 := by
  constructor
  · exact (State.get_put_ne _ _ (by decide)).trans (State.get_put_same _ _ _ _ (by decide) (by decide))
  · exact State.get_put_same _ _ _ _ (by decide) (by decide)

/-- A state with another's registers, mark of a start and request of a DOWN. -/
def downOf (s t : State) : State := { t with regs := s.regs, hk := { t.hk with start := s.hk.start, downReq := s.hk.downReq } }

theorem downOf_rest {v : State} {o was : Nat} (shown : onlyRegs s v) : downOf s (refreshHkUp (downDue v o was)) = s :=
  (congrArg (downOf s) shown :)

theorem onlyBits.downDue {l : List (Nat × Fld)} {ps : List Nat} {o was : Nat} (h : onlyBits s t l ps) : onlyBits s (downDue t o was) l ps :=
  h.regs rfl

theorem onlyBits_enterDown (s : State) (o : Nat) : onlyBits s (enterDown s o) [(Pg.HKSEQ, Reg.HKSEQ.STATUS_STATE),
    (Pg.HKSEQ, Reg.HKSEQ.OFF_RESULT_RESULT), (Pg.CHIP, Reg.CHIP.STATUS_HK_UP), changeSeq Pg.HKSEQ] [] := by
  have shown : onlyBits s (downShown s) [(Pg.HKSEQ, Reg.HKSEQ.STATUS_STATE), (Pg.HKSEQ, Reg.HKSEQ.OFF_RESULT_RESULT),
    (Pg.CHIP, Reg.CHIP.STATUS_HK_UP), changeSeq Pg.HKSEQ] [] := ((onlyBits.refl s).put (by decide)).put (by decide)
  rw [enterDown_eq]
  exact shown.downDue.hkUpListed (.tail _ (.tail _ (.head _)))

/-- What a DOWN leaves. -/
structure Downed (s t : State) (o : Nat) : Prop where
  state : hkState t = Hq.DOWN
  start : t.hk.start = true
  result : t.get Pg.HKSEQ Reg.HKSEQ.OFF_RESULT_RESULT = 0
  request : t.hk.downReq = some (o, s.get Pg.HKSEQ Reg.HKSEQ.OFF_RESULT_RESULT)
  rest : downOf s t = s

theorem downed_enterDown (s : State) (o : Nat) : Downed s (enterDown s o) o := by
  rw [enterDown_eq]
  obtain ⟨state, result⟩ := downShown_marks s
  have only : onlyRegs s (downShown s) := .put (.put (rfl : onlyRegs s s))
  generalize downShown s = v at state result only
  refine ⟨?_, rfl, ?_, rfl, downOf_rest only⟩
  · rw [hkState_refreshHkUp, hkState, get_downDue]
    exact state
  · rw [get_refreshHkUp _ (by decide), get_downDue, result]

/-! ### What the commands answer -/

theorem startOf_outer (h : startOf s t = s) : sameOuter s t :=
  ⟨(congrArg State.pending h :), (congrArg State.powered h :), (congrArg State.otpA h :), (congrArg State.otpB h :)⟩

theorem downOf_outer (h : downOf s t = s) : sameOuter s t :=
  ⟨(congrArg State.pending h :), (congrArg State.powered h :), (congrArg State.otpA h :), (congrArg State.otpB h :)⟩

theorem startOf_room (h : startOf s t = s) (room : logRoom s n) : logRoom t n :=
  room.same (congrArg State.log h :) (congrArg (fun x : State => x.fault.logPending) h :)

theorem downOf_room (h : downOf s t = s) (room : logRoom s n) : logRoom t n :=
  room.same (congrArg State.log h :) (congrArg (fun x : State => x.fault.logPending) h :)

theorem logRoom_enterUp (room : logRoom s n) : logRoom (enterUp s clear) n := startOf_room (upped_enterUp s clear).rest room

theorem gives_hostUp (write : writeReg s Org.HOST (Pg.HKSEQ * 0x400 + 0x044) (0x5EC00000 + 1) = (enterUp u true, .ok))
    (logged : Logged s u Pg.HKSEQ) : gives (.hkseqCmdUp .host) s (fun t =>
      hkState t = Hq.UP ∧ t.hk.start = true ∧ t.get Pg.HKSEQ Reg.HKSEQ.STATUS_FAILS = 0 ∧
      onlyBits s t [(Pg.HKSEQ, Reg.HKSEQ.STATUS), (Pg.HKSEQ, Reg.HKSEQ.STATUS_FAILS), (Pg.CHIP,
        Reg.CHIP.STATUS_HK_UP), changeSeq Pg.HKSEQ] [Pg.CHANGELOG] ∧
      onlyLogged s { t with hk := { t.hk with start := s.hk.start, rails := s.hk.rails } }) := by
  have up := upped_enterUp u true
  have hk : u.hk = s.hk := logged.rest.field State.hk
  have status : onlyBits u (enterUp u true) [(Pg.HKSEQ, Reg.HKSEQ.STATUS), (Pg.HKSEQ, Reg.HKSEQ.STATUS_FAILS),
      (Pg.CHIP, Reg.CHIP.STATUS_HK_UP), changeSeq Pg.HKSEQ] [Pg.CHANGELOG] := by
    have shown : onlyBits u (upShown u true) [(Pg.HKSEQ, Reg.HKSEQ.STATUS), (Pg.HKSEQ, Reg.HKSEQ.STATUS_FAILS),
      (Pg.CHIP, Reg.CHIP.STATUS_HK_UP), changeSeq Pg.HKSEQ] [Pg.CHANGELOG] :=
      (((onlyBits.refl u).put (by decide)).putb (by decide)).put (by decide)
    rw [enterUp_eq]
    exact ((shown.regs (regs_failsCleared _)).startDue).hkUpListed (.tail _ (.tail _ (.head _)))
  have entry := logged.bits.weaken (m := [(Pg.HKSEQ, Reg.HKSEQ.STATUS), (Pg.HKSEQ, Reg.HKSEQ.STATUS_FAILS),
      (Pg.CHIP, Reg.CHIP.STATUS_HK_UP), changeSeq Pg.HKSEQ]) (by simp) (List.Subset.refl _)
  have outer := logged.rest.sameOuter.trans (startOf_outer up.rest)
  have fails := enterUp_fails u
  have room := startOf_room up.rest logged.room
  generalize enterUp u true = t at write up status outer fails room
  refine gives_hostWrite (page := Pg.HKSEQ) (off := 0x044) (b := true) rfl rfl write outer room
    ⟨up.state, up.start, fails, entry.trans status, ?_⟩
  have rest : startOf u t = u := up.rest
  rw [startOf, hk] at rest
  exact onlyLogged.trans (t := u) logged.rest (congrArg (fun x : State => { x with log := u.log }) rest)

theorem gives_hostDown (write : writeReg s Org.HOST (Pg.HKSEQ * 0x400 + 0x044) (0x5EC00000 + 2) = (enterDown u Org.HOST, .ok))
    (logged : Logged s u Pg.HKSEQ) : gives (.hkseqCmdDown .host) s (fun t =>
      hkState t = Hq.DOWN ∧ t.hk.start = true ∧ t.get Pg.HKSEQ Reg.HKSEQ.OFF_RESULT_RESULT = 0 ∧
      onlyBits s t [(Pg.HKSEQ, Reg.HKSEQ.STATUS_STATE), (Pg.HKSEQ, Reg.HKSEQ.OFF_RESULT_RESULT), (Pg.CHIP,
        Reg.CHIP.STATUS_HK_UP), changeSeq Pg.HKSEQ] [Pg.CHANGELOG] ∧
      t.hk.downReq = some (Org.HOST, s.get Pg.HKSEQ Reg.HKSEQ.OFF_RESULT_RESULT) ∧
      onlyLogged s { t with hk := { t.hk with start := s.hk.start, downReq := s.hk.downReq } }) := by
  have down := downed_enterDown u Org.HOST
  have hk : u.hk = s.hk := logged.rest.field State.hk
  have result : u.get Pg.HKSEQ Reg.HKSEQ.OFF_RESULT_RESULT = s.get Pg.HKSEQ Reg.HKSEQ.OFF_RESULT_RESULT :=
    logged.get (by decide) (by decide) (by decide)
  have bits := (onlyBits_enterDown u Org.HOST).weaken (List.Subset.refl _) (List.nil_subset [Pg.CHANGELOG])
  have entry := logged.bits.weaken (m := [(Pg.HKSEQ, Reg.HKSEQ.STATUS_STATE), (Pg.HKSEQ, Reg.HKSEQ.OFF_RESULT_RESULT),
      (Pg.CHIP, Reg.CHIP.STATUS_HK_UP), changeSeq Pg.HKSEQ]) (by simp) (List.Subset.refl _)
  have outer := logged.rest.sameOuter.trans (downOf_outer down.rest)
  have room := downOf_room down.rest logged.room
  generalize enterDown u Org.HOST = t at write down bits outer room
  refine gives_hostWrite (page := Pg.HKSEQ) (off := 0x044) (b := true) rfl rfl write outer room
    ⟨down.state, down.start, down.result, entry.trans bits, by rw [down.request, result], ?_⟩
  have rest : downOf u t = u := down.rest
  rw [downOf, hk] at rest
  exact onlyLogged.trans (t := u) logged.rest (congrArg (fun x : State => { x with log := u.log }) rest)

/-! ### Reset outputs -/

theorem gives_resetReleased {k : Nat} (live : s.powered = true) (hk : k < 2) (may : mayRelease s k = true) (room : logRoom s 0) :
    gives (.resetOutputRelease k) s (fun t =>
      (if k = 0 then t.hk.rst1 else t.hk.rst2) = true ∧
      (if k = 0 then t.hk.rst2 = s.hk.rst2 else t.hk.rst1 = s.hk.rst1) ∧ onlyBits s t [] [] ∧
      { t with regs := s.regs, hk := { t.hk with rst1 := s.hk.rst1, rst2 := s.hk.rst2 } } = s) := by
  have run : exec (.resetOutputRelease k) s = takes s (s.powered && decide (k < 2) && mayRelease s k) (fun s => setReset s k true) := rfl
  have due : (s.powered && decide (k < 2) && mayRelease s k) = true := by simp [live, hk, may]
  by_cases first : k = 0
  · subst first
    exact gives_takes _ (act := fun s => setReset s 0 true) run rfl due ⟨rfl, rfl, rfl, rfl⟩ room
      ⟨rfl, rfl, (onlyBits.refl s).regs rfl, rfl⟩
  · have second : k = 1 := by omega
    subst second
    exact gives_takes _ (act := fun s => setReset s 1 true) run rfl due ⟨rfl, rfl, rfl, rfl⟩ room
      ⟨rfl, rfl, (onlyBits.refl s).regs rfl, rfl⟩

end Sys2Proof.Machine
end
section
/-! PROOF. O45: the rails that the host switches on, and their voltages. -/

namespace Sys2Proof.Machine

variable {s t u : State} {r j d mv : Nat}

theorem kindFields_ctrl (hr : r < 4) : kindFields .hkrail (0x040 + 32 * r) = [⟨1, 1, .rw, .c, 1, none⟩, ⟨0, 0, .rw, .c, 0, none⟩] := by
  interval_cases r <;> rfl

theorem kindFields_vset (hr : r < 4) : kindFields .hkrail (0x044 + 32 * r) = [⟨15, 0, .rw, .c, 0, none⟩] := by
  interval_cases r <;> rfl

/-- CTRL.DISCH and CTRL.EN of a rail together. -/
def ctrlBoth (r : Nat) : Fld := ⟨0x040 + 32 * r, 1, 0, 0⟩

theorem storedWord_ctrl (old v : Nat) : storedWord [⟨1, 1, .rw, .c, 1, none⟩, ⟨0, 0, .rw, .c, 0, none⟩] old v = withBits old 1 0 v := by
  refine Nat.eq_of_testBit_eq fun i => ?_
  rw [testBit_storedWord (by decide), testBit_withBits _ _ _ (by decide)]
  refine if_congr ?_ rfl rfl
  simp [storesBit]
  omega

theorem rails_map (off : Nat) (h : 0x01C < off) : ¬ (0x014 ≤ off ∧ off ≤ 0x01C) := by omega

theorem within_ctrl (s : State) (o v : Nat) (hr : r < 4) : (wrAt s o .hkrail Pg.HKRAIL (0x040 + 32 * r) v).within Reg.HKRAIL.CTRL 4 = true ∧
    (wrAt s o .hkrail Pg.HKRAIL (0x040 + 32 * r) v).ix Reg.HKRAIL.CTRL = r := by
  simp [Wr.within, Wr.ix, hr]

theorem asWritten_rail (off : Nat) (h : 0x01C < off) : asWritten .hkrail off = true := by
  simp [asWritten]
  omega

theorem new_ctrl (s : State) (o v : Nat) (hr : r < 4) : (wrAt s o .hkrail Pg.HKRAIL (0x040 + 32 * r) v).new =
    withBits (s.rd (Pg.HKRAIL * 0x400 + (0x040 + 32 * r))).toNat 1 0 v := by
  have stored := storedWord_ctrl (s.rd (Pg.HKRAIL * 0x400 + (0x040 + 32 * r))).toNat v
  rw [← kindFields_ctrl hr] at stored
  exact (settled_asWritten (page := Pg.HKRAIL) (asWritten_rail _ (by omega)) (s.rd (Pg.HKRAIL * 0x400 + (0x040 + 32 * r))).toNat _).trans stored

theorem bit_withBits_ctrl (old d : Nat) : bitsOf (withBits old 1 0 (2 * d + 1)) 0 0 = 1 := by
  unfold bitsOf withBits
  omega

/-- A host write of EN = 1 and DISCH to a rail that is off: the fields, then the start. -/
theorem writeReg_railEn (reach : hostReach s Pg.HKRAIL (0x040 + 32 * r)) (unlocked : lockState s Pg.HKRAIL = 0) (hr : r < 4) (hd : d < 2)
    (on : hkState s = Hq.ON) (en : s.get Pg.HKRAIL (Reg.HKRAIL.CTRL_EN.ix r) = 0) (room : logRoom s 1) :
    ∃ u, writeReg s Org.HOST (Pg.HKRAIL * 0x400 + (0x040 + 32 * r)) (2 * d + 1) = (enEffect u r true, .ok) ∧
      Stored s u Pg.HKRAIL (ctrlBoth r) (2 * d + 1) ∧ u.held = s.held := by
  have new := new_ctrl s Org.HOST (2 * d + 1) hr
  have fields := kindFields_ctrl hr
  obtain ⟨within, index⟩ := within_ctrl s Org.HOST (2 * d + 1) hr
  have was : bitsOf (s.rd (Pg.HKRAIL * 0x400 + (0x040 + 32 * r))).toNat 0 0 = 0 := by
    have : Pg.HKRAIL * 0x400 + (0x040 + 32 * r) = addrOf Pg.HKRAIL (Reg.HKRAIL.CTRL_EN.ix r) := by simp only [addrOf, Fld.ix]; omega
    rw [this]
    exact en
  have now : (wrAt s Org.HOST .hkrail Pg.HKRAIL (0x040 + 32 * r) (2 * d + 1)).now Reg.HKRAIL.CTRL_EN = 1 := by
    rw [Wr.now, new]
    exact bit_withBits_ctrl _ _
  have changes : (wrAt s Org.HOST .hkrail Pg.HKRAIL (0x040 + 32 * r) (2 * d + 1)).changes Reg.HKRAIL.CTRL_EN = true := by
    rw [Wr.changes, now, Wr.was, wrAt_old]
    exact decide_eq_true (by rw [was]; decide)
  have rule : rulePage s (wrAt s Org.HOST .hkrail Pg.HKRAIL (0x040 + 32 * r) (2 * d + 1)) = .take := by
    have allowed : enAllowed s r true = true := by simp [enAllowed, on]
    rw [rulePage, if_neg (by rw [wrAt_off]; omega)]
    simp only [wrAt_kind, ruleHkrail, within, if_true, changes, index, now, decide_true, allowed, Bool.not_true, Bool.false_or, Wr.need]
  have writable : readOnly .hkrail Pg.HKRAIL (0x040 + 32 * r) (kindFields .hkrail (0x040 + 32 * r)) = false := by
    rw [fields]
    simp [readOnly]
    omega
  have comes := hostComes reach rfl ⟨by decide, by omega, by omega⟩ writable (v := 2 * d + 1) (by omega)
  have stored := comes.storeField (f := ctrlBoth r) (x := 2 * d + 1) (mayWrite_host s _)
    (lockRefuses_of_unlocked unlocked rfl) (by decide) rule (by rw [fields]; rfl) rfl ⟨by simp [ctrlBoth], by simp [ctrlBoth]⟩ new
    (by rw [fields]; rfl) (asWritten_rail _ (by omega)) (by decide) (by omega) room
  rcases stored with ⟨u, write, set, held⟩ | ⟨-, -, -, same⟩
  · refine ⟨u, ?_, set, held (by simp [takesBoundary]; omega) (by simp [takesCommonStart])⟩
    have act : actPageWrite u (wrAt s Org.HOST .hkrail Pg.HKRAIL (0x040 + 32 * r) (2 * d + 1)) = enEffect u r true := by
      rw [actPageWrite, if_neg (by rw [wrAt_off]; omega)]
      simp only [wrAt_kind, actHkrail, within, changes, index, now, decide_true, Bool.and_self, if_true]
    rw [← act]
    exact write
  · rw [Wr.changes, Wr.now, Wr.was, wrAt_old, same] at changes
    simp at changes

theorem log_railStarted (s : State) (r : Nat) : (railStarted s r).log = s.log ∧ (railStarted s r).fault = s.fault := by
  simp only [railStarted, refreshHkUp, railRaised, railDark, setRail, State.putb, State.put_rest, and_self]

/-- A rail whose CTRL.EN is set already starts without an entry. -/
theorem railStarts_enabled {origin : Nat} (en : s.get Pg.HKRAIL (Reg.HKRAIL.CTRL_EN.ix r) = 1) (hr : r < 4) :
    RailStarts s (railStart s r origin) r ∧ (railStart s r origin).log = s.log ∧ (railStart s r origin).fault = s.fault := by
  have same : putLogged s origin Pg.HKRAIL (Reg.HKRAIL.CTRL_EN.ix r) (b2n true) = s :=
    putLogged_same (by simp [Fld.ix]) (by simp [Fld.ix]) en
  have shown : railShown s r origin true = s.putb Pg.HKRAIL (Reg.HKRAIL.STATUS_ON.ix r) true := by rw [railShown, same]
  rw [railStart_eq, shown]
  have step : RailStep s (s.putb Pg.HKRAIL (Reg.HKRAIL.STATUS_ON.ix r) true) r :=
    RailStep.refl.ofPut (by simp [railFields]) (by simp [Fld.ix])
  have on : railOn (s.putb Pg.HKRAIL (Reg.HKRAIL.STATUS_ON.ix r) true) r = true := by
    rw [railOn, State.flag, State.putb, State.get_put_same _ _ _ _ (by simp [Fld.ix]) (by simp [Fld.ix])]
    rfl
  have enabled : (s.putb Pg.HKRAIL (Reg.HKRAIL.STATUS_ON.ix r) true).get Pg.HKRAIL (Reg.HKRAIL.CTRL_EN.ix r) = 1 := by
    rw [State.putb, State.get_put_ne _ _ (by simp only [addrOf, Fld.ix]; omega), en]
  exact ⟨railStarts_of_shown step on enabled rfl hr, log_railStarted _ r⟩

theorem apart_ctrlBoth : ∀ r < 4, ∀ j < 4, apart [(Pg.HKRAIL, ctrlBoth r), changeSeq Pg.HKRAIL] Pg.HKRAIL (Reg.HKRAIL.STATUS_ON.ix j) = true ∧
    apart [(Pg.HKRAIL, ctrlBoth r), changeSeq Pg.HKRAIL] Pg.HKRAIL (Reg.HKRAIL.VSET_VOLTAGE.ix j) = true := by decide

/-- What the host's start of a rail leaves. -/
structure RailEnabled (s t : State) (r d : Nat) : Prop where
  on : railOn t r = true
  qual : railQual t r = false
  target : (rail t r).target = s.get Pg.HKRAIL (Reg.HKRAIL.VSET_VOLTAGE.ix r)
  enabled : t.get Pg.HKRAIL (Reg.HKRAIL.CTRL_EN.ix r) = 1
  disch : t.get Pg.HKRAIL (Reg.HKRAIL.CTRL_DISCH.ix r) = d
  others : ∀ j < 4, j ≠ r → railOn t j = railOn s j ∧ rail t j = rail s j
  bits : onlyBits s t [(Pg.CHIP, Reg.CHIP.STATUS_HK_UP)] [Pg.HKRAIL, Pg.CHANGELOG]
  rest : onlyLogged s { t with hk := { t.hk with rails := s.hk.rails } }

/-- A rail's start moves the rails alone. -/
theorem RailStarts.railsOnly (h : RailStarts s t r) : onlyLogged s { t with hk := { t.hk with rails := s.hk.rails } } := by
  have rest : railsOf s t = s := h.step.rest
  have outputs : { t.hk with rails := s.hk.rails } = { t.hk with rails := s.hk.rails, rst1 := s.hk.rst1, rst2 := s.hk.rst2 } := by
    rw [← h.rst.1, ← h.rst.2]
  unfold onlyLogged
  rw [outputs]
  exact rest

theorem railEnabled (set : Stored s u Pg.HKRAIL (ctrlBoth r) (2 * d + 1)) (hr : r < 4) (hd : d < 2) (held : u.held = s.held)
    (starts : RailStarts u t r) : RailEnabled s t r d := by
  have both : u.get Pg.HKRAIL (ctrlBoth r) = 2 * d + 1 := set.get.trans (Nat.mod_eq_of_lt (by simp [ctrlBoth, Fld.width]; omega))
  have only := set.onlyLogged held
  have hk : u.hk = s.hk := only.field State.hk
  have ctrl : t.get Pg.HKRAIL (Reg.HKRAIL.CTRL_DISCH.ix r) = u.get Pg.HKRAIL (Reg.HKRAIL.CTRL_DISCH.ix r) :=
    starts.step.get (apart_vset r hr r hr).2 (by simp [Fld.ix]; omega) (by simp [Fld.ix])
  refine ⟨starts.on, starts.qual, ?_, starts.enabled, ?_, fun j hj ne => ⟨?_, ?_⟩, ?_, ?_⟩
  · rw [starts.target]
    exact set.bits.get_apart (by simp [Fld.ix]; omega) (by decide) (apart_ctrlBoth r hr r hr).2 (by simp [Fld.ix])
  · rw [ctrl]
    have place : addrOf Pg.HKRAIL (Reg.HKRAIL.CTRL_DISCH.ix r) = addrOf Pg.HKRAIL (ctrlBoth r) := by
      simp only [addrOf, Fld.ix, ctrlBoth]
      omega
    simp only [State.get, place, bitsOf, ctrlBoth] at both ⊢
    simp only [Fld.ix]
    omega
  · rw [starts.step.railOn hr hj ne]
    exact set.bits.flag_apart (by simp [Fld.ix]; omega) (by decide) (apart_ctrlBoth r hr j hj).1 le_rfl
  · rw [starts.step.other j ne, rail, hk]
    rfl
  · have pages : ∀ r < 4, ∀ e ∈ [(Pg.HKRAIL, ctrlBoth r), changeSeq Pg.HKRAIL], addrOf e.1 e.2 / 0x400 ∈ [Pg.HKRAIL, Pg.CHANGELOG] := by
      decide
    exact (set.bits.ofPages (by decide) fun e he => .inr (pages r hr e he)).trans (starts.step.pages _ (.head _) hr)
  · have moved := starts.railsOnly
    rw [hk] at moved
    exact onlyLogged.trans (t := u) only moved

theorem ctrlBoth_get (set : Stored s u Pg.HKRAIL (ctrlBoth r) (2 * d + 1)) (hd : d < 2) :
    u.get Pg.HKRAIL (Reg.HKRAIL.CTRL_EN.ix r) = 1 := by
  have both : u.get Pg.HKRAIL (ctrlBoth r) = 2 * d + 1 := set.get.trans (Nat.mod_eq_of_lt (by simp [ctrlBoth, Fld.width]; omega))
  have place : addrOf Pg.HKRAIL (Reg.HKRAIL.CTRL_EN.ix r) = addrOf Pg.HKRAIL (ctrlBoth r) := by
    simp only [addrOf, Fld.ix, ctrlBoth]
    omega
  simp only [State.get, place, bitsOf, ctrlBoth] at both ⊢
  simp only [Fld.ix]
  omega

theorem RailEnabled.sameOuter (h : RailEnabled s t r d) : sameOuter s t := by
  have outer := onlyLogged.sameOuter h.rest
  exact outer

theorem gives_railEn (reach : hostReach s Pg.HKRAIL (0x040 + 32 * r)) (unlocked : lockState s Pg.HKRAIL = 0) (hr : r < 4) (hd : d < 2)
    (on : hkState s = Hq.ON) (off : railOn s r = false) (en : s.get Pg.HKRAIL (Reg.HKRAIL.CTRL_EN.ix r) = 0) (room : logRoom s 3) :
    gives (.railEnWrite .host r (2 * d + 1)) s (fun t => RailEnabled s t r d) := by
  obtain ⟨u, write, set, held⟩ := writeReg_railEn reach unlocked hr hd on en (room.mono (by decide))
  have off' : railOn u r = false := (set.bits.flag_apart (f := Reg.HKRAIL.STATUS_ON.ix r) (by simp [Fld.ix]; omega) (by decide)
    (apart_ctrlBoth r hr r hr).1 le_rfl).trans off
  obtain ⟨starts, log, fault⟩ := railStarts_enabled (origin := Org.HW) (ctrlBoth_get set hd) hr
  have effect : enEffect u r true = railStart u r Org.HW := by simp [enEffect, off']
  rw [effect] at write
  generalize railStart u r Org.HW = t at write starts log fault
  have room' : logRoom t 0 := set.room.same log (congrArg FaultState.logPending fault)
  have after := railEnabled set hr hd held starts
  exact gives_hostWrite (page := Pg.HKRAIL) (off := 0x040 + 32 * r) rfl (decide_eq_true hr) write after.sameOuter room' after

/-! ### Voltages -/

theorem not_within_ctrl (s : State) (o v : Nat) : (wrAt s o .hkrail Pg.HKRAIL (0x044 + 32 * r) v).within Reg.HKRAIL.CTRL 4 = false := by
  have : (0x044 + 32 * r - 0x040) % 32 ≠ 0 := by omega
  simp only [Wr.within, wrAt_off, Bool.and_eq_false_iff]
  exact .inl (.inr (decide_eq_false this))

theorem within_vset (s : State) (o v : Nat) (hr : r < 4) : (wrAt s o .hkrail Pg.HKRAIL (0x044 + 32 * r) v).within Reg.HKRAIL.VSET 4 = true ∧
    (wrAt s o .hkrail Pg.HKRAIL (0x044 + 32 * r) v).ix Reg.HKRAIL.VSET = r := by
  simp [Wr.within, Wr.ix, hr]

theorem new_vset (s : State) (o v : Nat) (hr : r < 4) : (wrAt s o .hkrail Pg.HKRAIL (0x044 + 32 * r) v).new =
    withBits (s.rd (Pg.HKRAIL * 0x400 + (0x044 + 32 * r))).toNat 15 0 (bitsOf v 15 0) := by
  have stored := storedWord_single (g := ⟨15, 0, .rw, .c, 0, none⟩) (.inl rfl) (s.rd (Pg.HKRAIL * 0x400 + (0x044 + 32 * r))).toNat v
  rw [← kindFields_vset hr] at stored
  exact (settled_asWritten (page := Pg.HKRAIL) (asWritten_rail _ (by omega)) (s.rd (Pg.HKRAIL * 0x400 + (0x044 + 32 * r))).toNat _).trans stored

/-- A voltage of HK1 or HK3 within its range. -/
abbrev vsetRange (s : State) (r mv : Nat) : Prop :=
  if r = 0 then 4500 ≤ mv ∧ mv ≤ 5500 else if s.flag Pg.FAULT Reg.FAULT.STATUS_TEST_MODE then 600 ≤ mv ∧ mv ≤ 1200 else 800 ≤ mv ∧ mv ≤ 900

theorem vsetRange_small (h : vsetRange s r mv) : mv < 2 ^ 16 := by
  unfold vsetRange at h
  split at h
  · omega
  · split at h <;> omega

theorem writeReg_vset (reach : hostReach s Pg.HKRAIL (0x044 + 32 * r)) (unlocked : lockState s Pg.HKRAIL = 0) (hr : r = 0 ∨ r = 2)
    (range : vsetRange s r mv) (room : logRoom s 1) : ∃ u res, writeReg s Org.HOST (Pg.HKRAIL * 0x400 + (0x044 + 32 * r)) mv = (u, res) ∧
      Stored s u Pg.HKRAIL (Reg.HKRAIL.VSET_VOLTAGE.ix r) mv := by
  have small := vsetRange_small range
  have four : r < 4 := by omega
  have fields := kindFields_vset four
  have word : bitsOf mv 15 0 = mv := by unfold bitsOf; omega
  have new := new_vset s Org.HOST mv four
  rw [word] at new
  obtain ⟨within, index⟩ := within_vset s Org.HOST mv four
  have now : (wrAt s Org.HOST .hkrail Pg.HKRAIL (0x044 + 32 * r) mv).now Reg.HKRAIL.VSET_VOLTAGE = mv := by
    rw [Wr.now, new]
    exact (bitsOf_withBits _ _ (by decide)).trans (Nat.mod_eq_of_lt small)
  have rule : rulePage s (wrAt s Org.HOST .hkrail Pg.HKRAIL (0x044 + 32 * r) mv) = .take := by
    rw [rulePage, if_neg (by rw [wrAt_off]; omega)]
    simp only [wrAt_kind, ruleHkrail, not_within_ctrl, Bool.false_eq_true, if_false, within, if_true, index, now]
    unfold vsetRange at range
    split at range
    · next z => simp [z, Wr.need, range]
    · next z =>
      rw [if_neg z]
      split at range
      · next test => simp [test, Wr.need, range]
      · next test => simp [test, Wr.need, range]
  have writable : readOnly .hkrail Pg.HKRAIL (0x044 + 32 * r) (kindFields .hkrail (0x044 + 32 * r)) = false := by
    rw [fields]
    rcases hr with rfl | rfl <;> decide
  have comes := hostComes reach rfl ⟨by decide, by omega, by omega⟩ writable (v := mv) (by omega)
  have stored := comes.storeField (f := Reg.HKRAIL.VSET_VOLTAGE.ix r) (x := mv) (mayWrite_host s _)
    (lockRefuses_of_unlocked unlocked rfl) (by decide) rule (by rw [fields]; rfl) (by simp [Fld.ix]; omega) ⟨by simp [Fld.ix], by simp [Fld.ix]⟩
    new (by rw [fields]; rfl) (asWritten_rail _ (by omega)) (by decide) (by omega) room
  rcases stored with ⟨u, write, set, -⟩ | ⟨write, set, -⟩
  · have act : actPageWrite u (wrAt s Org.HOST .hkrail Pg.HKRAIL (0x044 + 32 * r) mv) = u := by
      rw [actPageWrite, if_neg (by rw [wrAt_off]; omega)]
      simp only [wrAt_kind, actHkrail, not_within_ctrl, Bool.false_and, Bool.false_eq_true, if_false]
    rw [act] at write
    exact ⟨u, _, write, set⟩
  · exact ⟨s, _, write, set⟩

/-- VSET of HK2 and HK4 is read-only. -/
theorem writeReg_vset_readOnly (reach : reachable s (Pg.HKRAIL * 0x400 + (0x044 + 32 * r)) = true) (hr : r = 1 ∨ r = 3) :
    writeReg s Org.HOST (Pg.HKRAIL * 0x400 + (0x044 + 32 * r)) mv = (s, .ro) := by
  have page : (Pg.HKRAIL * 0x400 + (0x044 + 32 * r)) / 0x400 = Pg.HKRAIL := by omega
  have offset : (Pg.HKRAIL * 0x400 + (0x044 + 32 * r)) % 0x400 = 0x044 + 32 * r := by omega
  unfold writeReg writeCore
  have four : readOnly .hkrail Pg.HKRAIL (0x044 + 32 * r) (fieldsAt Pg.HKRAIL (0x044 + 32 * r)) = true := by
    rcases hr with rfl | rfl <;> decide
  have kind : pageKind Pg.HKRAIL = some .hkrail := rfl
  have seq : 0x044 + 32 * r ≠ 0x020 := by omega
  simp [reach, page, offset, kind, mkWr, four, keeperOnly, seq]

end Sys2Proof.Machine

open Sys2Proof Sys2Proof.Machine

/-- Settles O45: the starts enter UP with a common start due, the host's commands do so with their entry, and a rail's write starts that
rail or stores its voltage. -/
theorem sequencesStartAndStop : Obligations.SequencesStartAndStop := by
  unfold Obligations.SequencesStartAndStop
  refine ⟨?_, ?_, ?_, ?_, ?_, ?_, ?_, ?_, ?_⟩
  · intro s live state cause aborts low waited room
    have due : retryDue s = true := by
      simp [retryDue, live, state, cause, aborts, low, waited]
    have up := upped_enterUp s false
    have outer : sameOuter s (enterUp s false) := startOf_outer up.rest
    exact gives_takes _ (act := fun s => enterUp s false) rfl rfl due outer (logRoom_enterUp room)
      ⟨up.state, up.start, up.emerg, up.hkUp, up.fails, onlyBits_enterUp_plain s, up.rest⟩
  · intro s live state cause cool room
    have due : thermalDue s = true := by
      simp [thermalDue, live, state, cause, cool]
    have up := upped_enterUp s false
    have outer : sameOuter s (enterUp s false) := startOf_outer up.rest
    exact gives_takes _ (act := fun s => enterUp s false) rfl rfl due outer (logRoom_enterUp room)
      ⟨up.state, up.start, up.emerg, onlyBits_enterUp_plain s, up.rest⟩
  · intro s live state emerg waited room
    have up := upped_enterUp s false
    have outer : sameOuter s (enterUp s false) := startOf_outer up.rest
    refine gives_takes _ (act := fun s => enterUp s false) rfl rfl ?_ outer (logRoom_enterUp room)
      ⟨up.state, up.start, up.emerg, onlyBits_enterUp_plain s, up.rest⟩
    simp [live, state, emerg, waited]
  · intro s reach _ off room
    obtain ⟨u, write, logged⟩ := hkseqCommand (op := 1) (v := fun u => enterUp u true) reach (.inl rfl) room
      fun u same => hkCommand_up (same.trans off)
    exact gives_hostUp write logged
  · intro s reach _ on room
    obtain ⟨u, write, logged⟩ := hkseqCommand (op := 2) (v := fun u => enterDown u Org.HOST) reach (.inr rfl) room
      fun u same => hkCommand_down (by rwa [same])
    exact gives_hostDown write logged
  · intro s k live hk may room
    exact gives_resetReleased live hk may room
  · intro s r d reach unlocked hr hd on off en room
    obtain ⟨t, run, h⟩ := gives_railEn reach unlocked hr hd on off en room
    exact ⟨t, run, h.on, h.qual, h.target, h.enabled, h.disch, h.others, h.bits, h.rest⟩
  · intro s r mv reach unlocked hr range room
    obtain ⟨u, res, write, set⟩ := writeReg_vset reach unlocked hr range room
    exact gives_hostWrite (page := Pg.HKRAIL) (off := 0x044 + 32 * r) rfl (decide_eq_true (by omega)) write set.sameOuter set.room
      ⟨set.get.trans (Nat.mod_eq_of_lt (vsetRange_small range)), set.bits, set.rest⟩
  · intro s r mv reach hr room
    exact gives_hostWrite (page := Pg.HKRAIL) (off := 0x044 + 32 * r) rfl (decide_eq_true (by omega)) (writeReg_vset_readOnly reach hr)
      ⟨rfl, rfl, rfl, rfl⟩ room ⟨onlyBits.refl s, rfl⟩

end
section
/-! PROOF. O44: faults of the housekeeping rails in REDUCED. -/

namespace Sys2Proof.Machine

variable {s t u v : State} {r j n p k a : Nat}

/-! ### What a rail fault may move -/

/-- The registers that a rail fault writes beside the pages of the rails, the sequencer and the reaction. -/
def railFaultFields : List (Nat × Fld) :=
  [(Pg.CHIP, Reg.CHIP.STATUS_FAULT_N_IN), (Pg.CHIP, Reg.CHIP.STATUS_HK_UP), (Pg.CHIP, Reg.CHIP.STATUS_REFCLK_OK),
    (Pg.CLOCK, ⟨0x048, 31, 0, 0⟩), (Pg.CLOCK, Reg.CLOCK.REFCLK_MEAS_KHZ)]

/-- A state with another's registers, log, reaction, housekeeping and clock. -/
def faultOf (s t : State) : State :=
  { t with regs := s.regs, log := s.log, fault := s.fault, phases := s.phases, chans := s.chans, alert := s.alert, hk := s.hk, clock := s.clock }

/-- A step of a rail fault. -/
structure FaultStep (s t : State) : Prop where
  bits : onlyBits s t railFaultFields ([Pg.HKRAIL, Pg.HKSEQ] ++ reactionPages)
  rest : faultOf s t = s

namespace FaultStep

theorem refl : FaultStep s s := ⟨onlyBits.refl s, rfl⟩

theorem trans (h : FaultStep s t) (k : FaultStep t u) : FaultStep s u := by
  refine ⟨h.bits.trans k.bits, ?_⟩
  have step : faultOf s (faultOf t u) = faultOf s t := congrArg (faultOf s) k.rest
  exact step.trans h.rest

theorem rails (h : RailsStep s t) : FaultStep s t := by
  refine ⟨h.bits.weaken (by simp [railFaultFields]) (by simp [reactionPages]), ?_⟩
  have step : faultOf s (railsOf s t) = faultOf s s := congrArg (faultOf s) h.rest
  exact step

theorem held {E : Nat → Prop} (h : Held E s t) (hE : ∀ x, E x → x / 0x400 = Pg.HKRAIL ∨ x / 0x400 = Pg.HKSEQ) : FaultStep s t := by
  refine ⟨h.onlyBits (fun p hp => List.mem_append_right _ hp) (fun x b e page => ?_) (.head _), ?_⟩
  · rcases hE x e with c | c <;> simp [c] at page
  · have step : faultOf s { t with regs := s.regs, log := s.log, fault := s.fault, phases := s.phases, chans := s.chans, alert := s.alert } =
      faultOf s s := congrArg (faultOf s) h.rest
    exact step

theorem put {f : Fld} {x : Nat} (h : FaultStep s t) (c : covers railFaultFields ([Pg.HKRAIL, Pg.HKSEQ] ++ reactionPages) p f) :
    FaultStep s (t.put p f x) := ⟨h.bits.put c, h.rest⟩

theorem ofPage {f : Fld} {x : Nat} (h : FaultStep s t) (hp : p = Pg.HKRAIL ∨ p = Pg.HKSEQ) (off : f.off < 0x400)
    (lo : f.lo ≤ f.hi ∧ f.hi < 32) : FaultStep s (t.put p f x) := by
  refine h.put ⟨lo.1, lo.2, .inl ?_⟩
  rw [addrOf_div off]
  rcases hp with rfl | rfl <;> simp

theorem bump {f : Fld} (h : FaultStep s t) (off : f.off < 0x400) (lo : f.lo ≤ f.hi ∧ f.hi < 32) : FaultStep s (t.bump Pg.HKSEQ f) :=
  h.ofPage (.inr rfl) off lo

theorem event {b : Nat} (h : FaultStep s t) (hp : p = Pg.HKRAIL ∨ p = Pg.HKSEQ) (hb : b < 32) : FaultStep s (t.event p b) :=
  h.ofPage hp (show 0x008 < 0x400 by decide) ⟨le_rfl, hb⟩

theorem sameOuter (h : FaultStep s t) : sameOuter s t :=
  ⟨(congrArg State.pending h.rest :), (congrArg State.powered h.rest :), (congrArg State.otpA h.rest :), (congrArg State.otpB h.rest :)⟩

theorem reaction (h : FaultStep s t) : onlyReaction s { t with hk := s.hk, clock := s.clock } := h.rest

theorem service (h : FaultStep s t) : t.service = s.service :=
  h.bits.get_apart (by decide) (by decide) (by decide) (by decide)

theorem setQual (h : FaultStep s t) (b : Bool) : FaultStep s (setQual t b) := by
  unfold Machine.setQual
  exact (h.put (by decide)).put (by decide)

end FaultStep

/-! ### The main domain in REDUCED -/

theorem mainLoss_reduced (reduced : s.service = Svc.REDUCED) : mainLoss s = s := by
  have out : ¬ (Svc.MAIN_START ≤ s.service ∧ s.service ≤ Svc.WARM_RESET) := by rw [reduced]; decide
  unfold mainLoss
  rw [if_neg (by simp [out])]

theorem faultStep_hk3Lost (reduced : s.service = Svc.REDUCED) : FaultStep s (hk3Lost s) := by
  have qual : FaultStep s (setQual s false) := FaultStep.refl.setQual false
  unfold hk3Lost
  split
  · exact .refl
  · rw [mainLoss_reduced (qual.service.trans reduced)]
    exact qual

/-- The loss of HK3 in REDUCED leaves the pages of the rails and the sequencer, and the rails, as they are. -/
theorem hk3Lost_reduced (reduced : s.service = Svc.REDUCED) : (hk3Lost s).hk = s.hk ∧
    (hk3Lost s).fault = s.fault ∧ ∀ p f, f.off < 0x400 → p ≠ Pg.CHIP → p ≠ Pg.CLOCK → (hk3Lost s).get p f = s.get p f := by
  have service : (setQual s false).service = s.service := (FaultStep.refl.setQual false).service
  unfold hk3Lost
  split
  · exact ⟨rfl, rfl, fun _ _ _ _ _ => rfl⟩
  · rw [mainLoss_reduced (service.trans reduced)]
    have bits := onlyBits_setQual s false
    refine ⟨rfl, rfl, fun p f off chip clock => ?_⟩
    unfold setQual
    rw [State.putb, State.get_put_ne _ _ (by simp only [addrOf, Pg.CHIP] at chip ⊢; omega), State.putb,
      State.get_put_ne _ _ (by simp only [addrOf, Pg.CLOCK] at clock ⊢; omega)]

/-! ### A message of the rails -/

/-- A fault message of the rails or the sequencer, and the loss of HK3 after it. -/
structure RailSaid (v t : State) (p k a : Nat) : Prop where
  step : FaultStep v t
  said : said v t p k a
  hk : t.hk = v.hk
  get : ∀ q f, f.off < 0x400 → q = Pg.HKRAIL ∨ q = Pg.HKSEQ → f.off ≠ 0x008 → f.off ≠ 0x010 → t.get q f = v.get q f
  flag : ∀ q b, q = Pg.HKRAIL ∨ q = Pg.HKSEQ → b < 26 → t.get q ⟨0x008, b, b, 0⟩ = v.get q ⟨0x008, b, b, 0⟩

theorem railPage_plain (h : p = Pg.HKRAIL ∨ p = Pg.HKSEQ) : ¬ reactivePage p ∧ p ≠ Pg.CHIP ∧ p ≠ Pg.CLOCK ∧ p ≠ 0 := by
  rcases h with rfl | rfl <;> decide

/-- A message of the rails once the command has ended. -/
theorem railSaid_saidIn (hp : p = Pg.HKRAIL ∨ p = Pg.HKSEQ) (h : saidIn v t p k a) : RailSaid v t p k a := by
  obtain ⟨plain, -, -, nonzero⟩ := railPage_plain hp
  have header := h.held
  refine ⟨.held header fun x e => ?_, h.said plain, header.field State.hk, fun q f off hq h8 h10 => ?_, fun q b hq hb => ?_⟩
  · have page : x / 0x400 = p := by
      rcases e with rfl | rfl <;> omega
    rwa [page]
  · obtain ⟨plain', -, -, nonzero'⟩ := railPage_plain hq
    refine header.get off plain' (fun e => ?_) (by simp only [addrOf]; omega)
    rcases e with e | e <;> simp only [addrOf] at e <;> omega
  · obtain ⟨plain', -, -, nonzero'⟩ := railPage_plain hq
    rw [h.get (show 0x008 < 0x400 by decide) plain' (fun e => e) (by simp only [addrOf]; omega), saying, State.event]
    by_cases e : q = p
    · subst e
      rw [State.get_put_field (f' := ⟨0x008, b, b, 0⟩) (f := ⟨0x008, 26, 26, 0⟩) _ _ rfl le_rfl (by decide) le_rfl (.inl hb),
        State.get_put_ne _ _ (by simp [addrOf])]
    · rw [State.get_put_ne _ _ (by simp only [addrOf]; omega), State.get_put_ne _ _ (by simp only [addrOf]; omega)]

/-- A step that leaves the pages of the rails and the sequencer alone. -/
structure RailsAside (s t : State) : Prop where
  step : FaultStep s t
  hk : t.hk = s.hk
  get : ∀ q f, f.off < 0x400 → q = Pg.HKRAIL ∨ q = Pg.HKSEQ → t.get q f = s.get q f

theorem railsAside_flushLog (s : State) : RailsAside s (flushLog s) := by
  have held := flushLog_held noAddr s
  refine ⟨.held held fun _ e => e.elim, held.field State.hk, fun q f off hq => ?_⟩
  obtain ⟨plain, -, -, nonzero⟩ := railPage_plain hq
  exact held.get off plain (fun e => e) (by simp only [addrOf]; omega)

theorem railsAside_hk3Lost (reduced : s.service = Svc.REDUCED) : RailsAside s (hk3Lost s) := by
  obtain ⟨hk, -, get⟩ := hk3Lost_reduced reduced
  refine ⟨faultStep_hk3Lost reduced, hk, fun q f off hq => ?_⟩
  obtain ⟨-, chip, clock, -⟩ := railPage_plain hq
  exact get q f off chip clock

theorem RailSaid.aside (h : RailSaid v t p k a) (hp : p = Pg.HKRAIL ∨ p = Pg.HKSEQ) (next : RailsAside t u) : RailSaid v u p k a := by
  obtain ⟨last, event⟩ := h.said
  refine ⟨h.step.trans next.step, ⟨?_, ?_⟩, next.hk.trans h.hk, fun q f off hq h8 h10 => ?_, fun q b hq hb => ?_⟩
  · rw [next.get p _ (by decide) hp, last]
  · rw [next.get p _ (by decide) hp, event]
  · rw [next.get q f off hq, h.get q f off hq h8 h10]
  · rw [next.get q _ (show 0x008 < 0x400 by decide) hq, h.flag q b hq hb]

/-- The end of a command whose message is followed by the loss of HK3 in REDUCED. -/
theorem railSaid_hk3Lost (hp : p = Pg.HKRAIL ∨ p = Pg.HKSEQ) (reduced : v.service = Svc.REDUCED) :
    RailSaid v (flushLog (hk3Lost (raise v p k a))) p k a := by
  have said : RailSaid v (raise v p k a) p k a := railSaid_saidIn hp (raise_held v p k a)
  exact (said.aside hp (railsAside_hk3Lost (said.step.service.trans reduced))).aside hp (railsAside_flushLog _)

/-! ### The sequence faulted -/

/-- A step that leaves the rails, their page and the reset outputs alone. -/
structure SeqOnly (s t : State) : Prop where
  step : FaultStep s t
  hk : t.hk.rails = s.hk.rails ∧ t.hk.rst1 = s.hk.rst1 ∧ t.hk.rst2 = s.hk.rst2
  rd : ∀ a, a / 0x400 = Pg.HKRAIL → t.rd a = s.rd a

namespace SeqOnly

theorem refl : SeqOnly s s := ⟨.refl, ⟨rfl, rfl, rfl⟩, fun _ _ => rfl⟩

theorem trans (h : SeqOnly s t) (k : SeqOnly t u) : SeqOnly s u :=
  ⟨h.step.trans k.step, ⟨k.hk.1.trans h.hk.1, k.hk.2.1.trans h.hk.2.1, k.hk.2.2.trans h.hk.2.2⟩, fun a e => (k.rd a e).trans (h.rd a e)⟩

theorem put {f : Fld} {x : Nat} (h : SeqOnly s t) (off : f.off < 0x400) (lo : f.lo ≤ f.hi ∧ f.hi < 32) : SeqOnly s (t.put Pg.HKSEQ f x) :=
  ⟨h.step.ofPage (.inr rfl) off lo, h.hk, fun a e => (State.rd_put_ne _ _ (fun c => by
    rw [c, addrOf_div off] at e; exact absurd e (by decide))).trans (h.rd a e)⟩

theorem bump {f : Fld} (h : SeqOnly s t) (off : f.off < 0x400) (lo : f.lo ≤ f.hi ∧ f.hi < 32) : SeqOnly s (t.bump Pg.HKSEQ f) := h.put off lo

theorem event {b : Nat} (h : SeqOnly s t) (hb : b < 32) : SeqOnly s (t.event Pg.HKSEQ b) :=
  h.put (show 0x008 < 0x400 by decide) ⟨le_rfl, hb⟩

theorem ofHk {x : HkState} (h : SeqOnly s t) (same : x.rails = t.hk.rails ∧ x.rst1 = t.hk.rst1 ∧ x.rst2 = t.hk.rst2) :
    SeqOnly s { t with hk := x } :=
  ⟨⟨h.step.bits.regs rfl, h.step.rest⟩, ⟨same.1.trans h.hk.1, same.2.1.trans h.hk.2.1, same.2.2.trans h.hk.2.2⟩, h.rd⟩

theorem refreshHkUp (h : SeqOnly s t) : SeqOnly s (refreshHkUp t) :=
  ⟨h.step.put (by decide), h.hk, fun a e => (State.rd_put_ne _ _ (fun c => by rw [c] at e; revert e; decide)).trans (h.rd a e)⟩

theorem get {f : Fld} (h : SeqOnly s t) (off : f.off < 0x400) : t.get Pg.HKRAIL f = s.get Pg.HKRAIL f :=
  State.get_congr _ _ (h.rd _ (addrOf_div off))

theorem railOn (h : SeqOnly s t) (hj : j < 4) : railOn t j = railOn s j :=
  congrArg (fun n => decide (n = 1)) (h.get (f := Reg.HKRAIL.STATUS_ON.ix j) (by simp [Fld.ix]; omega))

end SeqOnly

/-- A request for DOWN undone. -/
theorem seqOnly_downUndone (s : State) : SeqOnly s (downUndone s) := by
  unfold downUndone
  split
  · next o was _ =>
    have shown : SeqOnly s ((s.put Pg.HKSEQ Reg.HKSEQ.OFF_RESULT_RESULT was).event Pg.HKSEQ 5) :=
      (SeqOnly.refl.put (by decide) (by decide)).event (by decide)
    generalize (s.put Pg.HKSEQ Reg.HKSEQ.OFF_RESULT_RESULT was).event Pg.HKSEQ 5 = x at shown
    have asked : SeqOnly s { x with hk := { x.hk with downReq := none } } := shown.ofHk ⟨rfl, rfl, rfl⟩
    dsimp only
    split
    · generalize ({ x with hk := { x.hk with downReq := none } } : State) = y at asked
      have held : Held noAddr y (logReject y o Pg.HKSEQ 0x044 0 0x5EC00002) := (Held.refl y).addEntry
      have hk : (logReject y o Pg.HKSEQ 0x044 0 0x5EC00002).hk = y.hk := held.field State.hk
      refine asked.trans ⟨.held held fun _ e => e.elim, by rw [hk]; exact ⟨rfl, rfl, rfl⟩, fun a e => held.rd a ?_ (fun e => e) ?_⟩
      · rw [e]
        decide
      · rintro rfl
        revert e
        decide
    · exact asked
  · exact .refl

/-- What is written once a sequence is FAULTED. -/
def faultShown (s : State) (cause r : Nat) : State :=
  let s := (setHk s Hq.FAULTED).put Pg.HKSEQ Reg.HKSEQ.STATUS_ABORT_CAUSE cause
  let s := s.put Pg.HKSEQ Reg.HKSEQ.STATUS_ABORT_RAIL r
  (s.bump Pg.HKSEQ Reg.HKSEQ.STATUS_CONSEC_ABORTS).bump Pg.HKSEQ Reg.HKSEQ.ABORT_COUNT

/-- The abort's event and time, with no common start due. -/
def abortTimed (s : State) : State := { s.event Pg.HKSEQ 1 with hk := { s.hk with start := false, abortUs := s.rcUs } }

theorem enterFaulted_eq {cause : Nat} (h : hkState s = Hq.UP ∨ hkState s = Hq.ON ∨ downPending s = true) :
    enterFaulted s cause r = refreshHkUp (abortTimed (faultShown (downUndone s) cause r)) := by
  unfold enterFaulted
  rw [if_pos h]
  rfl

theorem enterFaulted_else {cause : Nat} (h : ¬ (hkState s = Hq.UP ∨ hkState s = Hq.ON ∨ downPending s = true)) :
    enterFaulted s cause r = s := if_neg h

theorem seqOnly_faultShown (s : State) (cause r : Nat) : SeqOnly s (faultShown s cause r) := by
  have state : SeqOnly s (setHk s Hq.FAULTED) := SeqOnly.refl.put (by decide) (by decide)
  have shown : SeqOnly s (((setHk s Hq.FAULTED).put Pg.HKSEQ Reg.HKSEQ.STATUS_ABORT_CAUSE cause).put Pg.HKSEQ
      Reg.HKSEQ.STATUS_ABORT_RAIL r) := (state.put (by decide) (by decide)).put (by decide) (by decide)
  exact (shown.bump (f := Reg.HKSEQ.STATUS_CONSEC_ABORTS) (by decide) (by decide)).bump (f := Reg.HKSEQ.ABORT_COUNT) (by decide)
    (by decide)

theorem seqOnly_abortTimed (s : State) : SeqOnly s (abortTimed s) := (SeqOnly.refl.event (by decide)).ofHk ⟨rfl, rfl, rfl⟩

theorem seqOnly_enterFaulted (s : State) (c r : Nat) : SeqOnly s (enterFaulted s c r) := by
  by_cases h : hkState s = Hq.UP ∨ hkState s = Hq.ON ∨ downPending s = true
  · rw [enterFaulted_eq h]
    exact (((seqOnly_downUndone s).trans (seqOnly_faultShown _ c r)).trans (seqOnly_abortTimed _)).refreshHkUp
  · rw [enterFaulted_else h]
    exact .refl

/-- A sequence in FAULTED with its cause and rail. -/
structure Faulted (t : State) (r : Nat) : Prop where
  state : hkState t = Hq.FAULTED
  cause : t.get Pg.HKSEQ Reg.HKSEQ.STATUS_ABORT_CAUSE = 1
  rail : t.get Pg.HKSEQ Reg.HKSEQ.STATUS_ABORT_RAIL = r
  event : t.get Pg.HKSEQ ⟨0x008, 1, 1, 0⟩ = 1

theorem faultShown_marks (s : State) (hr : r < 4) : hkState (faultShown s 1 r) = Hq.FAULTED ∧
    (faultShown s 1 r).get Pg.HKSEQ Reg.HKSEQ.STATUS_ABORT_CAUSE = 1 ∧ (faultShown s 1 r).get Pg.HKSEQ Reg.HKSEQ.STATUS_ABORT_RAIL = r := by
  have rail : r % 4 = r := Nat.mod_eq_of_lt hr
  unfold faultShown
  refine ⟨?_, ?_, ?_⟩
  · simp (disch := decide) [hkState, setHk, State.bump, State.addCount, State.get_put_ne, State.get_put_field, State.get_put_same, Fld.width]
    decide
  · simp (disch := decide) [setHk, State.bump, State.addCount, State.get_put_ne, State.get_put_field, State.get_put_same, Fld.width]
  · simp (disch := decide) [setHk, State.bump, State.addCount, State.get_put_ne, State.get_put_field, State.get_put_same, Fld.width, rail]

theorem get_abortTimed (s : State) (p : Nat) (f : Fld) : (abortTimed s).get p f = (s.event Pg.HKSEQ 1).get p f := rfl

/-- A sequence in UP or ON, faulted. -/
theorem faulted_enterFaulted (h : hkState s = Hq.UP ∨ hkState s = Hq.ON) (hr : r < 4) : Faulted (enterFaulted s 1 r) r := by
  rw [enterFaulted_eq (by tauto)]
  obtain ⟨state, cause, rail⟩ := faultShown_marks (downUndone s) hr
  generalize faultShown (downUndone s) 1 r = u at state cause rail
  have get (f : Fld) (off : f.off < 0x400) : (refreshHkUp (abortTimed u)).get Pg.HKSEQ f = (u.event Pg.HKSEQ 1).get Pg.HKSEQ f :=
    (get_refreshHkUp _ (by simp only [addrOf, Pg.HKSEQ, Pg.CHIP]; omega)).trans (get_abortTimed _ _ _)
  have status (f : Fld) (off : f.off = 0x048) : (refreshHkUp (abortTimed u)).get Pg.HKSEQ f = u.get Pg.HKSEQ f :=
    (get f (by omega)).trans (State.get_put_ne _ _ (by simp only [addrOf]; omega))
  refine ⟨(status _ rfl).trans state, (status _ rfl).trans cause, (status _ rfl).trans rail, (get _ (by decide)).trans ?_⟩
  rw [State.event, State.get_put_same _ _ _ _ le_rfl (by decide)]
  rfl

/-! ### A trip in REDUCED -/

/-- What a trip of a rail leaves in REDUCED. -/
structure RailTripped (s t : State) (cause r : Nat) : Prop where
  step : FaultStep s t
  off : ∀ j < 4, railOn t j = false
  discharging : ∀ j < 4, railOn s j = true → t.flag Pg.HKRAIL (Reg.HKRAIL.STATUS_DISCHARGING.ix j) = true
  low : t.hk.rst1 = false ∧ t.hk.rst2 = false
  said : said s t Pg.HKRAIL Kind.RAIL_FAULT (0x10 * cause + r)
  faulted : hkState s = Hq.UP ∨ hkState s = Hq.ON → Faulted t r
  state : hkState s ≠ Hq.UP → hkState s ≠ Hq.ON → hkState t = hkState s

/-- The map of the rails' severities as a step of the rails leaves it. -/
theorem said_congr (said : said v t p k a) (map : v.rd (p * 0x400 + 0x014 + 4 * ((k - 1) / 10)) = s.rd (p * 0x400 + 0x014 + 4 * ((k - 1) / 10)))
    (held : v.held = s.held) : Machine.said s t p k a := by
  rwa [Machine.said, effSeverity_congr map held] at said

theorem hkState_rails (h : RailsStep s t) : hkState t = hkState s := h.bits.get_apart (by decide) (by decide) (by decide) (by decide)

theorem Faulted.said {c : Nat} (h : Faulted v r) (said : RailSaid v t p k c) : Faulted t r :=
  ⟨(said.get _ _ (by decide) (.inr rfl) (by decide) (by decide)).trans h.state,
    (said.get _ _ (by decide) (.inr rfl) (by decide) (by decide)).trans h.cause,
    (said.get _ _ (by decide) (.inr rfl) (by decide) (by decide)).trans h.rail, (said.flag _ _ (.inr rfl) (by decide)).trans h.event⟩

theorem RailSaid.mark (h : RailSaid v t p k a) {f : Fld} (off : f.off < 0x400) (pos : 0x10 < f.off) :
    t.flag Pg.HKRAIL f = v.flag Pg.HKRAIL f := by
  rw [State.flag, h.get _ _ off (.inl rfl) (by omega) (by omega)]
  rfl

theorem SeqOnly.flag (h : SeqOnly s t) {f : Fld} (off : f.off < 0x400) : t.flag Pg.HKRAIL f = s.flag Pg.HKRAIL f := by
  rw [State.flag, h.get off]
  rfl

theorem railTripped {cause : Nat} (reduced : s.service = Svc.REDUCED) (room : logRoom s 4) (hr : r < 4) (on : railOn s r = true)
    (down : hkState s ≠ Hq.DOWN) : RailTripped s (flushLog (railTrip s cause r)) cause r := by
  have shut := shut_shutRails room hr on
  have seq := seqOnly_enterFaulted (shutRails s r) 1 r
  have state : hkState (shutRails s r) = hkState s := hkState_rails shut.step
  have faulted (h : hkState s = Hq.UP ∨ hkState s = Hq.ON) : Faulted (enterFaulted (shutRails s r) 1 r) r :=
    faulted_enterFaulted (by rwa [state]) hr
  have stays (up : hkState s ≠ Hq.UP) (up' : hkState s ≠ Hq.ON) : hkState (enterFaulted (shutRails s r) 1 r) = hkState s := by
    rw [enterFaulted_else, state]
    rw [state]
    simp [downPending, state, up, up', down]
  have step := (FaultStep.rails shut.step).trans seq.step
  unfold railTrip
  dsimp only
  generalize shutRails s r = w at shut seq state faulted stays step
  generalize enterFaulted w 1 r = v at seq faulted stays step
  have said : RailSaid v (flushLog (hk3Lost (raise v Pg.HKRAIL Kind.RAIL_FAULT (0x10 * cause + r)))) _ _ _ :=
    railSaid_hk3Lost (.inl rfl) (step.service.trans reduced)
  generalize flushLog (hk3Lost (raise v Pg.HKRAIL Kind.RAIL_FAULT (0x10 * cause + r))) = t at said
  have held : v.held = s.held := (congrArg State.held step.rest :)
  refine ⟨step.trans said.step, fun j hj => ?_, fun j hj jon => ?_, ?_, said_congr said.said ?_ held, fun h => (faulted h).said said, fun up up' => ?_⟩
  · rw [railOn, said.mark (by simp [Fld.ix]; omega) (by simp [Fld.ix]; omega)]
    exact (seq.railOn hj).trans (shut.off j hj)
  · rw [said.mark (by simp [Fld.ix]; omega) (by simp [Fld.ix]; omega), seq.flag (by simp [Fld.ix]; omega)]
    exact shut.discharging j hj jon
  · rw [said.hk, seq.hk.2.1, seq.hk.2.2]
    exact shut.low
  · rw [seq.rd _ (by decide)]
    exact shut.step.map ((Kind.RAIL_FAULT - 1) / 10) (by decide)
  · exact (said.get _ _ (by decide) (.inr rfl) (by decide) (by decide)).trans (stays up up')

theorem sameOuter_railTrip {cause : Nat} (reduced : s.service = Svc.REDUCED) (room : logRoom s 4) (hr : r < 4) (on : railOn s r = true) :
    sameOuter s (railTrip s cause r) := by
  have shut := shut_shutRails room hr on
  have seq := seqOnly_enterFaulted (shutRails s r) 1 r
  have step := (FaultStep.rails shut.step).trans seq.step
  unfold railTrip
  dsimp only
  generalize enterFaulted (shutRails s r) 1 r = v at step
  have said : RailSaid v (raise v Pg.HKRAIL Kind.RAIL_FAULT (0x10 * cause + r)) _ _ _ := railSaid_saidIn (.inl rfl) (raise_held v _ _ _)
  have reduced' := (step.trans said.step).service.trans reduced
  exact ((step.trans said.step).trans (faultStep_hk3Lost reduced')).sameOuter

/-- A command that trips a rail in REDUCED. -/
theorem gives_railTrip {c : Instr} {b : Bool} {cause : Nat} (hx : exec c s = takes s b (fun s => railTrip s cause r)) (hb : b = true)
    (reduced : s.service = Svc.REDUCED) (room : logRoom s 4) (hr : r < 4) (on : railOn s r = true) (down : hkState s ≠ Hq.DOWN) :
    gives c s (fun t => RailTripped s t cause r) :=
  gives_flush _ (act := fun s => railTrip s cause r) hx rfl hb (sameOuter_railTrip reduced room hr on) (railTripped reduced room hr on down)

/-! ### An output that does not fall, and an overcurrent in DOWN -/

/-- OFF_RESULT of a rail. -/
def offResult (r : Nat) : Fld := ⟨0x068, 2 * r + 1, 2 * r, 0⟩

/-- A rail timed out at the end of its time. -/
def timedOut (s : State) (r : Nat) : State :=
  (setRail s r { rail s r with offWait := false, timedOut := true }).put Pg.HKSEQ (offResult r) 2

theorem offTimeout_eq (s : State) (r : Nat) : offTimeout s r = tryOff (raise (timedOut s r) Pg.HKSEQ Kind.OFF_TIMEOUT r) := rfl

theorem faultStep_setRail (s : State) (r : Nat) (x : RailState) : FaultStep s (setRail s r x) := ⟨(onlyBits.refl s).regs rfl, rfl⟩

theorem timedOut_spec (s : State) (hr : r < 4) : FaultStep s (timedOut s r) ∧ (rail (timedOut s r) r).timedOut = true ∧
    (rail (timedOut s r) r).offWait = false ∧ (timedOut s r).get Pg.HKSEQ (offResult r) = 2 := by
  refine ⟨(faultStep_setRail s r _).ofPage (.inr rfl) (by simp [offResult]) (by simp [offResult]; omega), ?_, ?_, ?_⟩
  · exact congrArg RailState.timedOut (rail_setRail s r _)
  · exact congrArg RailState.offWait (rail_setRail s r _)
  · refine (State.get_put_same _ _ _ _ (by simp [offResult]) (by simp [offResult]; omega)).trans ?_
    simp only [offResult, Fld.width]
    rw [show 2 * r + 1 - 2 * r + 1 = 2 by omega]
    rfl

/-- The sequence in OFF, with its event. -/
def seqEnded (s : State) : State := (setHk s Hq.OFF).event Pg.HKSEQ 2

theorem seqOnly_seqEnded (s : State) : SeqOnly s (seqEnded s) := (SeqOnly.refl.put (by decide) (by decide)).event (by decide)

theorem hk_seqEnded (s : State) : (seqEnded s).hk = s.hk := by simp only [seqEnded, State.event, setHk, State.put_rest]

theorem get_seqEnded (s : State) {f : Fld} (h8 : f.off ≠ 0x008) (h48 : f.off ≠ 0x048) :
    (seqEnded s).get Pg.HKSEQ f = s.get Pg.HKSEQ f := by
  rw [seqEnded, State.event, State.get_put_ne _ _ (by simp only [addrOf]; omega), setHk, State.get_put_ne _ _ (by simp only [addrOf]; omega)]

theorem message_seqEnded (s : State) : (seqEnded s).get Pg.HKSEQ ⟨0x008, 26, 26, 0⟩ = s.get Pg.HKSEQ ⟨0x008, 26, 26, 0⟩ := by
  rw [seqEnded, State.event, State.get_put_field (f' := ⟨0x008, 26, 26, 0⟩) (f := ⟨0x008, 2, 2, 0⟩) _ _ rfl le_rfl (by decide) le_rfl
    (.inr (by decide)), setHk, State.get_put_ne _ _ (by simp [addrOf])]

/-- The sequence at its end writes its state and an event. -/
structure SeqMayEnd (s t : State) : Prop where
  step : FaultStep s t
  hk : t.hk = s.hk
  get : ∀ f, f.off < 0x400 → f.off ≠ 0x008 → f.off ≠ 0x048 → t.get Pg.HKSEQ f = s.get Pg.HKSEQ f
  message : t.get Pg.HKSEQ ⟨0x008, 26, 26, 0⟩ = s.get Pg.HKSEQ ⟨0x008, 26, 26, 0⟩

theorem seqMayEnd_tryOff (s : State) : SeqMayEnd s (tryOff s) := by
  unfold tryOff
  split
  · exact ⟨(seqOnly_seqEnded s).step, hk_seqEnded s, fun _ _ h8 h48 => get_seqEnded s h8 h48, message_seqEnded s⟩
  · exact ⟨.refl, rfl, fun _ _ _ _ => rfl, rfl⟩

/-- What an output that does not fall in its time leaves in REDUCED. -/
structure OffTimedOut (s t : State) (r : Nat) : Prop where
  step : FaultStep s t
  timedOut : (rail t r).timedOut = true
  offWait : (rail t r).offWait = false
  result : t.get Pg.HKSEQ (offResult r) = 2
  said : said s t Pg.HKSEQ Kind.OFF_TIMEOUT r

theorem offTimedOut (s : State) (hr : r < 4) : OffTimedOut s (flushLog (offTimeout s r)) r ∧ sameOuter s (offTimeout s r) := by
  obtain ⟨step, timed, wait, result⟩ := timedOut_spec s hr
  have held : (timedOut s r).held = s.held := (congrArg State.held step.rest :)
  have map (i : Nat) (hi : i < 3) : (timedOut s r).rd (Pg.HKSEQ * 0x400 + 0x014 + 4 * i) = s.rd (Pg.HKSEQ * 0x400 + 0x014 + 4 * i) :=
    (State.rd_put_ne _ _ (by simp only [addrOf, offResult]; omega)).trans rfl
  rw [offTimeout_eq]
  generalize timedOut s r = v at step timed wait result held map
  have said : RailSaid v (raise v Pg.HKSEQ Kind.OFF_TIMEOUT r) _ _ _ := railSaid_saidIn (.inr rfl) (raise_held v _ _ _)
  generalize raise v Pg.HKSEQ Kind.OFF_TIMEOUT r = w at said
  obtain ⟨off, hk, get, event⟩ := seqMayEnd_tryOff w
  generalize tryOff w = x at off hk get event
  have last := railsAside_flushLog x
  have railSame : rail (flushLog x) r = rail v r := by rw [rail, last.hk, hk, said.hk]; rfl
  have reads (f : Fld) (o : f.off < 0x400) (h8 : f.off ≠ 0x008) (h48 : f.off ≠ 0x048) : (flushLog x).get Pg.HKSEQ f = w.get Pg.HKSEQ f :=
    (last.get _ _ o (.inr rfl)).trans (get _ o h8 h48)
  obtain ⟨lastMsg, marked⟩ := said.said
  have shown : Machine.said v (flushLog x) Pg.HKSEQ Kind.OFF_TIMEOUT r :=
    ⟨(reads _ (by decide) (by decide) (by decide)).trans lastMsg,
      ((last.get _ _ (by decide) (.inr rfl)).trans event).trans marked⟩
  refine ⟨⟨((step.trans said.step).trans off).trans last.step, ?_, ?_, ?_, said_congr shown (map _ (by decide)) held⟩,
    ((step.trans said.step).trans off).sameOuter⟩
  · rw [railSame, timed]
  · rw [railSame, wait]
  · rw [reads _ (by simp [offResult]) (by simp [offResult]) (by simp [offResult]),
      said.get _ _ (by simp [offResult]) (.inr rfl) (by simp [offResult]) (by simp [offResult]), result]

/-- What an overcurrent of a rail in DOWN leaves in REDUCED. -/
structure DownTripped (s t : State) (r : Nat) : Prop where
  step : FaultStep s t
  off : railOn t r = false
  result : t.get Pg.HKSEQ (offResult r) = 1
  said : said s t Pg.HKRAIL Kind.RAIL_FAULT (0x60 + r)
  state : hkState t = hkState s
  others : ∀ j < 4, j ≠ r → railOn t j = railOn s j

/-- A rail off after an overcurrent in DOWN, with its result. -/
def downShut (s : State) (r : Nat) : State := (railOff s r Org.HW).put Pg.HKSEQ (offResult r) 1

theorem downOvercurrent_eq (s : State) (r : Nat) :
    downOvercurrent s r = hk3Lost (raise (downShut s r) Pg.HKRAIL Kind.RAIL_FAULT (0x60 + r)) := rfl

theorem downTripped (reduced : s.service = Svc.REDUCED) (room : logRoom s 1) (hr : r < 4) :
    DownTripped s (flushLog (downOvercurrent s r)) r ∧ sameOuter s (downOvercurrent s r) := by
  have one := railStep_railOff (origin := Org.HW) room hr
  have off := railOn_railOff (origin := Org.HW) room hr
  have others (j : Nat) (hj : j < 4) (ne : j ≠ r) := one.railOn hr hj ne
  have rails := one.rails hr
  have state := hkState_rails rails
  have put : SeqOnly (railOff s r Org.HW) (downShut s r) := SeqOnly.refl.put (by simp [offResult]) (by simp [offResult]; omega)
  have result : (downShut s r).get Pg.HKSEQ (offResult r) = 1 := by
    refine (State.get_put_same _ _ _ _ (by simp [offResult]) (by simp [offResult]; omega)).trans ?_
    simp only [offResult, Fld.width]
    rw [show 2 * r + 1 - 2 * r + 1 = 2 by omega]
    rfl
  have state' : hkState (downShut s r) = hkState s := (State.get_put_ne _ _ (by simp [addrOf, offResult])).trans state
  have step := (FaultStep.rails rails).trans put.step
  rw [downOvercurrent_eq]
  generalize railOff s r Org.HW = w at one off others rails state put
  generalize downShut s r = v at put result state' step
  have held : v.held = s.held := (congrArg State.held step.rest :)
  have before : RailSaid v (raise v Pg.HKRAIL Kind.RAIL_FAULT (0x60 + r)) _ _ _ := railSaid_saidIn (.inl rfl) (raise_held v _ _ _)
  have outer := ((step.trans before.step).trans (faultStep_hk3Lost ((step.trans before.step).service.trans reduced))).sameOuter
  have said : RailSaid v (flushLog (hk3Lost (raise v Pg.HKRAIL Kind.RAIL_FAULT (0x60 + r)))) _ _ _ :=
    railSaid_hk3Lost (.inl rfl) (step.service.trans reduced)
  generalize flushLog (hk3Lost (raise v Pg.HKRAIL Kind.RAIL_FAULT (0x60 + r))) = t at said
  have reads (j : Nat) (hj : j < 4) : railOn t j = railOn w j := by
    rw [railOn, said.mark (by simp [Fld.ix]; omega) (by simp [Fld.ix]; omega)]
    exact put.railOn hj
  refine ⟨⟨step.trans said.step, ?_, ?_, said_congr said.said ?_ held, ?_, fun j hj ne => ?_⟩, outer⟩
  · rw [reads r hr, off]
  · rw [said.get _ _ (by simp [offResult]) (.inr rfl) (by simp [offResult]) (by simp [offResult]), result]
  · rw [put.rd _ (by decide)]
    exact rails.map ((Kind.RAIL_FAULT - 1) / 10) (by decide)
  · exact (said.get _ _ (by decide) (.inr rfl) (by decide) (by decide)).trans state'
  · rw [reads j hj, others j hj ne]

end Sys2Proof.Machine

open Sys2Proof Sys2Proof.Machine

/-- Settles O44: each fault shuts its rails, says its message and faults the sequence; in REDUCED the main domain has nothing to lose. -/
theorem railFaultsShutTheRails : Obligations.RailFaultsShutTheRails := by
  unfold Obligations.RailFaultsShutTheRails
  refine ⟨?_, ?_, ?_, ?_, ?_⟩
  · intro s r reduced live hr on unseen late down room
    obtain ⟨t, run, h⟩ := gives_railTrip (c := .railStartTimeout r) (cause := 4) rfl (by simp [live, hr, on, unseen, late]) reduced room hr on down
    exact ⟨t, run, h.off, h.low.1, h.low.2, h.said, fun up => ⟨(h.faulted up).state, (h.faulted up).cause, (h.faulted up).rail,
      (h.faulted up).event⟩, h.state, h.step.bits, h.step.reaction⟩
  · intro s r reduced live hr on unseen down early room
    obtain ⟨t, run, h⟩ := gives_railTrip (c := .railSoftstartShort r) (cause := 5) rfl (by simp [live, hr, on, unseen, early]) reduced room hr on down
    exact ⟨t, run, h.off, h.low.1, h.low.2, h.said, fun up => ⟨(h.faulted up).state, (h.faulted up).cause, (h.faulted up).rail,
      (h.faulted up).event⟩, h.state, h.step.bits, h.step.reaction⟩
  · intro s r cause reduced live hr range on qual down room
    have due : tripCause s r cause = true := by
      simp [tripCause, live, hr, range, on, qual, goingDown, down]
    obtain ⟨t, run, h⟩ := gives_railTrip (c := .railFaultTrip r cause) (cause := cause) rfl due reduced room hr on down
    exact ⟨t, run, h.off, h.discharging, h.low.1, h.low.2, h.said, fun up => ⟨(h.faulted up).state, (h.faulted up).cause,
      (h.faulted up).rail, (h.faulted up).event⟩, h.state, h.step.bits, h.step.reaction⟩
  · intro s r reduced live hr off wait high late room
    obtain ⟨h, outer⟩ := offTimedOut s hr
    exact gives_flush _ (act := fun s => offTimeout s r) rfl rfl (by simp [live, hr, off, wait, high, late]) outer
      ⟨h.timedOut, h.offWait, h.result, h.said, h.step.bits, h.step.reaction⟩
  · intro s r reduced live hr down on room
    obtain ⟨h, outer⟩ := downTripped reduced (room.mono (by decide)) hr
    have going : hkState s = Hq.DOWN := by
      simp only [goingDown, Bool.and_eq_true, decide_eq_true_eq] at down
      exact down.1
    exact gives_flush _ (act := fun s => downOvercurrent s r) rfl rfl (by simp [live, hr, down, on]) outer
      ⟨h.off, h.result, h.said, h.state.trans going, h.others, h.step.bits, h.step.reaction⟩

end
section
/-! PROOF. O43: the sequencer's slots, power-good and the qualification of a rail. -/

namespace Sys2Proof.Machine

variable {s t u v : State} {r j n low drained : Nat} {amps : List Nat}

/-! ### A slot of one rail -/

/-- The registers that a slot of a rail writes. -/
def railSlotFields (r : Nat) : List (Nat × Fld) :=
  [(Pg.HKRAIL, Reg.HKRAIL.STATUS_CURLIM.ix r), (Pg.HKRAIL, Reg.HKRAIL.STATUS_DISCHARGING.ix r),
    (Pg.HKRAIL, Reg.HKRAIL.STATUS_SLEW_DONE.ix r), (Pg.HKRAIL, Reg.HKRAIL.VREF_VOLTAGE.ix r),
    (Pg.HKRAIL, Reg.HKRAIL.SLEW_RETARGET.ix r), (Pg.HKRAIL, ⟨0x008, 0, 0, 0⟩)]

/-- The rails and the registers alone may differ. -/
def onlyRailStates (s t : State) : Prop := { t with regs := s.regs, hk := { t.hk with rails := s.hk.rails } } = s

theorem onlyRailStates.trans (h : onlyRailStates s t) (k : onlyRailStates t u) : onlyRailStates s u := by
  have step : ({ ({ u with regs := t.regs, hk := { u.hk with rails := t.hk.rails } } : State) with
    regs := s.regs, hk := { u.hk with rails := s.hk.rails } } : State) = { t with regs := s.regs, hk := { t.hk with rails := s.hk.rails } } :=
    congrArg (fun x : State => { x with regs := s.regs, hk := { x.hk with rails := s.hk.rails } }) k
  exact step.trans h

/-- A slot of one rail, with other rails' fields beside. -/
structure SlotStep (s t : State) (l : List (Nat × Fld)) : Prop where
  bits : onlyBits s t l []
  rest : onlyRailStates s t

namespace SlotStep

variable {l : List (Nat × Fld)}

theorem refl : SlotStep s s l := ⟨onlyBits.refl s, rfl⟩

theorem trans (h : SlotStep s t l) (k : SlotStep t u l) : SlotStep s u l := ⟨h.bits.trans k.bits, h.rest.trans k.rest⟩

theorem ofPut {p x : Nat} {f : Fld} (h : SlotStep s t l) (m : (p, f) ∈ l) (lo : f.lo ≤ f.hi ∧ f.hi < 32) : SlotStep s (t.put p f x) l :=
  ⟨h.bits.putListed m lo, h.rest⟩

theorem setRail (h : SlotStep s t l) (r : Nat) (x : RailState) : SlotStep s (setRail t r x) l := ⟨h.bits.regs rfl, h.rest⟩

theorem ite {c : Prop} [Decidable c] {a b : State} (ha : SlotStep s a l) (hb : SlotStep s b l) : SlotStep s (if c then a else b) l := by
  split
  · exact ha
  · exact hb

end SlotStep

theorem slotStep_slewRail {l : List (Nat × Fld)} (s : State) (r : Nat) (hl : railSlotFields r ⊆ l) : SlotStep s (slewRail s r) l := by
  unfold slewRail
  extract_lets +onlyGivenNames p target done x goal ss d v u1 now u2 u3 y u4
  have h1 : SlotStep s u1 l :=
    (SlotStep.refl.setRail r _).ofPut (p := Pg.HKRAIL) (f := Reg.HKRAIL.VREF_VOLTAGE.ix r) (hl (by simp [railSlotFields])) (by simp [Fld.ix])
  have h2 : SlotStep s u2 l := .ite (h1.ofPut (p := Pg.HKRAIL) (f := ⟨0x008, 0, 0, 0⟩) (hl (by simp [railSlotFields])) (by decide)) h1
  have h3 : SlotStep s u3 l :=
    .ite h2 (h2.ofPut (p := Pg.HKRAIL) (f := Reg.HKRAIL.SLEW_RETARGET.ix r) (hl (by simp [railSlotFields])) (by simp [Fld.ix]))
  have h4 : SlotStep s u4 l := h3.setRail r _
  have mark (y : State) (h : SlotStep s y l) (b : Bool) : SlotStep s (y.putb p (Reg.HKRAIL.STATUS_SLEW_DONE.ix r) b) l :=
    h.ofPut (p := Pg.HKRAIL) (f := Reg.HKRAIL.STATUS_SLEW_DONE.ix r) (hl (by simp [railSlotFields])) (by simp [Fld.ix])
  exact .ite (mark u2 h2 _) (mark u4 h4 _)

theorem slotStep_railSlot {l : List (Nat × Fld)} (s : State) (r : Nat) (hl : railSlotFields r ⊆ l) :
    SlotStep s (railSlot s low drained amps r) l := by
  unfold railSlot
  dsimp only
  split
  · have limited : SlotStep s (s.putb Pg.HKRAIL (Reg.HKRAIL.STATUS_CURLIM.ix r) (decide (ilimInUse s r ≤ ratN (nth 0 amps r)))) l :=
      SlotStep.refl.ofPut (f := Reg.HKRAIL.STATUS_CURLIM.ix r) (hl (by simp [railSlotFields])) (by simp [Fld.ix])
    exact (limited.setRail r _).trans (slotStep_slewRail _ r hl)
  · exact (SlotStep.refl.setRail r _).ofPut (f := Reg.HKRAIL.STATUS_DISCHARGING.ix r) (hl (by simp [railSlotFields])) (by simp [Fld.ix])

/-- The registers that a slot of the rails writes. -/
def slotFields : List (Nat × Fld) := (List.range 4).flatMap railSlotFields

/-- A slot of every rail. -/
def railSlots (s : State) (low drained : Nat) (amps : List Nat) : State :=
  (List.range 4).foldl (fun s r => railSlot s low drained amps r) s

theorem slotStep_railSlots (s : State) : SlotStep s (railSlots s low drained amps) slotFields := by
  have step (l : List Nat) (hl : ∀ r ∈ l, r ∈ List.range 4) (u : State) (h : SlotStep s u slotFields) :
      SlotStep s (l.foldl (fun s r => railSlot s low drained amps r) u) slotFields := by
    induction l generalizing u with
    | nil => exact h
    | cons r l ih =>
      exact ih (fun x hx => hl x (.tail _ hx)) _ (h.trans (slotStep_railSlot u r fun e he => List.mem_flatMap.mpr ⟨r, hl r (.head _), he⟩))
  exact step _ (fun _ h => h) s .refl

/-! ### The slot count -/

/-- ENG.10's slot counted. -/
def slotCounted (s : State) : State :=
  let s := if (s.eng 10).slotMiss = 0 then s else s.bump (Pg.ENG 10) Reg.ENG.MISSED
  s.setEng 10 { s.eng 10 with slotMiss := (s.eng 10).slotMiss + 1 }

theorem slotTick_eq (s : State) : slotTick s low drained amps =
    if estate (railSlots s low drained amps) 10 = Es.RUNNING then tryOff (tryOn (seqAdvance (slotCounted (railSlots s low drained amps))))
    else railSlots s low drained amps := rfl

/-- The sequencer's slot advanced. -/
def slotAdvanced (s : State) : State := { s with hk := { s.hk with slot := s.hk.slot + 1 } }

/-- The slot shown. -/
def slotPut (s : State) : State := s.put Pg.HKSEQ Reg.HKSEQ.STATUS_SLOT (min 63 s.hk.slot)

/-- The slot advanced and shown. -/
def slotShown (s : State) : State := slotPut (slotAdvanced s)

/-- The pages and fields of a slot beside the rails'. -/
def slotCount : List (Nat × Fld) := [(Pg.HKSEQ, Reg.HKSEQ.STATUS_SLOT), (Pg.ENG 10, Reg.ENG.MISSED)]

/-- A state with another's registers, engines, rails and slot. -/
def countOf (s t : State) : State := { t with regs := s.regs, engs := s.engs, hk := { t.hk with rails := s.hk.rails, slot := s.hk.slot } }

/-- The slot counted and shown. -/
structure Slotted (s t : State) : Prop where
  bits : onlyBits s t slotCount [Pg.HKRAIL]
  rest : countOf s t = s
  slot : t.hk.slot = s.hk.slot + 1
  shown : t.get Pg.HKSEQ Reg.HKSEQ.STATUS_SLOT = min 63 (s.hk.slot + 1)
  miss : (t.eng 10).slotMiss = (s.eng 10).slotMiss + 1
  marks : ∀ f, f.off < 0x400 → apart slotFields Pg.HKRAIL f = true → f.lo ≤ f.hi → t.get Pg.HKRAIL f = s.get Pg.HKRAIL f

theorem slotFields_page : ∀ e ∈ slotFields, addrOf e.1 e.2 / 0x400 ∈ [Pg.HKRAIL] := by decide

theorem setEng_rest (u : State) (e : Nat) (x : EngState) : { u.setEng e x with engs := u.engs } = u := rfl

theorem slotCounted_spec (s : State) : onlyBits s (slotCounted s) [(Pg.ENG 10, Reg.ENG.MISSED)] [] ∧
    ((slotCounted s).eng 10).slotMiss = (s.eng 10).slotMiss + 1 ∧ { slotCounted s with regs := s.regs, engs := s.engs } = s := by
  have counted : onlyBits s (if (s.eng 10).slotMiss = 0 then s else s.bump (Pg.ENG 10) Reg.ENG.MISSED) [(Pg.ENG 10, Reg.ENG.MISSED)] [] :=
    .ite (onlyBits.refl s) ((onlyBits.refl s).bump (by decide))
  have only : onlyRegs s (if (s.eng 10).slotMiss = 0 then s else s.bump (Pg.ENG 10) Reg.ENG.MISSED) := .ite rfl (.put rfl)
  unfold slotCounted
  generalize (if (s.eng 10).slotMiss = 0 then s else s.bump (Pg.ENG 10) Reg.ENG.MISSED) = u at counted only
  have engs : u.engs = s.engs := only.field State.engs
  have miss : ((u.setEng 10 { u.eng 10 with slotMiss := (u.eng 10).slotMiss + 1 }).eng 10).slotMiss = (s.eng 10).slotMiss + 1 := by
    rw [State.eng, State.setEng, Table.get_set_same, State.eng, State.eng, engs]
  refine ⟨counted.regs rfl, miss, ?_⟩
  have rest := congrArg (fun x : State => { x with regs := s.regs, engs := s.engs }) (setEng_rest u 10 { u.eng 10 with slotMiss := (u.eng 10).slotMiss + 1 })
  exact rest.trans (congrArg (fun x : State => { x with engs := s.engs }) only)

theorem slotShown_spec (s : State) : onlyBits s (slotShown s) [(Pg.HKSEQ, Reg.HKSEQ.STATUS_SLOT)] [] ∧
    (slotShown s).get Pg.HKSEQ Reg.HKSEQ.STATUS_SLOT = min 63 (s.hk.slot + 1) ∧ (slotShown s).hk.slot = s.hk.slot + 1 ∧
    { slotShown s with regs := s.regs, hk := { (slotShown s).hk with slot := s.hk.slot } } = s := by
  have base : onlyBits s (slotAdvanced s) [(Pg.HKSEQ, Reg.HKSEQ.STATUS_SLOT)] [] := (onlyBits.refl s).regs rfl
  have small : min 63 (s.hk.slot + 1) < 64 := by omega
  exact ⟨base.put (by decide), (State.get_put_same _ _ _ _ (by decide) (by decide)).trans (Nat.mod_eq_of_lt small), rfl, rfl⟩

theorem slotted (s : State) : Slotted s (slotShown (slotCounted (railSlots s low drained amps))) := by
  have rails := slotStep_railSlots (low := low) (drained := drained) (amps := amps) s
  generalize railSlots s low drained amps = u at rails
  obtain ⟨countBits, miss, countRest⟩ := slotCounted_spec u
  generalize slotCounted u = v at countBits miss countRest
  obtain ⟨showBits, shown, slot, showRest⟩ := slotShown_spec v
  generalize slotShown v = t at showBits shown slot showRest
  have engU : u.engs = s.engs := (congrArg State.engs rails.rest :)
  have hkU : u.hk.slot = s.hk.slot := (congrArg (fun x : State => x.hk.slot) rails.rest :)
  have hkV : v.hk = u.hk := (congrArg State.hk countRest :)
  have engT : t.engs = v.engs := (congrArg State.engs showRest :)
  have bits : onlyBits s t (slotFields ++ slotCount) [] :=
    ((rails.bits.mono (List.subset_append_left _ _)).trans (countBits.mono (by simp [slotCount]))).trans (showBits.mono (by simp [slotCount]))
  refine ⟨bits.ofPages (List.nil_subset _) fun e he => ?_, ?_, by rw [slot, hkV, hkU], by rw [shown, hkV, hkU], ?_, fun f off far le => ?_⟩
  · rcases List.mem_append.mp he with slots | count
    · exact .inr (slotFields_page e slots)
    · exact .inl count
  · have one : countOf s { t with regs := v.regs, hk := { t.hk with slot := v.hk.slot } } = countOf s v := congrArg (countOf s) showRest
    have two : countOf s { v with regs := u.regs, engs := u.engs } = countOf s u := congrArg (countOf s) countRest
    have three : countOf s { u with regs := s.regs, hk := { u.hk with rails := s.hk.rails } } = countOf s s := congrArg (countOf s) rails.rest
    exact (one.trans two).trans three
  · rw [State.eng, engT]
    refine miss.trans ?_
    rw [State.eng, State.eng, engU]
  · refine bits.get_apart off List.not_mem_nil ?_ le
    have count : apart slotCount Pg.HKRAIL f = true := by
      simp only [apart, slotCount, List.all_cons, List.all_nil, Bool.and_true, Bool.and_eq_true, addrOf, Pg.HKRAIL,
        Pg.HKSEQ, Pg.ENG]
      exact ⟨decide_eq_true (.inl (by omega)), decide_eq_true (.inl (by omega))⟩
    rw [apart, List.all_append, Bool.and_eq_true]
    exact ⟨far, count⟩

theorem Slotted.state (h : Slotted s t) : hkState t = hkState s := h.bits.get_apart (by decide) (by decide) (by decide) (by decide)

theorem Slotted.estate (h : Slotted s t) : estate t 10 = estate s 10 := h.bits.get_apart (by decide) (by decide) (by decide) (by decide)

/-- The rails whose slot has come, started (R362). -/
def seqStarts (n : Nat) (s : State) (l : List Nat) : State :=
  l.foldl (fun s r =>
    if inSeq s r && !railOn s r && decide (seqField s (Reg.HKSEQ.RAIL_SEQ_ON_DLY.ix r) = n) then railStart s r Org.SEQ else s) s

/-- The rails whose slot has come, stopped. -/
def seqStops (n : Nat) (s : State) (l : List Nat) : State :=
  l.foldl (fun s r =>
    if inSeq s r && railOn s r && decide (seqField s (Reg.HKSEQ.RAIL_SEQ_OFF_DLY.ix r) = n) then railOff s r Org.SEQ else s) s

/-- What a slot does once it is counted. -/
def seqRun (s : State) : State :=
  if hkState (slotPut s) = Hq.UP then seqStarts s.hk.slot (slotPut s) (List.range 4)
  else if hkState (slotPut s) = Hq.DOWN then hk3Lost (seqStops s.hk.slot (slotPut s) (List.range 4))
  else slotPut s

theorem seqAdvance_eq (s : State) : seqAdvance s = seqRun (if s.hk.start then commonStart s else slotAdvanced s) := rfl

theorem seqAdvance_run (start : s.hk.start = false) : seqAdvance s = seqRun (slotAdvanced s) := by
  rw [seqAdvance_eq, start]
  rfl

theorem start_slotCounted (s : State) (start : s.hk.start = false) : (slotCounted (railSlots s low drained amps)).hk.start = false := by
  have rails := (slotStep_railSlots (low := low) (drained := drained) (amps := amps) s).rest
  obtain ⟨-, -, rest⟩ := slotCounted_spec (railSlots s low drained amps)
  have one : (slotCounted (railSlots s low drained amps)).hk = (railSlots s low drained amps).hk := (congrArg State.hk rest :)
  have two : (railSlots s low drained amps).hk.start = s.hk.start := (congrArg (fun x : State => x.hk.start) rails :)
  rw [one, two, start]

theorem tryOn_else (h : hkState s ≠ Hq.UP) : tryOn s = s := if_neg fun c => h c.1

theorem tryOff_else (h : hkState s ≠ Hq.DOWN) : tryOff s = s := if_neg fun c => h c.1

/-- While the sequence is ON a slot is counted, and no rail moves. -/
theorem slotTick_on (run : estate s 10 = Es.RUNNING) (on : hkState s = Hq.ON) (start : s.hk.start = false) :
    slotTick s low drained amps = slotShown (slotCounted (railSlots s low drained amps)) := by
  have slot := slotted (low := low) (drained := drained) (amps := amps) s
  have state := slot.state.trans on
  have running : estate (railSlots s low drained amps) 10 = Es.RUNNING :=
    ((slotStep_railSlots s).bits.get_apart (by decide) (by decide) (by decide) (by decide)).trans run
  rw [slotTick_eq, if_pos running, seqAdvance_run (start_slotCounted s start), seqRun]
  rw [slotShown] at state ⊢
  rw [if_neg (by rw [state]; decide), if_neg (by rw [state]; decide), tryOn_else (by rw [state]; decide), tryOff_else (by rw [state]; decide)]

/-! ### The rails that a slot starts -/

/-- A rail as its start leaves it, towards a target. -/
structure RailNew (t : State) (r v : Nat) : Prop where
  on : railOn t r = true
  qual : railQual t r = false
  slew : t.flag Pg.HKRAIL (Reg.HKRAIL.STATUS_SLEW_DONE.ix r) = false
  enabled : t.get Pg.HKRAIL (Reg.HKRAIL.CTRL_EN.ix r) = 1
  target : (rail t r).target = v

/-- A start of another rail leaves it. -/
theorem RailNew.other {x : Nat} (h : RailNew s r x) (step : RailStep s t j) (hr : r < 4) (hj : j < 4) (ne : r ≠ j) : RailNew t r x := by
  obtain ⟨-, qual, -, slew, enabled⟩ := apart_rail j hj r hr ne
  exact ⟨(step.railOn hj hr ne).trans h.on,
    (step.bits.flag_apart (by simp [Fld.ix]; omega) (by decide) qual le_rfl).trans h.qual,
    (step.bits.flag_apart (by simp [Fld.ix]; omega) (by decide) slew le_rfl).trans h.slew,
    (step.get enabled (by simp [Fld.ix]; omega) (by simp [Fld.ix])).trans h.enabled, by rw [step.other r ne, h.target]⟩

theorem seqField_rails (h : RailsStep s t) (f : Fld) (off : f.off < 0x400) : seqField t f = seqField s f := by
  have held : t.held = s.held := (congrArg State.held h.rest :)
  have page : addrOf Pg.HKSEQ f / 0x400 = Pg.HKSEQ := addrOf_div off
  have rd : t.rd (addrOf Pg.HKSEQ f) = s.rd (addrOf Pg.HKSEQ f) := by
    refine h.bits.rd_apart (by rw [page]; decide) ?_
    simp only [List.all_cons, List.all_nil, Bool.and_true]
    exact decide_eq_true (by simp only [addrOf, Pg.CHIP, Pg.HKSEQ]; omega)
  rw [seqField, State.getf, inForce_congr rd held]
  rfl

/-- Does a slot start a rail? -/
def startsAt (n : Nat) (s : State) (r : Nat) : Bool :=
  inSeq s r && !railOn s r && decide (seqField s (Reg.HKSEQ.RAIL_SEQ_ON_DLY.ix r) = n)

theorem startsAt_other (h : RailStep s t j) (hr : r < 4) (hj : j < 4) (ne : r ≠ j) : startsAt n t r = startsAt n s r := by
  have fields := seqField_rails (h.rails hj)
  have on := h.railOn hj hr ne
  unfold startsAt inSeq
  rw [fields _ (by simp [Fld.ix]; omega), fields _ (by simp [Fld.ix]; omega), on]

/-- What the starts of a slot leave. -/
structure SlotStarts (s t : State) (m : Nat) : Prop where
  step : RailsStep s t
  rst : t.hk.rst1 = s.hk.rst1 ∧ t.hk.rst2 = s.hk.rst2
  room : logRoom t m

theorem slotStarts_one {m : Nat} (room : logRoom s (m + 1)) (hj : j < 4) :
    RailStep s (if startsAt n s j then railStart s j Org.SEQ else s) j ∧ SlotStarts s (if startsAt n s j then railStart s j Org.SEQ else s) m := by
  cases due : startsAt n s j
  · exact ⟨.refl, .refl, ⟨rfl, rfl⟩, room.mono (by omega)⟩
  · have starts := railStarts (origin := Org.SEQ) (room.mono (by omega)) hj
    exact ⟨starts.step, starts.step.rails hj, starts.rst, logRoom_railStart room⟩

theorem SlotStarts.trans {m m' : Nat} (h : SlotStarts s t m) (k : SlotStarts t u m') : SlotStarts s u m' :=
  ⟨h.step.trans k.step, ⟨k.rst.1.trans h.rst.1, k.rst.2.trans h.rst.2⟩, k.room⟩

/-- A rail that no slot of the list concerns stays new. -/
theorem seqStarts_others {l : List Nat} {m x : Nat} (small : ∀ j ∈ l, j < 4) (room : logRoom s (m + l.length)) (hr : r < 4) (out : r ∉ l)
    (new : RailNew s r x) : SlotStarts s (seqStarts n s l) m ∧ RailNew (seqStarts n s l) r x := by
  induction l generalizing s with
  | nil => exact ⟨⟨.refl, ⟨rfl, rfl⟩, room⟩, new⟩
  | cons j l ih =>
    obtain ⟨ne, out⟩ := not_or.mp (mt List.mem_cons.mpr out)
    have hj := small j (.head _)
    obtain ⟨step, starts⟩ := slotStarts_one (n := n) (m := m + l.length) room hj
    obtain ⟨rest, kept⟩ := ih (fun i hi => small i (.tail _ hi)) starts.room out (new.other step hr hj ne)
    exact ⟨starts.trans rest, kept⟩

/-- The rail whose slot has come starts. -/
theorem seqStarts_target {l : List Nat} {m : Nat} (nodup : l.Nodup) (small : ∀ j ∈ l, j < 4) (room : logRoom s (m + l.length)) (mem : r ∈ l)
    (due : startsAt n s r = true) : SlotStarts s (seqStarts n s l) m ∧
      RailNew (seqStarts n s l) r (s.get Pg.HKRAIL (Reg.HKRAIL.VSET_VOLTAGE.ix r)) := by
  induction l generalizing s with
  | nil => exact absurd mem List.not_mem_nil
  | cons j l ih =>
    obtain ⟨fresh, nodup⟩ := List.nodup_cons.mp nodup
    have hj := small j (.head _)
    obtain ⟨step, starts⟩ := slotStarts_one (n := n) (m := m + l.length) room hj
    by_cases e : r = j
    · subst e
      have shape : (if startsAt n s r then railStart s r Org.SEQ else s) = railStart s r Org.SEQ := if_pos due
      have here := railStarts (origin := Org.SEQ) (room.mono (by rw [List.length_cons]; omega)) hj
      have new : RailNew (railStart s r Org.SEQ) r _ := ⟨here.on, here.qual, here.slew, here.enabled, here.target⟩
      rw [shape] at starts
      obtain ⟨rest, kept⟩ := seqStarts_others (n := n) (fun i hi => small i (.tail _ hi)) starts.room hj fresh new
      unfold seqStarts at rest kept ⊢
      rw [List.foldl_cons]
      unfold startsAt at shape
      rw [shape]
      exact ⟨starts.trans rest, kept⟩
    · have mem' : r ∈ l := List.mem_of_ne_of_mem e mem
      have hr := small r mem
      obtain ⟨rest, new⟩ := ih nodup (fun i hi => small i (.tail _ hi)) starts.room mem' ((startsAt_other step hr hj e).trans due)
      rw [step.vset hj hr] at new
      exact ⟨starts.trans rest, new⟩

theorem apart_slot : ∀ r < 4, apart slotFields Pg.HKRAIL (Reg.HKRAIL.STATUS_ON.ix r) = true ∧
    apart slotFields Pg.HKRAIL (Reg.HKRAIL.VSET_VOLTAGE.ix r) = true := by decide

theorem Slotted.held (h : Slotted s t) : t.held = s.held := (congrArg State.held h.rest :)

theorem Slotted.room (h : Slotted s t) (room : logRoom s n) : logRoom t n :=
  room.same (congrArg State.log h.rest :) (congrArg (fun x : State => x.fault.logPending) h.rest :)

theorem Slotted.seqField (h : Slotted s t) (f : Fld) (off : f.off < 0x400) (ne : f.off ≠ 0x048) : seqField t f = seqField s f := by
  have page : addrOf Pg.HKSEQ f / 0x400 = Pg.HKSEQ := addrOf_div off
  have rd : t.rd (addrOf Pg.HKSEQ f) = s.rd (addrOf Pg.HKSEQ f) := by
    refine h.bits.rd_apart (by rw [page]; decide) ?_
    simp only [slotCount, List.all_cons, List.all_nil, Bool.and_true, Bool.and_eq_true]
    exact ⟨decide_eq_true (by simp only [addrOf]; omega), decide_eq_true (by simp only [addrOf, Pg.ENG, Pg.HKSEQ]; omega)⟩
  rw [Machine.seqField, State.getf, inForce_congr rd h.held]
  rfl

theorem Slotted.startsAt (h : Slotted s t) (hr : r < 4) (member : inSeq s r = true) (off : railOn s r = false)
    (delay : Machine.seqField s (Reg.HKSEQ.RAIL_SEQ_ON_DLY.ix r) = n) : startsAt n t r = true := by
  have on : railOn t r = false := (congrArg (fun x => decide (x = 1)) (h.marks _ (by simp [Fld.ix]; omega) (apart_slot r hr).1 le_rfl)).trans off
  have inside : inSeq t r = inSeq s r := by
    unfold inSeq
    rw [h.seqField _ (by simp [Fld.ix]; omega) (by simp [Fld.ix]; omega)]
  unfold Machine.startsAt
  rw [h.seqField _ (by simp [Fld.ix]; omega) (by simp [Fld.ix]; omega), delay, inside, member, on]
  simp

/-- A sequence with a rail that is not qualified stays in UP. -/
theorem tryOn_waits (hr : r < 4) (member : inSeq s r = true) (qual : railQual s r = false) : tryOn s = s := by
  refine if_neg fun c => ?_
  have all := List.all_eq_true.mp c.2.2.2 r (List.mem_range.mpr hr)
  simp [member, qual] at all

/-- In UP a slot starts the rails whose delay it is. -/
theorem slotTick_up (run : estate s 10 = Es.RUNNING) (up : hkState s = Hq.UP) (start : s.hk.start = false) :
    slotTick s low drained amps = tryOff (tryOn (seqStarts (s.hk.slot + 1) (slotShown (slotCounted (railSlots s low drained amps))) (List.range 4))) := by
  have slot := slotted (low := low) (drained := drained) (amps := amps) s
  have state := slot.state.trans up
  have running : estate (railSlots s low drained amps) 10 = Es.RUNNING :=
    ((slotStep_railSlots s).bits.get_apart (by decide) (by decide) (by decide) (by decide)).trans run
  have count : (slotAdvanced (slotCounted (railSlots s low drained amps))).hk.slot = s.hk.slot + 1 := slot.slot
  rw [slotTick_eq, if_pos running, seqAdvance_run (start_slotCounted s start), seqRun]
  rw [slotShown] at state ⊢
  rw [if_pos state, count]

/-- What a slot in UP leaves of a rail whose delay it is. -/
structure SlotStarted (s t : State) (r : Nat) : Prop where
  new : RailNew t r (s.get Pg.HKRAIL (Reg.HKRAIL.VSET_VOLTAGE.ix r))
  state : hkState t = Hq.UP
  bits : onlyBits s t [(Pg.CHIP, Reg.CHIP.STATUS_HK_UP), (Pg.HKSEQ, Reg.HKSEQ.STATUS_SLOT), (Pg.ENG 10, Reg.ENG.MISSED)]
        [Pg.HKRAIL, Pg.CHANGELOG]
  rest : onlyLogged s { t with engs := s.engs, hk := { t.hk with rails := s.hk.rails, slot := s.hk.slot } }
  room : logRoom t 0

theorem slotStarted_rest {m : Nat} (slot : Slotted s u) (starts : SlotStarts u t m) :
    onlyLogged s { t with engs := s.engs, hk := { t.hk with rails := s.hk.rails, slot := s.hk.slot } } := by
  have rails : railsOf u t = u := starts.step.rest
  have outputs : railsOf u t = { t with regs := u.regs, log := u.log, hk := { t.hk with rails := u.hk.rails } } := by
    unfold railsOf
    rw [← starts.rst.1, ← starts.rst.2]
  rw [outputs] at rails
  have moved : ({ countOf s { t with regs := u.regs, log := u.log, hk := { t.hk with rails := u.hk.rails } } with log := s.log } : State) =
    { countOf s u with log := s.log } := congrArg (fun x : State => { countOf s x with log := s.log }) rails
  have base : ({ countOf s u with log := s.log } : State) = { s with log := s.log } := congrArg (fun x : State => { x with log := s.log }) slot.rest
  exact moved.trans base

theorem slotStarted (run : estate s 10 = Es.RUNNING) (up : hkState s = Hq.UP) (start : s.hk.start = false) (hr : r < 4)
    (member : inSeq s r = true) (off : railOn s r = false) (delay : seqField s (Reg.HKSEQ.RAIL_SEQ_ON_DLY.ix r) = s.hk.slot + 1)
    (room : logRoom s 4) : SlotStarted s (slotTick s low drained amps) r := by
  have slot := slotted (low := low) (drained := drained) (amps := amps) s
  rw [slotTick_up run up start]
  generalize slotShown (slotCounted (railSlots s low drained amps)) = u at slot
  obtain ⟨starts, new⟩ := seqStarts_target (n := s.hk.slot + 1) (m := 0) (l := List.range 4) List.nodup_range
    (fun _ h => List.mem_range.mp h) ((slot.room room).mono (by simp)) (List.mem_range.mpr hr) (slot.startsAt hr member off delay)
  rw [slot.marks _ (by simp [Fld.ix]; omega) (apart_slot r hr).2 (by simp [Fld.ix])] at new
  generalize seqStarts (s.hk.slot + 1) u (List.range 4) = t at starts new
  have inside : inSeq t r = true := by
    have field := (seqField_rails starts.step (Reg.HKSEQ.RAIL_SEQ_IN_SEQ.ix r) (by simp [Fld.ix]; omega)).trans
      (slot.seqField (Reg.HKSEQ.RAIL_SEQ_IN_SEQ.ix r) (by simp [Fld.ix]; omega) (by simp [Fld.ix]; omega))
    unfold inSeq at member ⊢
    rw [field, member]
  have state : hkState t = Hq.UP := ((hkState_rails starts.step).trans slot.state).trans up
  rw [tryOn_waits hr inside new.qual, tryOff_else (by rw [state]; decide)]
  refine ⟨new, state, ?_, slotStarted_rest slot starts, starts.room⟩
  exact (slot.bits.weaken (by simp [slotCount]) (by simp)).trans (starts.step.bits.weaken (by simp) (List.Subset.refl _))

/-! ### Power-good -/

/-- A rail that is good for the first time: its marks. -/
def goodShown (s : State) (r target : Nat) : State :=
  ((s.putb Pg.HKRAIL (Reg.HKRAIL.STATUS_PG.ix r) true).put Pg.HKRAIL (Reg.HKRAIL.VREF_VOLTAGE.ix r) target).putb Pg.HKRAIL
    (Reg.HKRAIL.STATUS_SLEW_DONE.ix r) true

/-- The state of a rail that is good for the first time. -/
def railGood (x : RailState) (us : Nat) : RailState := { x with winUs := us, seen := true, vref := x.target * 100 }

theorem pgGood_first (seen : (rail s r).seen = false) (retarget : (rail s r).retarget = false) : pgGood s r =
    (setRail (goodShown s r (rail s r).target) r (railGood (rail s r) (s.putb Pg.HKRAIL (Reg.HKRAIL.STATUS_PG.ix r) true).rcUs)).event
      Pg.HKRAIL 0 := by
  unfold pgGood
  dsimp only
  rw [if_neg (by simp [seen, retarget])]
  rfl

/-- The registers that a first power-good writes. -/
def goodFields (r : Nat) : List (Nat × Fld) :=
  [(Pg.HKRAIL, Reg.HKRAIL.STATUS_PG.ix r), (Pg.HKRAIL, Reg.HKRAIL.VREF_VOLTAGE.ix r), (Pg.HKRAIL, Reg.HKRAIL.STATUS_SLEW_DONE.ix r),
    (Pg.HKRAIL, ⟨0x008, 0, 0, 0⟩)]

theorem goodShown_marks (s : State) (r target : Nat) : (goodShown s r target).flag Pg.HKRAIL (Reg.HKRAIL.STATUS_PG.ix r) = true ∧
    (goodShown s r target).get Pg.HKRAIL (Reg.HKRAIL.VREF_VOLTAGE.ix r) = target % 2 ^ 16 ∧
    (goodShown s r target).flag Pg.HKRAIL (Reg.HKRAIL.STATUS_SLEW_DONE.ix r) = true := by
  have apartVref (p : Nat) : addrOf Pg.HKRAIL (Reg.HKRAIL.VREF_VOLTAGE.ix r) ≠ addrOf Pg.HKRAIL (Reg.HKRAIL.STATUS_SLEW_DONE.ix p) := by
    simp only [addrOf, Fld.ix]; omega
  unfold goodShown
  refine ⟨?_, ?_, ?_⟩
  · rw [State.flag, State.putb, State.get_put_field (f' := Reg.HKRAIL.STATUS_PG.ix r) (f := Reg.HKRAIL.STATUS_SLEW_DONE.ix r) _ _ rfl
      le_rfl (by simp [Fld.ix]) le_rfl (.inl (by simp [Fld.ix])), State.get_put_ne _ _ (by simp only [addrOf, Fld.ix]; omega), State.putb,
      State.get_put_same _ _ _ _ le_rfl (by simp [Fld.ix])]
    rfl
  · rw [State.putb, State.get_put_ne _ _ (apartVref r), State.get_put_same _ _ _ _ (by simp [Fld.ix]) (by simp [Fld.ix])]
    rfl
  · rw [State.flag, State.putb, State.get_put_same _ _ _ _ le_rfl (by simp [Fld.ix])]
    rfl

theorem slotStep_goodShown (s : State) (r target : Nat) : SlotStep s (goodShown s r target) (goodFields r) :=
  ((SlotStep.refl.ofPut (f := Reg.HKRAIL.STATUS_PG.ix r) (.head _) (by simp [Fld.ix])).ofPut (f := Reg.HKRAIL.VREF_VOLTAGE.ix r)
    (.tail _ (.head _)) (by simp [Fld.ix])).ofPut (f := Reg.HKRAIL.STATUS_SLEW_DONE.ix r) (.tail _ (.tail _ (.head _))) (by simp [Fld.ix])

theorem get_setRail_event (s : State) (x : RailState) (j : Nat) {f : Fld} (h8 : f.off ≠ 0x008) :
    ((setRail s j x).event Pg.HKRAIL 0).get Pg.HKRAIL f = s.get Pg.HKRAIL f :=
  (get_event_ne _ (by simp only [addrOf]; omega)).trans (get_setRail _ _ _ _ _)

/-- What the first power-good of a rail leaves. -/
structure RailIsGood (s t : State) (r : Nat) : Prop where
  seen : (rail t r).seen = true
  vref : (rail t r).vref = (rail s r).target * 100
  pg : t.flag Pg.HKRAIL (Reg.HKRAIL.STATUS_PG.ix r) = true
  shown : t.get Pg.HKRAIL (Reg.HKRAIL.VREF_VOLTAGE.ix r) = (rail s r).target % 2 ^ 16
  slew : t.flag Pg.HKRAIL (Reg.HKRAIL.STATUS_SLEW_DONE.ix r) = true
  event : t.get Pg.HKRAIL ⟨0x008, 0, 0, 0⟩ = 1
  step : SlotStep s t (goodFields r)

theorem railIsGood (seen : (rail s r).seen = false) (retarget : (rail s r).retarget = false) : RailIsGood s (pgGood s r) r := by
  rw [pgGood_first seen retarget]
  obtain ⟨pg, shown, slew⟩ := goodShown_marks s r (rail s r).target
  have step := slotStep_goodShown s r (rail s r).target
  generalize goodShown s r (rail s r).target = u at pg shown slew step
  generalize (s.putb Pg.HKRAIL (Reg.HKRAIL.STATUS_PG.ix r) true).rcUs = us
  have here (y : State) (x : RailState) : rail ((setRail y r x).event Pg.HKRAIL 0) r = x := rail_setRail y r x
  have read (f : Fld) (h8 : f.off ≠ 0x008) := get_setRail_event u (railGood (rail s r) us) r h8
  refine ⟨?_, ?_, ?_, ?_, ?_, get_event_same _ _ _ (by decide), (step.setRail r _).ofPut (f := ⟨0x008, 0, 0, 0⟩) (by simp [goodFields]) (by decide)⟩
  · rw [here]
    rfl
  · rw [here]
    rfl
  · rw [State.flag, read _ (by simp [Fld.ix]; omega)]
    exact pg
  · rw [read _ (by simp [Fld.ix]; omega), shown]
  · rw [State.flag, read _ (by simp [Fld.ix]; omega)]
    exact slew

/-- The failed windows of a rail. -/
def failsField (r : Nat) : Fld := ⟨0x048, 2 * r + 1, 2 * r, 0⟩

/-- The registers that a failed window writes. -/
def failFields (r : Nat) : List (Nat × Fld) :=
  [(Pg.HKRAIL, Reg.HKRAIL.STATUS_PG.ix r), (Pg.HKSEQ, failsField r), (Pg.HKSEQ, ⟨0x008, 3, 3, 0⟩)]

/-- A failed window counted. -/
def windowCounted (s : State) (r : Nat) : State := (s.bump Pg.HKSEQ (failsField r)).event Pg.HKSEQ 3

theorem windowFail_eq (s : State) (r : Nat) : windowFail s r =
    if (rail s r).fails + 1 = 3 then chatterTrip (setRail (windowCounted s r) r { rail (windowCounted s r) r with fails := (rail s r).fails + 1 }) r
    else setRail (windowCounted s r) r { rail (windowCounted s r) r with fails := (rail s r).fails + 1 } := rfl

/-- What a power-good lost before qualification leaves. -/
structure WindowFailed (s t : State) (r : Nat) : Prop where
  fails : (rail t r).fails = (rail s r).fails + 1
  pg : t.flag Pg.HKRAIL (Reg.HKRAIL.STATUS_PG.ix r) = false
  count : t.get Pg.HKSEQ (failsField r) = min 3 (s.get Pg.HKSEQ (failsField r) + 1)
  event : t.get Pg.HKSEQ ⟨0x008, 3, 3, 0⟩ = 1
  step : SlotStep s t (failFields r)

theorem windowCounted_marks (s : State) (hr : r < 4) : (windowCounted s r).get Pg.HKSEQ (failsField r) =
    min 3 (s.get Pg.HKSEQ (failsField r) + 1) ∧ (windowCounted s r).get Pg.HKSEQ ⟨0x008, 3, 3, 0⟩ = 1 ∧
    (windowCounted s r).flag Pg.HKRAIL (Reg.HKRAIL.STATUS_PG.ix r) = s.flag Pg.HKRAIL (Reg.HKRAIL.STATUS_PG.ix r) := by
  have width : (failsField r).width = 2 := by
    simp only [failsField, Fld.width]
    omega
  refine ⟨?_, get_event_same _ _ _ (by decide), congrArg (fun n => decide (n = 1)) ?_⟩
  · rw [windowCounted, get_event_ne _ (by simp [addrOf, failsField]), get_bump_same _ _ _ (by simp [failsField])
      (by simp [failsField]; omega), width]
    rfl
  · exact (State.get_put_ne _ _ (by simp only [addrOf, Fld.ix, Pg.HKRAIL, Pg.HKSEQ]; omega)).trans
      (State.get_put_ne _ _ (by simp only [addrOf, Fld.ix, failsField, Pg.HKRAIL, Pg.HKSEQ]; omega))

theorem slotStep_windowCounted (s : State) (hr : r < 4) : SlotStep s (windowCounted s r) (failFields r) :=
  (SlotStep.refl.ofPut (f := failsField r) (.tail _ (.head _)) (by simp [failsField]; omega)).ofPut (f := ⟨0x008, 3, 3, 0⟩)
    (.tail _ (.tail _ (.head _))) (by decide)

theorem windowFailed (hr : r < 4) (few : (rail s r).fails < 2) (qual : railQual s r = false) (down : goingDown s = false) (above : Bool) :
    WindowFailed s (pgBad s r above) r := by
  have bad : pgBad s r above = windowFail (s.putb Pg.HKRAIL (Reg.HKRAIL.STATUS_PG.ix r) false) r := by
    have still : goingDown (s.putb Pg.HKRAIL (Reg.HKRAIL.STATUS_PG.ix r) false) = goingDown s := by
      unfold goingDown hkState State.putb
      rw [State.get_put_ne _ _ (by simp only [addrOf, Fld.ix, Pg.HKRAIL, Pg.HKSEQ]; omega)]
      rfl
    unfold pgBad
    dsimp only
    rw [qual, still, down]
    rfl
  have off := flag_put_zero s Pg.HKRAIL (Reg.HKRAIL.STATUS_PG.ix r) le_rfl (by simp [Fld.ix])
  have first : SlotStep s (s.putb Pg.HKRAIL (Reg.HKRAIL.STATUS_PG.ix r) false) (failFields r) :=
    SlotStep.refl.ofPut (.head _) (by simp [Fld.ix])
  have same : rail (s.putb Pg.HKRAIL (Reg.HKRAIL.STATUS_PG.ix r) false) r = rail s r := rfl
  have count : (s.putb Pg.HKRAIL (Reg.HKRAIL.STATUS_PG.ix r) false).get Pg.HKSEQ (failsField r) = s.get Pg.HKSEQ (failsField r) :=
    State.get_put_ne _ _ (by simp only [addrOf, Fld.ix, failsField, Pg.HKRAIL, Pg.HKSEQ]; omega)
  rw [bad, windowFail_eq]
  generalize s.putb Pg.HKRAIL (Reg.HKRAIL.STATUS_PG.ix r) false = u at off first same count
  rw [if_neg (by rw [same]; omega), same]
  obtain ⟨counted, event, pg⟩ := windowCounted_marks u hr
  have second := first.trans (slotStep_windowCounted u hr)
  generalize windowCounted u r = v at counted event pg second
  refine ⟨by rw [rail_setRail], ?_, ?_, ?_, second.setRail r _⟩
  · exact pg.trans off
  · exact counted.trans (by rw [count])
  · exact event

/-! ### Qualification -/

/-- A rail qualified, with its time. -/
def qualified1 (s : State) (r : Nat) : State :=
  (setRail s r { rail s r with qualUs := s.rcUs }).putb Pg.HKRAIL (Reg.HKRAIL.STATUS_QUALIFIED.ix r) true

theorem qualifyRail_eq (s : State) (r : Nat) : qualifyRail s r = tryOn (refreshHkUp (qualified1 s r)) := rfl

/-- The registers that a rail's qualification writes outside UP. -/
def qualFields (r : Nat) : List (Nat × Fld) := [(Pg.HKRAIL, Reg.HKRAIL.STATUS_QUALIFIED.ix r), (Pg.CHIP, Reg.CHIP.STATUS_HK_UP)]

/-- What the qualification of a rail leaves outside UP. -/
structure RailIsQualified (s t : State) (r : Nat) : Prop where
  qual : railQual t r = true
  since : (rail t r).qualUs = s.rcUs
  step : SlotStep s t (qualFields r)

theorem railIsQualified (up : hkState s ≠ Hq.UP) : RailIsQualified s (qualifyRail s r) r := by
  have step : SlotStep s (qualified1 s r) (qualFields r) := (SlotStep.refl.setRail r _).ofPut (.head _) (by simp [Fld.ix])
  have qual : railQual (qualified1 s r) r = true := by
    rw [railQual, State.flag, qualified1, State.putb, State.get_put_same _ _ _ _ le_rfl (by simp [Fld.ix])]
    rfl
  have since : (rail (qualified1 s r) r).qualUs = s.rcUs := congrArg RailState.qualUs (rail_setRail s r _)
  have state : hkState (qualified1 s r) = hkState s := by
    rw [hkState, qualified1, State.putb, State.get_put_ne _ _ (by simp only [addrOf, Fld.ix, Pg.HKRAIL, Pg.HKSEQ]; omega), get_setRail]
    rfl
  rw [qualifyRail_eq]
  generalize qualified1 s r = u at step qual since state
  rw [tryOn_else (by rw [hkState_refreshHkUp, state]; exact up)]
  refine ⟨?_, since, step.ofPut (.tail _ (.head _)) (by decide)⟩
  rw [railQual, State.flag, get_refreshHkUp _ (by simp only [addrOf, Fld.ix, Pg.HKRAIL, Pg.CHIP]; omega)]
  exact qual

theorem SlotStep.sameOuter {l : List (Nat × Fld)} (h : SlotStep s t l) : sameOuter s t :=
  ⟨(congrArg State.pending h.rest :), (congrArg State.powered h.rest :), (congrArg State.otpA h.rest :), (congrArg State.otpB h.rest :)⟩

theorem SlotStep.room {l : List (Nat × Fld)} (h : SlotStep s t l) (room : logRoom s n) : logRoom t n :=
  room.same (congrArg State.log h.rest :) (congrArg (fun x : State => x.fault.logPending) h.rest :)

theorem Slotted.sameOuter (h : Slotted s t) : sameOuter s t :=
  ⟨(congrArg State.pending h.rest :), (congrArg State.powered h.rest :), (congrArg State.otpA h.rest :), (congrArg State.otpB h.rest :)⟩

theorem SlotStarted.sameOuter (h : SlotStarted s t r) : sameOuter s t := by
  have outer := onlyLogged.sameOuter h.rest
  exact outer

end Sys2Proof.Machine

open Sys2Proof Sys2Proof.Machine

/-- Settles O43: a slot writes the rails' page and the count, a rail of the slot starts in UP, and power-good and qualification write one
rail. -/
theorem slotsAndPowerGood : Obligations.SlotsAndPowerGood := by
  unfold Obligations.SlotsAndPowerGood
  refine ⟨?_, ?_, ?_, ?_, ?_⟩
  · intro s low drained amps live run on start room
    have slot := slotted (low := low) (drained := drained) (amps := amps) s
    rw [← slotTick_on run on start] at slot
    exact gives_takes _ (act := fun s => slotTick s low drained amps) rfl rfl live slot.sameOuter (slot.room room)
      ⟨slot.slot, slot.shown, slot.miss, slot.bits, slot.rest⟩
  · intro s low drained amps r live run up start hr member off delay room
    have h := slotStarted (low := low) (drained := drained) (amps := amps) run up start hr member off delay room
    exact gives_takes _ (act := fun s => slotTick s low drained amps) rfl rfl live h.sameOuter h.room
      ⟨h.new.on, h.new.qual, h.new.slew, h.new.enabled, h.new.target, h.state, h.bits, h.rest⟩
  · intro s r above live hr on pg seen retarget may room
    have h := railIsGood seen retarget
    exact gives_takes _ (act := fun s => if true then pgGood s r else pgBad s r above) rfl rfl (by simp [live, hr, on, pg, may])
      h.step.sameOuter (h.step.room room) ⟨h.seen, h.vref, h.pg, h.shown, h.slew, h.event, h.step.bits, h.step.rest⟩
  · intro s r above live hr on qual pg few down may room
    have h := windowFailed hr few qual down above
    exact gives_takes _ (act := fun s => if false then pgGood s r else pgBad s r above) rfl rfl (by simp [live, hr, on, pg, may])
      h.step.sameOuter (h.step.room room) ⟨h.fails, h.pg, h.count, h.event, h.step.bits, h.step.rest⟩
  · intro s r live hr done up room
    have h := railIsQualified (r := r) up
    exact gives_takes _ (act := fun s => qualifyRail s r) rfl rfl (by simp [live, hr, done]) h.step.sameOuter (h.step.room room)
      ⟨h.qual, h.since, h.step.bits, h.step.rest⟩

end
section
/-! PROOF. O47: the log entries of a commit that waits go back to those collected, and only forty may be collected (R442, R445): with
more than that the entries of the rails are lost, and the loss is said. -/

namespace Sys2Proof.Machine

/-- A device in REDUCED with HK1 on, persistent entries of every origin, and a waiting log page of forty entries. -/
def logPageWaits : State :=
  let s := State.reset.put Pg.CHIP Reg.CHIP.STATUS_SERVICE Svc.REDUCED
  let s := (s.putb Pg.HKRAIL Reg.HKRAIL.STATUS_ON true).put Pg.HKRAIL Reg.HKRAIL.CTRL_EN 1
  let s := s.put Pg.CHANGELOG Reg.CHANGELOG.CTRL_PERSIST_ORIGIN 0xFF
  { s with
    log := { s.log with waiting := some (List.replicate 40 LogEntry.empty) }
    gran := { s.gran with pend := [⟨0x80, .torn⟩] } }

/-- The messages counted after a command. -/
def messagesAfter : Out → Nat
  | .next t => t.get Pg.FAULT Reg.FAULT.MSG_COUNT
  | _ => 0

theorem messagesAfter_emergency : messagesAfter (exec (.emergencyCommitStart FrameIn.quiet 0) logPageWaits) = 1 := by decide +kernel

theorem logPageWaits_meets : logPageWaits.powered = true ∧ logPageWaits.service = Svc.REDUCED ∧
    logPageWaits.flag Pg.HKSEQ Reg.HKSEQ.STATUS_EMERG_OFF = false ∧
    (List.range 32).all (fun c => (logPageWaits.chan c).endPending.isNone) = true ∧ logRoom logPageWaits 8 ∧
    logPageWaits.get Pg.FAULT Reg.FAULT.MSG_COUNT = 0 := by decide +kernel

end Sys2Proof.Machine

open Sys2Proof Sys2Proof.Machine

/-- Refutes O47: a waiting log page of forty entries leaves no place for those of the rails, and LOG_OVERFLOW is counted. -/
theorem not_theEmergencyCommit : ¬ Obligations.TheEmergencyCommit := by
  unfold Obligations.TheEmergencyCommit
  rintro ⟨h, -⟩
  obtain ⟨live, reduced, emerg, ended, room, none⟩ := logPageWaits_meets
  obtain ⟨t, run, -, -, -, -, -, -, -, -, -, bits, -⟩ := h logPageWaits FrameIn.quiet 0 live reduced emerg ended room
  have counted := messagesAfter_emergency
  have kept : t.get Pg.FAULT Reg.FAULT.MSG_COUNT = 0 :=
    (bits.get_apart (by decide) (by decide) (by decide) (by decide)).trans none
  rw [run, messagesAfter, kept] at counted
  exact absurd counted (by decide)

end
section
/-! PROOF. O58, the write engine: the record that moves, its region and its counts (R461, R462). -/

namespace Sys2Proof.Machine

variable {s t u : State} {k : Nat} {r : SRec}

/-! ### Which record moves -/

/-- A fold that keeps what it has or takes the element before it ends with an element of its list. -/
theorem mem_of_foldl_choice {α : Type} {choose : Option α → α → Option α} (choice : ∀ a x, choose a x = some x ∨ choose a x = a) (l : List α) :
    ∀ (a : Option α) (x : α), l.foldl choose a = some x → a = some x ∨ x ∈ l := by
  induction l with
  | nil => exact fun a x h => .inl h
  | cons y l ih =>
    intro a x h
    rcases ih _ x h with first | mem
    · rcases choice a y with taken | kept
      · rw [taken] at first
        exact .inr (by simpa using .inl (Option.some.inj first).symm)
      · exact .inl (kept ▸ first)
    · exact .inr (.tail _ mem)

/-- The record that moves next is one that its channel takes next. -/
theorem nextRecord_of_nextWrite (next : nextWrite s = some (k, r)) : k < 4 ∧ nextRecord s k = some r := by
  unfold nextWrite at next
  rcases mem_of_foldl_choice (fun a x => by
    cases a with
    | none => exact .inl rfl
    | some y => by_cases before : recBefore s x.2 y.2 = true <;> simp [before]) _ _ _ next with first | mem
  · cases first
  · obtain ⟨j, hj, hx⟩ := List.mem_filterMap.mp mem
    obtain ⟨r', hr, pair⟩ := Option.map_eq_some_iff.mp hx
    obtain ⟨rfl, rfl⟩ := Prod.mk.inj pair
    exact ⟨List.mem_range.mp hj, hr⟩

/-- A record that a channel takes fits its region, and so FILL. -/
theorem room_of_nextRecord (next : nextRecord s k = some r) : (regionWords s k).length + (r.body.length + 2) < 2 ^ 13 := by
  have fits : (regionWords s k).length + r.body.length + 2 ≤ regionSize s k := by
    unfold nextRecord at next
    split at next
    · cases next
    · split at next
      · cases next
      · split at next
        · next fits =>
          cases next
          exact fits
        · cases next
  have size : regionSize s k ≤ 31 * 256 := by
    have := bitsOf_lt (s.get Pg.STREAM Reg.STREAM.BUF_CFG) (8 * k + 4) (8 * k)
    have width : 8 * k + 4 - 8 * k + 1 = 5 := by omega
    rw [width] at this
    unfold regionSize
    omega
  omega

/-! ### The record's move -/

/-- The losses of a source told. -/
def lossTold (s : State) (src : Nat) : State :=
  { s with stream := { s.stream with lost := Table.set 0 s.stream.lost src 0, raised := s.stream.raised.filter (fun x => decide (x ≠ src)) } }

/-- The record out of its queue and in its region, its source's losses told. -/
def recordMoved (s : State) (k : Nat) (r : SRec) : State :=
  lossTold (setSregion (setSqueue s r.src ((squeue s r.src).drop 1)) k
    (sregion s k ++ [(s.get Pg.STREAM (Reg.STREAM.SEQ.ix k), recordWords s r (s.get Pg.STREAM (Reg.STREAM.SEQ.ix k)))])) r.src

/-- SEQ and REC_COUNT of a channel one further. -/
def recordCounted (s : State) (k : Nat) : State :=
  (s.bumpWrap Pg.STREAM (Reg.STREAM.SEQ.ix k)).bump Pg.STREAM (Reg.STREAM.REC_COUNT.ix k)

theorem moveRecord_eq (next : nextWrite s = some (k, r)) (source : r.src < 0x2A) :
    moveRecord s = refreshFill (recordCounted (recordMoved s k r) k) k := by
  have queued : takeRecord s r = setSqueue s r.src ((squeue s r.src).drop 1) := if_neg (by omega)
  rw [moveRecord, next]
  dsimp only
  rw [queued]
  rfl

theorem recordMoved_regs (s : State) (k : Nat) (r : SRec) : (recordMoved s k r).regs = s.regs := rfl

theorem recordMoved_region (s : State) (k : Nat) (r : SRec) :
    sregion (recordMoved s k r) k = sregion s k ++ [(s.get Pg.STREAM (Reg.STREAM.SEQ.ix k), recordWords s r (s.get Pg.STREAM (Reg.STREAM.SEQ.ix k)))] ∧
      ∀ j, j ≠ k → sregion (recordMoved s k r) j = sregion s j :=
  ⟨Table.get_set_same _ _ _ _, fun _ ne => Table.get_set_ne _ _ _ _ ne⟩

theorem recordMoved_source (s : State) (k : Nat) (r : SRec) :
    squeue (recordMoved s k r) r.src = (squeue s r.src).drop 1 ∧ Table.get 0 (recordMoved s k r).stream.lost r.src = 0 :=
  ⟨Table.get_set_same _ _ _ _, Table.get_set_same 0 s.stream.lost r.src 0⟩

theorem recordMoved_words (s : State) (k : Nat) (r : SRec) :
    (regionWords (recordMoved s k r) k).length = (regionWords s k).length + (r.body.length + 2) := by
  rw [regionWords, (recordMoved_region s k r).1, List.flatMap_append, List.length_append]
  simp [recordWords, regionWords]

/-- Where the move of a record shows beside its channel's event: SEQ, REC_COUNT, FILL and STATUS. -/
def recordFields (k : Nat) : List (Nat × Fld) :=
  [(Pg.STREAM, Reg.STREAM.SEQ.ix k), (Pg.STREAM, Reg.STREAM.REC_COUNT.ix k), (Pg.STREAM, Reg.STREAM.FILL.ix k),
    (Pg.STREAM, Reg.STREAM.STATUS), (Pg.STREAM, ⟨0x008, k, k, 0⟩)]

theorem get_recordCounted (s : State) (k : Nat) :
    (recordCounted s k).get Pg.STREAM (Reg.STREAM.SEQ.ix k) = (s.get Pg.STREAM (Reg.STREAM.SEQ.ix k) + 1) % 2 ^ 32 ∧
      (recordCounted s k).get Pg.STREAM (Reg.STREAM.REC_COUNT.ix k) = min (2 ^ 32 - 1) (s.get Pg.STREAM (Reg.STREAM.REC_COUNT.ix k) + 1) := by
  have ne : addrOf Pg.STREAM (Reg.STREAM.SEQ.ix k) ≠ addrOf Pg.STREAM (Reg.STREAM.REC_COUNT.ix k) := by
    simp only [addrOf, Fld.ix]
    omega
  refine ⟨(State.get_put_ne _ _ ne).trans (State.get_put_same _ _ _ _ (by simp [Fld.ix]) (by simp [Fld.ix])), ?_⟩
  refine (get_bump_word _ _ _ _).trans ?_
  rw [State.bumpWrap]
  exact congrArg (fun x => min _ (x + 1)) (State.get_put_ne _ _ ne.symm)

theorem onlyBits_recordCounted (s : State) (k : Nat) : onlyBits s (recordCounted s k) (recordFields k) [] := by
  have seq : covers (recordFields k) [] Pg.STREAM (Reg.STREAM.SEQ.ix k) :=
    covers_of_mem (.head _) rfl (by simp [Fld.ix]) le_rfl le_rfl
  have count : covers (recordFields k) [] Pg.STREAM (Reg.STREAM.REC_COUNT.ix k) :=
    covers_of_mem (.tail _ (.head _)) rfl (by simp [Fld.ix]) le_rfl le_rfl
  exact ((onlyBits.refl s).bumpWrap seq).bump count

/-- The registers of `s`, and a stream block with the queues, regions and losses of `s`. -/
def withRecords (s : State) (x : StreamState) (t : State) : State :=
  { t with regs := s.regs, stream := { x with queues := s.stream.queues, regions := s.stream.regions, lost := s.stream.lost, raised := s.stream.raised } }

/-- Beside registers and the stream's queues, regions and losses, a state is as before. -/
def onlyRecords (s t : State) : Prop := withRecords s t.stream t = s

theorem onlyRecords.setSqueue {src : Nat} {l : List SRec} (h : onlyRecords s t) : onlyRecords s (setSqueue t src l) := h

theorem onlyRecords.setSregion {l : List (Nat × List Nat)} (h : onlyRecords s t) : onlyRecords s (setSregion t k l) := h

theorem onlyRecords.lossTold {src : Nat} (h : onlyRecords s t) : onlyRecords s (lossTold t src) := h

theorem onlyRecords_moved (s : State) (k : Nat) (r : SRec) : onlyRecords s (recordMoved s k r) :=
  have same : onlyRecords s s := rfl
  same.setSqueue.setSregion.lossTold

theorem onlyRecords.onlyRegs (h : onlyRecords s t) (e : onlyRegs t u) : onlyRecords s u := by
  have stream : u.stream = t.stream := onlyRegs.field e State.stream
  unfold onlyRecords at h ⊢
  rw [stream]
  exact (congrArg (withRecords s t.stream) e).trans h

theorem onlyRecords.sameOuter (h : onlyRecords s t) : sameOuter s t :=
  ⟨(congrArg State.pending h :), (congrArg State.powered h :), (congrArg State.otpA h :), (congrArg State.otpB h :)⟩

theorem onlyRecords.room (h : onlyRecords s t) (room : logRoom s 0) : logRoom t 0 :=
  room.same (congrArg State.log h :) (congrArg (fun y : State => y.fault.logPending) h :)

theorem onlyRegs.squeue (h : onlyRegs s t) (src : Nat) : squeue t src = squeue s src := h.field (Machine.squeue · src)

/-- The losses of a source that its next record tells. -/
def lostOf (s : State) (src : Nat) : Nat := Table.get 0 s.stream.lost src

theorem onlyRegs.losses (h : onlyRegs s t) (src : Nat) : lostOf t src = lostOf s src := h.field (lostOf · src)

/-- What the counts and FILL show of a record moved into its region. -/
structure RecordShown (v t : State) (k : Nat) : Prop where
  seq : t.get Pg.STREAM (Reg.STREAM.SEQ.ix k) = (v.get Pg.STREAM (Reg.STREAM.SEQ.ix k) + 1) % 2 ^ 32
  count : t.get Pg.STREAM (Reg.STREAM.REC_COUNT.ix k) = min (2 ^ 32 - 1) (v.get Pg.STREAM (Reg.STREAM.REC_COUNT.ix k) + 1)
  fill : t.get Pg.STREAM (Reg.STREAM.FILL_WORDS.ix k) = (regionWords v k).length
  bits : onlyBits v t (recordFields k) []
  regs : onlyRegs v t

theorem recordCounted_regs (s : State) (k : Nat) : onlyRegs s (recordCounted s k) := onlyRegs.put (.put rfl)

theorem recordShown (v : State) (hk : k < 4) (fits : (regionWords v k).length < 2 ^ 13) :
    RecordShown v (refreshFill (recordCounted v k) k) k := by
  obtain ⟨seq, count⟩ := get_recordCounted v k
  have same : regionWords (recordCounted v k) k = regionWords v k := by
    rw [regionWords, regionWords, (recordCounted_regs v k).sregion k]
  refine ⟨?_, ?_, ?_, ?_, onlyRegs.trans (recordCounted_regs v k) (onlyRegs_refreshFill _ k)⟩
  · rw [get_refreshFill hk (by simp [Fld.ix]; omega) (by simp [Fld.ix]), seq]
  · rw [get_refreshFill hk (by simp [Fld.ix]; omega) (by simp [Fld.ix]), count]
  · rw [get_fill_refreshFill hk (by rw [same]; exact fits), same]
  · exact (onlyBits_recordCounted v k).trans ((onlyBits_fillFields hk).mono (by simp [recordFields, fillFields, highFields]))

/-- A command that is an event, whose effect is known. -/
theorem gives_act {c : Instr} {P : State → Prop} {b : Bool} {act : State → State} (hx : exec c s = takes s b act) (hb : b = true)
    (ha : act s = t) (outer : sameOuter s t) (room : logRoom t 0) (p : P t) : gives c s P := by
  subst ha
  exact gives_takes _ hx rfl hb outer room p

/-- R461, R462: the record's move. -/
theorem gives_recordWrite (full : s.full = true) (next : nextWrite s = some (k, r)) (source : r.src < 0x2A) (room : logRoom s 0) :
    gives .streamRecordWrite s fun t =>
      sregion t k = sregion s k ++ [(s.get Pg.STREAM (Reg.STREAM.SEQ.ix k), recordWords s r (s.get Pg.STREAM (Reg.STREAM.SEQ.ix k)))] ∧
      squeue t r.src = (squeue s r.src).drop 1 ∧
      t.get Pg.STREAM (Reg.STREAM.SEQ.ix k) = (s.get Pg.STREAM (Reg.STREAM.SEQ.ix k) + 1) % 2 ^ 32 ∧
      t.get Pg.STREAM (Reg.STREAM.REC_COUNT.ix k) = min (2 ^ 32 - 1) (s.get Pg.STREAM (Reg.STREAM.REC_COUNT.ix k) + 1) ∧
      t.get Pg.STREAM (Reg.STREAM.FILL_WORDS.ix k) = (regionWords t k).length ∧ Table.get 0 t.stream.lost r.src = 0 ∧
      (∀ j, j ≠ k → sregion t j = sregion s j) ∧ onlyBits s t (recordFields k) [] ∧ onlyRecords s t := by
  obtain ⟨hk, taken⟩ := nextRecord_of_nextWrite next
  obtain ⟨region, others⟩ := recordMoved_region s k r
  obtain ⟨queue, told⟩ := recordMoved_source s k r
  have only := onlyRecords_moved s k r
  have regs := recordMoved_regs s k r
  have words := recordMoved_words s k r
  have act := moveRecord_eq next source
  generalize recordMoved s k r = v at region others queue told only regs words act
  have same : ∀ f, v.get Pg.STREAM f = s.get Pg.STREAM f := fun f => by simp only [State.get, State.rd, regs]
  have shown := recordShown v hk (words.trans_lt (room_of_nextRecord taken))
  generalize refreshFill (recordCounted v k) k = t at act shown
  have final := only.onlyRegs shown.regs
  refine gives_act (act := moveRecord) rfl (by rw [full, next]; rfl) act final.sameOuter (final.room room) ⟨(shown.regs.sregion k).trans region,
    (shown.regs.squeue _).trans queue, ?_, ?_, ?_, (shown.regs.losses _).trans told, fun j ne => (shown.regs.sregion j).trans (others j ne),
    ((onlyBits.refl s).regs regs).trans shown.bits, final⟩
  · rw [shown.seq, same]
  · rw [shown.count, same]
  · rw [shown.fill, regionWords, regionWords, shown.regs.sregion k]

end Sys2Proof.Machine
end
section
/-! PROOF. O58, the writes of CTRL, ROUTE and BUF_CFG (R466, R467). -/

namespace Sys2Proof.Machine

variable {s t u : State} {k : Nat}

/-! ### A write of a whole register -/

/-- Do all the fields of a register lie in its word? -/
def inWord (fs : List FieldDef) : Bool := fs.all (fun f => decide (f.hi < 32))

theorem storesBit_inWord {fs : List FieldDef} (h : inWord fs = true) {j : Nat} (hj : 32 ≤ j) : storesBit fs j = false := by
  refine List.any_eq_false.mpr fun f hf => ?_
  have word : f.hi < 32 := of_decide_eq_true (List.all_eq_true.mp h f hf)
  simp only [decide_eq_true_eq, not_and]
  omega

theorem withBits_storedWord {fs : List FieldDef} (plain : plainFields fs = true) (word : inWord fs = true) (old v : Nat) :
    withBits old 31 0 (storedWord fs old v) = storedWord fs old v := by
  refine Nat.eq_of_testBit_eq fun j => ?_
  rw [testBit_withBits _ _ _ (by decide)]
  by_cases hj : j ≤ 31
  · rw [if_pos ⟨Nat.zero_le j, hj⟩, Nat.sub_zero]
  · rw [if_neg (fun inside => hj inside.2), testBit_storedWord plain, storesBit_inWord word (by omega)]
    rfl

/-- A field that the write stores reads the word written. -/
theorem bitsOf_storedWord {fs : List FieldDef} {hi lo : Nat} (plain : plainFields fs = true) (stored : storesField fs hi lo = true) (le : lo ≤ hi)
    (old v : Nat) : bitsOf (storedWord fs old v) hi lo = bitsOf v hi lo := by
  refine Nat.eq_of_testBit_eq fun j => ?_
  rw [testBit_bitsOf, testBit_bitsOf, testBit_storedWord plain]
  by_cases hj : j < hi - lo + 1
  · obtain ⟨f, hf, inside⟩ := List.any_eq_true.mp stored
    have bit : storesBit fs (lo + j) = true := by
      obtain ⟨acc, below, above⟩ := of_decide_eq_true inside
      exact List.any_eq_true.mpr ⟨f, hf, decide_eq_true ⟨acc, by omega, by omega⟩⟩
    simp [hj, bit]
  · simp [hj]

/-- The bits that a mask of stored bits names read the word written. -/
theorem storedWord_and_mask {fs : List FieldDef} {m v : Nat} (plain : plainFields fs = true) (mask : ∀ j, m.testBit j = true → storesBit fs j = true)
    (hv : v &&& m = v) (old : Nat) : storedWord fs old v &&& m = v := by
  refine (Nat.eq_of_testBit_eq fun j => ?_).trans hv
  rw [Nat.testBit_and, Nat.testBit_and, testBit_storedWord plain]
  by_cases hj : m.testBit j = true
  · simp [mask j hj]
  · simp [hj]

/-! ### ROUTE and BUF_CFG -/

theorem streamWord_stored {off v : Nat} {f : Fld} (reach : hostReach s Pg.STREAM off) (off_cfg : off = 0x044 ∨ off = 0x048) (hv : v < 2 ^ 32)
    (idle : s.get Pg.STREAM Reg.STREAM.CTRL_EN = 0) (hf : f = ⟨off, 31, 0, 0⟩)
    (inRange : streamRange s (wrAt s Org.HOST .stream Pg.STREAM off v) = true)
    (ranges : rangesOk (kindFields .stream off) (storedWord (kindFields .stream off) (s.rd (Pg.STREAM * 0x400 + off)).toNat v) = true)
    (room : logRoom s 1) :
    ∃ t r, writeReg s Org.HOST (Pg.STREAM * 0x400 + off) v = (t, r) ∧
      Stored s t Pg.STREAM f (storedWord (kindFields .stream off) (s.rd (Pg.STREAM * 0x400 + off)).toNat v) ∧ t.held = s.held := by
  have plain : plainFields (kindFields .stream off) = true ∧ inWord (kindFields .stream off) = true ∧ asWritten .stream off = true ∧
      takesBoundary .stream off = false ∧ takesCommonStart .stream off = false ∧ off ≠ 0x040 ∧ off ≠ 0x024 ∧
      readOnly .stream Pg.STREAM off (kindFields .stream off) = false ∧ off ≠ 0x020 ∧ off < 0x080 ∧ 0x01C < off ∧ 0x040 < off ∧
      (kindFields .stream off).all (fun f => decide (f.acc ≠ .wo)) = true ∧ factoryField .stream off = false ∧
      (kindFields .stream off).all (fun f => decide (f.acc ≠ .rwl)) = true := by
    rcases off_cfg with rfl | rfl <;> decide
  obtain ⟨fields, word, as, boundary, start, ctrl, seq, writable, lockOff, low, map, above, noWo, factory, noLock⟩ := plain
  have new : (wrAt s Org.HOST .stream Pg.STREAM off v).new = storedWord (kindFields .stream off) (s.rd (Pg.STREAM * 0x400 + off)).toNat v :=
    settled_asWritten (page := Pg.STREAM) as (s.rd (Pg.STREAM * 0x400 + off)).toNat _
  have outside : (wrAt s Org.HOST .stream Pg.STREAM off v).within Reg.STREAM.RETIRE 4 = false := by
    rw [wrAt_within, decide_eq_false (p := Reg.STREAM.RETIRE.off ≤ off) (by simp only; omega), Bool.false_and, Bool.false_and]
  have rule : rulePage s (wrAt s Org.HOST .stream Pg.STREAM off v) = .take := by
    rw [rulePage, if_neg (by rw [wrAt_off]; omega)]
    simp only [wrAt_kind, ruleStream, outside, inRange, idle, Bool.false_eq_true, if_false, decide_true, Bool.true_or, Bool.and_self, Wr.need, if_true]
  have comes := hostComes reach rfl ⟨by decide, by omega, lockOff⟩ writable hv
  have act : ∀ u, actPageWrite u (wrAt s Org.HOST .stream Pg.STREAM off v) = u := fun u => by
    have notCtrl : (wrAt s Org.HOST .stream Pg.STREAM off v).is Reg.STREAM.CTRL = false := by
      rw [wrAt_is]
      exact decide_eq_false ctrl
    rw [actPageWrite, if_neg (by rw [wrAt_off]; omega)]
    simp only [wrAt_kind, actStream, outside, notCtrl, Bool.false_eq_true, if_false]
  have stored := comes.storeField (f := f) (mayWrite_host s _) (lockRefuses_of_no_rwl noLock factory) (by decide) rule (new ▸ ranges)
    (by rw [hf]) (by rw [hf]; exact ⟨Nat.zero_le _, by simp⟩) (new.trans (by rw [hf]; exact (withBits_storedWord fields word _ _).symm)) noWo as
    (by decide) seq room
  rcases stored with ⟨u, write, set, held⟩ | ⟨write, set, -, -⟩
  · rw [act] at write
    exact ⟨u, _, write, set, held boundary start⟩
  · exact ⟨s, _, write, set, rfl⟩

/-- R467: what a write of ROUTE leaves. -/
theorem gives_route {v : Nat} (reach : hostReach s Pg.STREAM 0x048) (idle : s.get Pg.STREAM Reg.STREAM.CTRL_EN = 0)
    (hv : v &&& 0x7777 = v) (room : logRoom s 1) :
    gives (.streamConfigWrite .host true v) s fun t => t.get Pg.STREAM Reg.STREAM.ROUTE &&& 0x7777 = v ∧
      onlyBits s t [(Pg.STREAM, Reg.STREAM.ROUTE), changeSeq Pg.STREAM] [Pg.CHANGELOG] ∧ onlyLogged s t := by
  have low : v < 2 ^ 32 := by
    have : v ≤ 0x7777 := hv ▸ Nat.and_le_right
    omega
  have mask : ∀ j, Nat.testBit 0x7777 j = true → storesBit (kindFields .stream 0x048) j = true := by
    intro j hj
    have small : j < 15 := by
      by_contra high
      exact absurd (Nat.testBit_lt_two_pow (x := 0x7777) (i := j) (Nat.lt_of_lt_of_le (by decide) (Nat.pow_le_pow_right (by decide) (Nat.le_of_not_lt high)))) (by simp [hj])
    have all : ∀ j < 15, Nat.testBit 0x7777 j = true → storesBit (kindFields .stream 0x048) j = true := by decide
    exact all j small hj
  obtain ⟨t, r, write, set, held⟩ := streamWord_stored (f := Reg.STREAM.ROUTE) reach (.inr rfl) low idle rfl rfl rfl room
  refine gives_hostWrite (b := true) rfl rfl write set.sameOuter set.room ⟨?_, set.bits, set.onlyLogged held⟩
  rw [set.get, Nat.mod_eq_of_lt, storedWord_and_mask (by decide) mask hv]
  rw [← withBits_storedWord (by decide) (by decide)]
  exact withBits_lt _ (by decide) (by decide) (BitVec.isLt _)

/-! ### BUF_CFG -/

/-- The word of four region sizes. -/
def sizesWord (a b c d : Nat) : Nat := a + b * 256 + c * 65536 + d * 16777216

theorem bitsOf_sizesWord {a b c d : Nat} (sum : a + b + c + d ≤ 16) :
    bitsOf (sizesWord a b c d) 4 0 = a ∧ bitsOf (sizesWord a b c d) 12 8 = b ∧ bitsOf (sizesWord a b c d) 20 16 = c ∧
      bitsOf (sizesWord a b c d) 28 24 = d := by
  unfold bitsOf sizesWord
  omega

theorem kindFields_bufCfg : kindFields .stream 0x044 = [⟨4, 0, .rw, .c, 4, some (0, 16)⟩, ⟨12, 8, .rw, .c, 4, some (0, 16)⟩,
    ⟨20, 16, .rw, .c, 4, some (0, 16)⟩, ⟨28, 24, .rw, .c, 4, some (0, 16)⟩] := rfl

/-- A part of a register that was stored whole. -/
theorem Stored.part {page off x hi lo stride : Nat} (h : Stored s t page ⟨off, 31, 0, 0⟩ x) (le : lo ≤ hi) (word : hi < 32) :
    t.get page ⟨off, hi, lo, stride⟩ = bitsOf x hi lo := by
  have whole : (t.rd (page * 0x400 + off)).toNat = x % 2 ^ 32 := by
    have read := h.get
    simp only [State.get, addrOf, bitsOf, Fld.width] at read
    have small := (t.rd (page * 0x400 + off)).isLt
    omega
  simp only [State.get, addrOf, whole]
  refine Nat.eq_of_testBit_eq fun j => ?_
  rw [testBit_bitsOf, testBit_bitsOf, Nat.testBit_mod_two_pow]
  by_cases hj : j < hi - lo + 1
  · rw [decide_eq_true (show lo + j < 32 by omega), Bool.true_and]
  · rw [decide_eq_false hj, Bool.false_and, Bool.false_and]

theorem wrAt_bufCfg (s : State) (v : Nat) : (wrAt s Org.HOST .stream Pg.STREAM 0x044 v).new =
    storedWord (kindFields .stream 0x044) (s.rd (Pg.STREAM * 0x400 + 0x044)).toNat v :=
  settled_asWritten (k := .stream) (off := 0x044) (page := Pg.STREAM) (by decide) (s.rd (Pg.STREAM * 0x400 + 0x044)).toNat _

/-- Sizes that a word holds and that the rules admit. -/
theorem streamRange_sizes {a b c d : Nat} {w : Wr} (here : w.off = 0x044) (size0 : bitsOf w.new 4 0 = a) (size1 : bitsOf w.new 12 8 = b)
    (size2 : bitsOf w.new 20 16 = c) (size3 : bitsOf w.new 28 24 = d) (sum : a + b + c + d ≤ 16)
    (marks : (List.range 4).all (fun k => decide (nth 0 [a, b, c, d] k = 0) ||
      decide (s.get Pg.STREAM (Reg.STREAM.MARKS_HIGH.ix k) ≤ nth 0 [a, b, c, d] k * 16)) = true) : streamRange s w = true := by
  have range : List.range 4 = [0, 1, 2, 3] := by decide
  have notCtrl : w.is Reg.STREAM.CTRL = false := by simp [Wr.is, here]
  have cfg : w.is Reg.STREAM.BUF_CFG = true := by simp [Wr.is, here]
  unfold streamRange
  rw [range] at marks ⊢
  rw [notCtrl, cfg, if_neg Bool.false_ne_true, if_pos rfl]
  simp only [List.map, List.all_cons, List.all_nil, nth, Nat.mul_zero, Nat.mul_one, Nat.zero_add, Nat.reduceMul, Nat.reduceAdd, size0, size1, size2,
    size3, Bool.and_eq_true, decide_eq_true_eq] at marks ⊢
  exact ⟨by simp [sumNat]; omega, marks⟩

theorem rangesOk_sizes {a b c d w : Nat} (size0 : bitsOf w 4 0 = a) (size1 : bitsOf w 12 8 = b) (size2 : bitsOf w 20 16 = c)
    (size3 : bitsOf w 28 24 = d) (sum : a + b + c + d ≤ 16) : rangesOk (kindFields .stream 0x044) w = true := by
  rw [kindFields_bufCfg]
  simp [rangesOk, size0, size1, size2, size3]
  omega

/-- R467: what a write of BUF_CFG leaves. -/
theorem gives_bufCfg {a b c d : Nat} (reach : hostReach s Pg.STREAM 0x044) (idle : s.get Pg.STREAM Reg.STREAM.CTRL_EN = 0)
    (sum : a + b + c + d ≤ 16)
    (marks : (List.range 4).all (fun k => decide (nth 0 [a, b, c, d] k = 0) ||
      decide (s.get Pg.STREAM (Reg.STREAM.MARKS_HIGH.ix k) ≤ nth 0 [a, b, c, d] k * 16)) = true) (room : logRoom s 1) :
    gives (.streamConfigWrite .host false (sizesWord a b c d)) s fun t =>
      t.get Pg.STREAM Reg.STREAM.BUF_CFG_SIZE0 = a ∧ t.get Pg.STREAM Reg.STREAM.BUF_CFG_SIZE1 = b ∧
      t.get Pg.STREAM Reg.STREAM.BUF_CFG_SIZE2 = c ∧ t.get Pg.STREAM Reg.STREAM.BUF_CFG_SIZE3 = d ∧
      onlyBits s t [(Pg.STREAM, Reg.STREAM.BUF_CFG), changeSeq Pg.STREAM] [Pg.CHANGELOG] ∧ onlyLogged s t := by
  have low : sizesWord a b c d < 2 ^ 32 := by unfold sizesWord; omega
  obtain ⟨word0, word1, word2, word3⟩ := bitsOf_sizesWord sum
  have written : ∀ hi lo, storesField (kindFields .stream 0x044) hi lo = true → lo ≤ hi → ∀ x, bitsOf (sizesWord a b c d) hi lo = x →
      bitsOf (wrAt s Org.HOST .stream Pg.STREAM 0x044 (sizesWord a b c d)).new hi lo = x := fun hi lo stored le x part => by
    rw [wrAt_bufCfg, bitsOf_storedWord (by decide) stored le, part]
  have size0 := written 4 0 (by decide) (by decide) a word0
  have size1 := written 12 8 (by decide) (by decide) b word1
  have size2 := written 20 16 (by decide) (by decide) c word2
  have size3 := written 28 24 (by decide) (by decide) d word3
  have ranges := rangesOk_sizes size0 size1 size2 size3 sum
  rw [wrAt_bufCfg] at ranges
  obtain ⟨t, r, write, set, held⟩ := streamWord_stored (f := Reg.STREAM.BUF_CFG) reach (.inl rfl) low idle rfl
    (streamRange_sizes rfl size0 size1 size2 size3 sum marks) ranges room
  rw [wrAt_bufCfg] at size0 size1 size2 size3
  exact gives_hostWrite (b := true) rfl rfl write set.sameOuter set.room ⟨(set.part (by decide) (by decide)).trans size0,
    (set.part (by decide) (by decide)).trans size1, (set.part (by decide) (by decide)).trans size2,
    (set.part (by decide) (by decide)).trans size3, set.bits, set.onlyLogged held⟩

end Sys2Proof.Machine
end
section
/-! PROOF. O58, channels enabled and disabled (R466). -/

namespace Sys2Proof.Machine

variable {s t u v : State} {k : Nat} {l m : List Nat}

/-! ### A channel stopped -/

/-- The queues of the sources of a route's channel emptied, for the sources of a list. -/
def queuesDropped (l : List Nat) (k : Nat) (s : State) : State :=
  l.foldl (fun s src => if routeChan s (routeOf src) = k then setSqueue s src [] else s) s

/-- A channel neither due to start nor fetched from. -/
def startDropped (s : State) (k : Nat) : State :=
  { s with stream := { s.stream with starts := s.stream.starts.filter (fun x => decide (x ≠ k)), fetched := Table.set 0 s.stream.fetched k 0 } }

/-- A register of the stream left open. -/
def wordOpened (s : State) (f : Fld) : State := s.fresh.2.put Pg.STREAM f (Config.openStream s.fresh.1)

/-- What a disabled channel's counters and STREAM_N show. -/
def countsOpened (s : State) (k : Nat) : State :=
  refreshStreamN ((wordOpened (wordOpened (wordOpened s (Reg.STREAM.FILL_WORDS.ix k)) (Reg.STREAM.REC_COUNT.ix k))
    (Reg.STREAM.WORD_COUNT.ix k)).putBit Pg.STREAM Reg.STREAM.STATUS_HIGH k false)

theorem stopStream_eq (s : State) (k : Nat) :
    stopStream s k = countsOpened (startDropped (queuesDropped (List.range 0x2A) k (setSregion s k [])) k) k := rfl

/-- Where a disabled channel shows: STATUS, FILL, REC_COUNT and WORD_COUNT. -/
def stoppedFields (k : Nat) : List (Nat × Fld) :=
  [(Pg.STREAM, Reg.STREAM.FILL.ix k), (Pg.STREAM, Reg.STREAM.REC_COUNT.ix k), (Pg.STREAM, Reg.STREAM.WORD_COUNT.ix k)]

/-- Beside registers, the open values and the stream, `t` is `s`. -/
def onlyStream (s t : State) : Prop := { t with regs := s.regs, free := s.free, stream := s.stream } = s

theorem onlyStream.refl (s : State) : onlyStream s s := rfl

theorem onlyStream.trans (h : onlyStream s t) (k : onlyStream t u) : onlyStream s u :=
  (congrArg (fun y : State => ({ y with regs := s.regs, free := s.free, stream := s.stream } : State)) k).trans h

theorem onlyStream.put {p x : Nat} {f : Fld} (h : onlyStream s t) : onlyStream s (t.put p f x) := h

theorem onlyStream.opened {f : Fld} (h : onlyStream s t) : onlyStream s (wordOpened t f) := h

theorem onlyStream.setSqueue {src : Nat} {q : List SRec} (h : onlyStream s t) : onlyStream s (setSqueue t src q) := h

theorem onlyStream.setSregion {q : List (Nat × List Nat)} (h : onlyStream s t) : onlyStream s (setSregion t k q) := h

theorem onlyStream.startDropped (h : onlyStream s t) : onlyStream s (startDropped t k) := h

theorem squeue_setSqueue (s : State) (src j : Nat) (q : List SRec) : squeue (setSqueue s src q) j = if j = src then q else squeue s j := by
  by_cases h : j = src
  · rw [if_pos h, h]
    exact Table.get_set_same _ _ _ _
  · rw [if_neg h]
    exact Table.get_set_ne _ _ _ _ h

theorem sregion_setSregion (s : State) (i j : Nat) (q : List (Nat × List Nat)) :
    sregion (setSregion s i q) j = if j = i then q else sregion s j := by
  by_cases h : j = i
  · rw [if_pos h, h]
    exact Table.get_set_same _ _ _ _
  · rw [if_neg h]
    exact Table.get_set_ne _ _ _ _ h

/-- What emptying queues leaves. -/
structure QueuesDropped (s t : State) (l : List Nat) (k : Nat) : Prop where
  queues : ∀ src, squeue t src = if src ∈ l ∧ routeChan s (routeOf src) = k then [] else squeue s src
  regions : t.stream.regions = s.stream.regions
  regs : t.regs = s.regs
  only : onlyStream s t

theorem queuesDropped_spec : ∀ (l : List Nat) (s : State), QueuesDropped s (queuesDropped l k s) l k
  | [], s => ⟨fun _ => by simp [queuesDropped], rfl, rfl, rfl⟩
  | a :: l, s => by
    have step : ∃ v, queuesDropped (a :: l) k s = queuesDropped l k v ∧ QueuesDropped s v [a] k := by
      by_cases here : routeChan s (routeOf a) = k
      · refine ⟨setSqueue s a [], congrArg (List.foldl _ · l) (if_pos here), fun src => ?_, rfl, rfl, (onlyStream.refl s).setSqueue⟩
        rw [squeue_setSqueue]
        by_cases same : src = a
        · simp [same, here]
        · simp [same]
      · refine ⟨s, congrArg (List.foldl _ · l) (if_neg here), fun src => ?_, rfl, rfl, rfl⟩
        rw [if_neg]
        rintro ⟨mem, there⟩
        rw [List.mem_singleton.mp mem] at there
        exact here there
    obtain ⟨v, eq, first⟩ := step
    have rest := queuesDropped_spec l v
    have route : ∀ j, routeChan v j = routeChan s j := fun j => by simp only [routeChan, State.get, State.rd, first.regs]
    rw [eq]
    refine ⟨fun src => ?_, rest.regions.trans first.regions, rest.regs.trans first.regs, first.only.trans rest.only⟩
    rw [rest.queues, first.queues, route]
    by_cases there : routeChan s (routeOf src) = k <;> by_cases mem : src ∈ l <;> simp [there, mem]

theorem countsOpened_stream (s : State) (k : Nat) : (countsOpened s k).stream = s.stream := by
  simp only [countsOpened, refreshStreamN, State.putb, State.putBit, State.put_rest, wordOpened, State.fresh]

theorem onlyStream_countsOpened (s : State) (k : Nat) : onlyStream s (countsOpened s k) :=
  (((onlyStream.refl s).opened.opened.opened).put).put

theorem onlyBits_countsOpened (s : State) (hk : k < 4) : onlyBits s (countsOpened s k) ((Pg.STREAM, Reg.STREAM.STATUS) :: stoppedFields k) [] := by
  have word : ∀ {t : State} {f : Fld}, onlyBits s t ((Pg.STREAM, Reg.STREAM.STATUS) :: stoppedFields k) [] →
      covers ((Pg.STREAM, Reg.STREAM.STATUS) :: stoppedFields k) [] Pg.STREAM f →
        onlyBits s (wordOpened t f) ((Pg.STREAM, Reg.STREAM.STATUS) :: stoppedFields k) [] :=
    fun h c => (onlyBits.regs h rfl).put c
  refine onlyBits.putb (.putBit (word (word (word (.refl s) ?_) ?_) ?_) ?_) ?_
  · exact covers_of_mem (g := Reg.STREAM.FILL.ix k) (by simp [stoppedFields]) rfl (by simp [Fld.ix]) (by simp [Fld.ix]) (by simp [Fld.ix])
  · exact covers_of_mem (g := Reg.STREAM.REC_COUNT.ix k) (by simp [stoppedFields]) rfl (by simp [Fld.ix]) le_rfl le_rfl
  · exact covers_of_mem (g := Reg.STREAM.WORD_COUNT.ix k) (by simp [stoppedFields]) rfl (by simp [Fld.ix]) le_rfl le_rfl
  · exact covers_of_mem (.head _) rfl ⟨by simp, by simp only; omega⟩ (by simp) (by simp only; omega)
  · exact covers_of_mem (.head _) rfl (by simp) (by simp) (by simp)

/-- What a disable of the channels of a list leaves. -/
structure Stopped (s t : State) (l : List Nat) : Prop where
  regions : ∀ j, sregion t j = if j ∈ l then [] else sregion s j
  queues : ∀ src < 0x2A, squeue t src = if routeChan s (routeOf src) ∈ l then [] else squeue s src
  bits : onlyBits s t ((Pg.STREAM, Reg.STREAM.STATUS) :: (List.range 4).flatMap stoppedFields) []
  only : onlyStream s t

theorem stopped_stopStream (s : State) (hk : k < 4) : Stopped s (stopStream s k) [k] := by
  have drop := queuesDropped_spec (k := k) (List.range 0x2A) (setSregion s k [])
  rw [stopStream_eq]
  generalize queuesDropped (List.range 0x2A) k (setSregion s k []) = v at drop
  have stream := countsOpened_stream (startDropped v k) k
  have regions : ∀ j, sregion (countsOpened (startDropped v k) k) j = sregion v j := fun j => by
    rw [sregion, stream]
    rfl
  have queues : ∀ src, squeue (countsOpened (startDropped v k) k) src = squeue v src := fun src => by
    rw [squeue, stream]
    rfl
  have bits := onlyBits_countsOpened (startDropped v k) hk
  refine ⟨fun j => ?_, fun src hs => ?_, ?_, ?_⟩
  · rw [regions, sregion, drop.regions]
    refine (sregion_setSregion s k j []).trans ?_
    simp
  · rw [queues, drop.queues]
    have route : routeChan (setSregion s k []) (routeOf src) = routeChan s (routeOf src) := rfl
    have queue : squeue (setSregion s k []) src = squeue s src := rfl
    rw [route, queue]
    simp [hs]
  · refine ((onlyBits.refl s).regs drop.regs).trans (bits.mono (List.cons_subset_cons _ ?_))
    exact fun e he => List.mem_flatMap.mpr ⟨k, List.mem_range.mpr hk, he⟩
  · exact ((onlyStream.refl s).setSregion.trans drop.only).startDropped.trans (onlyStream_countsOpened _ k)

theorem Stopped.route (h : Stopped s t l) (j : Nat) : routeChan t j = routeChan s j := by
  have : t.get Pg.STREAM Reg.STREAM.ROUTE = s.get Pg.STREAM Reg.STREAM.ROUTE := h.bits.get_apart (by decide) (by decide) (by decide) (by decide)
  simp only [routeChan, this]

theorem Stopped.trans (h : Stopped s t l) (e : Stopped t u m) : Stopped s u (l ++ m) := by
  refine ⟨fun j => ?_, fun src hs => ?_, h.bits.trans e.bits, h.only.trans e.only⟩
  · rw [e.regions, h.regions]
    by_cases inM : j ∈ m <;> by_cases inL : j ∈ l <;> simp [inM, inL]
  · rw [e.queues src hs, h.queues src hs, h.route]
    by_cases inM : routeChan s (routeOf src) ∈ m <;> by_cases inL : routeChan s (routeOf src) ∈ l <;> simp [inM, inL]

theorem Stopped.refl (s : State) : Stopped s s [] := ⟨fun _ => by simp, fun _ _ => by simp, .refl s, .refl s⟩

theorem stopped_foldl (P : Nat → Bool) : ∀ (l : List Nat), (∀ k ∈ l, k < 4) → ∀ s : State,
    Stopped s (l.foldl (fun s k => if P k then stopStream s k else s) s) (l.filter P)
  | [], _, s => .refl s
  | k :: l, hl, s => by
    have rest := stopped_foldl P l (fun j hj => hl j (.tail _ hj))
    rw [List.foldl_cons, List.filter_cons]
    by_cases here : P k = true
    · rw [if_pos here, if_pos here]
      exact (stopped_stopStream s (hl k (.head _))).trans (rest _)
    · rw [if_neg here, if_neg here]
      exact rest s

/-! ### Channels that start -/

theorem starts_foldl (P : Nat → Bool) : ∀ (l : List Nat) (s : State),
    l.foldl (fun s k => if P k then ({ s with stream := { s.stream with starts := s.stream.starts ++ [k] } } : State) else s) s =
      { s with stream := { s.stream with starts := s.stream.starts ++ l.filter P } }
  | [], s => by simp
  | k :: l, s => by
    rw [List.foldl_cons, List.filter_cons, starts_foldl P l]
    by_cases here : P k = true
    · simp [here]
    · simp [here]

/-! ### The write of CTRL -/

theorem bitOf_low (x : Nat) (hk : k < 4) : bitOf (bitsOf x 3 0) k = bitOf x k := by
  rw [← testBit_bitOf, ← testBit_bitOf, testBit_bitsOf, decide_eq_true (show k < 3 - 0 + 1 by omega), Bool.true_and, Nat.zero_add]

theorem new_streamCtrl (s : State) (v : Nat) : (wrAt s Org.HOST .stream Pg.STREAM 0x040 v).new =
    withBits (s.rd (Pg.STREAM * 0x400 + 0x040)).toNat 3 0 v := by
  have stored : storedWord [⟨3, 0, .rw, .c, 0, none⟩] (s.rd (Pg.STREAM * 0x400 + 0x040)).toNat v =
      withBits (s.rd (Pg.STREAM * 0x400 + 0x040)).toNat 3 0 v := by
    refine Nat.eq_of_testBit_eq fun i => ?_
    rw [testBit_storedWord (by decide), testBit_withBits _ _ _ (by decide)]
    exact if_congr (by simp [storesBit]) rfl rfl
  exact (settled_asWritten (k := .stream) (off := 0x040) (page := Pg.STREAM) (by decide) (s.rd (Pg.STREAM * 0x400 + 0x040)).toNat _).trans stored

theorem bitOf_newCtrl (s : State) {v : Nat} (hk : k < 4) : bitOf (wrAt s Org.HOST .stream Pg.STREAM 0x040 v).new k = bitOf v k := by
  rw [new_streamCtrl, ← bitOf_low _ hk, bitsOf_withBits _ _ (by decide), ← bitOf_low v hk, bitsOf, Nat.pow_zero, Nat.div_one]

/-- CTRL's effect where no channel is both enabled and disabled: the channels that start, or those that stop. -/
theorem writeReg_streamCtrl {x : Nat} (reach : hostReach s Pg.STREAM 0x040) (hx : x < 16) (new : s.get Pg.STREAM Reg.STREAM.CTRL_EN ≠ x)
    (sizes : (List.range 4).all (fun k => !bitOf x k || decide (0 < bitsOf (s.get Pg.STREAM Reg.STREAM.BUF_CFG) (8 * k + 4) (8 * k))) = true)
    (room : logRoom s 1) :
    ∃ u, writeReg s Org.HOST (Pg.STREAM * 0x400 + 0x040) x = (actStream u (wrAt s Org.HOST .stream Pg.STREAM 0x040 x), .ok) ∧
      Stored s u Pg.STREAM Reg.STREAM.CTRL_EN x ∧ u.held = s.held := by
  have comes := hostComes reach rfl ⟨by decide, by decide, by decide⟩ (by decide) (v := x) (by omega)
  have inRange : streamRange s (wrAt s Org.HOST .stream Pg.STREAM 0x040 x) = true := by
    unfold streamRange
    rw [if_pos (show (wrAt s Org.HOST .stream Pg.STREAM 0x040 x).is Reg.STREAM.CTRL = true from rfl)]
    rw [List.all_eq_true] at sizes ⊢
    intro k hk
    rw [bitOf_newCtrl s (List.mem_range.mp hk)]
    exact sizes k hk
  have rule : rulePage s (wrAt s Org.HOST .stream Pg.STREAM 0x040 x) = .take := by
    have here : ruleStream s (wrAt s Org.HOST .stream Pg.STREAM 0x040 x) = .take := by
      unfold ruleStream
      rw [inRange]
      simp [Wr.need]
    exact here
  have stored := comes.storeField (f := Reg.STREAM.CTRL_EN) (mayWrite_host s _) (lockRefuses_of_no_rwl (by decide) rfl) (by decide) rule
    (by rfl) rfl ⟨by decide, by decide⟩ (new_streamCtrl s x) (by decide) (by decide) (by decide) (by decide) room
  rcases stored with ⟨u, write, set, held⟩ | ⟨-, set, -, -⟩
  · exact ⟨u, write, set, held (by decide) (by decide)⟩
  · exact absurd (set.get.trans (Nat.mod_eq_of_lt (by simpa [Fld.width] using hx))) new

end Sys2Proof.Machine
end
section
/-! PROOF. O58: the stream's records and its configuration by the host port (R461, R462, R466, R467). -/

namespace Sys2Proof.Machine

variable {s t u : State} {k x : Nat}

theorem enabled_bit (s : State) (k : Nat) : bitOf (s.rd (Pg.STREAM * 0x400 + 0x040)).toNat k = s.getBit Pg.STREAM Reg.STREAM.CTRL_EN k := by
  rw [bitOf_bitsOf, State.getBit, State.get, addrOf, Nat.zero_add]

theorem bitOf_ctrlEn (s : State) (hk : k < 4) :
    bitOf (s.rd (Pg.STREAM * 0x400 + 0x040)).toNat k = bitOf (s.get Pg.STREAM Reg.STREAM.CTRL_EN) k :=
  (bitOf_low _ hk).symm

/-- With no channel enabled, the channels that the word names start. -/
theorem actStream_enable {u : State} (none : s.get Pg.STREAM Reg.STREAM.CTRL_EN = 0) (starts : u.stream.starts = []) :
    actStream u (wrAt s Org.HOST .stream Pg.STREAM 0x040 x) =
      { u with stream := { u.stream with starts := (List.range 4).filter (fun k => bitOf x k) } } := by
  have step : actStream u (wrAt s Org.HOST .stream Pg.STREAM 0x040 x) = (List.range 4).foldl (fun s k =>
      if bitOf x k then ({ s with stream := { s.stream with starts := s.stream.starts ++ [k] } } : State) else s) u := by
    unfold actStream
    rw [if_pos (show (wrAt s Org.HOST .stream Pg.STREAM 0x040 x).is Reg.STREAM.CTRL = true from rfl)]
    refine List.foldl_ext _ _ u fun v k hk => ?_
    have low := List.mem_range.mp hk
    rw [bitOf_newCtrl s low, wrAt_old, bitOf_ctrlEn s low, none]
    simp [bitOf]
  rw [step, starts_foldl, starts, List.nil_append]

/-- A word of 0 disables the channels that are enabled. -/
theorem actStream_disable (s u : State) : actStream u (wrAt s Org.HOST .stream Pg.STREAM 0x040 0) =
    (List.range 4).foldl (fun v k => if s.getBit Pg.STREAM Reg.STREAM.CTRL_EN k then stopStream v k else v) u := by
  unfold actStream
  rw [if_pos (show (wrAt s Org.HOST .stream Pg.STREAM 0x040 0).is Reg.STREAM.CTRL = true from rfl)]
  refine List.foldl_ext _ _ u fun v k hk => ?_
  have low := List.mem_range.mp hk
  rw [bitOf_newCtrl s low, wrAt_old, enabled_bit s k]
  simp [bitOf]

/-- Beside registers, the change log and the channels due to start, `t` is `s`. -/
def onlyStarts (s t : State) : Prop := onlyLogged s { t with stream := { t.stream with starts := s.stream.starts } }

theorem onlyStarts_set (only : onlyLogged s u) (l : List Nat) : onlyStarts s { u with stream := { u.stream with starts := l } } := by
  have stream : u.stream = s.stream := (congrArg State.stream only :)
  have back : ({ u with stream := { u.stream with starts := s.stream.starts } } : State) = u := by rw [← stream]
  exact (congrArg (fun y : State => ({ y with regs := s.regs, log := s.log } : State)) back).trans only

/-- R466: what an enable leaves. -/
theorem gives_streamEnable (named : 0 < x ∧ x < 16) (reach : hostReach s Pg.STREAM 0x040) (none : s.get Pg.STREAM Reg.STREAM.CTRL_EN = 0)
    (idle : s.stream.starts = [])
    (sizes : (List.range 4).all (fun k => !bitOf x k || decide (0 < bitsOf (s.get Pg.STREAM Reg.STREAM.BUF_CFG) (8 * k + 4) (8 * k))) = true)
    (room : logRoom s 1) :
    gives (.streamEnableWrite .host x) s fun t => t.get Pg.STREAM Reg.STREAM.CTRL_EN = x ∧
      t.stream.starts = (List.range 4).filter (fun k => bitOf x k) ∧
      onlyBits s t [(Pg.STREAM, Reg.STREAM.CTRL_EN), changeSeq Pg.STREAM] [Pg.CHANGELOG] ∧ onlyStarts s t := by
  obtain ⟨u, write, set, held⟩ := writeReg_streamCtrl reach named.2 (by omega) sizes room
  have only := set.onlyLogged held
  have starts : u.stream.starts = [] := (only.field fun y : State => y.stream.starts).trans idle
  rw [actStream_enable none starts] at write
  refine gives_hostWrite (b := true) rfl rfl write set.sameOuter set.room
    ⟨set.get.trans (Nat.mod_eq_of_lt (by simpa [Fld.width] using named.2)), rfl, set.bits.regs rfl, onlyStarts_set only _⟩

/-- Where a disable shows. -/
def disableFields : List (Nat × Fld) :=
  [(Pg.STREAM, Reg.STREAM.CTRL_EN), (Pg.STREAM, Reg.STREAM.STATUS), changeSeq Pg.STREAM] ++ (List.range 4).flatMap stoppedFields

theorem Stopped.outer {l : List Nat} (h : Stopped s t l) : sameOuter s t ∧ (∀ n, logRoom s n → logRoom t n) :=
  ⟨⟨(congrArg State.pending h.only :), (congrArg State.powered h.only :), (congrArg State.otpA h.only :), (congrArg State.otpB h.only :)⟩,
    fun _ room => room.same (congrArg State.log h.only :) (congrArg (fun y : State => y.fault.logPending) h.only :)⟩

theorem onlyLogged.stream (only : onlyLogged s u) (h : onlyStream u t) : onlyLogged s { t with free := s.free, stream := s.stream } := by
  have free : u.free = s.free := (congrArg State.free only :)
  have stream : u.stream = s.stream := (congrArg State.stream only :)
  have back := h
  rw [onlyStream, free, stream] at back
  exact (congrArg (fun y : State => ({ y with regs := s.regs, log := s.log } : State)) back).trans only

/-- R466: what a disable of every channel leaves. -/
theorem gives_streamDisable (reach : hostReach s Pg.STREAM 0x040) (some : s.get Pg.STREAM Reg.STREAM.CTRL_EN ≠ 0) (room : logRoom s 1) :
    gives (.streamEnableWrite .host 0) s fun t => t.get Pg.STREAM Reg.STREAM.CTRL_EN = 0 ∧
      (∀ k < 4, s.getBit Pg.STREAM Reg.STREAM.CTRL_EN k = true → sregion t k = [] ∧
        (∀ src < 0x2A, routeChan s (routeOf src) = k → squeue t src = [])) ∧
      (∀ k < 4, s.getBit Pg.STREAM Reg.STREAM.CTRL_EN k = false → sregion t k = sregion s k ∧
        (∀ src < 0x2A, routeChan s (routeOf src) = k → squeue t src = squeue s src)) ∧
      onlyBits s t disableFields [Pg.CHANGELOG] ∧ onlyLogged s { t with free := s.free, stream := s.stream } := by
  obtain ⟨u, write, set, held⟩ := writeReg_streamCtrl reach (x := 0) (by decide) some (by simp [bitOf]) room
  have only := set.onlyLogged held
  have stops := stopped_foldl (fun k => s.getBit Pg.STREAM Reg.STREAM.CTRL_EN k) (List.range 4) (fun k hk => List.mem_range.mp hk) u
  rw [← actStream_disable] at stops
  generalize actStream u (wrAt s Org.HOST .stream Pg.STREAM 0x040 0) = t at write stops
  have route : ∀ j, routeChan u j = routeChan s j := fun j => by
    have word : u.get Pg.STREAM Reg.STREAM.ROUTE = s.get Pg.STREAM Reg.STREAM.ROUTE := set.bits.get_apart (by decide) (by decide) (by decide) (by decide)
    simp only [routeChan, word]
  have stream : u.stream = s.stream := only.field State.stream
  have regions : ∀ k, sregion u k = sregion s k := fun k => by simp only [sregion, stream]
  have queues : ∀ src, squeue u src = squeue s src := fun src => by simp only [squeue, stream]
  have outer := stops.outer
  have apartEn : apart ((Pg.STREAM, Reg.STREAM.STATUS) :: (List.range 4).flatMap stoppedFields) Pg.STREAM Reg.STREAM.CTRL_EN = true := by decide
  refine gives_hostWrite (b := true) rfl rfl write (set.sameOuter.trans outer.1) (outer.2 _ set.room) ⟨?_, fun k hk en => ⟨?_, fun src hs here => ?_⟩,
    fun k hk en => ⟨?_, fun src hs here => ?_⟩, ?_, only.stream stops.only⟩
  · exact (stops.bits.get_apart (by decide) (by decide) apartEn (by decide)).trans set.get
  · rw [stops.regions, if_pos (List.mem_filter.mpr ⟨List.mem_range.mpr hk, en⟩)]
  · rw [stops.queues src hs, route, here, if_pos (List.mem_filter.mpr ⟨List.mem_range.mpr hk, en⟩)]
  · rw [stops.regions, if_neg (by simp [en]), regions]
  · rw [stops.queues src hs, route, here, if_neg (by simp [en]), queues]
  · refine (set.bits.weaken ?_ (List.Subset.refl _)).trans (stops.bits.weaken ?_ (List.nil_subset _))
    · simp [disableFields]
    · exact List.cons_subset.mpr ⟨by simp [disableFields], List.subset_append_right _ _⟩

end Sys2Proof.Machine

open Sys2Proof Sys2Proof.Machine

/-- Settles O58. -/
theorem theStream : Obligations.TheStream := by
  unfold Obligations.TheStream
  refine ⟨fun s k r full next source room => ?_, fun s v named reach none idle sizes room => ?_, fun s reach some room => ?_,
    fun s v reach idle hv room => ?_, fun s a b c d reach _ idle sum marks room => ?_⟩
  · exact gives_recordWrite full next source room
  · exact gives_streamEnable named reach none idle sizes room
  · exact gives_streamDisable reach some room
  · exact gives_route reach idle hv room
  · exact gives_bufCfg reach idle sum marks room

end
section
/-! PROOF. O41: a read of FIFO_MSG answers the oldest message as the queue holds it, and nothing bounds what the queue of a state holds
(R339): the word answered is then not the message modulo 2^32. -/

namespace Sys2Proof.Machine

/-- A device in REDUCED whose message queue holds a message wider than a register. -/
def wideMessage : State :=
  let s := State.reset.put Pg.CHIP Reg.CHIP.STATUS_SERVICE Svc.REDUCED
  { s with fault := { s.fault with fifo := [(2 ^ 32, 0, 0)] } }

/-- The data of the reply after a command. -/
def repliedAfter : Out → List Nat
  | .next t => t.reply.data
  | _ => []

theorem repliedAfter_fifoMsg : repliedAfter (exec (.fifoMsgRead .host) wideMessage) = [2 ^ 32] := by decide +kernel

theorem wideMessage_meets : reachable wideMessage (Pg.FAULT * 0x400 + 0x064) = true ∧ wideMessage.fault.fifo = [(2 ^ 32, 0, 0)] ∧
    logRoom wideMessage 0 := by decide +kernel

end Sys2Proof.Machine

open Sys2Proof Sys2Proof.Machine

/-- Refutes O41: the read of FIFO_MSG answers a message of 2^32 whole. -/
theorem not_theCollectorAndTheCrier : ¬ Obligations.TheCollectorAndTheCrier := by
  unfold Obligations.TheCollectorAndTheCrier
  rintro ⟨-, h, -⟩
  obtain ⟨reach, queue, room⟩ := wideMessage_meets
  obtain ⟨t, run, data, -⟩ := h wideMessage (2 ^ 32) 0 0 [] reach queue (by decide) (by decide) room
  have replied := repliedAfter_fifoMsg
  rw [run, repliedAfter, data] at replied
  exact absurd replied (by decide)

end
section
/-! PROOF. O49: PACK_I is a field of 32 bits, and a current saturates to that field (R397); one of 40,000 mA is shown as it is. -/

namespace Sys2Proof.Machine

/-- A device in REDUCED whose ENG.10 runs, with a full charge capacity of 1 mC. -/
def gaugeRuns : State :=
  ((State.reset.put Pg.CHIP Reg.CHIP.STATUS_SERVICE Svc.REDUCED).put (Pg.ENG 10) Reg.ENG.STATE_STATE Es.RUNNING).put Pg.GAUGE Reg.GAUGE.FCC 1

/-- The pack current shown after a command. -/
def packCurrentAfter : Out → Int
  | .next t => t.geti Pg.GAUGE Reg.GAUGE.PACK_I
  | _ => 0

theorem packCurrentAfter_update : packCurrentAfter (exec (.gaugeUpdate 40000 0) gaugeRuns) = 40000 := by decide +kernel

theorem gaugeRuns_meets : gaugeRuns.powered = true ∧ estate gaugeRuns 10 = Es.RUNNING ∧
    gaugeRuns.gauge.discharged + (-(40000 : Int)).toNat < gaugeRuns.get Pg.GAUGE Reg.GAUGE.FCC ∧ logRoom gaugeRuns 0 := by decide +kernel

end Sys2Proof.Machine

open Sys2Proof Sys2Proof.Machine

/-- Refutes O49: a charge of 40,000 mC in a second is shown whole, not at 32,767. -/
theorem not_theGauge : ¬ Obligations.TheGauge := by
  unfold Obligations.TheGauge
  rintro ⟨-, h, -⟩
  obtain ⟨live, runs, full, room⟩ := gaugeRuns_meets
  obtain ⟨t, run, -, -, shown, -⟩ := h gaugeRuns 40000 0 live runs full room
  have current := packCurrentAfter_update
  rw [run, packCurrentAfter, shown] at current
  exact absurd current (by decide)

end
section
/-! PROOF. What a register reads where only the HOST page and the fetch counts of the stream have moved (R456). -/

namespace Sys2Proof.Machine

variable {s t : State} {p a : Nat} {f : Fld}

/-- Beside the HOST page and the stream, `t` is `s`. -/
structure HostOnly (s t : State) : Prop where
  rd : ∀ a, a / 0x400 ≠ Pg.HOST → t.rd a = s.rd a
  rest : { t with regs := s.regs, stream := s.stream } = s

theorem HostOnly.field {α : Type} (h : HostOnly s t) (g : State → α) : g { t with regs := s.regs, stream := s.stream } = g s :=
  congrArg g h.rest

theorem HostOnly.get (h : HostOnly s t) (hp : addrOf p f / 0x400 ≠ Pg.HOST) : t.get p f = s.get p f := State.get_congr p f (h.rd _ hp)

theorem HostOnly.flag (h : HostOnly s t) (hp : addrOf p f / 0x400 ≠ Pg.HOST) : t.flag p f = s.flag p f := by
  rw [State.flag, h.get hp]
  rfl

theorem HostOnly.page (h : HostOnly s t) (hp : p ≠ Pg.HOST) (ho : f.off < 0x400) : t.get p f = s.get p f :=
  h.get (by rw [addrOf, pageAddr_div p ho]; exact hp)

theorem HostOnly.pageFlag (h : HostOnly s t) (hp : p ≠ Pg.HOST) (ho : f.off < 0x400) : t.flag p f = s.flag p f :=
  h.flag (by rw [addrOf, pageAddr_div p ho]; exact hp)

theorem HostOnly.commitOpen (h : HostOnly s t) (id : Nat) : commitOpen t id = commitOpen s id := h.field (Machine.commitOpen · id)

theorem HostOnly.pageFaulty (h : HostOnly s t) : pageFaulty t p = pageFaulty s p := h.field (Machine.pageFaulty · p)

theorem HostOnly.pageBusy (h : HostOnly s t) (hp : p ≠ Pg.HOST) : pageBusy t p = pageBusy s p := by
  have engines : (List.range 12).any (fun e => (t.eng e).restarting) = (List.range 12).any (fun e => (s.eng e).restarting) :=
    h.field fun y => (List.range 12).any (fun e => (y.eng e).restarting)
  have tries : t.backup.tries = s.backup.tries := h.field fun y => y.backup.tries
  have due : t.keeper.issueDue = s.keeper.issueDue := h.field fun y => y.keeper.issueDue
  have op : t.otpOp = s.otpOp := h.field State.otpOp
  unfold Machine.pageBusy
  split
  · rw [h.page hp (by decide), h.pageFlag hp (by decide)]
  · exact engines
  · rw [tries]
  · rw [hkState, hkState, h.get (by decide)]
  · rw [h.commitOpen, due]
  · simp only [h.commitOpen]
  · rw [op]
  · rw [measRunning, measRunning, h.get (by decide)]
  · rw [h.page hp (by decide)]
  · rw [h.pageFlag hp (by decide)]
  · rfl

theorem HostOnly.pageStatus (h : HostOnly s t) (hp : p ≠ Pg.HOST) : pageStatus t p = pageStatus s p := by
  rw [Machine.pageStatus, h.pageBusy hp, h.pageFaulty, h.page hp (by decide)]
  rfl

theorem HostOnly.statusWord (h : HostOnly s t) : statusWord t = statusWord s := by
  have svc : t.svc.selftestFail = s.svc.selftestFail := h.field fun y => y.svc.selftestFail
  have peer : t.fault.peerLow = s.fault.peerLow := h.field fun y => y.fault.peerLow
  have sev : highestSev t none = highestSev s none := h.field (highestSev · none)
  have service : t.service = s.service := h.get (by decide)
  have source : pathSource t = pathSource s := h.get (by decide)
  have out : t.flag Pg.FAULT Reg.FAULT.STATUS_FAULT_N_OUT = s.flag Pg.FAULT Reg.FAULT.STATUS_FAULT_N_OUT := h.flag (by decide)
  have safe : t.flag Pg.FAULT Reg.FAULT.STATUS_CHIP_SAFE = s.flag Pg.FAULT Reg.FAULT.STATUS_CHIP_SAFE := h.flag (by decide)
  have up : t.flag Pg.CHIP Reg.CHIP.STATUS_HK_UP = s.flag Pg.CHIP Reg.CHIP.STATUS_HK_UP := h.flag (by decide)
  have latched : t.get Pg.TWOWIRE Reg.TWOWIRE.STATUS_LATCHED = s.get Pg.TWOWIRE Reg.TWOWIRE.STATUS_LATCHED := h.get (by decide)
  simp only [Machine.statusWord, faultNIn, service, source, out, safe, up, latched, svc, peer, sev]

theorem HostOnly.faultWord (h : HostOnly s t) (off : Nat) (ho : off < 0x400) : faultWord t off = faultWord s off := by
  have here : (Pg.FAULT * 0x400 + off) / 0x400 ≠ Pg.HOST := by rw [pageAddr_div _ ho]; decide
  have sev : ∀ x, highestSev t x = highestSev s x := fun x => h.field (highestSev · x)
  have slots : ∀ x, actSlots t x = actSlots s x := fun x => h.field (actSlots · x)
  have fault : t.fault = s.fault := h.field State.fault
  have record : ∀ x, faultRecordBytes t x = faultRecordBytes s x := fun x => h.field (faultRecordBytes · x)
  have page : actPage t = actPage s := by rw [actPage, actPage, fault, h.get (by decide)]
  simp only [Machine.faultWord, sev, slots, fault, record, page]
  rw [h.rd _ here, h.flag (by decide), h.get (by decide)]

theorem HostOnly.windowBytes (h : HostOnly s t) : windowBytes t = windowBytes s := by
  have logs : t.gran.logs = s.gran.logs := h.field fun y => y.gran.logs
  have slots : ∀ id, t.gwritten id = s.gwritten id := fun id => h.field (State.gwritten · id)
  simp only [Machine.windowBytes, logs, slots]
  rw [h.get (by decide), h.get (by decide)]

theorem HostOnly.granaryWord (h : HostOnly s t) (off : Nat) (ho : off < 0x400) : granaryWord t off = granaryWord s off := by
  have here : (Pg.GRANARY * 0x400 + off) / 0x400 ≠ Pg.HOST := by rw [pageAddr_div _ ho]; decide
  have gran : t.gran = s.gran := h.field State.gran
  have erased : erasedPages t = erasedPages s := h.field erasedPages
  simp only [Machine.granaryWord, gran, erased, h.windowBytes, h.rd _ here]

theorem HostOnly.getf (h : HostOnly s t) (hp : addrOf p f / 0x400 ≠ Pg.HOST) : t.getf p f = s.getf p f := by
  have held : t.held = s.held := h.field State.held
  rw [State.getf, State.inForce, h.rd _ hp, held]
  rfl

theorem chan_notHost (c : Nat) (ho : f.off < 0x400) : addrOf (Pg.CHAN c) f / 0x400 ≠ Pg.HOST := by
  rw [addrOf, pageAddr_div _ ho]
  simp only [Pg.CHAN, Pg.HOST]
  omega

theorem HostOnly.gangField (h : HostOnly s t) (c : Nat) : t.getf (Pg.CHAN c) Reg.CHAN.GANG_SIZE = s.getf (Pg.CHAN c) Reg.CHAN.GANG_SIZE :=
  h.getf (chan_notHost c (by decide))

theorem HostOnly.lead (h : HostOnly s t) (c : Nat) : t.lead c = s.lead c := by simp only [State.lead, h.gangField]

theorem HostOnly.chanStatus (h : HostOnly s t) (c : Nat) : chanStatus t c = chanStatus s c := by
  have word : t.rd (addrOf (Pg.CHAN c) Reg.CHAN.STATUS) = s.rd (addrOf (Pg.CHAN c) Reg.CHAN.STATUS) := h.rd _ (chan_notHost _ (by decide))
  have state : t.cstate c = s.cstate c := by
    rw [State.cstate, State.cstate, h.lead]
    exact h.get (chan_notHost _ (by decide))
  have mode : t.cmode c = s.cmode c := by
    rw [State.cmode, State.cmode, h.lead]
    exact h.get (chan_notHost _ (by decide))
  simp only [Machine.chanStatus, word, State.follower, State.gangSize, h.gangField, state, mode, h.lead]
  rfl

theorem HostOnly.subsec (h : HostOnly s t) : subsec t = subsec s := by
  have rtc : t.rtc = s.rtc := h.field State.rtc
  have resumed : ∀ x, resumedCycles t x = resumedCycles s x := fun x => h.field (resumedCycles · x)
  have crystal : crystalCycles t = crystalCycles s := h.field crystalCycles
  have code : t.get Pg.RTC Reg.RTC.TRIM_CODE = s.get Pg.RTC Reg.RTC.TRIM_CODE := h.get (by decide)
  have halted : rtcHalted t = rtcHalted s := h.flag (by decide)
  simp only [Machine.subsec, secondCycles, nextCode, rtc, resumed, crystal, code, halted]

theorem HostOnly.full (h : HostOnly s t) : t.full = s.full := by
  have service : t.service = s.service := h.get (by decide)
  have powered : t.powered = s.powered := h.field State.powered
  simp only [State.full, State.inService, service, powered]

theorem HostOnly.gpioLevel (h : HostOnly s t) (k : Nat) : gpioLevel t k = gpioLevel s k := by
  have timer : t.timer = s.timer := h.field State.timer
  have cfg : t.get Pg.TIMER Reg.TIMER.GPIO_CFG = s.get Pg.TIMER Reg.TIMER.GPIO_CFG := h.get (by decide)
  simp only [Machine.gpioLevel, gpioOut, timer, cfg, h.full]
  rfl

theorem HostOnly.phaseWord (h : HostOnly s t) (q off : Nat) (ho : off < 0x400) : phaseWord t q off = phaseWord s q off := by
  have here : ∀ q, (Pg.PHASE q * 0x400 + off) / 0x400 ≠ Pg.HOST := fun q => by
    rw [pageAddr_div _ ho]
    simp only [Pg.PHASE, Pg.HOST]
    omega
  simp only [Machine.phaseWord, h.rd _ (here _)]

theorem HostOnly.accRead (h : HostOnly s t) (c off : Nat) (ho : off < 0x400) : accRead t c off = accRead s c off := by
  have here : (Pg.CHAN c * 0x400 + off) / 0x400 ≠ Pg.HOST := by
    rw [pageAddr_div _ ho]
    simp only [Pg.CHAN, Pg.HOST]
    omega
  have acc : t.acc c = s.acc c := h.field (State.acc · c)
  rw [Machine.accRead, Machine.accRead, acc, h.rd _ here]

/-- A register of another page reads as before. -/
theorem HostOnly.liveWord (h : HostOnly s t) (page : a / 0x400 ≠ Pg.HOST) (kind : pageKind (a / 0x400) ≠ some .host) :
    liveWord t a = liveWord s a := by
  have ho : a % 0x400 < 0x400 := Nat.mod_lt _ (by decide)
  have word := h.rd a page
  have frame : t.frame = s.frame := h.field State.frame
  have log : t.log = s.log := h.field State.log
  have timer : t.timer = s.timer := h.field State.timer
  have svc : t.svc = s.svc := h.field State.svc
  have index : t.get Pg.CHANGELOG Reg.CHANGELOG.RD_INDEX = s.get Pg.CHANGELOG Reg.CHANGELOG.RD_INDEX := h.get (by decide)
  have shown : t.get Pg.OTP Reg.OTP.READ_ADDR_ADDR = s.get Pg.OTP Reg.OTP.READ_ADDR_ADDR := h.get (by decide)
  have otp : ∀ x, otpShown t x = otpShown s x := fun x => h.field (otpShown · x)
  have bus : ∀ x y, busERead t x y = busERead s x y := fun x y => h.field (busERead · x y)
  have keeper : isKeeper t = isKeeper s := by
    rw [isKeeper, isKeeper, State.strap, h.get (by decide)]
    rfl
  have entry : ∀ i, entryWord t i = entryWord s i := fun i => by rw [entryWord, entryWord, index, log]
  unfold Machine.liveWord
  dsimp only
  rw [word, h.pageStatus page]
  split
  · rfl
  · rfl
  · next k notRecipe hk =>
    refine if_congr Iff.rfl rfl ?_
    cases k
    case host => exact absurd hk kind
    case transit => rw [frame]
    case twowire => rw [h.statusWord]
    case fault => exact h.faultWord _ ho
    case changelog => rw [log, entry]
    case rtc => rw [h.subsec]
    case timer => simp only [timer, h.gpioLevel]
    case otp => rw [svc, shown, otp]
    case granary => exact h.granaryWord _ ho
    case commons => rw [keeper]
    case ledger => rw [bus]
    case chan => rw [h.chanStatus, h.accRead _ _ ho]
    case phase => exact h.phaseWord _ _ ho
    all_goals rfl

end Sys2Proof.Machine
end
section
/-! PROOF. O55: the answer of a frame, and read frames over registers that a read leaves alone (R452 to R456). -/

namespace Sys2Proof.Machine

variable {s t u : State} {a : Nat} {q : HostReq} {m : WordMarks} {four deferred fixed : Bool} {data : List Nat}

/-! ### The answer -/

theorem service_lt (s : State) : s.service < 8 := bitsOf_lt _ _ _

theorem respWord_lt (s : State) (m : WordMarks) (deferred : Bool) : respWord s m deferred < 2 ^ 16 := by
  have service := service_lt s
  have bit : ∀ b, b2n b ≤ 1 := by decide
  have one := bit m.unavail
  have two := bit m.reject
  have three := bit deferred
  unfold respWord
  split <;> omega

theorem respWord_none (s : State) : respWord s WordMarks.none false = s.service * 256 := by simp [respWord, WordMarks.none, b2n]

/-- The bytes of a response word without marks. -/
theorem bytesBE_service (s : State) : bytesBE 2 (s.service * 256) = [s.service, 0] := by
  have bytes : ∀ v < 8, bytesBE 2 (v * 256) = [v, 0] := by decide
  exact bytes _ (service_lt s)

/-- Where an answer shows. -/
def answerFields : List (Nat × Fld) := [(Pg.HOST, Reg.HOST.LAST_RESP_RESP), (Pg.HOST, Reg.HOST.FRAMES)]

/-- What an answer leaves. -/
structure Answered (s t : State) (r : Nat) (data : List Nat) (four : Bool) : Prop where
  resp : t.get Pg.HOST Reg.HOST.LAST_RESP_RESP = r
  frames : t.get Pg.HOST Reg.HOST.FRAMES = min (2 ^ 32 - 1) (s.get Pg.HOST Reg.HOST.FRAMES + 1)
  reply : t.reply = ⟨some r, data, crc16 (bytesBE 2 r ++ data.flatMap (bytesBE 4)), four, []⟩
  bits : onlyBits s t answerFields []
  only : onlyWire s t

/-- LAST_RESP and FRAMES of an answer. -/
def answerShown (s : State) (r : Nat) : State := (s.put Pg.HOST Reg.HOST.LAST_RESP_RESP r).bump Pg.HOST Reg.HOST.FRAMES

theorem get_answerShown (s : State) {r : Nat} (h : r < 2 ^ 16) : (answerShown s r).get Pg.HOST Reg.HOST.LAST_RESP_RESP = r ∧
    (answerShown s r).get Pg.HOST Reg.HOST.FRAMES = min (2 ^ 32 - 1) (s.get Pg.HOST Reg.HOST.FRAMES + 1) := by
  constructor
  · rw [answerShown, get_bump_ne _ (by decide), State.get_put_same _ _ _ _ (by decide) (by decide)]
    exact Nat.mod_eq_of_lt h
  · rw [answerShown, get_bump_word]
    exact congrArg (fun x => min _ (x + 1)) (State.get_put_ne _ _ (by decide))

theorem onlyBits_answerShown (s : State) (r : Nat) : onlyBits s (answerShown s r) answerFields [] :=
  ((onlyBits.refl s).put (covers_of_mem (.head _) rfl (by decide) le_rfl le_rfl)).bump
    (covers_of_mem (.tail _ (.head _)) rfl (by decide) le_rfl le_rfl)

/-- The reply of a state set. -/
def replied (s : State) (x : Reply) : State := { s with reply := x }

theorem onlyWire_replied {x : Reply} (h : onlyWire s t) : onlyWire s (replied t x) := h

theorem get_replied (s : State) (x : Reply) (p : Nat) (f : Fld) : (replied s x).get p f = s.get p f := rfl

theorem onlyBits.replied {x : Reply} {l : List (Nat × Fld)} {ps : List Nat} (h : onlyBits s t l ps) : onlyBits s (replied t x) l ps := h.regs rfl

theorem onlyWire_refl (s : State) : onlyWire s s := rfl

theorem onlyWire_answerShown (s : State) (r : Nat) : onlyWire s (answerShown s r) := (onlyWire_refl s).put.put

theorem answer_eq (s : State) (m : WordMarks) (deferred four : Bool) (data : List Nat) : answer s m deferred four data =
    replied (answerShown s (respWord s m deferred)) ⟨some (respWord s m deferred), data,
      crc16 (bytesBE 2 (respWord s m deferred) ++ data.flatMap (bytesBE 4)), four, []⟩ := rfl

theorem answered (s : State) (m : WordMarks) (deferred four : Bool) (data : List Nat) :
    Answered s (answer s m deferred four data) (respWord s m deferred) data four := by
  obtain ⟨resp, frames⟩ := get_answerShown s (respWord_lt s m deferred)
  have bits := onlyBits_answerShown s (respWord s m deferred)
  have only := onlyWire_answerShown s (respWord s m deferred)
  rw [answer_eq]
  generalize answerShown s (respWord s m deferred) = v at resp frames bits only
  exact ⟨(get_replied v _ _ _).trans resp, (get_replied v _ _ _).trans frames, rfl, bits.replied, onlyWire_replied only⟩

/-! ### Plain reads -/

theorem hostOnly_reducedOrLater (h : HostOnly s t) : t.reducedOrLater = s.reducedOrLater := by
  have service : t.service = s.service := h.get (by decide)
  have powered : t.powered = s.powered := h.field State.powered
  simp only [State.reducedOrLater, service, powered]

theorem HostOnly.pagePresent (h : HostOnly s t) (p : Nat) : pagePresent t p = pagePresent s p := by
  have member : t.get Pg.CHIP Reg.CHIP.IDENT_MEMBER = s.get Pg.CHIP Reg.CHIP.IDENT_MEMBER := h.get (by decide)
  have banks : t.bankCount = s.bankCount := by rw [State.bankCount, State.bankCount, member]
  have engines : ∀ i, t.engPresent i = s.engPresent i := fun i => by simp only [State.engPresent, banks]
  simp only [Machine.pagePresent, pageOfMember, banks, engines, h.full, hostOnly_reducedOrLater h]

theorem HostOnly.reachable (h : HostOnly s t) (a : Nat) : reachable t a = reachable s a := by
  rw [Machine.reachable, Machine.reachable, h.pagePresent]

theorem HostOnly.plainRead (h : HostOnly s t) (a : Nat) : plainRead t a = plainRead s a := by
  rw [Machine.plainRead, Machine.plainRead, h.reachable]

/-- A register whose read leaves everything alone answers its word. -/
theorem readWord_plain (h : plainRead s a = true) : readWord s Org.HOST a = (liveWord s a, s) := by
  unfold plainRead at h
  simp only [Bool.and_eq_true, Bool.not_eq_true'] at h
  obtain ⟨⟨reach, noRc⟩, kind⟩ := h
  have clear : ∀ u, clearRc u a = u := fun u => clearRc_of_no_rc fun f hf rc => by
    have := List.any_eq_false.mp noRc f hf
    simp [rc] at this
  cases hk : pageKind (a / 0x400) with
  | none => simp [hk] at kind
  | some k =>
    simp only [hk, Bool.and_eq_true, Bool.not_eq_true', List.isEmpty_iff, Bool.and_eq_false_iff, decide_eq_false_iff_not] at kind
    obtain ⟨⟨⟨⟨⟨latch, live⟩, -⟩, fault⟩, stream⟩, timer⟩ := kind
    have notFifo : ¬ (k = .fault ∧ a % 0x400 = 0x064) := by tauto
    have notData : ¬ (k = .stream ∧ 0x100 ≤ a % 0x400 ∧ a % 0x400 < 0x110) := by tauto
    have notCapture : ¬ (k = .timer ∧ 0x100 ≤ a % 0x400 ∧ a % 0x400 < 0x140 ∧ a % 0x400 % 0x10 = 0) := by tauto
    rw [readWord, if_pos reach]
    simp only [readValue, readEffect, hk, live, latch, latchOffs, List.foldl_nil, notFifo, notData, notCapture, if_false, clear, Bool.false_eq_true]

/-- Such a register is none of the HOST page. -/
theorem plainRead_notHost (h : plainRead s a = true) : a / 0x400 ≠ Pg.HOST ∧ pageKind (a / 0x400) ≠ some .host := by
  have other : pageKind (a / 0x400) ≠ some .host := by
    intro hk
    simp [plainRead, hk] at h
  exact ⟨fun page => other (page ▸ rfl), other⟩

/-- The words that a frame over such registers fetches. -/
theorem fetchWords_plain (addr n i : Nat) (l : List Nat) (m : WordMarks) (h : ∀ j, i ≤ j → j < i + n → plainRead s (wordAddr addr j fixed) = true) :
    fetchWords s addr fixed n i l m = (l.reverse ++ (List.range' i n).map (fun j => liveWord s (wordAddr addr j fixed)), m, s) := by
  induction n generalizing i l m with
  | zero => simp [fetchWords]
  | succ n ih =>
    have plain := h i le_rfl (by omega)
    have reach : reachable s (wordAddr addr i fixed) = true := by
      unfold plainRead at plain
      simp only [Bool.and_eq_true] at plain
      exact plain.1.1
    have marks : m.mark i (!reachable s (wordAddr addr i fixed)) false = m := by simp [WordMarks.mark, reach]
    rw [fetchWords, readWord_plain plain, marks, ih (i + 1) _ _ (fun j low high => h j (by omega) (by omega)), List.range'_succ]
    simp

theorem hostOnly_frameStart (s : State) (q : HostReq) : HostOnly s (frameStart s q) :=
  ⟨fun a ha => State.rd_put_ne (s := s) _ (fun e => ha (by rw [e]; decide)), rfl⟩

/-- A read frame over such registers: its words, no marks, and no effect. -/
theorem frameWords_plain (h : ∀ j < q.len % 256 + 1, plainRead s (wordAddr q.addr j fixed) = true) :
    frameWords s q fixed = ((List.range (q.len % 256 + 1)).map (fun j => liveWord s (wordAddr q.addr j fixed)), WordMarks.none, frameStart s q) := by
  have only := hostOnly_frameStart s q
  rw [frameWords, fetchWords_plain _ _ _ _ _ fun j _ high => (only.plainRead _).trans (h j (by omega)), List.range_eq_range', List.reverse_nil,
    List.nil_append]
  refine congrArg (·, WordMarks.none, frameStart s q) (List.map_congr_left fun j hj => ?_)
  have inside := List.mem_range'_1.mp hj
  obtain ⟨page, kind⟩ := plainRead_notHost (h j (by omega))
  exact only.liveWord page kind

/-! ### Read frames -/

/-- What a read frame of plain registers leaves. -/
structure PlainRead (s t : State) (q : HostReq) (words : List Nat) : Prop where
  reply : t.reply = ⟨some (s.service * 256), words, crc16 ([s.service, 0] ++ words.flatMap (bytesBE 4)), q.four, []⟩
  resp : t.get Pg.HOST Reg.HOST.LAST_RESP_RESP = s.service * 256
  frames : t.get Pg.HOST Reg.HOST.FRAMES = min (2 ^ 32 - 1) (s.get Pg.HOST Reg.HOST.FRAMES + 1)
  lanes : t.flag Pg.HOST Reg.HOST.STATUS_LAST_FOUR = q.four
  bits : onlyBits s t [(Pg.HOST, Reg.HOST.LAST_RESP_RESP), (Pg.HOST, Reg.HOST.FRAMES), (Pg.HOST, Reg.HOST.STATUS_LAST_FOUR)] []
  rest : { t with regs := s.regs, reply := s.reply, stream := { t.stream with fetched := s.stream.fetched } } = s

theorem frameStart_lanes (s : State) (q : HostReq) : (frameStart s q).flag Pg.HOST Reg.HOST.STATUS_LAST_FOUR = q.four :=
  State.flag_putb_same (s := s) _ _ _ rfl (by decide)

theorem onlyBits_frameStart (s : State) (q : HostReq) : onlyBits s (frameStart s q) [(Pg.HOST, Reg.HOST.STATUS_LAST_FOUR)] [] :=
  ((onlyBits.refl s).putb (t := s) (b := q.four) (covers_of_mem (.head _) rfl (by decide) le_rfl le_rfl)).regs rfl

/-- The registers, the reply and the fetch counts of another state. -/
def fetchAside (s t : State) : State := { t with regs := s.regs, reply := s.reply, stream := { t.stream with fetched := s.stream.fetched } }

theorem fetchAside_frameStart (s : State) (q : HostReq) : fetchAside s (frameStart s q) = s := rfl

theorem plainRead_answer (s : State) (q : HostReq) (words : List Nat) :
    PlainRead s (answer (frameStart s q) WordMarks.none false q.four words) q words := by
  have lanes := frameStart_lanes s q
  have bits := onlyBits_frameStart s q
  have aside := fetchAside_frameStart s q
  have service : (frameStart s q).service = s.service := (hostOnly_frameStart s q).get (by decide)
  have frames : (frameStart s q).get Pg.HOST Reg.HOST.FRAMES = s.get Pg.HOST Reg.HOST.FRAMES :=
    bits.get_apart (by decide) (by decide) (by decide) (by decide)
  generalize frameStart s q = v at lanes bits aside service frames
  have done := answered v WordMarks.none false q.four words
  rw [respWord_none, service] at done
  have stream : (answer v WordMarks.none false q.four words).stream = v.stream := done.only.field State.stream
  refine ⟨?_, done.resp, by rw [done.frames, frames], ?_, ?_, ?_⟩
  · rw [done.reply, ← service, bytesBE_service]
  · rw [← lanes]
    exact done.bits.flag_apart (by decide) (by decide) (by decide) (by decide)
  · exact (bits.weaken (by simp) (List.Subset.refl _)).trans (done.bits.weaken (by simp [answerFields]) (List.Subset.refl _))
  · have same : fetchAside s (answer v WordMarks.none false q.four words) = fetchAside s v := by
      unfold fetchAside
      rw [stream]
      exact done.only.field fun y : State => ({ y with regs := s.regs, reply := s.reply, stream := { v.stream with fetched := s.stream.fetched } } : State)
    exact same.trans aside

theorem sameOuter_of_fetchAside (h : fetchAside s t = s) : sameOuter s t :=
  ⟨(congrArg State.pending h :), (congrArg State.powered h :), (congrArg State.otpA h :), (congrArg State.otpB h :)⟩

/-- R456: a read frame over plain registers. -/
theorem gives_plainRead {c : Instr} {op : Nat} (hx : exec c s = finish s (hostReads s (ownFrame s q op []) fixed))
    (hop : op = if fixed then 0x22 else 0x21) (powered : s.reducedOrLater = true) (strap : s.strap < 8) (lanes : q.four = true → s.full = true)
    (plain : ∀ j < q.len % 256 + 1, plainRead s (wordAddr q.addr j fixed) = true) (room : logRoom s 0) :
    gives c s fun t => PlainRead s t q ((List.range (q.len % 256 + 1)).map (fun j => liveWord s (wordAddr q.addr j fixed))) := by
  have reads := hostReads_ownFrame hop powered strap lanes
  rw [frameWords_plain plain] at reads
  have done := plainRead_answer s q ((List.range (q.len % 256 + 1)).map (fun j => liveWord s (wordAddr q.addr j fixed)))
  rw [← reads] at done
  exact gives_finish _ hx rfl (sameOuter_of_fetchAside done.rest)
    (room.same (congrArg State.log done.rest :) (congrArg (fun y : State => y.fault.logPending) done.rest :)) done

end Sys2Proof.Machine
end
section
/-! PROOF. O55: write frames, those held over a boundary, broadcasts, and frames that are ignored (R451 to R457). -/

namespace Sys2Proof.Machine

variable {s t u v : State} {q : HostReq} {m : WordMarks} {four deferred fixed : Bool} {x y a : Nat} {c : Instr}

/-! ### The response word -/

/-- The index that a response word shows: that of its first marked word. -/
def firstShown (m : WordMarks) : Nat := match m.first with
  | some i => i % 256
  | none => 0

/-- Each part of the response word reads what it was made of. -/
theorem respWord_parts (s : State) (m : WordMarks) (deferred : Bool) :
    bitOf (respWord s m deferred) 13 = m.unavail ∧ bitOf (respWord s m deferred) 12 = m.reject ∧
      bitOf (respWord s m deferred) 11 = deferred ∧ bitsOf (respWord s m deferred) 10 8 = s.service ∧
      bitsOf (respWord s m deferred) 7 0 = firstShown m := by
  have service := service_lt s
  have first : firstShown m < 256 := by
    unfold firstShown
    split <;> omega
  have word : respWord s m deferred = b2n m.unavail * 2 ^ 13 + b2n m.reject * 2 ^ 12 + b2n deferred * 2 ^ 11 + s.service * 2 ^ 8 + firstShown m := rfl
  have bit : ∀ b, b2n b = if b then 1 else 0 := by decide
  rw [word]
  unfold bitOf bitsOf
  generalize firstShown m = i at first
  generalize s.service = n at service
  cases m.unavail <;> cases m.reject <;> cases deferred <;> simp [bit] <;> omega

/-! ### The words of a frame applied -/

theorem applyWords_one (s : State) (addr x : Nat) (fixed : Bool) : applyWords s addr fixed [x] 0 WordMarks.none =
    (WordMarks.none.mark 0 (decide ((writeReg s Org.HOST (wordAddr addr 0 fixed) x).2 = .unavail)) (writeReg s Org.HOST (wordAddr addr 0 fixed) x).2.refused,
      (writeReg s Org.HOST (wordAddr addr 0 fixed) x).1) := rfl

theorem mark_one (un re : Bool) : (WordMarks.none.mark 0 un re).unavail = un ∧ (WordMarks.none.mark 0 un re).reject = re ∧
    firstShown (WordMarks.none.mark 0 un re) = 0 := by
  cases un <;> cases re <;> decide

theorem applyWords_two (s : State) (addr x y : Nat) (fixed : Bool) : applyWords s addr fixed [x, y] 0 WordMarks.none =
    ((WordMarks.none.mark 0 (decide ((twoWrites s (wordAddr addr 0 fixed) x (wordAddr addr 1 fixed) y).1 = .unavail))
        (twoWrites s (wordAddr addr 0 fixed) x (wordAddr addr 1 fixed) y).1.refused).mark 1
        (decide ((twoWrites s (wordAddr addr 0 fixed) x (wordAddr addr 1 fixed) y).2.1 = .unavail))
        (twoWrites s (wordAddr addr 0 fixed) x (wordAddr addr 1 fixed) y).2.1.refused,
      (twoWrites s (wordAddr addr 0 fixed) x (wordAddr addr 1 fixed) y).2.2) := rfl

theorem mark_two (un re un2 re2 : Bool) : ((WordMarks.none.mark 0 un re).mark 1 un2 re2).unavail = (un || un2) ∧
    ((WordMarks.none.mark 0 un re).mark 1 un2 re2).reject = (re || re2) ∧
    firstShown ((WordMarks.none.mark 0 un re).mark 1 un2 re2) = if un || re then 0 else if un2 || re2 then 1 else 0 := by
  cases un <;> cases re <;> cases un2 <;> cases re2 <;> decide

/-! ### The answer to a write -/

/-- Fields within wider ones. -/
theorem onlyBits.widen {l m : List (Nat × Fld)} {ps : List Nat} (h : onlyBits s t l ps)
    (hl : ∀ e ∈ l, ∃ g ∈ m, addrOf g.1 g.2 = addrOf e.1 e.2 ∧ g.2.lo ≤ e.2.lo ∧ e.2.hi ≤ g.2.hi) : onlyBits s t m ps := by
  intro a k page none
  refine h a k page ?_
  simp only [holdsBit, List.any_eq_false, decide_eq_true_eq] at none ⊢
  rintro e he ⟨here, low, high⟩
  obtain ⟨g, hg, same, lo, hi⟩ := hl e he
  exact none g hg ⟨here.trans same.symm, lo.trans low, high.trans hi⟩

/-- What lies outside a command's reach: the queue, the supply and the OTP's arrays are those of the state it came to. -/
def outerOf (s t : State) : State := { t with pending := s.pending, powered := s.powered, otpA := s.otpA, otpB := s.otpB }

theorem finish_quiet (s : State) (h : t.fault.logPending = []) : finish s t = .next (outerOf s t) := by
  rw [finish, flushLog_quiet h]
  rfl

theorem get_outerOf (s t : State) (p : Nat) (f : Fld) : (outerOf s t).get p f = t.get p f := rfl

theorem onlyBits.outerOf {l : List (Nat × Fld)} {ps : List Nat} (s : State) (h : onlyBits u t l ps) : onlyBits u (outerOf s t) l ps := h.regs rfl

/-- Registers, reply and what lies outside taken from another state. -/
def wireOf (s t : State) : State :=
  { t with regs := s.regs, reply := s.reply, pending := s.pending, powered := s.powered, otpA := s.otpA, otpB := s.otpB }

/-- An answer given in a state that writes left: it answers what became of them. -/
theorem answersWrite_answered (h : Answered v t (respWord v m deferred) [] four) (bits : onlyBits u v [(Pg.HOST, Reg.HOST.DEFERRED)] [])
    (regs : onlyRegs u v) : answersWrite s u (outerOf s t) four m.unavail m.reject deferred (firstShown m) := by
  have resp := (get_outerOf s t Pg.HOST Reg.HOST.LAST_RESP_RESP).trans h.resp
  obtain ⟨unavail, reject, held, service, first⟩ := respWord_parts v m deferred
  have same : v.service = u.service := bits.get_apart (by decide) (by decide) (by decide) (by decide)
  have frames : v.get Pg.HOST Reg.HOST.FRAMES = u.get Pg.HOST Reg.HOST.FRAMES := bits.get_apart (by decide) (by decide) (by decide) (by decide)
  have shown : onlyBits u t [(Pg.HOST, Reg.HOST.LAST_RESP), (Pg.HOST, Reg.HOST.FRAMES), (Pg.HOST, Reg.HOST.DEFERRED)] [] := by
    refine (bits.weaken (by simp) (List.Subset.refl _)).trans (h.bits.widen fun e he => ?_)
    rcases List.mem_cons.mp he with rfl | he
    · exact ⟨_, .head _, rfl, le_rfl, by decide⟩
    · rw [List.mem_singleton.mp he]
      exact ⟨_, .tail _ (.head _), rfl, le_rfl, le_rfl⟩
  unfold answersWrite
  rw [resp]
  refine ⟨unavail, reject, held, service.trans same, first, ?_, ?_, shown.outerOf s, ?_⟩
  · show t.reply = _
    rw [h.reply, List.flatMap_nil, List.append_nil]
  · rw [get_outerOf, h.frames, frames]
  · exact (h.only.field (wireOf s)).trans (regs.field (wireOf s))

/-- A command that answers the writes of a frame, whatever they did outside its reach. -/
theorem gives_answered (hx : exec c s = finish s t) (h : Answered v t (respWord v m deferred) [] four)
    (bits : onlyBits u v [(Pg.HOST, Reg.HOST.DEFERRED)] []) (regs : onlyRegs u v) (quiet : u.fault.logPending = []) {P : State → Prop}
    (p : answersWrite s u (outerOf s t) four m.unavail m.reject deferred (firstShown m) → P (outerOf s t)) : gives c s P := by
  have pending : t.fault.logPending = [] :=
    (h.only.field fun y : State => y.fault.logPending).trans ((regs.field fun y : State => y.fault.logPending).trans quiet)
  exact ⟨outerOf s t, hx.trans (finish_quiet s pending), p (answersWrite_answered h bits regs)⟩

/-! ### Write frames -/

/-- A frame of this device with its CRC that arrives in time is applied. -/
theorem hostWrites_ownFrame {op : Nat} {data : List Nat} (hop : op = if fixed then 0x32 else 0x31) (powered : s.reducedOrLater = true)
    (strap : s.strap < 8) (lanes : q.four = true → s.full = true) (length : data.length = q.len % 256 + 1) :
    hostWrites s (ownFrame s q op data) data false fixed false =
      hostApply (noteLanes s q) ⟨s.frame, q.addr, fixed, data, false, q.four⟩ false := by
  subst hop
  have same : ¬ data.length ≠ (ownFrame s q (if fixed then 0x32 else 0x31) data).len % 256 + 1 := fun h => h length
  have taken := takeFrame_ownFrame (op := if fixed then 0x32 else 0x31) (data := data) powered strap lanes
  rw [hostWrites]
  dsimp only
  rw [if_neg same]
  simp only [Bool.false_eq_true, if_false, Bool.false_or, Bool.false_and]
  rw [taken]
  rfl

/-- R455: what the two writes of a frame leave is answered. -/
theorem gives_twoWrites {op : Nat} (hx : exec c s = finish s (hostWrites s (ownFrame s q op [x, y]) [x, y] false fixed false))
    (hop : op = if fixed then 0x32 else 0x31) (powered : s.reducedOrLater = true) (strap : s.strap < 8) (lanes : q.four = true → s.full = true)
    (length : q.len = 1)
    (quiet : (twoWrites (noteLanes s q) (wordAddr q.addr 0 fixed) x (wordAddr q.addr 1 fixed) y).2.2.fault.logPending = []) :
    gives c s fun t => answersTwo s t q (twoWrites (noteLanes s q) (wordAddr q.addr 0 fixed) x (wordAddr q.addr 1 fixed) y) := by
  have applied := hostWrites_ownFrame (q := q) (data := [x, y]) hop powered strap lanes (by rw [length]; rfl)
  have words := applyWords_two (noteLanes s q) q.addr x y fixed
  rw [hostApply] at applied
  dsimp only at applied
  rw [words] at applied
  generalize twoWrites (noteLanes s q) (wordAddr q.addr 0 fixed) x (wordAddr q.addr 1 fixed) y = w at applied quiet
  simp only [Bool.false_eq_true, if_false] at applied
  obtain ⟨unavail, reject, first⟩ := mark_two (decide (w.1 = .unavail)) w.1.refused (decide (w.2.1 = .unavail)) w.2.1.refused
  have done := answered w.2.2 ((WordMarks.none.mark 0 (decide (w.1 = .unavail)) w.1.refused).mark 1 (decide (w.2.1 = .unavail)) w.2.1.refused)
    false q.four []
  rw [← applied] at done
  refine gives_answered hx done (onlyBits.refl _) rfl quiet fun answers => ?_
  rw [unavail, reject, first] at answers
  exact answers

end Sys2Proof.Machine
end
section
/-! PROOF. O55: frames that are not answered at once, and the statement (R449 to R457). -/

namespace Sys2Proof.Machine

variable {s t u v : State} {q : HostReq} {x : Nat} {c : Instr}

/-! ### A counter with its event -/

/-- A counter of the HOST page advanced, with its event. -/
def countedWith (s : State) (f : Fld) (k : Nat) : State := (s.bump Pg.HOST f).event Pg.HOST k

theorem countedWith_spec (s : State) {off k : Nat} (ho : 0x010 < off ∧ off < 0x400) (hk : k < 32) :
    (countedWith s ⟨off, 31, 0, 0⟩ k).get Pg.HOST ⟨off, 31, 0, 0⟩ = min (2 ^ 32 - 1) (s.get Pg.HOST ⟨off, 31, 0, 0⟩ + 1) ∧
      (countedWith s ⟨off, 31, 0, 0⟩ k).get Pg.HOST ⟨0x008, k, k, 0⟩ = 1 ∧
      onlyBits s (countedWith s ⟨off, 31, 0, 0⟩ k) [(Pg.HOST, ⟨off, 31, 0, 0⟩), (Pg.HOST, ⟨0x008, k, k, 0⟩)] [] ∧
      onlyRegs s (countedWith s ⟨off, 31, 0, 0⟩ k) := by
  refine ⟨?_, get_event_same _ _ _ hk, ?_, onlyRegs.put (.put rfl)⟩
  · rw [countedWith, get_event_ne _ (by simp only [addrOf]; omega), get_bump_word]
  · exact ((onlyBits.refl s).bump (covers_of_mem (.head _) rfl ⟨by simp, by simp⟩ le_rfl le_rfl)).event
      (covers_of_mem (.tail _ (.head _)) rfl ⟨le_rfl, hk⟩ le_rfl le_rfl)

/-- A command that advances a counter with its event. -/
theorem gives_countedWith {off k : Nat} {b : Bool} {act : State → State} (hx : exec c s = takes s b act) (hb : b = true)
    (ha : act s = countedWith s ⟨off, 31, 0, 0⟩ k) (ho : 0x010 < off ∧ off < 0x400) (hk : k < 32) (room : logRoom s 0) :
    gives c s fun t => t.get Pg.HOST ⟨off, 31, 0, 0⟩ = min (2 ^ 32 - 1) (s.get Pg.HOST ⟨off, 31, 0, 0⟩ + 1) ∧
      t.get Pg.HOST ⟨0x008, k, k, 0⟩ = 1 ∧ onlyBits s t [(Pg.HOST, ⟨off, 31, 0, 0⟩), (Pg.HOST, ⟨0x008, k, k, 0⟩)] [] ∧ onlyRegs s t := by
  have spec := countedWith_spec s ho hk
  exact gives_act hx hb ha spec.2.2.2.sameOuter (spec.2.2.2.room room) spec

/-- R453: a frame of this device whose CRC fails. -/
theorem hostReads_crcError (powered : s.reducedOrLater = true) (strap : s.strap < 8) (lanes : q.four = true → s.full = true)
    (mine : q.id = 32 * s.strap) (bad : q.crc ≠ requestCrc q 0x21 []) : hostReads s q false = countedWith s Reg.HOST.CRC_ERR 0 := by
  have reserved : q.id % 32 = 0 := by omega
  have me : q.id % 256 / 32 = s.strap := by omega
  have four : (q.four && !s.full) = false := by
    cases h : q.four
    · rfl
    · simp [lanes h]
  simp [hostReads, takeFrame, reqId, powered, reserved, me, four, bad, countedWith]

/-! ### Frames held over a boundary -/

/-- A frame that comes too late for its boundary waits. -/
def frameHeld (s : State) (h : HeldFrame) : State := { s with hostHeld := s.hostHeld ++ [h] }

theorem hostWrites_late (full : s.full = true) (strap : s.strap < 8) (length : q.len = 0) :
    hostWrites s (ownFrame s q 0x31 [x]) [x] true false false = frameHeld (noteLanes s q) ⟨s.frame, q.addr, false, [x], false, q.four⟩ := by
  have same : ¬ [x].length ≠ (ownFrame s q 0x31 [x]).len % 256 + 1 := fun h => h (by
    show 1 = q.len % 256 + 1
    rw [length])
  have taken := takeFrame_ownFrame (q := q) (op := 0x31) (data := [x]) (reducedOrLater_of_full full) strap (fun _ => full)
  have still : (noteLanes s (ownFrame s q 0x31 [x])).full = true := (full_frameStart s (ownFrame s q 0x31 [x])).trans full
  rw [hostWrites]
  dsimp only
  rw [if_neg same]
  simp only [Bool.false_eq_true, if_false, Bool.false_or, Bool.false_and, taken, Bool.true_and, still, if_true]
  rfl

/-- Beside registers and the frames held, `t` is `s`. -/
def onlyHeldFrames (s t : State) : Prop := { t with regs := s.regs, hostHeld := s.hostHeld } = s

theorem frameHeld_only (h : onlyRegs s t) (f : HeldFrame) : onlyHeldFrames s (frameHeld t f) :=
  onlyRegs.field h fun y : State => ({ y with regs := s.regs, hostHeld := s.hostHeld } : State)

/-- R455: a frame less than 2 µs before its boundary. -/
theorem gives_lateWrite (full : s.full = true) (strap : s.strap < 8) (length : q.len = 0) (room : logRoom s 0) :
    gives (.hostWrite (ownFrame s q 0x31 [x]) [x] true) s fun t =>
      t.hostHeld = s.hostHeld ++ [⟨s.frame, q.addr, false, [x], false, q.four⟩] ∧ t.flag Pg.HOST Reg.HOST.STATUS_LAST_FOUR = q.four ∧
      onlyBits s t [(Pg.HOST, Reg.HOST.STATUS_LAST_FOUR)] [] ∧ onlyHeldFrames s t := by
  have bits : onlyBits s (noteLanes s q) [(Pg.HOST, Reg.HOST.STATUS_LAST_FOUR)] [] :=
    (onlyBits.refl s).putb (covers_of_mem (.head _) rfl (by decide) le_rfl le_rfl)
  have lanes : (noteLanes s q).flag Pg.HOST Reg.HOST.STATUS_LAST_FOUR = q.four :=
    State.flag_putb_same (s := s) _ _ _ rfl (by decide)
  have regs : onlyRegs s (noteLanes s q) := onlyRegs.put rfl
  have held : (noteLanes s q).hostHeld = s.hostHeld := regs.field State.hostHeld
  have late := hostWrites_late (q := q) (x := x) full strap length
  generalize noteLanes s q = v at bits lanes regs held late
  have only := frameHeld_only regs ⟨s.frame, q.addr, false, [x], false, q.four⟩
  refine gives_finish _ (t := hostWrites s (ownFrame s q 0x31 [x]) [x] true false false) rfl rfl ?_ ?_ ?_ <;> rw [late]
  · exact regs.sameOuter
  · exact regs.room room
  · refine ⟨?_, lanes, bits.regs rfl, only⟩
    rw [frameHeld, held]

/-- R455: a held frame of one word, applied after its boundary. -/
theorem gives_deferred {h : HeldFrame} {l : List HeldFrame} (held : s.hostHeld = h :: l) (past : h.frame ≠ s.frame ∨ s.full = false)
    (one : h.data = [x]) (mine : h.bcast = false)
    (quiet : (writeReg { s with hostHeld := l } Org.HOST (wordAddr h.addr 0 h.fixed) x).1.fault.logPending = []) :
    gives .hostWriteDeferredApply s fun t =>
      answersWrite s ((writeReg { s with hostHeld := l } Org.HOST (wordAddr h.addr 0 h.fixed) x).1) t h.four
        (decide ((writeReg { s with hostHeld := l } Org.HOST (wordAddr h.addr 0 h.fixed) x).2 = .unavail))
        (writeReg { s with hostHeld := l } Org.HOST (wordAddr h.addr 0 h.fixed) x).2.refused true 0 ∧
      t.get Pg.HOST Reg.HOST.DEFERRED =
        min (2 ^ 32 - 1) ((writeReg { s with hostHeld := l } Org.HOST (wordAddr h.addr 0 h.fixed) x).1.get Pg.HOST Reg.HOST.DEFERRED + 1) := by
  have due : ¬ (h.frame = s.frame ∧ s.full = true) := by
    rintro ⟨now, full⟩
    rcases past with other | out
    · exact other now
    · rw [out] at full
      cases full
  have applied : hostDeferred s = hostApply { s with hostHeld := l } h true := by
    rw [hostDeferred, held]
    exact if_neg due
  have words := applyWords_one { s with hostHeld := l } h.addr x h.fixed
  rw [hostApply, one] at applied
  rw [words, mine] at applied
  generalize writeReg { s with hostHeld := l } Org.HOST (wordAddr h.addr 0 h.fixed) x = w at applied quiet
  simp only [Bool.false_eq_true, if_false, if_true] at applied
  obtain ⟨unavail, reject, first⟩ := mark_one (decide (w.2 = .unavail)) w.2.refused
  have done := answered (w.1.bump Pg.HOST Reg.HOST.DEFERRED) (WordMarks.none.mark 0 (decide (w.2 = .unavail)) w.2.refused) true h.four []
  have bits : onlyBits w.1 (w.1.bump Pg.HOST Reg.HOST.DEFERRED) [(Pg.HOST, Reg.HOST.DEFERRED)] [] :=
    (onlyBits.refl _).bump (covers_of_mem (.head _) rfl (by decide) le_rfl le_rfl)
  have regs : onlyRegs w.1 (w.1.bump Pg.HOST Reg.HOST.DEFERRED) := onlyRegs.put rfl
  have deferred := get_bump_word w.1 Pg.HOST 0x064 0
  generalize w.1.bump Pg.HOST Reg.HOST.DEFERRED = v at applied done bits regs deferred
  rw [← applied] at done
  have kept : (hostDeferred s).get Pg.HOST Reg.HOST.DEFERRED = v.get Pg.HOST Reg.HOST.DEFERRED :=
    done.bits.get_apart (by decide) (by decide) (by decide) (by decide)
  have run : exec .hostWriteDeferredApply s = finish s (hostDeferred s) := by
    have some : (!s.hostHeld.isEmpty) = true := by rw [held]; rfl
    exact if_pos some
  refine gives_answered run done bits regs quiet fun answers => ⟨?_, ?_⟩
  · rw [unavail, reject, first] at answers
    exact answers
  · exact ((get_outerOf _ _ _ _).trans kept).trans deferred

/-! ### Broadcasts -/

/-- A broadcast's response word and its count. -/
def broadcastShown (s : State) (r : Nat) : State := (s.put Pg.HOST Reg.HOST.LAST_BCAST_RESP r).bump Pg.HOST Reg.HOST.BCASTS

theorem broadcastShown_spec (s : State) {r : Nat} (h : r < 2 ^ 16) : (broadcastShown s r).get Pg.HOST Reg.HOST.LAST_BCAST_RESP = r ∧
    (broadcastShown s r).get Pg.HOST Reg.HOST.BCASTS = min (2 ^ 32 - 1) (s.get Pg.HOST Reg.HOST.BCASTS + 1) ∧
    onlyBits s (broadcastShown s r) [(Pg.HOST, Reg.HOST.LAST_BCAST), (Pg.HOST, Reg.HOST.BCASTS)] [] ∧ onlyRegs s (broadcastShown s r) := by
  refine ⟨?_, ?_, ?_, onlyRegs.put (.put rfl)⟩
  · rw [broadcastShown, get_bump_ne _ (by decide), State.get_put_same _ _ _ _ (by decide) (by decide)]
    exact Nat.mod_eq_of_lt h
  · rw [broadcastShown, get_bump_word]
    exact congrArg (fun x => min _ (x + 1)) (State.get_put_ne _ _ (by decide))
  · have resp : onlyBits s (s.put Pg.HOST Reg.HOST.LAST_BCAST_RESP r) [(Pg.HOST, Reg.HOST.LAST_BCAST), (Pg.HOST, Reg.HOST.BCASTS)] [] :=
      (onlyBits.refl s).put (covers_of_mem (g := Reg.HOST.LAST_BCAST) (.head _) rfl (by decide) (by decide) (by decide))
    exact resp.bump (covers_of_mem (.tail _ (.head _)) rfl (by decide) (by decide) (by decide))

theorem hostWrites_broadcast (powered : s.reducedOrLater = true) (lanes : q.four = true → s.full = true) (all : q.id % 32 = 0) (length : q.len = 0)
    (crc : q.crc = requestCrc q 0x3B [x]) (en : s.flag Pg.HOST Reg.HOST.CFG_BCAST_EN = true)
    (ok : (writeReg s Org.HOST (wordAddr q.addr 0 false) x).2 = .ok) :
    hostWrites s q [x] false false true = broadcastShown (writeReg s Org.HOST (wordAddr q.addr 0 false) x).1
      ((writeReg s Org.HOST (wordAddr q.addr 0 false) x).1.service * 256) := by
  have four : (q.four && !s.full) = false := by
    cases h : q.four
    · rfl
    · simp [lanes h]
  have taken : takeFrame s q 0x3B [x] true = .take := by simp [takeFrame, powered, all, four, crc]
  have words := applyWords_one s q.addr x false
  have marks : WordMarks.none.mark 0 (decide (WRes.ok = .unavail)) WRes.ok.refused = WordMarks.none := by decide
  rw [ok, marks] at words
  have same : ¬ [x].length ≠ q.len % 256 + 1 := fun h => h (by rw [length]; rfl)
  rw [hostWrites]
  dsimp only
  rw [if_neg same]
  simp only [if_true, Bool.true_or, taken, en, Bool.not_true, Bool.and_false, Bool.false_eq_true, if_false, Bool.false_and, hostApply, words, respWord_none]
  rfl

/-- Registers and what lies outside a command's reach taken from another state. -/
def registersOf (s t : State) : State :=
  { t with regs := s.regs, pending := s.pending, powered := s.powered, otpA := s.otpA, otpB := s.otpB }

theorem onlyRegs.beside (h : onlyRegs u v) (s : State) : { outerOf s v with regs := s.regs } = registersOf s u :=
  h.field (registersOf s)

/-- R457: a broadcast write of one word. -/
theorem gives_broadcast (powered : s.reducedOrLater = true) (lanes : q.four = true → s.full = true) (all : q.id % 32 = 0) (length : q.len = 0)
    (crc : q.crc = requestCrc q 0x3B [x]) (en : s.flag Pg.HOST Reg.HOST.CFG_BCAST_EN = true)
    (quiet : (writeReg s Org.HOST (wordAddr q.addr 0 false) x).1.fault.logPending = [])
    (ok : (writeReg s Org.HOST (wordAddr q.addr 0 false) x).2 = .ok) :
    gives (.hostBcastWrite q [x] false) s fun t =>
      t.get Pg.HOST Reg.HOST.LAST_BCAST_RESP = (writeReg s Org.HOST (wordAddr q.addr 0 false) x).1.service * 256 ∧
      t.get Pg.HOST Reg.HOST.BCASTS = min (2 ^ 32 - 1) ((writeReg s Org.HOST (wordAddr q.addr 0 false) x).1.get Pg.HOST Reg.HOST.BCASTS + 1) ∧
      onlyBits (writeReg s Org.HOST (wordAddr q.addr 0 false) x).1 t [(Pg.HOST, Reg.HOST.LAST_BCAST), (Pg.HOST, Reg.HOST.BCASTS)] [] ∧
      { t with regs := s.regs } =
        { (writeReg s Org.HOST (wordAddr q.addr 0 false) x).1 with regs := s.regs, pending := s.pending, powered := s.powered, otpA := s.otpA, otpB := s.otpB } := by
  have applied := hostWrites_broadcast powered lanes all length crc en ok
  generalize (writeReg s Org.HOST (wordAddr q.addr 0 false) x).1 = u at applied quiet
  obtain ⟨resp, count, bits, regs⟩ := broadcastShown_spec u (r := u.service * 256) (by have := service_lt u; omega)
  generalize broadcastShown u (u.service * 256) = v at applied resp count bits regs
  have run : exec (.hostBcastWrite q [x] false) s = finish s (hostWrites s q [x] false false true) := rfl
  rw [applied] at run
  have pending : v.fault.logPending = [] := (regs.field fun y : State => y.fault.logPending).trans quiet
  refine ⟨outerOf s v, run.trans (finish_quiet s pending), (get_outerOf _ _ _ _).trans resp, (get_outerOf _ _ _ _).trans count, bits.outerOf s, ?_⟩
  exact regs.beside s

end Sys2Proof.Machine

open Sys2Proof Sys2Proof.Machine

/-- Settles O55. -/
theorem hostFrames : Obligations.HostFrames := by
  unfold Obligations.HostFrames
  refine ⟨fun s q powered strap lanes plain room => ?_, fun s q powered strap lanes plain room => ?_,
    fun s q powered strap lanes mine bad room => ?_, fun s q v w powered strap lanes length quiet => ?_,
    fun s q v w powered strap lanes length quiet => ?_, fun s q v full strap length room => ?_,
    fun s h l v held past one mine quiet => ?_, fun s q v powered lanes all length crc en quiet ok => ?_,
    fun s mark hdr four powered wrong room => ?_, fun s powered room => ?_⟩
  · obtain ⟨t, run, read⟩ := gives_plainRead (c := .hostRead (ownFrame s q 0x21 [])) (fixed := false) rfl rfl powered strap lanes
      (fun j hj => List.all_eq_true.mp plain j (List.mem_range.mpr hj)) room
    exact ⟨t, run, read.reply, read.resp, read.frames, read.lanes, read.bits, read.rest⟩
  · obtain ⟨t, run, read⟩ := gives_plainRead (c := .hostReadFixed (ownFrame s q 0x22 [])) (fixed := true) rfl rfl powered strap lanes
      (fun _ _ => plain) room
    have data : t.reply.data = List.replicate (q.len % 256 + 1) (liveWord s (wordAddr q.addr 0 true)) := by
      have words := congrArg Reply.data read.reply
      rw [words]
      show List.map (fun _ => liveWord s (wordAddr q.addr 0 true)) _ = _
      rw [List.map_const', List.length_range]
    exact ⟨t, run, data, by rw [read.reply], by rw [read.reply], read.resp, read.frames, read.lanes, read.bits, read.rest⟩
  · have counted := hostReads_crcError powered strap lanes mine bad
    exact gives_countedWith (b := true) (act := fun s => hostReads s q false) rfl rfl counted (by decide) (by decide) room
  · exact gives_twoWrites (fixed := false) rfl rfl powered strap lanes length quiet
  · exact gives_twoWrites (fixed := true) rfl rfl powered strap lanes length quiet
  · exact gives_lateWrite full strap length room
  · exact gives_deferred held past one mine quiet
  · exact gives_broadcast powered lanes all length crc en quiet ok
  · have invalid : (s.reducedOrLater && invalidFrame s mark hdr four) = true := by
      rw [powered, Bool.true_and]
      simp only [invalidFrame, hostOps, Bool.or_eq_true, decide_eq_true_eq, Bool.not_eq_true', Bool.and_eq_true, List.contains_eq_mem, decide_eq_false_iff_not]
      tauto
    exact gives_countedWith (act := badFrame) rfl invalid rfl (by decide) (by decide) room
  · exact gives_countedWith (act := fun s => (s.bump Pg.HOST Reg.HOST.ABORTED).event Pg.HOST 2) rfl powered rfl (by decide) (by decide) room

end
section
/-! PROOF. O54: the Granary's pages and slots: what programming, erasing and writing a slot change (R435 to R439). -/

namespace Sys2Proof.Machine

variable {s t u : State} {id k : Nat}

/-! ### Pages -/

/-- Registers and the kinds of pages taken from another state. -/
def pagesOf (s t : State) : State := { t with regs := s.regs, gran := { t.gran with pages := s.gran.pages } }

/-- Beside registers and the Granary's pages, `t` is `s`. -/
def OnlyPages (s t : State) : Prop := pagesOf s t = s

theorem OnlyPages.refl (s : State) : OnlyPages s s := rfl

theorem OnlyPages.trans (h : OnlyPages s t) (g : OnlyPages t u) : OnlyPages s u := by
  have same : pagesOf s (pagesOf t u) = pagesOf s t := congrArg (pagesOf s) (show pagesOf t u = t from g)
  exact same.trans h

theorem OnlyPages.put {p v : Nat} {f : Fld} (h : OnlyPages s t) : OnlyPages s (t.put p f v) := h

theorem OnlyPages.slots (h : OnlyPages s t) : t.gran.slots = s.gran.slots := (congrArg (fun x : State => x.gran.slots) h :)

theorem OnlyPages.pend (h : OnlyPages s t) : t.gran.pend = s.gran.pend := (congrArg (fun x : State => x.gran.pend) h :)

theorem OnlyPages.logs (h : OnlyPages s t) : t.gran.logs = s.gran.logs := (congrArg (fun x : State => x.gran.logs) h :)

theorem OnlyPages.gslot (h : OnlyPages s t) (id k : Nat) : t.gslot id k = s.gslot id k := by
  rw [State.gslot, State.gslot, h.slots]

theorem gwritten_of_gslot (h : ∀ k < 2, t.gslot id k = s.gslot id k) : t.gwritten id = s.gwritten id := by
  rw [State.gwritten, State.gwritten, h 0 (by decide), h 1 (by decide)]

theorem setPageKinds_spec (s : State) (l : List Nat) (kind : Nat) : OnlyPages s (setPageKinds s l kind) ∧ (setPageKinds s l kind).regs = s.regs := by
  induction l generalizing s with
  | nil => exact ⟨OnlyPages.refl s, rfl⟩
  | cons n l ih =>
    have first : OnlyPages s (setPageKind s n kind) := rfl
    exact ⟨first.trans (ih (setPageKind s n kind)).1, (ih (setPageKind s n kind)).2⟩

theorem setPageKinds_pages (s : State) (l : List Nat) (kind : Nat) : OnlyPages s (setPageKinds s l kind) := (setPageKinds_spec s l kind).1

theorem setPageKinds_bits (s : State) (l : List Nat) (kind : Nat) {fs : List (Nat × Fld)} {ps : List Nat} : onlyBits s (setPageKinds s l kind) fs ps :=
  (onlyBits.refl s).regs (setPageKinds_spec s l kind).2

/-- The register that counts the pages retired. -/
def retiredCount : List (Nat × Fld) := [(Pg.GRANARY, Reg.GRANARY.RETIRED)]

theorem retire_spec (s : State) (l : List Nat) : OnlyPages s (retire s l) ∧ onlyBits s (retire s l) retiredCount [] := by
  unfold retire
  split
  · exact ⟨OnlyPages.refl s, onlyBits.refl s⟩
  · exact ⟨(setPageKinds_pages s l 3).put, (setPageKinds_bits s l 3).addCount (covers_of_mem (.head _) rfl (by decide) le_rfl le_rfl)⟩

theorem programPages_spec (s : State) (n : Nat) : OnlyPages s (programPages s n).1 ∧ onlyBits s (programPages s n).1 retiredCount [] := by
  unfold programPages
  extract_lets +onlyGivenNames order good tried v
  have retired := retire_spec s (tried.filter (pageFails s))
  exact ⟨retired.1.trans (setPageKinds_pages v good 1), retired.2.trans (setPageKinds_bits v good 1)⟩

theorem programHeld_spec (s : State) (l : List Nat) : OnlyPages s (programHeld s l).1 ∧ onlyBits s (programHeld s l).1 retiredCount [] := by
  unfold programHeld
  extract_lets bad x
  have retired := retire_spec s bad
  have spare := programPages_spec (retire s bad) bad.length
  exact ⟨(retired.1.trans spare.1).trans (setPageKinds_pages _ _ 1), (retired.2.trans spare.2).trans (setPageKinds_bits _ _ 1)⟩

/-! ### Slots -/

theorem setSlot_same (s : State) (id k : Nat) (x : Option GSlot) : (setSlot s id k x).gslot id k = x := Table.get_set_same _ _ _ _

theorem setSlot_ne {i j : Nat} (x : Option GSlot) (h : 2 * i + j ≠ 2 * id + k) : (setSlot s id k x).gslot i j = s.gslot i j := Table.get_set_ne _ _ _ _ h

/-- Registers and the Granary's slots, pages and erase queue taken from another state. -/
def slotsOf (s t : State) : State :=
  { t with regs := s.regs, gran := { t.gran with slots := s.gran.slots, pages := s.gran.pages, erase := s.gran.erase } }

/-- Beside registers and the Granary's slots, pages and erase queue, `t` is `s`. -/
def OnlySlots (s t : State) : Prop := slotsOf s t = s

theorem OnlyPages.onlySlots (h : OnlyPages s t) : OnlySlots s t := (congrArg (slotsOf s) h :)

theorem OnlySlots.trans (h : OnlySlots s t) (g : OnlySlots t u) : OnlySlots s u := by
  have same : slotsOf s (slotsOf t u) = slotsOf s t := congrArg (slotsOf s) (show slotsOf t u = t from g)
  exact same.trans h

theorem OnlySlots.pend (h : OnlySlots s t) : t.gran.pend = s.gran.pend := (congrArg (fun x : State => x.gran.pend) h :)

theorem OnlySlots.busy (h : OnlySlots s t) : t.gran.busy = s.gran.busy := (congrArg (fun x : State => x.gran.busy) h :)

/-- Pages put at the end of the erase queue. -/
def eraseAppended (s : State) (l : List Nat) : State := { s with gran := { s.gran with erase := s.gran.erase ++ l } }

theorem queueErase_eq (s : State) (l : List Nat) : queueErase s l = eraseAppended (setPageKinds s l 2) l := rfl

theorem eraseAppended_only (s : State) (l : List Nat) : OnlySlots s (eraseAppended s l) := rfl

theorem queueErase_only (s : State) (l : List Nat) : OnlySlots s (queueErase s l) :=
  (setPageKinds_pages s l 2).onlySlots.trans (eraseAppended_only _ l)

theorem queueErase_regs (s : State) (l : List Nat) : (queueErase s l).regs = s.regs := (setPageKinds_spec s l 2).2

theorem gslot_eraseAppended (s : State) (l : List Nat) (id k : Nat) : (eraseAppended s l).gslot id k = s.gslot id k := rfl

theorem gslot_queueErase (s : State) (l : List Nat) (id k : Nat) : (queueErase s l).gslot id k = s.gslot id k :=
  (gslot_eraseAppended _ l id k).trans ((setPageKinds_pages s l 2).gslot id k)

theorem setSlot_only (s : State) (id k : Nat) (x : Option GSlot) : OnlySlots s (setSlot s id k x) := rfl

/-- A slot written with what was in it queued for erase. -/
theorem slotWritten_spec {x : Option GSlot} {l : List Nat} (hk : k < 2) (pages : OnlyPages s u) :
    (queueErase (setSlot u id k x) l).gslot id k = x ∧ (∀ i j, j < 2 → i ≠ id ∨ j ≠ k → (queueErase (setSlot u id k x) l).gslot i j = s.gslot i j) ∧
      OnlySlots s (queueErase (setSlot u id k x) l) ∧ (queueErase (setSlot u id k x) l).regs = u.regs := by
  refine ⟨(gslot_queueErase _ _ _ _).trans (setSlot_same u id k x), fun i j hj other => ?_, ?_, (queueErase_regs _ l)⟩
  · exact ((gslot_queueErase _ _ _ _).trans (setSlot_ne x (by omega))).trans (pages.gslot i j)
  · exact (pages.onlySlots.trans (setSlot_only u id k x)).trans (queueErase_only _ l)

/-! ### The newest slot -/

theorem targetSlot_lt (s : State) (id : Nat) : targetSlot s id < 2 := by
  unfold targetSlot
  split
  · decide
  · decide
  · repeat' split
    all_goals decide

theorem newestOf_pair {x y : GSlot} (h : x.seq < y.seq) : newestOf [x, y] = some y ∧ newestOf [y, x] = some y := by
  simp [newestOf, h, Nat.not_lt.mpr h.le]

theorem nextSeq_above {x : GSlot} (hk : k < 2) (h : s.gslot id k = some x) : x.seq < nextSeq s id := by
  rcases (by omega : k = 0 ∨ k = 1) with rfl | rfl
  · cases other : s.gslot id 1 with
    | none => simp [nextSeq, State.gwritten, h, other, newestOf]
    | some y =>
      by_cases lt : x.seq < y.seq
      · simp [nextSeq, State.gwritten, h, other, newestOf, lt, lt.le]
      · simp [nextSeq, State.gwritten, h, other, newestOf, lt]
  · cases other : s.gslot id 0 with
    | none => simp [nextSeq, State.gwritten, h, other, newestOf]
    | some y =>
      by_cases lt : y.seq < x.seq
      · simp [nextSeq, State.gwritten, h, other, newestOf, lt]
      · simp [nextSeq, State.gwritten, h, other, newestOf, lt, Nat.not_lt.mp lt]

/-- R436: a slot written with the record's next sequence is its newest. -/
theorem newestOf_written {x : GSlot} (hk : k < 2) (seq : x.seq = nextSeq s id) (written : t.gslot id k = some x)
    (other : ∀ j, j < 2 → j ≠ k → t.gslot id j = s.gslot id j) : newestOf (t.gwritten id) = some x := by
  have above : ∀ y j, j < 2 → j ≠ k → t.gslot id j = some y → y.seq < x.seq := fun y j hj ne h => by
    rw [seq]
    exact nextSeq_above hj ((other j hj ne).symm.trans h)
  rcases (by omega : k = 0 ∨ k = 1) with rfl | rfl
  · cases rest : t.gslot id 1 with
    | none => simp [State.gwritten, written, rest, newestOf]
    | some y =>
      simp only [State.gwritten, written, rest, List.filterMap_cons, List.filterMap_nil]
      exact (newestOf_pair (above y 1 (by decide) (by decide) rest)).2
  · cases rest : t.gslot id 0 with
    | none => simp [State.gwritten, written, rest, newestOf]
    | some y =>
      simp only [State.gwritten, written, rest, List.filterMap_cons, List.filterMap_nil]
      exact (newestOf_pair (above y 0 (by decide) (by decide) rest)).1

end Sys2Proof.Machine

end
section
/-! PROOF. O54: the end of a commit, an erase, a refusal and the rewrites of wear management (R435 to R440). -/

namespace Sys2Proof.Machine

variable {s t u v : State} {id k : Nat} {l pages bad : List Nat}

/-! ### Commits that start -/

theorem startCommit_none (h : s.gran.pend = []) : startCommit s = s := by
  unfold startCommit
  split
  · rfl
  · split
    · rfl
    · rw [h]
      rfl

/-! ### A commit that ends -/

/-- The pages' engine is free, and the failures that its last commit met are known. -/
def commitFreed (s : State) (bad : List Nat) : State :=
  { s with gran := { s.gran with busy := none, failing := s.gran.failing ++ bad.filter (fun k => !pageFails s k) } }

theorem pageFails_commitFreed (s : State) (bad : List Nat) (k : Nat) : pageFails (commitFreed s bad) k = (pageFails s k || bad.contains k) := by
  simp only [pageFails, commitFreed, List.contains_eq_mem, List.mem_append, List.mem_filter]
  by_cases failed : k ∈ s.gran.failing <;> simp [failed]

/-- R436: a commit with no failed page, or with pages to replace those, is finished. -/
theorem commitDone_eq {r : GReq} (busy : s.gran.busy = some (r, pages))
    (enough : pages.filter (fun k => pageFails s k || bad.contains k) = [] ∨
      (pages.filter (fun k => pageFails s k || bad.contains k)).length + 9 ≤ erasedPages s) :
    commitDone s bad = startCommit (finishCommit (programHeld (commitFreed s bad) pages).1 r (programHeld (commitFreed s bad) pages).2) := by
  have failed : pages.filter (pageFails (commitFreed s bad)) = pages.filter (fun k => pageFails s k || bad.contains k) :=
    List.filter_congr fun k _ => pageFails_commitFreed s bad k
  have room : ¬ ((pages.filter (pageFails (commitFreed s bad))).length ≠ 0 ∧
      erasedPages (commitFreed s bad) < (pages.filter (pageFails (commitFreed s bad))).length + 9) := by
    rw [failed]
    rcases enough with none | some
    · rw [none]
      simp
    · exact fun h => absurd h.2 (Nat.not_lt.mpr some)
  unfold commitDone
  rw [busy]
  exact if_neg room

/-- What a record's commit counts. -/
def commitCounted (s : State) : State := (s.bump Pg.GRANARY Reg.GRANARY.COMMITS).event Pg.GRANARY 0

theorem finishCommit_gauge (s : State) (l ps : List Nat) : finishCommit s ⟨6, .words l⟩ ps = commitCounted (writeSlot s 6 (.words l) true ps) := rfl

theorem commitCounted_spec (s : State) :
    (commitCounted s).get Pg.GRANARY Reg.GRANARY.COMMITS = min (2 ^ 32 - 1) (s.get Pg.GRANARY Reg.GRANARY.COMMITS + 1) ∧
      (commitCounted s).get Pg.GRANARY ⟨0x008, 0, 0, 0⟩ = 1 ∧
      onlyBits s (commitCounted s) [(Pg.GRANARY, Reg.GRANARY.COMMITS), (Pg.GRANARY, ⟨0x008, 0, 0, 0⟩)] [] ∧ onlyRegs s (commitCounted s) := by
  refine ⟨?_, get_event_same _ _ _ (by decide), ?_, onlyRegs.put (.put rfl)⟩
  · rw [commitCounted, get_event_ne _ (by decide), get_bump_word]
  · exact ((onlyBits.refl s).bump (covers_of_mem (.head _) rfl (by decide) le_rfl le_rfl)).event
      (covers_of_mem (.tail _ (.head _)) rfl (by decide) le_rfl le_rfl)

/-- Registers and the Granary taken from another state. -/
def granOf (s t : State) : State := { t with regs := s.regs, gran := s.gran }

theorem OnlySlots.granOf (s : State) (h : OnlySlots t u) : granOf s u = Machine.granOf s t := by
  have same : Machine.granOf s (slotsOf t u) = Machine.granOf s t := congrArg (Machine.granOf s) (show slotsOf t u = t from h)
  exact same

theorem onlyRegs.granOf (s : State) (h : onlyRegs t u) : granOf s u = Machine.granOf s t := h.field (Machine.granOf s)

/-- R435: a record written to its slot. -/
theorem writeSlot_spec (s : State) (id : Nat) (p : Payload) (valid : Bool) (ps : List Nat) :
    (newestOf ((writeSlot s id p valid ps).gwritten id)).map (fun x => (x.seq, x.valid, x.payload)) = some (nextSeq s id, valid, p) ∧
      (∀ j, j ≠ id → (writeSlot s id p valid ps).gwritten j = s.gwritten j) ∧ OnlySlots s (writeSlot s id p valid ps) ∧
      (writeSlot s id p valid ps).regs = s.regs := by
  unfold writeSlot
  extract_lets k old seq v
  have kinds := setPageKinds_spec s ps 1
  obtain ⟨same, others, only, regs⟩ := slotWritten_spec (s := s) (u := v) (id := id) (k := k)
    (x := some ⟨seq, valid, p, ps, v.rtcSec, resumePart p seq⟩) (l := old) (targetSlot_lt s id) kinds.1
  refine ⟨?_, fun j hj => gwritten_of_gslot fun i hi => others j i hi (.inl hj), only, regs.trans kinds.2⟩
  rw [newestOf_written (s := s) (targetSlot_lt s id) rfl same fun j hj ne => others id j hj (.inr ne)]
  rfl

theorem granOf.parts (h : granOf s t = s) : sameOuter s t ∧ t.log = s.log ∧ t.fault.logPending = s.fault.logPending :=
  ⟨⟨(congrArg State.pending h :), (congrArg State.powered h :), (congrArg State.otpA h :), (congrArg State.otpB h :)⟩, (congrArg State.log h :),
    (congrArg (fun x : State => x.fault.logPending) h :)⟩

/-- A command that changes registers and the Granary alone. -/
theorem gives_granary {c : Instr} {P : State → Prop} {b : Bool} {act : State → State} (hx : exec c s = takes s b act) (hb : b = true)
    (ha : act s = t) (only : granOf s t = s) (room : logRoom s 0) (p : P t) : gives c s P := by
  obtain ⟨outer, log, pending⟩ := granOf.parts only
  exact gives_act hx hb ha outer (room.same log pending) p

/-- R436: the end of a commit of the gauge's record. -/
theorem gives_commitDone (live : s.powered = true) (busy : s.gran.busy = some (⟨6, .words l⟩, pages)) (pend : s.gran.pend = [])
    (enough : pages.filter (fun k => pageFails s k || bad.contains k) = [] ∨
      (pages.filter (fun k => pageFails s k || bad.contains k)).length + 9 ≤ erasedPages s) (room : logRoom s 0) :
    gives (.granaryCommitDone bad) s fun t => t.gran.busy = none ∧
      (newestOf (t.gwritten 6)).map (fun x => (x.seq, x.valid, x.payload)) = some (nextSeq s 6, true, .words l) ∧
      t.get Pg.GRANARY Reg.GRANARY.COMMITS = min (2 ^ 32 - 1) (s.get Pg.GRANARY Reg.GRANARY.COMMITS + 1) ∧
      t.get Pg.GRANARY ⟨0x008, 0, 0, 0⟩ = 1 ∧ (∀ id, id ≠ 6 → t.gwritten id = s.gwritten id) ∧
      onlyBits s t [(Pg.GRANARY, Reg.GRANARY.COMMITS), (Pg.GRANARY, Reg.GRANARY.RETIRED), (Pg.GRANARY, ⟨0x008, 0, 0, 0⟩)] [] ∧
      granOf s t = s := by
  have done := commitDone_eq busy enough
  rw [finishCommit_gauge] at done
  obtain ⟨held, retired⟩ := programHeld_spec (commitFreed s bad) pages
  have freedBits : onlyBits s (commitFreed s bad) retiredCount [] := (onlyBits.refl s).regs rfl
  have freed : (commitFreed s bad).gran.busy = none ∧ (commitFreed s bad).gran.pend = [] ∧
      (∀ id k, (commitFreed s bad).gslot id k = s.gslot id k) ∧ granOf s (commitFreed s bad) = s := ⟨rfl, pend, fun _ _ => rfl, rfl⟩
  generalize commitFreed s bad = f at done held retired freedBits freed
  generalize programHeld f pages = x at done held retired
  obtain ⟨free, waits, slots, beside⟩ := freed
  obtain ⟨newest, others, slot, regs⟩ := writeSlot_spec x.1 6 (.words l) true x.2
  generalize writeSlot x.1 6 (.words l) true x.2 = w at done newest others slot regs
  obtain ⟨commits, event, bits, only⟩ := commitCounted_spec w
  generalize commitCounted w = t at done commits event bits only
  have gran : t.gran = w.gran := only.field State.gran
  have fromFreed : OnlySlots f w := held.onlySlots.trans slot
  have written : ∀ id, x.1.gwritten id = s.gwritten id := fun id => gwritten_of_gslot fun k _ => (held.gslot id k).trans (slots id k)
  have same : ∀ id, t.gwritten id = w.gwritten id := fun id => gwritten_of_gslot fun k _ => congrArg (fun g : GranaryState => Table.get none g.slots _) gran
  have shown : onlyBits s w retiredCount [] := (freedBits.trans retired).regs regs
  rw [startCommit_none (by rw [gran, fromFreed.pend, waits])] at done
  have next : nextSeq x.1 6 = nextSeq s 6 := by rw [nextSeq, nextSeq, written]
  have rest : granOf s t = s := ((only.granOf s).trans (fromFreed.granOf s)).trans beside
  have ready : (s.powered && s.gran.busy.isSome) = true := by rw [live, busy]; rfl
  refine gives_granary (act := fun s => commitDone s bad) rfl ready done rest room
    ⟨by rw [gran, fromFreed.busy, free], by rw [same, newest, next], ?_, event, fun id hid => ?_, ?_, rest⟩
  · rw [commits, shown.get_apart (by decide) (by decide) (by decide) (by decide)]
  · rw [same, others id hid, written]
  · exact (shown.weaken (by decide) (List.Subset.refl _)).trans (bits.weaken (by decide) (List.Subset.refl _))

/-! ### An erase -/

/-- R438: a page erased, when no page is held for the OPEN header. -/
def pageErased (s : State) (n : Nat) : State :=
  { s with gran := { s.gran with
    erase := s.gran.erase.erase n
    pages := Table.set GPage.init s.gran.pages n ⟨0, (gpage s n).count + 1⟩
    slots := s.gran.slots.map (fun e => (e.1, e.2.map (fun x => erasedIn x n))) } }

theorem erasePage_eq (n : Nat) (held : s.gran.held = []) : erasePage s n = pageErased s n := by
  have none : s.gran.held.contains n = false := by rw [held]; rfl
  unfold erasePage
  simp only [none, Bool.false_and, Bool.false_eq_true, if_false]
  rfl

theorem holdOpen_none (h : s.ledger.openNeeded = false) : holdOpen s = s := by
  unfold holdOpen
  rw [h]
  rfl

theorem gpage_pageErased (s : State) (n k : Nat) :
    gpage (pageErased s n) k = Table.get GPage.init (Table.set GPage.init s.gran.pages n ⟨0, (gpage s n).count + 1⟩) k := rfl

theorem pageErased_spec (s : State) (n : Nat) : gpage (pageErased s n) n = ⟨0, (gpage s n).count + 1⟩ ∧
    (pageErased s n).gran.erase = s.gran.erase.erase n ∧ (∀ k, k ≠ n → gpage (pageErased s n) k = gpage s k) ∧
    onlyBits s (pageErased s n) [] [] ∧ slotsOf s (pageErased s n) = s ∧ granOf s (pageErased s n) = s ∧
    (pageErased s n).gran.pend = s.gran.pend ∧ (pageErased s n).ledger = s.ledger :=
  ⟨(gpage_pageErased s n n).trans (Table.get_set_same _ _ _ _), rfl, fun k h => (gpage_pageErased s n k).trans (Table.get_set_ne _ _ _ _ h), (onlyBits.refl s).regs rfl, rfl, rfl, rfl, rfl⟩

/-- R438: a completed erase. -/
theorem gives_eraseDone {n : Nat} (live : s.powered = true) (busy : s.gran.busy = none) (pend : s.gran.pend = []) (held : s.gran.held = [])
    (closed : s.ledger.openNeeded = false) (next : nextErase s = some n) (room : logRoom s 0) :
    gives .granaryEraseDone s fun t => gpage t n = ⟨0, (gpage s n).count + 1⟩ ∧ t.gran.erase = s.gran.erase.erase n ∧
      (∀ k, k ≠ n → gpage t k = gpage s k) ∧ onlyBits s t [] [] ∧ slotsOf s t = s := by
  obtain ⟨page, queue, others, bits, slots, only, waits, ledger⟩ := pageErased_spec s n
  have ready : (s.powered && s.gran.busy.isNone && (nextErase s).isSome) = true := by rw [live, busy, next]; rfl
  have act : startCommit (holdOpen (erasePage s ((nextErase s).getD 0))) = pageErased s n := by
    rw [next, Option.getD_some, erasePage_eq n held, holdOpen_none (by rw [ledger, closed]), startCommit_none (by rw [waits, pend])]
  exact gives_granary (act := fun s => startCommit (holdOpen (erasePage s ((nextErase s).getD 0)))) rfl ready act only room
    ⟨page, queue, others, bits, slots⟩

/-! ### A refused commit -/

/-- R437: the commit asked for is dropped, and that the pool is low is shown. -/
def poolLow (s : State) (l : List GReq) : State :=
  (({ s with gran := { s.gran with pend := l, waitUs := none } } : State).putb Pg.GRANARY Reg.GRANARY.STATUS_LOW_POOL true).event Pg.GRANARY 2

theorem refuseCommit_gauge (s : State) (l : List Nat) : refuseCommit s ⟨6, .words l⟩ = poolLow s (s.gran.pend.erase ⟨6, .words l⟩) := rfl

/-- What waits to be committed, and since when, taken from another state. -/
def waitsOf (s t : State) : State := { t with regs := s.regs, gran := { t.gran with pend := s.gran.pend, waitUs := s.gran.waitUs } }

theorem poolLow_spec (s : State) (l : List GReq) : (poolLow s l).gran.pend = l ∧ (poolLow s l).gran.busy = s.gran.busy ∧
    (poolLow s l).flag Pg.GRANARY Reg.GRANARY.STATUS_LOW_POOL = true ∧ (poolLow s l).get Pg.GRANARY ⟨0x008, 2, 2, 0⟩ = 1 ∧
    onlyBits s (poolLow s l) [(Pg.GRANARY, Reg.GRANARY.STATUS_LOW_POOL), (Pg.GRANARY, ⟨0x008, 2, 2, 0⟩)] [] ∧ waitsOf s (poolLow s l) = s ∧
    granOf s (poolLow s l) = s := by
  unfold poolLow
  have dropped : onlyBits s { s with gran := { s.gran with pend := l, waitUs := none } }
      [(Pg.GRANARY, Reg.GRANARY.STATUS_LOW_POOL), (Pg.GRANARY, ⟨0x008, 2, 2, 0⟩)] [] ∧
      ({ s with gran := { s.gran with pend := l, waitUs := none } } : State).gran.pend = l ∧
      ({ s with gran := { s.gran with pend := l, waitUs := none } } : State).gran.busy = s.gran.busy ∧
      waitsOf s { s with gran := { s.gran with pend := l, waitUs := none } } = s ∧
      granOf s { s with gran := { s.gran with pend := l, waitUs := none } } = s := ⟨(onlyBits.refl s).regs rfl, rfl, rfl, rfl, rfl⟩
  generalize ({ s with gran := { s.gran with pend := l, waitUs := none } } : State) = v at dropped
  obtain ⟨bits, pend, busy, waits, gran⟩ := dropped
  have only : onlyRegs v ((v.putb Pg.GRANARY Reg.GRANARY.STATUS_LOW_POOL true).event Pg.GRANARY 2) := onlyRegs.put (.put rfl)
  refine ⟨(only.field fun x : State => x.gran.pend).trans pend, (only.field fun x : State => x.gran.busy).trans busy, ?_, get_event_same _ _ _ (by decide),
    ?_, (only.field (waitsOf s)).trans waits, (only.granOf s).trans gran⟩
  · have shown : (v.putb Pg.GRANARY Reg.GRANARY.STATUS_LOW_POOL true).flag Pg.GRANARY Reg.GRANARY.STATUS_LOW_POOL = true :=
      State.flag_putb_same (s := v) _ _ _ rfl (by decide)
    rw [State.flag] at shown ⊢
    rw [get_event_ne _ (by decide)]
    exact shown
  · exact (bits.putb (covers_of_mem (.head _) rfl (by decide) le_rfl le_rfl)).event
      (covers_of_mem (.tail _ (.head _)) rfl (by decide) le_rfl le_rfl)

/-- The commit that waits for erased pages is one of those asked for. -/
theorem heldCommit_single {r : GReq} (pend : s.gran.pend = [r]) (held : (heldCommit s).isSome = true) : heldCommit s = some r ∧ s.gran.busy = none := by
  have next : nextCommit [r] = some (r, []) := by simp [nextCommit]
  unfold heldCommit at held ⊢
  rw [pend, next] at held ⊢
  cases busy : s.gran.busy with
  | some b => simp [busy] at held
  | none =>
    simp only [busy, Option.isSome_none, Bool.false_eq_true, if_false] at held ⊢
    split at held
    · rename_i low
      exact ⟨if_pos low, trivial⟩
    · cases held

/-- The commit that waits for erased pages refused, and the next one started. -/
def commitRefused (s : State) : State :=
  match heldCommit s with
  | some r => startCommit (refuseCommit s r)
  | none => s

/-- R437: a commit of the gauge's record that has waited too long. -/
theorem gives_commitRefused (live : s.powered = true) (pend : s.gran.pend = [⟨6, .words l⟩]) (long : heldLong s = true) (room : logRoom s 0) :
    gives .granaryCommitRefused s fun t => t.gran.pend = [] ∧ t.gran.busy = none ∧ t.flag Pg.GRANARY Reg.GRANARY.STATUS_LOW_POOL = true ∧
      t.get Pg.GRANARY ⟨0x008, 2, 2, 0⟩ = 1 ∧
      onlyBits s t [(Pg.GRANARY, Reg.GRANARY.STATUS_LOW_POOL), (Pg.GRANARY, ⟨0x008, 2, 2, 0⟩)] [] ∧ waitsOf s t = s := by
  obtain ⟨held, busy⟩ := heldCommit_single pend (Bool.and_eq_true_iff.mp long).1
  obtain ⟨dropped, free, low, event, bits, waits, only⟩ := poolLow_spec s []
  have empty : s.gran.pend.erase ⟨6, .words l⟩ = [] := by rw [pend, List.erase_cons_head]
  have ready : (s.powered && heldLong s) = true := by rw [live, long]; rfl
  have act : commitRefused s = poolLow s [] := by
    rw [commitRefused, held]
    show startCommit (refuseCommit s ⟨6, .words l⟩) = _
    rw [refuseCommit_gauge, empty, startCommit_none dropped]
  exact gives_granary (act := commitRefused) rfl ready act only room ⟨dropped, free.trans busy, low, event, bits, waits⟩

end Sys2Proof.Machine

end
section
/-! PROOF. O54: wear management, the log tail, a customer's commit, and the statement (R434 to R446). -/

namespace Sys2Proof.Machine

variable {s t u v : State} {id k : Nat}

/-! ### Wear management -/

theorem wornSlot_lt {x : GSlot} (h : wornSlot s id = some (k, x)) : k < 2 := by
  obtain ⟨j, hj, found⟩ := List.mem_filterMap.mp (List.mem_of_find?_eq_some h)
  obtain ⟨y, -, pair⟩ := Option.map_eq_some_iff.mp found
  have same : j = k := congrArg Prod.fst pair
  rw [← same]
  rcases List.mem_cons.mp hj with rfl | hj
  · decide
  · rw [List.mem_singleton.mp hj]
    decide

theorem OnlySlots.wholeGran (h : OnlySlots s t) : Machine.granOf s t = s := h.granOf s

/-- R439: a slot rewritten unchanged. -/
theorem rewriteSlot_spec (x : GSlot) (hk : k < 2) :
    (rewriteSlot s id k x).gslot id k = some { x with pages := (programPages s x.pages.length).2, sec := s.rtcSec } ∧
      (∀ j, j ≠ id → (rewriteSlot s id k x).gwritten j = s.gwritten j) ∧ onlyBits s (rewriteSlot s id k x) retiredCount [] ∧
      OnlySlots s (rewriteSlot s id k x) := by
  unfold rewriteSlot
  extract_lets w
  obtain ⟨pages, bits⟩ := programPages_spec s x.pages.length
  obtain ⟨same, others, only, regs⟩ := slotWritten_spec (s := s) (u := w.1) (id := id) (k := k)
    (x := some { x with pages := w.2, sec := s.rtcSec }) (l := x.pages) hk pages
  exact ⟨same, fun j hj => gwritten_of_gslot fun i hi => others j i hi (.inl hj), bits.regs regs, only⟩

/-- A slot or a page of the log ring that wear management rewrites. -/
def wearRewritten (id : Nat) (s : State) : State :=
  match wornSlot s id, wornLog s id with
  | some (k, x), _ => rewriteSlot s id k x
  | none, some x => rewriteLog s x
  | none, none => s

theorem gives_slotRewrite {x : GSlot} (live : s.powered = true) (hid : id < 256) (busy : s.gran.busy = none)
    (worn : wornSlot s id = some (k, x)) (room : logRoom s 0) :
    gives (.granaryWearRewrite id) s fun t =>
      t.gslot id k = some { x with pages := (programPages s x.pages.length).2, sec := s.rtcSec } ∧
      (∀ j, j ≠ id → t.gwritten j = s.gwritten j) ∧ onlyBits s t retiredCount [] ∧ slotsOf s t = s := by
  obtain ⟨slot, others, bits, only⟩ := rewriteSlot_spec (s := s) (id := id) x (wornSlot_lt worn)
  have ready : (s.powered && decide (id < 256) && s.gran.busy.isNone && ((wornSlot s id).isSome || (wornLog s id).isSome)) = true := by
    rw [live, busy, worn, decide_eq_true hid]
    rfl
  have act : wearRewritten id s = rewriteSlot s id k x := by rw [wearRewritten, worn]
  exact gives_granary (act := wearRewritten id) rfl ready act only.wholeGran room ⟨slot, others, bits, only⟩

/-- The log ring's pages changed. -/
def logsShown (s : State) (l : List LogPage) : State := { s with gran := { s.gran with logs := l } }

/-- Registers and the Granary's log ring, pages and erase queue taken from another state. -/
def logsOf (s t : State) : State :=
  { t with regs := s.regs, gran := { t.gran with logs := s.gran.logs, pages := s.gran.pages, erase := s.gran.erase } }

/-- The log ring's pages after a rewrite of one. -/
def logsAfter (s : State) (x : LogPage) : List LogPage :=
  s.gran.logs.map (fun y => if y = x then { x with page := nth 0 (programPages s 1).2 0, sec := s.rtcSec } else y)

theorem rewriteLog_eq (s : State) (x : LogPage) :
    rewriteLog s x = eraseAppended (setPageKinds (logsShown (programPages s 1).1 (logsAfter s x)) [x.page] 2) [x.page] := rfl

/-- R439: a page of the log ring rewritten unchanged. -/
theorem rewriteLog_spec (s : State) (x : LogPage) : (rewriteLog s x).gran.logs = logsAfter s x ∧
    (∀ j, (rewriteLog s x).gwritten j = s.gwritten j) ∧ onlyBits s (rewriteLog s x) retiredCount [] ∧ logsOf s (rewriteLog s x) = s ∧
    granOf s (rewriteLog s x) = s := by
  rw [rewriteLog_eq]
  generalize logsAfter s x = l
  obtain ⟨pages, bits⟩ := programPages_spec s 1
  generalize (programPages s 1).1 = u at pages bits
  have shown : (logsShown u l).gran.logs = l ∧ (∀ i k, (logsShown u l).gslot i k = u.gslot i k) ∧ (logsShown u l).regs = u.regs ∧
      logsOf s (logsShown u l) = logsOf s u ∧ granOf s (logsShown u l) = granOf s u := ⟨rfl, fun _ _ => rfl, rfl, rfl, rfl⟩
  generalize logsShown u l = v at shown
  obtain ⟨logs, slots, regs, rest, whole⟩ := shown
  have kinds := setPageKinds_spec v [x.page] 2
  generalize setPageKinds v [x.page] 2 = w at kinds
  have beside : logsOf s w = s := by
    have one : logsOf s w = logsOf s v := (congrArg (logsOf s) (show pagesOf v w = v from kinds.1) :)
    have two : logsOf s u = logsOf s s := (congrArg (logsOf s) (show pagesOf s u = s from pages) :)
    exact (one.trans rest).trans two
  have all : granOf s w = s := by
    have one := kinds.1.onlySlots.granOf s
    exact (one.trans whole).trans (pages.onlySlots.granOf s)
  refine ⟨kinds.1.logs.trans logs, fun j => gwritten_of_gslot fun i _ => ?_, bits.regs (kinds.2.trans regs), beside, all⟩
  exact (((gslot_eraseAppended _ _ _ _).trans (kinds.1.gslot j i)).trans (slots j i)).trans (pages.gslot j i)

theorem gives_logRewrite {x : LogPage} (live : s.powered = true) (busy : s.gran.busy = none) (worn : wornSlot s 0x80 = none)
    (log : wornLog s 0x80 = some x) (room : logRoom s 0) :
    gives (.granaryWearRewrite 0x80) s fun t => t.gran.logs = logsAfter s x ∧ (∀ j, t.gwritten j = s.gwritten j) ∧
      onlyBits s t retiredCount [] ∧ logsOf s t = s := by
  obtain ⟨logs, written, bits, rest, whole⟩ := rewriteLog_spec s x
  have ready : (s.powered && decide (0x80 < 256) && s.gran.busy.isNone && ((wornSlot s 0x80).isSome || (wornLog s 0x80).isSome)) = true := by
    rw [live, busy, worn, log]
    rfl
  have act : wearRewritten 0x80 s = rewriteLog s x := by rw [wearRewritten, worn, log]
  exact gives_granary (act := wearRewritten 0x80) rfl ready act whole room ⟨logs, written, bits, rest⟩

/-! ### Commits asked for -/

theorem granOf_trans (h : granOf s t = s) (g : granOf t u = t) : granOf s u = s := by
  have same : granOf s (granOf t u) = granOf s t := congrArg (granOf s) g
  exact same.trans h

theorem nextCommit_mem {l rest : List GReq} {r : GReq} (h : nextCommit l = some (r, rest)) : rest = l.erase r := by
  unfold nextCommit at h
  split at h
  · cases h
  · cases h
    rfl

/-- R435: a request stays open whichever commit begins. -/
theorem commitOpen_begun {r r' : GReq} (busy : s.gran.busy = none) (same : r'.id = r.id) (hp : t.gran.pend = s.gran.pend.erase r)
    {ps : List Nat} (hb : t.gran.busy = some (r', ps)) (opened : commitOpen s id = true) : commitOpen t id = true := by
  simp only [commitOpen, busy, Bool.or_false, List.any_eq_true, decide_eq_true_eq] at opened
  obtain ⟨q, mem, eq⟩ := opened
  simp only [commitOpen, hb, Bool.or_eq_true, List.any_eq_true, decide_eq_true_eq, hp]
  by_cases this : q = r
  · right
    rw [same, ← this, eq]
  · exact .inl ⟨q, (List.mem_erase_of_ne this).mpr mem, eq⟩

theorem startCommit_spec (s : State) : granOf s (startCommit s) = s ∧ (startCommit s).regs = s.regs ∧
    (∀ id, commitOpen s id = true → commitOpen (startCommit s) id = true) := by
  have stays : granOf s s = s ∧ s.regs = s.regs ∧ (∀ id, commitOpen s id = true → commitOpen s id = true) := ⟨rfl, rfl, fun _ h => h⟩
  unfold startCommit
  split
  · exact stays
  · rename_i idle
    have busy : s.gran.busy = none := by
      simp only [Bool.or_eq_true, not_or, Bool.not_eq_true, Option.isSome_eq_false_iff, Option.isNone_iff_eq_none] at idle
      exact idle.1.1
    split
    · exact stays
    · split
      · exact stays
      · rename_i r rest next
        have left := nextCommit_mem next
        extract_lets r' isOpen g pages w
        have same : r'.id = r.id := by
          show (if r.id = 0x05 then _ else r : GReq).id = r.id
          split <;> rfl
        split
        · exact ⟨rfl, rfl, fun id => commitOpen_begun (r := r) busy same left rfl⟩
        · split
          · have kinds := setPageKinds_spec s pages 1
            refine ⟨?_, kinds.2, fun id => commitOpen_begun (r := r) busy same left rfl⟩
            exact (kinds.1.onlySlots.granOf s : granOf s w = granOf s s)
          · exact ⟨rfl, rfl, fun _ h => h⟩

/-- Commits asked for. -/
def asked (s : State) (l : List GReq) : State := { s with gran := { s.gran with pend := l } }

theorem requestCommit_spec (s : State) (id : Nat) (p : Payload) : granOf s (requestCommit s id p) = s ∧ (requestCommit s id p).regs = s.regs ∧
    commitOpen (requestCommit s id p) id = true := by
  unfold requestCommit
  extract_lets pend
  have opened : granOf s (asked s (pend ++ [⟨id, p⟩])) = s ∧ (asked s (pend ++ [⟨id, p⟩])).regs = s.regs ∧
      commitOpen (asked s (pend ++ [⟨id, p⟩])) id = true := ⟨rfl, rfl, by simp [commitOpen, asked]⟩
  show granOf s (startCommit (asked s (pend ++ [⟨id, p⟩]))) = s ∧ (startCommit (asked s (pend ++ [⟨id, p⟩]))).regs = s.regs ∧
    commitOpen (startCommit (asked s (pend ++ [⟨id, p⟩]))) id = true
  generalize asked s (pend ++ [⟨id, p⟩]) = v at opened
  obtain ⟨rest, regs, kept⟩ := startCommit_spec v
  exact ⟨granOf_trans opened.1 rest, regs.trans opened.2.1, kept id opened.2.2⟩

/-! ### The log tail -/

/-- Registers, the Granary and the entries that are collected taken from another state. -/
def tailOf (s t : State) : State :=
  { t with regs := s.regs, gran := s.gran, log := { t.log with waiting := s.log.waiting, persist := s.log.persist, firstUs := s.log.firstUs } }

/-- R440: the entries collected sent to be committed. -/
def tailSent (s : State) : State :=
  { s with log := { s.log with waiting := some (s.log.persist.take 20), persist := s.log.persist.drop 20, firstUs := s.log.nextUs } }

theorem commitTail_eq (s : State) : commitTail s = requestCommit (tailSent s) 0x80 (.bytes []) := rfl

theorem logRoom_tailSent (room : logRoom s 0) : logRoom (tailSent s) 0 := by
  obtain ⟨pending, fill, persist⟩ := room
  refine ⟨pending, fill, ?_⟩
  show (s.log.persist.drop 20).length + 0 + 20 ≤ 40
  rw [List.length_drop]
  omega

theorem gives_logTail (live : s.powered = true) (waiting : s.log.waiting = none)
    (due : 20 ≤ s.log.persist.length ∨ (1 ≤ s.log.persist.length ∧ s.log.firstUs + 1000000 ≤ s.rcUs)) (room : logRoom s 0) :
    gives .logTailCommit s fun t => t.log.waiting = some (s.log.persist.take 20) ∧ t.log.persist = s.log.persist.drop 20 ∧
      commitOpen t 0x80 = true ∧ onlyBits s t [] [] ∧ tailOf s t = s := by
  have some : s.log.persist ≠ [] := fun h => by
    rw [h] at due
    simp at due
  have ready : (s.powered && s.log.waiting.isNone && !s.log.persist.isEmpty &&
      decide (20 ≤ s.log.persist.length ∨ s.log.firstUs + 1000000 ≤ s.rcUs)) = true := by
    have now : 20 ≤ s.log.persist.length ∨ s.log.firstUs + 1000000 ≤ s.rcUs := due.imp_right And.right
    simp [live, waiting, some, now]
  have sent : (tailSent s).log.waiting = Option.some (s.log.persist.take 20) ∧ (tailSent s).log.persist = s.log.persist.drop 20 ∧
      onlyBits s (tailSent s) [] [] ∧ tailOf s (tailSent s) = s ∧ sameOuter s (tailSent s) ∧ logRoom (tailSent s) 0 :=
    ⟨rfl, rfl, (onlyBits.refl s).regs rfl, rfl, sameOuter.refl s, logRoom_tailSent room⟩
  have act := commitTail_eq s
  generalize tailSent s = v at sent act
  obtain ⟨queued, left, bits, rest, outer, free⟩ := sent
  obtain ⟨whole, regs, opened⟩ := requestCommit_spec v 0x80 (.bytes [])
  generalize requestCommit v 0x80 (.bytes []) = t at act whole regs opened
  have log : t.log = v.log := (congrArg State.log whole :)
  have beside : tailOf s t = tailOf s v := (congrArg (tailOf s) whole :)
  obtain ⟨same, -, pending⟩ := granOf.parts whole
  exact gives_act (act := commitTail) rfl ready act (outer.trans same) (free.same log pending)
    ⟨by rw [log, queued], by rw [log, left], opened, bits.regs regs, beside.trans rest⟩

/-! ### A customer's commit -/

/-- The word of CUST_CMD that commits `n` bytes as record `r`. -/
def custWord (r n : Nat) : Nat := 0x80000000 + n * 65536 + r

theorem custWord_parts {r n : Nat} (hr : r < 32) (hn : 1 ≤ n ∧ n ≤ 500) :
    bitsOf (woBits (kindFields .granary 0x068) (custWord r n)) 31 31 = 1 ∧ bitsOf (woBits (kindFields .granary 0x068) (custWord r n)) 24 16 = n ∧
      bitsOf (woBits (kindFields .granary 0x068) (custWord r n)) 4 0 = r ∧ custWord r n < 2 ^ 32 ∧
      woBits (kindFields .granary 0x068) (custWord r n) ≠ 0 := by
  have fields (v : Nat) : woBits (kindFields .granary 0x068) v =
    0 + bitsOf v 31 31 * 2 ^ 31 + bitsOf v 24 16 * 2 ^ 16 + bitsOf v 4 0 * 2 ^ 0 := rfl
  simp only [fields, bitsOf, custWord]
  omega

theorem commandEntry_cust {v : Nat} (commit : bitsOf (woBits (kindFields .granary 0x068) v) 31 31 = 1) : commandEntry .granary 0x068 v = true := by
  refine List.any_eq_true.mpr ⟨⟨31, 31, .wo, .c, 0, none⟩, .head _, ?_⟩
  simp [commit]

/-- R446: a customer's commit asked for, its result pending. -/
def custAsked (s : State) (r n : Nat) : State :=
  requestCommit (s.put Pg.GRANARY Reg.GRANARY.CUST_STATUS_RESULT 3) (0x20 + r) (.bytes (stagedBytes s n))

theorem actPageWrite_cust {r n : Nat} (hr : r < 32) (hn : 1 ≤ n ∧ n ≤ 500) :
    actPageWrite u (wrAt s Org.HOST .granary Pg.GRANARY 0x068 (custWord r n)) = custAsked u r n := by
  obtain ⟨-, length, record, -⟩ := custWord_parts hr hn
  simp only [actPageWrite, actGranary, wrAt_cmd, length, record]
  rfl

theorem rulePage_cust {r n : Nat} (hr : r < 32) (hn : 1 ≤ n ∧ n ≤ 500) (free : s.get Pg.GRANARY Reg.GRANARY.CUST_STATUS_RESULT ≠ 3) :
    rulePage s (wrAt s Org.HOST .granary Pg.GRANARY 0x068 (custWord r n)) = .take := by
  obtain ⟨commit, length, -⟩ := custWord_parts hr hn
  have here : (wrAt s Org.HOST .granary Pg.GRANARY 0x068 (custWord r n)).is Reg.GRANARY.CUST_CMD = true := rfl
  simp [rulePage, ruleGranary, here, commit, length, hn, free, Wr.need]

theorem custAsked_spec (s : State) (r n : Nat) : (custAsked s r n).get Pg.GRANARY Reg.GRANARY.CUST_STATUS_RESULT = 3 ∧
    commitOpen (custAsked s r n) (0x20 + r) = true ∧
    onlyBits s (custAsked s r n) [(Pg.GRANARY, Reg.GRANARY.CUST_STATUS_RESULT)] [] ∧ granOf s (custAsked s r n) = s := by
  unfold custAsked
  have shown : (s.put Pg.GRANARY Reg.GRANARY.CUST_STATUS_RESULT 3).get Pg.GRANARY Reg.GRANARY.CUST_STATUS_RESULT = 3 :=
    State.get_put_same _ _ _ _ (by decide) (by decide)
  have bits : onlyBits s (s.put Pg.GRANARY Reg.GRANARY.CUST_STATUS_RESULT 3) [(Pg.GRANARY, Reg.GRANARY.CUST_STATUS_RESULT)] [] :=
    (onlyBits.refl s).put (covers_of_mem (.head _) rfl (by decide) le_rfl le_rfl)
  have rest : granOf s (s.put Pg.GRANARY Reg.GRANARY.CUST_STATUS_RESULT 3) = s := rfl
  generalize s.put Pg.GRANARY Reg.GRANARY.CUST_STATUS_RESULT 3 = v at shown bits rest
  obtain ⟨whole, regs, opened⟩ := requestCommit_spec v (0x20 + r) (.bytes (stagedBytes s n))
  exact ⟨(get_of_regs regs).trans shown, opened, bits.regs regs, granOf_trans rest whole⟩

/-- R446: a customer's commit by the host port. -/
theorem gives_custCommit {r n : Nat} (hr : r < 32) (hn : 1 ≤ n ∧ n ≤ 500) (reach : hostReach s Pg.GRANARY 0x068)
    (free : s.get Pg.GRANARY Reg.GRANARY.CUST_STATUS_RESULT ≠ 3) (room : logRoom s 1) :
    gives (.custCommit .host r n) s fun t => t.get Pg.GRANARY Reg.GRANARY.CUST_STATUS_RESULT = 3 ∧ commitOpen t (0x20 + r) = true ∧
      onlyBits s t [(Pg.GRANARY, Reg.GRANARY.CUST_STATUS_RESULT), changeSeq Pg.GRANARY] [Pg.CHANGELOG] ∧ onlyLogged s { t with gran := s.gran } := by
  obtain ⟨commit, -, -, small, some⟩ := custWord_parts hr hn
  have ready : decide (r < 32 ∧ n < 512) = true := decide_eq_true ⟨hr, by omega⟩
  obtain ⟨u, write, logged, -⟩ := hostCommand_logged (k := .granary) (v := custWord r n) reach rfl (by decide) small (rulePage_cust hr hn free)
    (.inl some) (commandEntry_cust commit) room
  rw [actPageWrite_cust hr hn] at write
  obtain ⟨result, opened, bits, whole⟩ := custAsked_spec u r n
  generalize custAsked u r n = t at write result opened bits whole
  obtain ⟨outer, log, pending⟩ := granOf.parts whole
  have before : sameOuter s u := onlyLogged.sameOuter logged.rest
  refine gives_hostWrite (b := decide (r < 32 ∧ n < 512)) rfl ready write (before.trans outer) (logged.room.same log pending)
    ⟨result, opened, ?_, ?_⟩
  · exact (logged.bits.weaken (by decide) (List.Subset.refl _)).trans (bits.weaken (by decide) (by decide))
  · exact (congrArg (fun y : State => ({ y with regs := s.regs, log := s.log, gran := s.gran } : State)) whole).trans
      (logged.rest.field fun y : State => ({ y with regs := s.regs, log := s.log, gran := s.gran } : State))

end Sys2Proof.Machine

open Sys2Proof Sys2Proof.Machine

/-- Settles O54. -/
theorem theGranaryCommits : Obligations.TheGranaryCommits := by
  unfold Obligations.TheGranaryCommits
  refine ⟨fun s l pages bad live busy pend enough room => gives_commitDone live busy pend enough room,
    fun s n live busy pend held closed next room => gives_eraseDone live busy pend held closed next room,
    fun s l live pend long room => gives_commitRefused live pend long room,
    fun s id k x live hid busy worn room => gives_slotRewrite live hid busy worn room,
    fun s x live busy worn log room => gives_logRewrite live busy worn log room,
    fun s live waiting due room => gives_logTail live waiting due room,
    fun s r n hr hn reach unlocked free room => gives_custCommit hr hn reach free room⟩

end
section
/-! PROOF. O50: the time of the RTC in its three views, its second and its alarm (R407, R408, R413). -/

namespace Sys2Proof.Machine

variable {s t u v : State}

/-! ### The calendar fits its words -/

theorem calTimeOf_lt (n : Nat) : calTimeOf n < 2 ^ 32 := by
  unfold calTimeOf
  omega

/-- A count that a pass over a list may advance by one at each of its steps, taking from a rest. -/
theorem countedOff (f : Nat × Nat → Nat → Nat × Nat) (step : ∀ a k, (f a k).1 ≤ a.1 + 1 ∧ (f a k).2 ≤ a.2) (l : List Nat) (a : Nat × Nat) :
    (l.foldl f a).1 ≤ a.1 + l.length ∧ (l.foldl f a).2 ≤ a.2 := by
  induction l generalizing a with
  | nil => exact ⟨le_rfl, le_rfl⟩
  | cons k l ih =>
    obtain ⟨count, rest⟩ := ih (f a k)
    obtain ⟨one, less⟩ := step a k
    rw [List.foldl_cons, List.length_cons]
    omega

theorem takesFrom (c : Prop) [Decidable c] (a : Nat × Nat) (d : Nat) :
    (if c then (a.1 + 1, a.2 - d) else a).1 ≤ a.1 + 1 ∧ (if c then (a.1 + 1, a.2 - d) else a).2 ≤ a.2 := by
  split
  · exact ⟨le_rfl, Nat.sub_le _ _⟩
  · exact ⟨Nat.le_succ _, le_rfl⟩

theorem yearOf_le (d : Nat) : (yearOf d).1 ≤ 136 ∧ (yearOf d).2 ≤ d := by
  have bound := countedOff _ (fun a _ => takesFrom (yearDays a.1 ≤ a.2) a (yearDays a.1)) (List.range 136) (0, d)
  rw [List.length_range] at bound
  exact ⟨bound.1.trans (by simp), bound.2⟩

theorem monthOf_le (y d : Nat) : (monthOf y d).1 ≤ 12 ∧ (monthOf y d).2 ≤ d := by
  have bound := countedOff _ (fun a _ => takesFrom (monthDays y a.1 ≤ a.2) a (monthDays y a.1)) (List.range 11) (1, d)
  rw [List.length_range] at bound
  exact ⟨bound.1.trans (by simp), bound.2⟩

theorem calDateOf_lt {n : Nat} (h : n < 2 ^ 32) : calDateOf n < 2 ^ 32 := by
  obtain ⟨year, day⟩ := yearOf_le (n / 86400)
  obtain ⟨month, left⟩ := monthOf_le (yearOf (n / 86400)).1 (yearOf (n / 86400)).2
  unfold calDateOf
  dsimp only
  omega

/-! ### The three views -/

/-- The registers that show the time. -/
def timeFields : List (Nat × Fld) := [(Pg.RTC, Reg.RTC.TIME_SEC), (Pg.RTC, Reg.RTC.CAL_TIME), (Pg.RTC, Reg.RTC.CAL_DATE)]

/-- What setting the time leaves. -/
structure TimeSet (s t : State) (n : Nat) : Prop where
  sec : t.get Pg.RTC Reg.RTC.TIME_SEC = n
  time : t.get Pg.RTC Reg.RTC.CAL_TIME = calTimeOf n
  date : t.get Pg.RTC Reg.RTC.CAL_DATE = calDateOf n
  bits : onlyBits s t timeFields []
  regs : onlyRegs s t

theorem setTime_spec (s : State) {n : Nat} (h : n < 2 ^ 32) : TimeSet s (setTime s n) n where
  sec := by
    unfold setTime
    refine (State.get_put_ne _ _ (by decide)).trans ((State.get_put_ne _ _ (by decide)).trans ?_)
    exact (State.get_put_same _ _ _ _ (by decide) (by decide)).trans (Nat.mod_eq_of_lt h)
  time := by
    unfold setTime
    refine (State.get_put_ne _ _ (by decide)).trans ?_
    exact (State.get_put_same _ _ _ _ (by decide) (by decide)).trans (Nat.mod_eq_of_lt (calTimeOf_lt n))
  date := by
    unfold setTime
    exact (State.get_put_same _ _ _ _ (by decide) (by decide)).trans (Nat.mod_eq_of_lt (calDateOf_lt h))
  bits := by
    unfold setTime
    exact (((onlyBits.refl s).put (covers_of_mem (.head _) rfl (by decide) le_rfl le_rfl)).put
      (covers_of_mem (.tail _ (.head _)) rfl (by decide) le_rfl le_rfl)).put
      (covers_of_mem (.tail _ (.tail _ (.head _))) rfl (by decide) le_rfl le_rfl)
  regs := onlyRegs.put (.put (.put rfl))

/-! ### A second -/

/-- What a second of the oscillator moves beside the time, taken from another state. -/
def secondOf (s t : State) : State :=
  { t with
    regs := s.regs
    rtc := { t.rtc with
      secUs := s.rtc.secUs, stood := s.rtc.stood, trim := s.rtc.trim, cycle := s.rtc.cycle, nextTrim := s.rtc.nextTrim
      crystalStopped := s.rtc.crystalStopped } }

/-- The oscillator's second anew, with its place in the trim period and its trim. -/
def anew (s : State) (cycle trim : Nat) : State :=
  { s with rtc := { s.rtc with cycle := cycle, trim := trim, nextTrim := none, secUs := s.rcUs, stood := none, crystalStopped := false } }

theorem anew_spec (s : State) (cycle trim : Nat) : (anew s cycle trim).rtc.secUs = s.rcUs ∧ (anew s cycle trim).rtc.stood = none ∧
    (anew s cycle trim).regs = s.regs ∧ ∀ u, secondOf u (anew s cycle trim) = secondOf u s := ⟨rfl, rfl, rfl, fun _ => rfl⟩

/-- A second begun. -/
def secondBegun (s : State) : State :=
  anew s ((s.rtc.cycle + secondLength s) % trimPeriod) (if s.rtc.cycle + secondLength s < trimPeriod then s.rtc.trim else nextCode s)

/-- The armed alarm fires where it matches the time. -/
def rung (s : State) : State :=
  if s.flag Pg.RTC Reg.RTC.ALARM_CTRL_ARM ∧ s.get Pg.RTC Reg.RTC.ALARM = s.rtcSec then alarmFire s false else s

/-- R408: a second within the range of TIME_SEC. -/
theorem rtcTick_eq (h : s.rtcSec + 1 < 2 ^ 32) : rtcTick s = rung (setTime (secondBegun s) (s.rtcSec + 1)) := by
  unfold rtcTick
  extract_lets n v r w x
  have begun : w = secondBegun s := rfl
  have now : x = setTime w n := if_pos h
  rw [← begun, ← now]
  rfl

end Sys2Proof.Machine

end
section
/-! PROOF. O50: the second, the alarm, the crystal's stop and the backup domain's supply (R405 to R410, R413). -/

namespace Sys2Proof.Machine

variable {s t u v : State}

/-! ### The oscillator measured -/

/-- R408: in FULL the RC oscillator's measured frequency is shown. -/
def khzShown (s : State) (khz : Nat) : State := if s.full then s.put Pg.CLOCK Reg.CLOCK.RC_MEAS_KHZ (satNat 16 khz) else s

/-- The register that shows it. -/
def khzFields (s : State) : List (Nat × Fld) := if s.full then [(Pg.CLOCK, Reg.CLOCK.RC_MEAS_KHZ)] else []

structure KhzShown (s t : State) (khz : Nat) : Prop where
  regs : onlyRegs s t
  bits : onlyBits s t (khzFields s) []
  shown : s.full = true → t.get Pg.CLOCK Reg.CLOCK.RC_MEAS_KHZ = min khz 65535
  sec : t.rtcSec = s.rtcSec
  armed : t.flag Pg.RTC Reg.RTC.ALARM_CTRL_ARM = s.flag Pg.RTC Reg.RTC.ALARM_CTRL_ARM
  alarm : t.get Pg.RTC Reg.RTC.ALARM = s.get Pg.RTC Reg.RTC.ALARM

theorem khzShown_spec (s : State) (khz : Nat) : KhzShown s (khzShown s khz) khz := by
  unfold khzShown
  split
  case isTrue full =>
    have bits : onlyBits s (s.put Pg.CLOCK Reg.CLOCK.RC_MEAS_KHZ (satNat 16 khz)) [(Pg.CLOCK, Reg.CLOCK.RC_MEAS_KHZ)] [] :=
      (onlyBits.refl s).put (covers_of_mem (.head _) rfl (by decide) le_rfl le_rfl)
    refine ⟨onlyRegs.put rfl, by rw [khzFields, if_pos full]; exact bits, fun _ => ?_, bits.get_apart (by decide) (by decide) (by decide) (by decide),
      bits.flag_apart (by decide) (by decide) (by decide) (by decide), bits.get_apart (by decide) (by decide) (by decide) (by decide)⟩
    rw [State.get_put_same _ _ _ _ (by decide) (by decide)]
    show satNat 16 khz % 65536 = _
    unfold satNat
    split <;> omega
  case isFalse out => exact ⟨rfl, onlyBits.refl s, fun full => absurd full out, rfl, rfl, rfl⟩

/-! ### The second -/

/-- R408: what a second sets, but for an alarm. -/
structure SecondPast (s t : State) (khz : Nat) : Prop where
  sec : t.get Pg.RTC Reg.RTC.TIME_SEC = s.rtcSec + 1
  time : t.get Pg.RTC Reg.RTC.CAL_TIME = calTimeOf (s.rtcSec + 1)
  date : t.get Pg.RTC Reg.RTC.CAL_DATE = calDateOf (s.rtcSec + 1)
  secUs : t.rtc.secUs = s.rcUs
  stood : t.rtc.stood = none
  shown : s.full = true → t.get Pg.CLOCK Reg.CLOCK.RC_MEAS_KHZ = min khz 65535
  bits : onlyBits s t (timeFields ++ khzFields s) []
  rest : secondOf s t = s
  armed : t.flag Pg.RTC Reg.RTC.ALARM_CTRL_ARM = s.flag Pg.RTC Reg.RTC.ALARM_CTRL_ARM
  alarm : t.get Pg.RTC Reg.RTC.ALARM = s.get Pg.RTC Reg.RTC.ALARM

/-- What begins a second moves no register. -/
structure Begun (s t : State) : Prop where
  secUs : t.rtc.secUs = s.rcUs
  stood : t.rtc.stood = none
  regs : t.regs = s.regs
  rest : ∀ u, secondOf u t = secondOf u s

theorem secondBegun_begun (s : State) : Begun s (secondBegun s) := by
  obtain ⟨secUs, stood, regs, rest⟩ := anew_spec s ((s.rtc.cycle + secondLength s) % trimPeriod)
    (if s.rtc.cycle + secondLength s < trimPeriod then s.rtc.trim else nextCode s)
  exact ⟨secUs, stood, regs, rest⟩

theorem Begun.secondPast {khz : Nat} (begun : Begun u v) (shown : KhzShown s u khz) (time : TimeSet v t (s.rtcSec + 1)) : SecondPast s t khz where
  sec := time.sec
  time := time.time
  date := time.date
  secUs := (congrArg RtcState.secUs (time.regs.field State.rtc)).trans (begun.secUs.trans (shown.regs.field State.rcUs))
  stood := (congrArg RtcState.stood (time.regs.field State.rtc)).trans begun.stood
  shown full := by
    rw [time.bits.get_apart (by decide) (by decide) (by decide) (by decide), get_of_regs begun.regs, shown.shown full]
  bits := by
    have before : onlyBits s v (khzFields s) [] := shown.bits.regs begun.regs
    exact (before.weaken (List.subset_append_right _ _) (List.Subset.refl _)).trans
      (time.bits.weaken (List.subset_append_left _ _) (List.Subset.refl _))
  rest := (time.regs.field (secondOf s)).trans ((begun.rest s).trans (shown.regs.field (secondOf s)))
  armed := (time.bits.flag_apart (by decide) (by decide) (by decide) (by decide)).trans ((flag_of_regs begun.regs).trans shown.armed)
  alarm := (time.bits.get_apart (by decide) (by decide) (by decide) (by decide)).trans ((get_of_regs begun.regs).trans shown.alarm)

/-- R408: the time a second later. -/
def secondShown (s : State) (khz : Nat) : State := setTime (secondBegun (khzShown s khz)) (s.rtcSec + 1)

theorem secondPast (khz : Nat) (small : s.rtcSec + 1 < 2 ^ 32) : SecondPast s (secondShown s khz) khz :=
  (secondBegun_begun _).secondPast (khzShown_spec s khz) (setTime_spec _ small)

theorem rtcTick_khzShown (khz : Nat) (small : s.rtcSec + 1 < 2 ^ 32) : rtcTick (khzShown s khz) = rung (secondShown s khz) := by
  have sec := (khzShown_spec s khz).sec
  rw [rtcTick_eq (by rw [sec]; exact small), sec]
  rfl

/-- What lies outside, and the log, where a second alone has passed. -/
theorem secondOf_parts (h : secondOf s t = s) : sameOuter s t ∧ t.log = s.log ∧ t.fault.logPending = s.fault.logPending :=
  ⟨⟨(congrArg State.pending h :), (congrArg State.powered h :), (congrArg State.otpA h :), (congrArg State.otpB h :)⟩, (congrArg State.log h :),
    (congrArg (fun x : State => x.fault.logPending) h :)⟩

/-- The second of a running RTC. -/
def secondTaken (khz : Nat) (s : State) : State := rtcTick (khzShown s khz)

theorem gives_second {khz : Nat} (alive : s.rtc.alive = true) (running : rtcHalted s = false) (small : s.rtcSec + 1 < 2 ^ 32)
    (quiet : s.flag Pg.RTC Reg.RTC.ALARM_CTRL_ARM = false ∨ s.get Pg.RTC Reg.RTC.ALARM ≠ s.rtcSec + 1) (room : logRoom s 0) {P : State → Prop}
    (p : ∀ t, SecondPast s t khz → P t) : gives (.rtcSecond khz) s P := by
  have past := secondPast khz small
  have tick := rtcTick_khzShown khz small
  generalize secondShown s khz = t at past tick
  have silent : rung t = t := by
    refine if_neg ?_
    rw [past.armed, past.alarm, State.rtcSec, past.sec]
    rintro ⟨armed, now⟩
    rcases quiet with off | other
    · rw [off] at armed
      cases armed
    · exact other now
  have ready : (s.rtc.alive && !rtcHalted s) = true := by rw [alive, running]; rfl
  obtain ⟨outer, log, pending⟩ := secondOf_parts past.rest
  exact gives_act (act := secondTaken khz) rfl ready (tick.trans silent) outer (room.same log pending) (p t past)

/-! ### The alarm -/

/-- Registers, the change log and the RTC's own state taken from another state. -/
def rtcOf (s t : State) : State := { t with regs := s.regs, log := s.log, rtc := s.rtc }

theorem rtcOf_second (h : secondOf s t = s) : rtcOf s t = s := (congrArg (rtcOf s) h :)

theorem rtcOf_trans (h : rtcOf s t = s) (g : rtcOf t u = t) : rtcOf s u = s := by
  have same : rtcOf s (rtcOf t u) = rtcOf s t := congrArg (rtcOf s) g
  exact same.trans h

theorem rtcOf_logged (h : rtcOf s t = s) : onlyLogged s { t with rtc := s.rtc } := h

theorem rtcOf_outer (h : rtcOf s t = s) : sameOuter s t :=
  ⟨(congrArg State.pending h :), (congrArg State.powered h :), (congrArg State.otpA h :), (congrArg State.otpB h :)⟩

/-- What the alarm moves. -/
def alarmFields : List (Nat × Fld) := [(Pg.RTC, Reg.RTC.ALARM_CTRL_ARM), (Pg.RTC, Reg.RTC.STATUS_ALARM_FIRED),
  (Pg.RTC, Reg.RTC.WAKE_CFG_STATE), (Pg.RTC, ⟨0x008, 0, 0, 0⟩), changeSeq Pg.RTC]

theorem wakeAssert_spec (s : State) : (wakeAssert s).flag Pg.RTC Reg.RTC.WAKE_CFG_STATE = true ∧ onlyBits s (wakeAssert s) [(Pg.RTC, Reg.RTC.WAKE_CFG_STATE)] [] ∧
    (∀ u, rtcOf u (wakeAssert s) = rtcOf u s) ∧ (∀ n, logRoom s n → logRoom (wakeAssert s) n) := by
  have put : (s.putb Pg.RTC Reg.RTC.WAKE_CFG_STATE true).flag Pg.RTC Reg.RTC.WAKE_CFG_STATE = true := State.flag_putb_same (s := s) _ _ _ rfl (by decide)
  have bits : onlyBits s (s.putb Pg.RTC Reg.RTC.WAKE_CFG_STATE true) [(Pg.RTC, Reg.RTC.WAKE_CFG_STATE)] [] :=
    (onlyBits.refl s).putb (covers_of_mem (.head _) rfl (by decide) le_rfl le_rfl)
  have same : (wakeAssert s).regs = (s.putb Pg.RTC Reg.RTC.WAKE_CFG_STATE true).regs := rfl
  exact ⟨(flag_of_regs same).trans put, bits.regs same, fun _ => rfl, fun _ room => room.same rfl rfl⟩

/-- R413: that the alarm has fired is shown. -/
def firedShown (s : State) : State := (s.putb Pg.RTC Reg.RTC.STATUS_ALARM_FIRED true).event Pg.RTC 0

theorem firedShown_spec (s : State) : (firedShown s).flag Pg.RTC Reg.RTC.STATUS_ALARM_FIRED = true ∧
    (firedShown s).get Pg.RTC ⟨0x008, 0, 0, 0⟩ = 1 ∧
    onlyBits s (firedShown s) [(Pg.RTC, Reg.RTC.STATUS_ALARM_FIRED), (Pg.RTC, ⟨0x008, 0, 0, 0⟩)] [] ∧ onlyRegs s (firedShown s) := by
  refine ⟨?_, get_event_same _ _ _ (by decide), ?_, onlyRegs.put (.put rfl)⟩
  · have put : (s.putb Pg.RTC Reg.RTC.STATUS_ALARM_FIRED true).flag Pg.RTC Reg.RTC.STATUS_ALARM_FIRED = true :=
      State.flag_putb_same (s := s) _ _ _ rfl (by decide)
    rw [State.flag] at put ⊢
    rw [firedShown, get_event_ne _ (by decide)]
    exact put
  · exact ((onlyBits.refl s).putb (covers_of_mem (.head _) rfl (by decide) le_rfl le_rfl)).event
      (covers_of_mem (.tail _ (.head _)) rfl (by decide) le_rfl le_rfl)

/-- R413: what an alarm that fires leaves. -/
structure AlarmFired (s t : State) : Prop where
  armed : t.flag Pg.RTC Reg.RTC.ALARM_CTRL_ARM = false
  fired : t.flag Pg.RTC Reg.RTC.STATUS_ALARM_FIRED = true
  event : t.get Pg.RTC ⟨0x008, 0, 0, 0⟩ = 1
  wake : s.flag Pg.RTC Reg.RTC.WAKE_CFG_EN = true → t.flag Pg.RTC Reg.RTC.WAKE_CFG_STATE = true
  bits : onlyBits s t alarmFields [Pg.CHANGELOG]
  rest : rtcOf s t = s
  room : logRoom t 0

theorem alarmFire_eq (s : State) : alarmFire s false =
    if (firedShown (putLogged s Org.HW Pg.RTC Reg.RTC.ALARM_CTRL_ARM 0)).flag Pg.RTC Reg.RTC.WAKE_CFG_EN then
      wakeAssert (firedShown (putLogged s Org.HW Pg.RTC Reg.RTC.ALARM_CTRL_ARM 0))
    else firedShown (putLogged s Org.HW Pg.RTC Reg.RTC.ALARM_CTRL_ARM 0) := rfl

theorem alarmFire_spec (room : logRoom s 1) : AlarmFired s (alarmFire s false) := by
  have left := putLogged_spec (s := s) (origin := Org.HW) (p := Pg.RTC) (f := Reg.RTC.ALARM_CTRL_ARM) (v := 0) room (by decide) (by decide)
    (by decide) (by decide) (by decide)
  have free : logRoom (putLogged s Org.HW Pg.RTC Reg.RTC.ALARM_CTRL_ARM 0) 0 := logRoom.putLogged room
  rw [alarmFire_eq]
  generalize putLogged s Org.HW Pg.RTC Reg.RTC.ALARM_CTRL_ARM 0 = u at left free
  obtain ⟨fired, event, shown, regs⟩ := firedShown_spec u
  have free' := regs.room free
  generalize firedShown u = v at fired event shown regs free'
  have off : v.flag Pg.RTC Reg.RTC.ALARM_CTRL_ARM = false := by
    rw [shown.flag_apart (by decide) (by decide) (by decide) (by decide), State.flag, left.get]
    rfl
  have bits : onlyBits s v alarmFields [Pg.CHANGELOG] :=
    (left.bits.weaken (by decide) (List.Subset.refl _)).trans (shown.weaken (by decide) (by decide))
  have rest : rtcOf s v = s := (regs.field (rtcOf s)).trans (left.rest.field (rtcOf s))
  have en : v.flag Pg.RTC Reg.RTC.WAKE_CFG_EN = s.flag Pg.RTC Reg.RTC.WAKE_CFG_EN := bits.flag_apart (by decide) (by decide) (by decide) (by decide)
  obtain ⟨state, moved, beside, kept⟩ := wakeAssert_spec v
  split
  case isTrue =>
    exact ⟨(moved.flag_apart (by decide) (by decide) (by decide) (by decide)).trans off,
      (moved.flag_apart (by decide) (by decide) (by decide) (by decide)).trans fired,
      (moved.get_apart (by decide) (by decide) (by decide) (by decide)).trans event, fun _ => state,
      bits.trans (moved.weaken (by decide) (by decide)), (beside s).trans rest, kept 0 free'⟩
  case isFalse no => exact ⟨off, fired, event, fun h => absurd (en.trans h) no, bits, rest, free'⟩

/-- R413: the second at which the armed alarm fires. -/
theorem gives_alarm {khz : Nat} (alive : s.rtc.alive = true) (running : rtcHalted s = false) (small : s.rtcSec + 1 < 2 ^ 32)
    (armed : s.flag Pg.RTC Reg.RTC.ALARM_CTRL_ARM = true) (now : s.get Pg.RTC Reg.RTC.ALARM = s.rtcSec + 1) (out : s.full = false) (room : logRoom s 1) :
    gives (.rtcSecond khz) s fun t => t.get Pg.RTC Reg.RTC.TIME_SEC = s.rtcSec + 1 ∧ t.flag Pg.RTC Reg.RTC.ALARM_CTRL_ARM = false ∧
      t.flag Pg.RTC Reg.RTC.STATUS_ALARM_FIRED = true ∧ t.get Pg.RTC ⟨0x008, 0, 0, 0⟩ = 1 ∧
      (s.flag Pg.RTC Reg.RTC.WAKE_CFG_EN = true → t.flag Pg.RTC Reg.RTC.WAKE_CFG_STATE = true) ∧
      onlyBits s t [(Pg.RTC, Reg.RTC.TIME_SEC), (Pg.RTC, Reg.RTC.CAL_TIME), (Pg.RTC, Reg.RTC.CAL_DATE), (Pg.RTC,
        Reg.RTC.ALARM_CTRL_ARM), (Pg.RTC, Reg.RTC.STATUS_ALARM_FIRED), (Pg.RTC, Reg.RTC.WAKE_CFG_STATE), (Pg.RTC,
        ⟨0x008, 0, 0, 0⟩), changeSeq Pg.RTC] [Pg.CHANGELOG] ∧ onlyLogged s { t with rtc := s.rtc } := by
  have past := secondPast khz small
  have tick := rtcTick_khzShown khz small
  generalize secondShown s khz = u at past tick
  obtain ⟨outer, log, pending⟩ := secondOf_parts past.rest
  have fired := alarmFire_spec (s := u) (room.same log pending)
  have rings : rung u = alarmFire u false := if_pos ⟨past.armed.trans armed, past.alarm.trans (now.trans past.sec.symm)⟩
  rw [rings] at tick
  generalize alarmFire u false = t at fired tick
  have bits : onlyBits s u timeFields [] := by
    have bits := past.bits
    rw [khzFields, out, if_neg (by decide), List.append_nil] at bits
    exact bits
  have en : u.flag Pg.RTC Reg.RTC.WAKE_CFG_EN = s.flag Pg.RTC Reg.RTC.WAKE_CFG_EN := bits.flag_apart (by decide) (by decide) (by decide) (by decide)
  have rest := rtcOf_trans (rtcOf_second past.rest) fired.rest
  have ready : (s.rtc.alive && !rtcHalted s) = true := by rw [alive, running]; rfl
  refine gives_act (act := secondTaken khz) rfl ready tick (outer.trans (rtcOf_outer fired.rest)) fired.room
    ⟨?_, fired.armed, fired.fired, fired.event, fun h => fired.wake (en.trans h), ?_, rtcOf_logged rest⟩
  · exact (fired.bits.get_apart (by decide) (by decide) (by decide) (by decide)).trans past.sec
  · exact (bits.weaken (by decide) (by decide)).trans (fired.bits.weaken (by decide) (List.Subset.refl _))

/-! ### The crystal's stop -/

/-- What the crystal's stop moves beside registers, taken from another state. -/
def stopOf (s t : State) : State :=
  { t with
    regs := s.regs
    rtc := { t.rtc with stood := s.rtc.stood, crystalStopped := s.rtc.crystalStopped, written := s.rtc.written } }

/-- R410: the time stands, and is lost. -/
def timeLost (s : State) (x : Nat) : State :=
  { s with rtc := { s.rtc with stood := some x, crystalStopped := true, written := false } }

/-- R410: a stopped crystal shown and counted. -/
def stopShown (s : State) : State :=
  ((s.putb Pg.RTC Reg.RTC.STATUS_OSF true).bump Pg.RTC Reg.RTC.OSC_STOPS).event Pg.RTC 2

/-- The crystal stops. -/
def crystalStopped (s : State) : State :=
  ((osfSet { s with rtc := { s.rtc with stood := some (subsec s), crystalStopped := true } }).bump Pg.RTC Reg.RTC.OSC_STOPS).event Pg.RTC 2

theorem crystalStopped_eq (s : State) : crystalStopped s = stopShown (timeLost s (subsec s)) := rfl

theorem stopShown_spec (s : State) : (stopShown s).flag Pg.RTC Reg.RTC.STATUS_OSF = true ∧
    (stopShown s).get Pg.RTC Reg.RTC.OSC_STOPS = min (2 ^ 32 - 1) (s.get Pg.RTC Reg.RTC.OSC_STOPS + 1) ∧
    (stopShown s).get Pg.RTC ⟨0x008, 2, 2, 0⟩ = 1 ∧
    onlyBits s (stopShown s) [(Pg.RTC, Reg.RTC.STATUS_OSF), (Pg.RTC, Reg.RTC.OSC_STOPS), (Pg.RTC, ⟨0x008, 2, 2, 0⟩)] [] ∧ onlyRegs s (stopShown s) := by
  have osf : (s.putb Pg.RTC Reg.RTC.STATUS_OSF true).flag Pg.RTC Reg.RTC.STATUS_OSF = true := State.flag_putb_same (s := s) _ _ _ rfl (by decide)
  have first : onlyBits s (s.putb Pg.RTC Reg.RTC.STATUS_OSF true)
      [(Pg.RTC, Reg.RTC.STATUS_OSF), (Pg.RTC, Reg.RTC.OSC_STOPS), (Pg.RTC, ⟨0x008, 2, 2, 0⟩)] [] :=
    (onlyBits.refl s).putb (covers_of_mem (.head _) rfl (by decide) le_rfl le_rfl)
  have count : (s.putb Pg.RTC Reg.RTC.STATUS_OSF true).get Pg.RTC Reg.RTC.OSC_STOPS = s.get Pg.RTC Reg.RTC.OSC_STOPS := State.get_put_ne _ _ (by decide)
  have regs : onlyRegs s (s.putb Pg.RTC Reg.RTC.STATUS_OSF true) := .put rfl
  unfold stopShown
  generalize s.putb Pg.RTC Reg.RTC.STATUS_OSF true = v at osf first count regs
  refine ⟨?_, ?_, get_event_same _ _ _ (by decide), ?_, .put (.put regs)⟩
  · rw [State.flag] at osf ⊢
    rw [get_event_ne _ (by decide), get_bump_ne _ (by decide)]
    exact osf
  · rw [get_event_ne _ (by decide), get_bump_word, count]
  · exact (first.bump (covers_of_mem (.tail _ (.head _)) rfl (by decide) le_rfl le_rfl)).event
      (covers_of_mem (.tail _ (.tail _ (.head _))) rfl (by decide) le_rfl le_rfl)

theorem onlyRegs.stopOf (s : State) (h : onlyRegs t u) : stopOf s u = Machine.stopOf s t := h.field (Machine.stopOf s)

theorem stopOf_parts (h : stopOf s t = s) : sameOuter s t ∧ t.log = s.log ∧ t.fault.logPending = s.fault.logPending :=
  ⟨⟨(congrArg State.pending h :), (congrArg State.powered h :), (congrArg State.otpA h :), (congrArg State.otpB h :)⟩, (congrArg State.log h :),
    (congrArg (fun x : State => x.fault.logPending) h :)⟩

theorem exec_crystalStop (s : State) : exec .crystalStop s = takes s s.rtc.alive crystalStopped := rfl

theorem gives_crystalStop (alive : s.rtc.alive = true) (room : logRoom s 0) :
    gives .crystalStop s fun t => t.flag Pg.RTC Reg.RTC.STATUS_OSF = true ∧
      t.get Pg.RTC Reg.RTC.OSC_STOPS = min (2 ^ 32 - 1) (s.get Pg.RTC Reg.RTC.OSC_STOPS + 1) ∧
      t.get Pg.RTC ⟨0x008, 2, 2, 0⟩ = 1 ∧ t.rtc.stood = some (subsec s) ∧ t.rtc.crystalStopped = true ∧ t.rtc.written = false ∧
      onlyBits s t [(Pg.RTC, Reg.RTC.STATUS_OSF), (Pg.RTC, Reg.RTC.OSC_STOPS), (Pg.RTC, ⟨0x008, 2, 2, 0⟩)] [] ∧ stopOf s t = s := by
  have act := crystalStopped_eq s
  generalize subsec s = x at act
  have lost : (timeLost s x).regs = s.regs ∧ (timeLost s x).rtc.stood = some x ∧ (timeLost s x).rtc.crystalStopped = true ∧
      (timeLost s x).rtc.written = false ∧ stopOf s (timeLost s x) = s := ⟨rfl, rfl, rfl, rfl, rfl⟩
  generalize timeLost s x = v at lost act
  obtain ⟨same, stood, stopped, written, rest⟩ := lost
  obtain ⟨osf, count, event, bits, regs⟩ := stopShown_spec v
  generalize stopShown v = t at act osf count event bits regs
  have rtc : t.rtc = v.rtc := regs.field State.rtc
  have whole := (regs.stopOf s).trans rest
  obtain ⟨outer, log, pending⟩ := stopOf_parts whole
  have shown : onlyBits s v [(Pg.RTC, Reg.RTC.STATUS_OSF), (Pg.RTC, Reg.RTC.OSC_STOPS), (Pg.RTC, ⟨0x008, 2, 2, 0⟩)] [] := (onlyBits.refl s).regs same
  exact gives_act (exec_crystalStop s) alive act outer (room.same log pending)
    ⟨osf, by rw [count, get_of_regs same], event, by rw [rtc, stood], by rw [rtc, stopped], by rw [rtc, written], shown.trans bits, whole⟩

/-! ### The backup domain's supply -/

theorem get_filter_dropped {d : Word} {keep : Nat → Bool} {a : Nat} {l : Table Word} (h : keep a = false) :
    Table.get d (l.filter (fun e => keep e.1)) a = d := by
  induction l with
  | nil => rfl
  | cons e l ih =>
    rw [List.filter_cons]
    split
    case isTrue kept =>
      have other : e.1 ≠ a := fun same => by rw [same, h] at kept; cases kept
      simp only [Table.get, if_neg other]
      exact ih
    case isFalse => exact ih

/-- R405: a register of the backup domain at its first-use state. -/
theorem rd_rtcPowerOn_first (s : State) {off : Nat} (h : 0x040 ≤ off ∧ off < 0x400) :
    (rtcPowerOn s).rd (Pg.RTC * 0x400 + off) = resetWord (Pg.RTC * 0x400 + off) := by
  refine get_filter_dropped (keep := fun b => !(decide (b / 0x400 = Pg.RTC) && decide (0x040 ≤ b % 0x400))) ?_
  have page : (Pg.RTC * 0x400 + off) / 0x400 = Pg.RTC := pageAddr_div _ h.2
  have inside : (Pg.RTC * 0x400 + off) % 0x400 = off := pageAddr_mod _ h.2
  simp [page, inside, h.1]

theorem get_rtcPowerOn_first (s : State) {f : Fld} (h : 0x040 ≤ f.off ∧ f.off < 0x400) :
    (rtcPowerOn s).get Pg.RTC f = bitsOf (resetWord (Pg.RTC * 0x400 + f.off)).toNat f.hi f.lo := by
  rw [State.get, addrOf, rd_rtcPowerOn_first s h]

theorem onlyBits_rtcPowerOn (s : State) : onlyBits s (rtcPowerOn s) [] [Pg.RTC] := by
  intro a k page _
  rw [rd_rtcPowerOn]
  intro here
  simp [here] at page

/-- Registers, the latched words and the RTC's own state taken from another state. -/
def domainOf (s t : State) : State := { t with regs := s.regs, snaps := s.snaps, rtc := s.rtc }

theorem domainOf_parts (h : domainOf s t = s) : sameOuter s t ∧ t.log = s.log ∧ t.fault.logPending = s.fault.logPending :=
  ⟨⟨(congrArg State.pending h :), (congrArg State.powered h :), (congrArg State.otpA h :), (congrArg State.otpB h :)⟩, (congrArg State.log h :),
    (congrArg (fun x : State => x.fault.logPending) h :)⟩

/-- R405: the backup domain's supply without VSYS. -/
theorem gives_domainOn (dark : s.powered = false) (dead : s.rtc.alive = false) (room : logRoom s 0) :
    gives .backupDomainPowerOn s fun t => t.rtc.alive = true ∧ t.flag Pg.RTC Reg.RTC.STATUS_OSF = true ∧
      t.flag Pg.RTC Reg.RTC.STATUS_ON_VBK = true ∧ t.get Pg.RTC Reg.RTC.TIME_SEC = 0 ∧ onlyBits s t [] [Pg.RTC] ∧ domainOf s t = s := by
  have osf : (rtcPowerOn s).flag Pg.RTC Reg.RTC.STATUS_OSF = true := by
    rw [State.flag, get_rtcPowerOn_first s (by decide)]
    decide
  have sec : (rtcPowerOn s).get Pg.RTC Reg.RTC.TIME_SEC = 0 := by
    rw [get_rtcPowerOn_first s (by decide)]
    decide
  have alive : (rtcPowerOn s).rtc.alive = true := rfl
  have bits := onlyBits_rtcPowerOn s
  have rest : domainOf s (rtcPowerOn s) = s := rtcPowerOn_rest s
  have ready : (!s.powered && !s.rtc.alive) = true := by rw [dark, dead]; rfl
  have act : (fun s => (rtcPowerOn s).putb Pg.RTC Reg.RTC.STATUS_ON_VBK true) s = (rtcPowerOn s).putb Pg.RTC Reg.RTC.STATUS_ON_VBK true := rfl
  generalize rtcPowerOn s = v at osf sec alive bits rest act
  have whole : domainOf s (v.putb Pg.RTC Reg.RTC.STATUS_ON_VBK true) = s := rest
  obtain ⟨outer, log, pending⟩ := domainOf_parts whole
  have vbk : onlyBits v (v.putb Pg.RTC Reg.RTC.STATUS_ON_VBK true) [(Pg.RTC, Reg.RTC.STATUS_ON_VBK)] [] :=
    (onlyBits.refl v).putb (covers_of_mem (.head _) rfl (by decide) le_rfl le_rfl)
  refine gives_act (act := fun s => (rtcPowerOn s).putb Pg.RTC Reg.RTC.STATUS_ON_VBK true) rfl ready act outer (room.same log pending)
    ⟨alive, ?_, State.flag_putb_same (s := v) _ _ _ rfl (by decide), ?_, ?_, whole⟩
  · exact (vbk.flag_apart (by decide) (by decide) (by decide) (by decide)).trans osf
  · exact (vbk.get_apart (by decide) (by decide) (by decide) (by decide)).trans sec
  · exact bits.trans (vbk.ofPages (List.nil_subset _) fun e he => .inr (by rw [List.mem_singleton.mp he]; decide))

/-- The backup domain without supply. -/
def domainLost (s : State) : State := { (rtcPowerOn s) with rtc := { RtcState.init with alive := false } }

theorem gives_domainOff (dark : s.powered = false) (alive : s.rtc.alive = true) (room : logRoom s 0) :
    gives .backupDomainPowerLoss s fun t => t.rtc.alive = false ∧ t.flag Pg.RTC Reg.RTC.WAKE_CFG_STATE = false ∧
      t.flag Pg.RTC Reg.RTC.ALARM_CTRL_ARM = false ∧ onlyBits s t [] [Pg.RTC] ∧ domainOf s t = s := by
  have first (f : Fld) (h : 0x040 ≤ f.off ∧ f.off < 0x400) (clear : bitsOf (resetWord (Pg.RTC * 0x400 + f.off)).toNat f.hi f.lo = 0) :
      (rtcPowerOn s).flag Pg.RTC f = false := by
    rw [State.flag, get_rtcPowerOn_first s h, clear]
    rfl
  have wake := first Reg.RTC.WAKE_CFG_STATE (by decide) (by decide)
  have armed := first Reg.RTC.ALARM_CTRL_ARM (by decide) (by decide)
  have lost : (domainLost s).rtc.alive = false ∧ (domainLost s).regs = (rtcPowerOn s).regs ∧ domainOf s (domainLost s) = s := ⟨rfl, rfl, rtcPowerOn_rest s⟩
  have ready : (!s.powered && s.rtc.alive) = true := by rw [dark, alive]; rfl
  obtain ⟨dead, regs, rest⟩ := lost
  obtain ⟨outer, log, pending⟩ := domainOf_parts rest
  exact gives_act (act := domainLost) rfl ready rfl outer (room.same log pending)
    ⟨dead, (flag_of_regs regs).trans wake, (flag_of_regs regs).trans armed, (onlyBits_rtcPowerOn s).regs regs, rest⟩

end Sys2Proof.Machine

end
section
/-! PROOF. O50: HALT, the alarm's ARM and the time views written by the host (R407 to R409, R413). -/

namespace Sys2Proof.Machine

variable {s t u v : State} {off x y : Nat}

/-! ### A register of one bit -/

theorem rulePage_rtc (h : ¬ off < 0x040) : rulePage s (wrAt s Org.HOST .rtc Pg.RTC off x) = ruleRtc s (wrAt s Org.HOST .rtc Pg.RTC off x) :=
  if_neg (show ¬ (0x014 ≤ off ∧ off ≤ 0x01C) by omega)

theorem actPageWrite_rtc (h : ¬ off < 0x040) :
    actPageWrite u (wrAt s Org.HOST .rtc Pg.RTC off x) = actRtc u (wrAt s Org.HOST .rtc Pg.RTC off x) := if_neg h

/-- A field of the RTC page alone in its register, whose write acts even where it changes nothing. -/
theorem writeReg_rtcBit {f : Fld} {b : Bool} (reach : hostReach s Pg.RTC off) (one : f = ⟨off, 0, 0, 0⟩) (hoff : off = 0x040 ∨ off = 0x05C)
    (room : logRoom s 1) :
    ∃ u, writeReg s Org.HOST (Pg.RTC * 0x400 + off) (b2n b) = (actRtc u (wrAt s Org.HOST .rtc Pg.RTC off (b2n b)), .ok) ∧
      Stored s u Pg.RTC f (b2n b) ∧ u.held = s.held ∧ (wrAt s Org.HOST .rtc Pg.RTC off (b2n b)).now f = b2n b ∧
      (wrAt s Org.HOST .rtc Pg.RTC off (b2n b)).was f = s.get Pg.RTC f := by
  have small : b2n b < 2 := by cases b <;> decide
  have inPage : off < 0x400 ∧ off ≠ 0x020 ∧ off ≠ 0x024 ∧ ¬ off < 0x040 := by omega
  have map : kindFields .rtc off = [⟨0, 0, .rw, .c, 0, none⟩] ∧ readOnly .rtc Pg.RTC off (kindFields .rtc off) = false ∧
      asWritten .rtc off = true ∧ actsUnchanged .rtc off = true ∧ takesBoundary .rtc off = false ∧ takesCommonStart .rtc off = false ∧
      factoryField .rtc off = false ∧ off ≠ 0x048 ∧ off ≠ 0x050 ∧ off ≠ 0x054 ∧ off ≠ 0x064 ∧ off ≠ 0x068 := by
    rcases hoff with rfl | rfl <;> decide
  obtain ⟨fields, writable, plain, acts, boundary, start, factory, sec, time, date, trim, meas⟩ := map
  have comes := hostComes reach rfl ⟨by decide, inPage.1, inPage.2.1⟩ writable (v := b2n b) (by omega)
  have rule : rulePage s (wrAt s Org.HOST .rtc Pg.RTC off (b2n b)) = .take := by
    have here : ruleRtc s (wrAt s Org.HOST .rtc Pg.RTC off (b2n b)) = .take := by simp [ruleRtc, sec, time, date, trim, meas]
    rw [rulePage_rtc inPage.2.2.2, here]
  have low : bitsOf (b2n b) 0 0 = b2n b := by simp only [bitsOf]; omega
  have new : (wrAt s Org.HOST .rtc Pg.RTC off (b2n b)).new = withBits (s.rd (Pg.RTC * 0x400 + off)).toNat 0 0 (b2n b) := by
    refine (settled_asWritten (k := .rtc) (off := off) (page := Pg.RTC) plain (s.rd (Pg.RTC * 0x400 + off)).toNat _).trans ?_
    rw [fields, storedWord_single (.inl rfl), low]
  subst one
  have stored := comes.storeField (f := ⟨off, 0, 0, 0⟩) (x := b2n b) (mayWrite_host s _)
    (lockRefuses_of_no_rwl (by rw [fields]; decide) factory) (by decide) rule (by rw [fields]; rfl) rfl ⟨le_rfl, Nat.zero_lt_succ _⟩ new (by rw [fields]; decide)
    plain (by decide) inPage.2.2.1 room
  rcases stored with ⟨u, write, set, held⟩ | ⟨-, -, none, -⟩
  · refine ⟨u, ?_, set, held boundary start, ?_, rfl⟩
    · rw [write, actPageWrite_rtc inPage.2.2.2]
    · rw [Wr.now, new, bitsOf_withBits _ _ le_rfl]
      omega
  · rw [acts] at none
    cases none

/-! ### HALT -/

/-- The time standing at a count of cycles. -/
def stoodAt (s : State) (x : Option Nat) : State := { s with rtc := { s.rtc with stood := x } }

/-- R409: a running second counts the same wherever the trim is the same. -/
theorem subsec_running (stood : s.rtc.stood = none) (rtc : u.rtc = s.rtc) (us : u.rcUs = s.rcUs)
    (code : u.get Pg.RTC Reg.RTC.TRIM_CODE = s.get Pg.RTC Reg.RTC.TRIM_CODE) : subsec u = subsec s := by
  have cycles : crystalCycles u = crystalCycles s := by rw [crystalCycles, crystalCycles, rtc, us]
  have next : nextCode u = nextCode s := by rw [nextCode, nextCode, rtc, code]
  rw [subsec, subsec, rtc, stood]
  simp only [cycles, secondCycles, rtc, next]

theorem haltWritten_on (rtc : u.rtc = s.rtc) (us : u.rcUs = s.rcUs) (code : u.get Pg.RTC Reg.RTC.TRIM_CODE = s.get Pg.RTC Reg.RTC.TRIM_CODE) :
    haltWritten u (rtcHalted s) true = stoodAt u (some (subsec s)) := by
  have resumed (x : Nat) : resumedCycles u x = resumedCycles s x := by rw [resumedCycles, resumedCycles, rtc, us]
  unfold haltWritten
  cases stood : s.rtc.stood with
  | none =>
    have same := subsec_running stood rtc us code
    rw [if_pos rfl, rtc, stood]
    dsimp only
    rw [same, stoodAt, rtc]
  | some x =>
    have here : subsec s = x + if rtcHalted s = true then 0 else resumedCycles s x := by
      rw [subsec, stood]
      dsimp only
      split <;> rfl
    rw [if_pos rfl, rtc, stood, here]
    dsimp only
    rw [resumed, stoodAt, rtc]

/-- The oscillator's second anew after HALT. -/
def goneOn (s : State) (cycle trim : Nat) (stood : Option Nat) : State :=
  { s with rtc := { s.rtc with cycle := cycle, trim := trim, nextTrim := none, secUs := s.rcUs, stood := stood } }

theorem haltWritten_off (u : State) (was : Bool) : ∃ cycle trim, haltWritten u was false =
    goneOn u cycle trim (if u.rtc.crystalStopped then some 0 else none) := by
  unfold haltWritten
  rw [if_neg (by decide)]
  extract_lets stopped v
  exact ⟨_, _, rfl⟩

/-- Registers, the log, and what HALT moves of the RTC, taken from another state. -/
def haltOf (s t : State) : State := { t with regs := s.regs, log := s.log, rtc := { t.rtc with stood := s.rtc.stood } }

/-- The same with the oscillator's second and its trim. -/
def goneOf (s t : State) : State :=
  { t with
    regs := s.regs
    log := s.log
    rtc := { t.rtc with stood := s.rtc.stood, secUs := s.rtc.secUs, trim := s.rtc.trim, cycle := s.rtc.cycle, nextTrim := s.rtc.nextTrim } }

theorem haltOf_logged (h : onlyLogged s u) : haltOf s u = s := h.field (haltOf s)

theorem goneOf_logged (h : onlyLogged s u) : goneOf s u = s := h.field (goneOf s)

theorem actRtc_halt {b : Bool} : actRtc u (wrAt s Org.HOST .rtc Pg.RTC 0x040 (b2n b)) =
    haltWritten u (decide ((wrAt s Org.HOST .rtc Pg.RTC 0x040 (b2n b)).was Reg.RTC.CTRL_HALT = 1))
      (decide ((wrAt s Org.HOST .rtc Pg.RTC 0x040 (b2n b)).now Reg.RTC.CTRL_HALT = 1)) := by
  have here : (wrAt s Org.HOST .rtc Pg.RTC 0x040 (b2n b)).is Reg.RTC.CTRL = true := rfl
  rw [actRtc]
  exact if_pos here

/-- A host write of HALT: HALT is stored, and the time stands or goes on. -/
theorem writeReg_halt {b : Bool} (reach : hostReach s Pg.RTC 0x040) (room : logRoom s 1) :
    ∃ u, writeReg s Org.HOST (Pg.RTC * 0x400 + 0x040) (b2n b) = (haltWritten u (rtcHalted s) b, .ok) ∧
      Stored s u Pg.RTC Reg.RTC.CTRL_HALT (b2n b) ∧ onlyLogged s u := by
  obtain ⟨u, write, stored, held, now, was⟩ := writeReg_rtcBit (f := Reg.RTC.CTRL_HALT) (b := b) reach rfl (.inl rfl) room
  have asked : decide (b2n b = 1) = b := by cases b <;> rfl
  have halted : decide (s.get Pg.RTC Reg.RTC.CTRL_HALT = 1) = rtcHalted s := rfl
  rw [actRtc_halt, now, was, asked, halted] at write
  exact ⟨u, write, stored, stored.onlyLogged held⟩

theorem halted_of_stored {b : Bool} (h : Stored s u Pg.RTC Reg.RTC.CTRL_HALT (b2n b)) (same : t.regs = u.regs) : rtcHalted t = b := by
  rw [rtcHalted, flag_of_regs same, State.flag, h.get]
  cases b <;> rfl

/-- R409: HALT stops the time where it is. -/
theorem gives_halt (reach : hostReach s Pg.RTC 0x040) (room : logRoom s 1) :
    gives (.rtcHaltWrite .host true) s fun t => rtcHalted t = true ∧ t.rtc.stood = some (subsec s) ∧
      onlyBits s t [(Pg.RTC, Reg.RTC.CTRL_HALT), changeSeq Pg.RTC] [Pg.CHANGELOG] ∧ haltOf s t = s := by
  obtain ⟨u, write, stored, logged⟩ := writeReg_halt (b := true) reach room
  have code : u.get Pg.RTC Reg.RTC.TRIM_CODE = s.get Pg.RTC Reg.RTC.TRIM_CODE :=
    stored.bits.get_apart (by decide) (by decide) (by decide) (by decide)
  have rtc : u.rtc = s.rtc := logged.field State.rtc
  have us : u.rcUs = s.rcUs := logged.field State.rcUs
  rw [haltWritten_on rtc us code] at write
  have stands : (stoodAt u (some (subsec s))).regs = u.regs ∧ (stoodAt u (some (subsec s))).rtc.stood = some (subsec s) ∧
      haltOf s (stoodAt u (some (subsec s))) = haltOf s u ∧ sameOuter u (stoodAt u (some (subsec s))) ∧
      logRoom (stoodAt u (some (subsec s))) 0 := ⟨rfl, rfl, rfl, sameOuter.refl u, stored.room.same rfl rfl⟩
  generalize stoodAt u (some (subsec s)) = t at write stands
  obtain ⟨regs, stood, rest, outer, free⟩ := stands
  exact gives_hostWrite (b := true) rfl rfl write (stored.sameOuter.trans outer) free
    ⟨halted_of_stored stored regs, stood, stored.bits.regs regs, rest.trans (haltOf_logged logged)⟩

/-- R409: the time goes on. -/
theorem gives_resume (reach : hostReach s Pg.RTC 0x040) (room : logRoom s 1) :
    gives (.rtcHaltWrite .host false) s fun t => rtcHalted t = false ∧ t.rtc.stood = (if s.rtc.crystalStopped then some 0 else none) ∧
      t.rtc.secUs = s.rcUs ∧ onlyBits s t [(Pg.RTC, Reg.RTC.CTRL_HALT), changeSeq Pg.RTC] [Pg.CHANGELOG] ∧ goneOf s t = s := by
  obtain ⟨u, write, stored, logged⟩ := writeReg_halt (b := false) reach room
  obtain ⟨cycle, trim, goes⟩ := haltWritten_off u (rtcHalted s)
  have stopped : u.rtc.crystalStopped = s.rtc.crystalStopped := congrArg RtcState.crystalStopped (logged.field State.rtc)
  have us : u.rcUs = s.rcUs := logged.field State.rcUs
  rw [stopped] at goes
  rw [goes] at write
  generalize (if s.rtc.crystalStopped then some 0 else none : Option Nat) = x at write
  have on : (goneOn u cycle trim x).regs = u.regs ∧ (goneOn u cycle trim x).rtc.stood = x ∧ (goneOn u cycle trim x).rtc.secUs = u.rcUs ∧
      goneOf s (goneOn u cycle trim x) = goneOf s u ∧ sameOuter u (goneOn u cycle trim x) ∧ logRoom (goneOn u cycle trim x) 0 :=
    ⟨rfl, rfl, rfl, rfl, sameOuter.refl u, stored.room.same rfl rfl⟩
  generalize goneOn u cycle trim x = t at write on
  obtain ⟨regs, stood, secUs, rest, outer, free⟩ := on
  exact gives_hostWrite (b := true) rfl rfl write (stored.sameOuter.trans outer) free
    ⟨halted_of_stored stored regs, stood, secUs.trans us, stored.bits.regs regs, rest.trans (goneOf_logged logged)⟩

/-! ### ARM -/

theorem actRtc_arm {b : Bool} : actRtc u (wrAt s Org.HOST .rtc Pg.RTC 0x05C (b2n b)) = alarmCheck u := rfl

/-- R413: an alarm that is ahead does not fire when it is armed. -/
theorem gives_arm (reach : hostReach s Pg.RTC 0x05C) (ahead : s.rtcSec < s.get Pg.RTC Reg.RTC.ALARM) (room : logRoom s 1) :
    gives (.alarmArmWrite .host true) s fun t => t.flag Pg.RTC Reg.RTC.ALARM_CTRL_ARM = true ∧
      onlyBits s t [(Pg.RTC, Reg.RTC.ALARM_CTRL_ARM), changeSeq Pg.RTC] [Pg.CHANGELOG] ∧ onlyLogged s t := by
  obtain ⟨u, write, stored, held, -, -⟩ := writeReg_rtcBit (f := Reg.RTC.ALARM_CTRL_ARM) (b := true) reach rfl (.inr rfl) room
  have alarm : u.get Pg.RTC Reg.RTC.ALARM = s.get Pg.RTC Reg.RTC.ALARM := stored.bits.get_apart (by decide) (by decide) (by decide) (by decide)
  have sec : u.rtcSec = s.rtcSec := stored.bits.get_apart (by decide) (by decide) (by decide) (by decide)
  have armed : u.flag Pg.RTC Reg.RTC.ALARM_CTRL_ARM = true := by
    rw [State.flag, stored.get]
    rfl
  have quiet : alarmCheck u = u := by
    unfold alarmCheck
    dsimp only
    rw [alarm, sec, if_pos armed, if_neg (by omega), if_neg (by omega)]
  rw [actRtc_arm, quiet] at write
  exact gives_hostWrite (b := true) rfl rfl write stored.sameOuter stored.room ⟨armed, stored.bits, stored.onlyLogged held⟩

end Sys2Proof.Machine

end
section
/-! PROOF. O50: the time views written by the host, the read of TIME_SEC, and the statement (R405 to R414). -/

namespace Sys2Proof.Machine

variable {s t u v : State} {off x y : Nat}

/-! ### The second that a write names -/

/-- The offset of a time view. -/
def isTime (off : Nat) : Prop := off = 0x048 ∨ off = 0x050 ∨ off = 0x054

/-- A calendar of a second has its fields in their ranges. -/
theorem calSecond_ranges {date time : Nat} (h : calSecond date time = some x) :
    (bitsOf date 31 24 ≤ 136 ∧ 1 ≤ bitsOf date 19 16 ∧ bitsOf date 19 16 ≤ 12 ∧ 1 ≤ bitsOf date 12 8) ∧
      (bitsOf time 20 16 ≤ 23 ∧ bitsOf time 13 8 ≤ 59 ∧ bitsOf time 5 0 ≤ 59) ∧ x < 2 ^ 32 := by
  unfold calSecond at h
  dsimp only at h
  split at h
  · cases h
  · rename_i inside
    split at h
    · rename_i fits
      cases h
      exact ⟨by omega, by omega, fits⟩
    · cases h

theorem calSecond_congr {d d' m m' : Nat} (date : bitsOf d 31 24 = bitsOf d' 31 24 ∧ bitsOf d 19 16 = bitsOf d' 19 16 ∧ bitsOf d 12 8 = bitsOf d' 12 8)
    (time : bitsOf m 20 16 = bitsOf m' 20 16 ∧ bitsOf m 13 8 = bitsOf m' 13 8 ∧ bitsOf m 5 0 = bitsOf m' 5 0) : calSecond d m = calSecond d' m' := by
  unfold calSecond
  rw [date.1, date.2.1, date.2.2, time.1, time.2.1, time.2.2]

theorem kindFields_timeSec : kindFields .rtc 0x048 = [⟨31, 0, .rw, .c, 0, none⟩] := by decide

theorem kindFields_calTime : kindFields .rtc 0x050 =
    [⟨20, 16, .rw, .c, 0, some (0, 23)⟩, ⟨13, 8, .rw, .c, 0, some (0, 59)⟩, ⟨5, 0, .rw, .c, 0, some (0, 59)⟩] := by decide

theorem kindFields_calDate : kindFields .rtc 0x054 = [⟨31, 24, .rw, .c, 0, some (0, 136)⟩, ⟨19, 16, .rw, .c, 1, some (1, 12)⟩,
    ⟨12, 8, .rw, .c, 1, some (1, 31)⟩, ⟨2, 0, .ro, .v, 6, none⟩] := by decide

/-- What a time view's stored word is for the second that its write names. -/
structure Names (s : State) (off v x new : Nat) : Prop where
  same : rtcWriteSecond s off new = some x
  ranges : rangesOk (kindFields .rtc off) new = true
  small : x < 2 ^ 32

theorem withBits_whole {n old : Nat} (hold : old < 2 ^ 32) (hn : n < 2 ^ 32) : withBits old 31 0 n = n := by
  have word := bitsOf_withBits (hi := 31) (lo := 0) old n (by decide)
  have lt := withBits_lt (hi := 31) (lo := 0) n (by decide) (by decide) hold
  generalize withBits old 31 0 n = z at word lt
  simp only [bitsOf] at word
  omega

theorem storedWord_lt {fs : List FieldDef} {n old : Nat} (plain : plainFields fs = true) (hold : old < 2 ^ 32) (hn : n < 2 ^ 32) :
    storedWord fs old n < 2 ^ 32 := by
  refine Nat.lt_pow_two_of_testBit _ fun j hj => ?_
  rw [testBit_storedWord plain]
  split
  · exact Nat.testBit_lt_two_pow (hn.trans_le (Nat.pow_le_pow_right (by decide) hj))
  · exact Nat.testBit_lt_two_pow (hold.trans_le (Nat.pow_le_pow_right (by decide) hj))

theorem rtcWriteSecond_calTime (s : State) (n : Nat) : rtcWriteSecond s 0x050 n = calSecond (s.get Pg.RTC Reg.RTC.CAL_DATE) n := by
  rw [rtcWriteSecond, if_neg (by decide), if_pos rfl]

theorem rtcWriteSecond_calDate (s : State) (n : Nat) : rtcWriteSecond s 0x054 n = calSecond n (s.get Pg.RTC Reg.RTC.CAL_TIME) := by
  rw [rtcWriteSecond, if_neg (by decide), if_neg (by decide)]

theorem names_timeSec {n old : Nat} (hn : n < 2 ^ 32) (hold : old < 2 ^ 32) (h : rtcWriteSecond s 0x048 n = some x) :
    Names s 0x048 n x (storedWord (kindFields .rtc 0x048) old n) := by
  have whole : storedWord (kindFields .rtc 0x048) old n = n := by
    rw [kindFields_timeSec, storedWord_single (.inl rfl)]
    have all : bitsOf n 31 0 = n := by simp only [bitsOf]; omega
    exact (congrArg (withBits old 31 0) all).trans (withBits_whole hold hn)
  rw [whole]
  refine ⟨h, by rw [kindFields_timeSec]; rfl, ?_⟩
  have value : n % 2 ^ 32 = x := Option.some.inj h
  omega

theorem names_calTime {n : Nat} (old : Nat) (h : rtcWriteSecond s 0x050 n = some x) :
    Names s 0x050 n x (storedWord (kindFields .rtc 0x050) old n) := by
  have part (hi lo : Nat) (stored : storesField (kindFields .rtc 0x050) hi lo = true) (le : lo ≤ hi) :
      bitsOf (storedWord (kindFields .rtc 0x050) old n) hi lo = bitsOf n hi lo := bitsOf_storedWord (by decide) stored le old n
  have hour := part 20 16 (by decide) (by decide)
  have minute := part 13 8 (by decide) (by decide)
  have second := part 5 0 (by decide) (by decide)
  have named := (rtcWriteSecond_calTime s n).symm.trans h
  obtain ⟨-, inside, small⟩ := calSecond_ranges named
  refine ⟨(rtcWriteSecond_calTime s _).trans ((calSecond_congr ⟨rfl, rfl, rfl⟩ ⟨hour, minute, second⟩).trans named), ?_, small⟩
  generalize storedWord (kindFields .rtc 0x050) old n = new at hour minute second
  simp [rangesOk, kindFields_calTime, hour, minute, second, inside]

theorem names_calDate {n : Nat} (old : Nat) (h : rtcWriteSecond s 0x054 n = some x) :
    Names s 0x054 n x (storedWord (kindFields .rtc 0x054) old n) := by
  have part (hi lo : Nat) (stored : storesField (kindFields .rtc 0x054) hi lo = true) (le : lo ≤ hi) :
      bitsOf (storedWord (kindFields .rtc 0x054) old n) hi lo = bitsOf n hi lo := bitsOf_storedWord (by decide) stored le old n
  have year := part 31 24 (by decide) (by decide)
  have month := part 19 16 (by decide) (by decide)
  have day := part 12 8 (by decide) (by decide)
  have named := (rtcWriteSecond_calDate s n).symm.trans h
  obtain ⟨inside, -, small⟩ := calSecond_ranges named
  refine ⟨(rtcWriteSecond_calDate s _).trans ((calSecond_congr ⟨year, month, day⟩ ⟨rfl, rfl, rfl⟩).trans named), ?_, small⟩
  have top : bitsOf n 12 8 ≤ 31 := by simp only [bitsOf]; omega
  generalize storedWord (kindFields .rtc 0x054) old n = new at year month day
  simp [rangesOk, kindFields_calDate, year, month, day, inside, top]

theorem new_time (s : State) (n : Nat) (hoff : isTime off) :
    (wrAt s Org.HOST .rtc Pg.RTC off n).new = storedWord (kindFields .rtc off) (s.rd (Pg.RTC * 0x400 + off)).toNat n := by
  have plain : asWritten .rtc off = true := by rcases hoff with rfl | rfl | rfl <;> decide
  exact settled_asWritten (k := .rtc) (off := off) (page := Pg.RTC) plain (s.rd (Pg.RTC * 0x400 + off)).toNat _

theorem names_time {n : Nat} (hoff : isTime off) (hn : n < 2 ^ 32) (h : rtcWriteSecond s off n = some x) :
    Names s off n x (wrAt s Org.HOST .rtc Pg.RTC off n).new := by
  rw [new_time s n hoff]
  rcases hoff with rfl | rfl | rfl
  · exact names_timeSec hn (BitVec.isLt _) h
  · exact names_calTime _ h
  · exact names_calDate _ h

/-! ### A time view written -/

/-- R409: a write of the time notes that it was written. -/
def marked (s : State) : State := { s with rtc := { s.rtc with written := true } }

/-- What a write of the time does: the three views, the words latched anew, and the alarm. -/
def timeWritten (s : State) (n : Nat) : State :=
  alarmCheck (latchOffs (marked (setTime s n)) Org.HOST Pg.RTC (latches .rtc 0x048))

theorem actRtc_time {n : Nat} (hoff : isTime off) (h : rtcWriteSecond u off (wrAt s Org.HOST .rtc Pg.RTC off n).new = some x) :
    actRtc u (wrAt s Org.HOST .rtc Pg.RTC off n) = timeWritten u x := by
  have notCtrl : (wrAt s Org.HOST .rtc Pg.RTC off n).is Reg.RTC.CTRL = false := by rcases hoff with rfl | rfl | rfl <;> rfl
  have notTrim : (wrAt s Org.HOST .rtc Pg.RTC off n).is Reg.RTC.TRIM = false := by rcases hoff with rfl | rfl | rfl <;> rfl
  have time : ((wrAt s Org.HOST .rtc Pg.RTC off n).is Reg.RTC.TIME_SEC || (wrAt s Org.HOST .rtc Pg.RTC off n).is Reg.RTC.CAL_TIME ||
      (wrAt s Org.HOST .rtc Pg.RTC off n).is Reg.RTC.CAL_DATE) = true := by rcases hoff with rfl | rfl | rfl <;> rfl
  have here : rtcWriteSecond u (wrAt s Org.HOST .rtc Pg.RTC off n).off (wrAt s Org.HOST .rtc Pg.RTC off n).new = some x := h
  unfold actRtc
  rw [notCtrl, notTrim, time, here, if_neg Bool.false_ne_true, if_neg Bool.false_ne_true, if_pos rfl]
  dsimp only
  rw [wrAt_o]
  rfl

theorem ruleRtc_time {n : Nat} (hoff : isTime off) (halted : rtcHalted s = true)
    (h : rtcWriteSecond s off (wrAt s Org.HOST .rtc Pg.RTC off n).new = some x) : ruleRtc s (wrAt s Org.HOST .rtc Pg.RTC off n) = .take := by
  have time : ((wrAt s Org.HOST .rtc Pg.RTC off n).is Reg.RTC.TIME_SEC || (wrAt s Org.HOST .rtc Pg.RTC off n).is Reg.RTC.CAL_TIME ||
      (wrAt s Org.HOST .rtc Pg.RTC off n).is Reg.RTC.CAL_DATE) = true := by rcases hoff with rfl | rfl | rfl <;> rfl
  have here : rtcWriteSecond s (wrAt s Org.HOST .rtc Pg.RTC off n).off (wrAt s Org.HOST .rtc Pg.RTC off n).new = some x := h
  unfold ruleRtc
  rw [time, halted, here]
  rfl

/-- The second that a write names does not hang on the register written. -/
theorem rtcWriteSecond_stored {n : Nat} (hoff : isTime off) (bits : onlyBits s u [(Pg.RTC, ⟨off, 31, 0, 0⟩), changeSeq Pg.RTC] [Pg.CHANGELOG]) :
    rtcWriteSecond u off n = rtcWriteSecond s off n := by
  rcases hoff with rfl | rfl | rfl
  · rfl
  · rw [rtcWriteSecond_calTime, rtcWriteSecond_calTime, bits.get_apart (by decide) (by decide) (by decide) (by decide)]
  · rw [rtcWriteSecond_calDate, rtcWriteSecond_calDate, bits.get_apart (by decide) (by decide) (by decide) (by decide)]

theorem comes_time {n : Nat} (hoff : isTime off) (reach : hostReach s Pg.RTC off) (hn : n < 2 ^ 32) : Comes s Org.HOST .rtc Pg.RTC off n := by
  refine hostComes reach rfl ⟨by decide, ?_, ?_⟩ ?_ hn <;> rcases hoff with rfl | rfl | rfl <;> decide

theorem writeReg_time {n : Nat} (hoff : isTime off) (reach : hostReach s Pg.RTC off) (halted : rtcHalted s = true) (hn : n < 2 ^ 32)
    (named : rtcWriteSecond s off n = some x) (room : logRoom s 1) :
    ∃ u, writeReg s Org.HOST (Pg.RTC * 0x400 + off) n = (timeWritten u x, .ok) ∧
      onlyBits s u [(Pg.RTC, ⟨off, 31, 0, 0⟩), changeSeq Pg.RTC] [Pg.CHANGELOG] ∧ onlyLogged s u ∧ logRoom u 0 := by
  have names := names_time hoff hn named
  have inPage : off < 0x400 ∧ off ≠ 0x024 ∧ ¬ off < 0x040 := by rcases hoff with rfl | rfl | rfl <;> decide
  have map : (kindFields .rtc off).all (fun f => decide (f.acc ≠ .rwl)) = true ∧ factoryField .rtc off = false ∧
      (kindFields .rtc off).all (fun f => decide (f.acc ≠ .wo)) = true ∧ asWritten .rtc off = true ∧ actsUnchanged .rtc off = true ∧
      takesBoundary .rtc off = false ∧ takesCommonStart .rtc off = false := by rcases hoff with rfl | rfl | rfl <;> decide
  obtain ⟨open_, factory, noWo, plain, acts, boundary, start⟩ := map
  have rule : rulePage s (wrAt s Org.HOST .rtc Pg.RTC off n) = .take := by
    rw [rulePage_rtc inPage.2.2, ruleRtc_time hoff halted names.same]
  have whole : (wrAt s Org.HOST .rtc Pg.RTC off n).new =
      withBits (s.rd (Pg.RTC * 0x400 + off)).toNat 31 0 (wrAt s Org.HOST .rtc Pg.RTC off n).new := by
    have fields : plainFields (kindFields .rtc off) = true := by rcases hoff with rfl | rfl | rfl <;> decide
    rw [new_time s n hoff]
    exact (withBits_whole (BitVec.isLt _) (storedWord_lt fields (BitVec.isLt _) hn)).symm
  have stored := (comes_time hoff reach hn).storeField (f := ⟨off, 31, 0, 0⟩) (mayWrite_host s _) (lockRefuses_of_no_rwl open_ factory) (by decide)
    rule names.ranges rfl ⟨Nat.zero_le _, by show 31 < 32; decide⟩ whole noWo plain (by decide) inPage.2.1 room
  rcases stored with ⟨u, write, set, held⟩ | ⟨-, -, none, -⟩
  · refine ⟨u, ?_, set.bits, set.onlyLogged (held boundary start), set.room⟩
    rw [write, actPageWrite_rtc inPage.2.2, actRtc_time hoff ((rtcWriteSecond_stored hoff set.bits).trans names.same)]
  · rw [acts] at none
    cases none

/-- Registers, the log, the words latched and the mark of a write taken from another state. -/
def timeOf (s t : State) : State :=
  { t with regs := s.regs, log := s.log, snaps := s.snaps, rtc := { t.rtc with written := s.rtc.written } }

theorem timeOf_latched (h : { t with snaps := s.snaps } = s) (r : State) : timeOf r t = timeOf r s := (congrArg (timeOf r) h :)

theorem onlyRegs.timeOf (h : onlyRegs s t) (r : State) : Machine.timeOf r t = Machine.timeOf r s := h.field (Machine.timeOf r)

theorem marked_spec (s : State) : (marked s).regs = s.regs ∧ (marked s).rtc.written = true ∧ (∀ r, timeOf r (marked s) = timeOf r s) ∧
    sameOuter s (marked s) ∧ (logRoom s 0 → logRoom (marked s) 0) :=
  ⟨rfl, rfl, fun _ => rfl, ⟨rfl, rfl, rfl, rfl⟩, fun h => h.same rfl rfl⟩

/-- What a write of the time leaves, where no alarm is armed. -/
theorem timeWritten_spec (hx : x < 2 ^ 32) (unarmed : s.flag Pg.RTC Reg.RTC.ALARM_CTRL_ARM = false) :
    (timeWritten s x).get Pg.RTC Reg.RTC.TIME_SEC = x ∧ (timeWritten s x).get Pg.RTC Reg.RTC.CAL_TIME = calTimeOf x ∧
      (timeWritten s x).get Pg.RTC Reg.RTC.CAL_DATE = calDateOf x ∧ (timeWritten s x).rtc.written = true ∧
      onlyBits s (timeWritten s x) timeFields [] ∧ (∀ r, timeOf r (timeWritten s x) = timeOf r s) ∧ sameOuter s (timeWritten s x) ∧
      (logRoom s 0 → logRoom (timeWritten s x) 0) := by
  have set := setTime_spec s hx
  unfold timeWritten
  generalize setTime s x = a at set
  have noted := marked_spec a
  generalize marked a = b at noted
  obtain ⟨regs, written, beside, outer, room⟩ := noted
  have rest := latchOffs_rest b Org.HOST Pg.RTC (latches .rtc 0x048)
  generalize latchOffs b Org.HOST Pg.RTC (latches .rtc 0x048) = c at rest
  have same : c.regs = a.regs := (congrArg State.regs rest :).trans regs
  have off : c.flag Pg.RTC Reg.RTC.ALARM_CTRL_ARM = false :=
    (flag_of_regs same).trans ((set.bits.flag_apart (by decide) (by decide) (by decide) (by decide)).trans unarmed)
  have quiet : alarmCheck c = c := by
    unfold alarmCheck
    dsimp only
    rw [off]
    rfl
  rw [quiet]
  refine ⟨(get_of_regs same).trans set.sec, (get_of_regs same).trans set.time, (get_of_regs same).trans set.date, ?_, set.bits.regs same,
    fun r => (timeOf_latched rest r).trans ((beside r).trans (set.regs.timeOf r)), ?_, fun free => ?_⟩
  · exact (congrArg (fun y : State => y.rtc.written) rest :).trans written
  · exact (set.regs.sameOuter.trans outer).trans
      ⟨(congrArg State.pending rest :), (congrArg State.powered rest :), (congrArg State.otpA rest :), (congrArg State.otpB rest :)⟩
  · exact (room (set.regs.room free)).same (congrArg State.log rest :) (congrArg (fun y : State => y.fault.logPending) rest :)

/-- R409: a host write of a time view under HALT. -/
theorem gives_timeWrite {c : Instr} {n : Nat} (hx : exec c s = finish s (writeOf s .host Pg.RTC off n)) (hoff : isTime off)
    (reach : hostReach s Pg.RTC off) (halted : rtcHalted s = true) (hn : n < 2 ^ 32) (named : rtcWriteSecond s off n = some x)
    (unarmed : s.flag Pg.RTC Reg.RTC.ALARM_CTRL_ARM = false) (room : logRoom s 1) :
    gives c s fun t => t.get Pg.RTC Reg.RTC.TIME_SEC = x ∧ t.get Pg.RTC Reg.RTC.CAL_TIME = calTimeOf x ∧
      t.get Pg.RTC Reg.RTC.CAL_DATE = calDateOf x ∧ t.rtc.written = true ∧
      onlyBits s t [(Pg.RTC, Reg.RTC.TIME_SEC), (Pg.RTC, Reg.RTC.CAL_TIME), (Pg.RTC, Reg.RTC.CAL_DATE), changeSeq Pg.RTC] [Pg.CHANGELOG] ∧
      timeOf s t = s := by
  obtain ⟨u, write, stored, logged, free⟩ := writeReg_time hoff reach halted hn named room
  have armed : u.flag Pg.RTC Reg.RTC.ALARM_CTRL_ARM = false := by
    rw [← unarmed]
    rcases hoff with rfl | rfl | rfl <;> exact stored.flag_apart (by decide) (by decide) (by decide) (by decide)
  have own : onlyBits s u [(Pg.RTC, Reg.RTC.TIME_SEC), (Pg.RTC, Reg.RTC.CAL_TIME), (Pg.RTC, Reg.RTC.CAL_DATE), changeSeq Pg.RTC] [Pg.CHANGELOG] := by
    rcases hoff with rfl | rfl | rfl <;> exact stored.weaken (by decide) (List.Subset.refl _)
  obtain ⟨sec, time, date, written, bits, beside, outer, kept⟩ := timeWritten_spec (names_time hoff hn named).small armed
  generalize timeWritten u x = t at write sec time date written bits beside outer kept
  have rest : timeOf s u = s := logged.field (timeOf s)
  exact gives_hostWrite (b := true) hx rfl write (logged.sameOuter.trans outer) (kept free)
    ⟨sec, time, date, written, own.trans (bits.weaken (by decide) (by decide)), (beside s).trans rest⟩

end Sys2Proof.Machine

end
section
/-! PROOF. O50: a time view written without HALT, the read of TIME_SEC, and the statement (R405 to R414). -/

namespace Sys2Proof.Machine

variable {s t u v : State} {off n : Nat}

/-- What a refusal of a time view's write leaves, but for its mark. -/
structure RefusedTime (s t : State) : Prop where
  bits : onlyBits s t [(Pg.RTC, ⟨0x008, 3, 3, 0⟩)] [Pg.CHANGELOG]
  fill : t.log.fill = s.log.fill + 1
  rest : onlyLogged s t
  room : logRoom t 0

theorem refusedTime_refuseAll {far : Bool} (room : logRoom s 1) :
    RefusedTime s (refuseAll s (wrAt s Org.HOST .rtc Pg.RTC off n) (if far && !([] : List Nat).contains (rangeBit .rtc) then [] ++ [rangeBit .rtc] else [])) := by
  cases far with
  | true =>
    have refused := refused_refuseAll (w := wrAt s Org.HOST .rtc Pg.RTC off n) (bit := 3) room (by decide)
    exact ⟨refused.bits, refused.fill, refused.rest, refused.room⟩
  | false =>
    refine ⟨?_, fill_addEntry room, onlyLogged_addEntry room, room.addEntry⟩
    exact (onlyBits_addEntry room).ofPages (List.nil_subset _) fun e he => .inr (logFields_inLog e he)

theorem refusalEffect_time (hoff : isTime off) (running : rtcHalted u = false) :
    refusalEffect u (wrAt s Org.HOST .rtc Pg.RTC off n) = u.putb Pg.RTC Reg.RTC.STATUS_WRITE_REJECTED true := by
  have notMap : ¬ (0x014 ≤ (wrAt s Org.HOST .rtc Pg.RTC off n).off ∧ (wrAt s Org.HOST .rtc Pg.RTC off n).off ≤ 0x01C) := by
    rw [wrAt_off]
    rcases hoff with rfl | rfl | rfl <;> decide
  have time : (((wrAt s Org.HOST .rtc Pg.RTC off n).is Reg.RTC.TIME_SEC || (wrAt s Org.HOST .rtc Pg.RTC off n).is Reg.RTC.CAL_TIME ||
      (wrAt s Org.HOST .rtc Pg.RTC off n).is Reg.RTC.CAL_DATE) && !rtcHalted u) = true := by
    rw [running]
    rcases hoff with rfl | rfl | rfl <;> rfl
  rw [refusalEffect, if_neg notMap]
  exact if_pos time

theorem ruleRtc_running (hoff : isTime off) (running : rtcHalted s = false) : ruleRtc s (wrAt s Org.HOST .rtc Pg.RTC off n) = .refuse [] := by
  have time : ((wrAt s Org.HOST .rtc Pg.RTC off n).is Reg.RTC.TIME_SEC || (wrAt s Org.HOST .rtc Pg.RTC off n).is Reg.RTC.CAL_TIME ||
      (wrAt s Org.HOST .rtc Pg.RTC off n).is Reg.RTC.CAL_DATE) = true := by rcases hoff with rfl | rfl | rfl <;> rfl
  unfold ruleRtc
  rw [time, running]
  rfl

theorem rulesWrite_refuse {fs : List FieldDef} {w : Wr} {evs : List Nat} (rule : rulePage s w = .refuse evs) : rulesWrite s fs w =
    refused s w (if !rangesOk fs w.new && !evs.contains (rangeBit w.kind) then evs ++ [rangeBit w.kind] else evs) := by
  rw [rulesWrite, rule]

theorem refused_time {evs : List Nat} (hoff : isTime off) (running : rtcHalted s = false)
    (left : RefusedTime s (refuseAll s (wrAt s Org.HOST .rtc Pg.RTC off n) evs)) : refused s (wrAt s Org.HOST .rtc Pg.RTC off n) evs =
      ((refuseAll s (wrAt s Org.HOST .rtc Pg.RTC off n) evs).putb Pg.RTC Reg.RTC.STATUS_WRITE_REJECTED true, resOf evs) := by
  have halted : rtcHalted (refuseAll s (wrAt s Org.HOST .rtc Pg.RTC off n) evs) = false :=
    (left.bits.flag_apart (by decide) (by decide) (by decide) (by decide)).trans running
  rw [refused, refusalEffect_time hoff halted]

theorem writeReg_time_refused (hoff : isTime off) (reach : hostReach s Pg.RTC off) (running : rtcHalted s = false) (hn : n < 2 ^ 32) (room : logRoom s 1) :
    ∃ u r, writeReg s Org.HOST (Pg.RTC * 0x400 + off) n = (u.putb Pg.RTC Reg.RTC.STATUS_WRITE_REJECTED true, r) ∧ RefusedTime s u := by
  have factory : factoryField .rtc off = false ∧ (kindFields .rtc off).all (fun f => decide (f.acc ≠ .rwl)) = true ∧ ¬ off < 0x040 := by
    rcases hoff with rfl | rfl | rfl <;> decide
  obtain ⟨plain, noLock, above⟩ := factory
  have rule : rulePage s (wrAt s Org.HOST .rtc Pg.RTC off n) = .refuse [] := (rulePage_rtc above).trans (ruleRtc_running hoff running)
  have refused := refusedTime_refuseAll (off := off) (n := n) (far := !rangesOk (kindFields .rtc off) (wrAt s Org.HOST .rtc Pg.RTC off n).new) room
  have taken := (comes_time hoff reach hn).writeReg.trans
    (rightsWrite_rules (.inr (mayWrite_host s _)) (lockRefuses_of_no_rwl noLock plain) rfl)
  exact ⟨_, _, taken.trans ((rulesWrite_refuse rule).trans (refused_time hoff running refused)), refused⟩

/-- R409: a host write of a time view without HALT. -/
theorem gives_timeRefused {c : Instr} (hx : exec c s = finish s (writeOf s .host Pg.RTC off n)) (hoff : isTime off)
    (reach : hostReach s Pg.RTC off) (running : rtcHalted s = false) (hn : n < 2 ^ 32) (room : logRoom s 1) :
    gives c s fun t => t.flag Pg.RTC Reg.RTC.STATUS_WRITE_REJECTED = true ∧ t.log.fill = s.log.fill + 1 ∧
      onlyBits s t [(Pg.RTC, Reg.RTC.STATUS_WRITE_REJECTED), (Pg.RTC, ⟨0x008, 3, 3, 0⟩)] [Pg.CHANGELOG] ∧ onlyLogged s t := by
  obtain ⟨u, r, write, refused⟩ := writeReg_time_refused hoff reach running hn room
  have bits : onlyBits s u [(Pg.RTC, Reg.RTC.STATUS_WRITE_REJECTED), (Pg.RTC, ⟨0x008, 3, 3, 0⟩)] [Pg.CHANGELOG] :=
    refused.bits.weaken (List.subset_cons_self _ _) (List.Subset.refl _)
  exact gives_hostWrite (b := true) hx rfl write refused.rest.putb.sameOuter (logRoom.putb refused.room)
    ⟨State.flag_putb_same (s := u) _ _ _ rfl (by decide), refused.fill, bits.putb (covers_of_mem (.head _) rfl (by decide) le_rfl le_rfl),
      refused.rest.putb⟩

/-! ### The read of TIME_SEC -/

theorem latchesOnly_timeSec : LatchesOnly .rtc Pg.RTC 0x048 where
  kind := rfl
  inPage := by decide
  live := rfl
  plain := by decide
  noRc := by decide

theorem timeSec_block {j : Nat} (hj : j < 3) : 0x04C + 4 * j ∈ latches .rtc 0x048 := by
  have block : ∀ j < 3, 0x04C + 4 * j ∈ latches .rtc 0x048 := by decide
  exact block j hj

theorem gives_timeSecRead {o : Origin} (reach : reachable s (Pg.RTC * 0x400 + 0x048) = true) (live : originLive s o = true) (room : logRoom s 0) :
    gives (.timeSecRead o) s fun t => t.reply.data = [liveWord s (Pg.RTC * 0x400 + 0x048)] ∧
      (∀ j < 3, Table.get 0 t.snaps (snapKey (originCode o) (Pg.RTC * 0x400 + 0x04C + 4 * j)) = liveWord s (Pg.RTC * 0x400 + 0x04C + 4 * j)) ∧
      onlyBits s t [] [] ∧ { t with regs := s.regs, snaps := s.snaps, reply := s.reply } = s := by
  refine latchesOnly_timeSec.gives_read (q := o) (b := true) rfl rfl reach live room ⟨rfl, fun j hj => ?_, (onlyBits.refl s).regs rfl, rfl⟩
  rw [Nat.add_assoc]
  exact (get_latchOffs ..).trans (if_pos (timeSec_block hj))

end Sys2Proof.Machine

open Sys2Proof Sys2Proof.Machine

/-- Settles O50. -/
theorem theRtcKeepsTime : Obligations.TheRtcKeepsTime := by
  unfold Obligations.TheRtcKeepsTime
  refine ⟨fun s dark dead room => gives_domainOn dark dead room, fun s dark alive room => gives_domainOff dark alive room,
    fun s khz alive running small quiet room => ?_, fun s khz alive running small armed now out room => gives_alarm alive running small armed now out room,
    fun s reg n x reach unlocked halted hn named unarmed room => ?_, fun s reg n reach unlocked running hn room => ?_,
    fun s reach unlocked room => gives_halt reach room, fun s reach unlocked room => gives_resume reach room,
    fun s o reach live room => gives_timeSecRead reach live room, fun s alive room => gives_crystalStop alive room,
    fun s reach unlocked ahead room => gives_arm reach ahead room⟩
  · exact gives_second alive running small quiet room fun t past => ⟨past.sec, past.time, past.date, past.secUs, past.stood, past.shown, past.bits, past.rest⟩
  · cases reg with
    | timeSec => exact gives_timeWrite rfl (.inl rfl) reach halted hn named unarmed room
    | calTime => exact gives_timeWrite rfl (.inr (.inl rfl)) reach halted hn named unarmed room
    | calDate => exact gives_timeWrite rfl (.inr (.inr rfl)) reach halted hn named unarmed room
  · cases reg with
    | timeSec => exact gives_timeRefused rfl (.inl rfl) reach running hn room
    | calTime => exact gives_timeRefused rfl (.inr (.inl rfl)) reach running hn room
    | calDate => exact gives_timeRefused rfl (.inr (.inr rfl)) reach running hn room

end
section
/-! PROOF. O42: a message said leaves FAULT:EVENT bit 0 set, whatever it does beside (R337, R346). -/

namespace Sys2Proof.Machine

variable {s t u : State} {p k v : Nat} {f : Fld}

/-- FAULT:EVENT bit 0 is set: a message has been made. -/
def Said (t : State) : Prop := t.get Pg.FAULT ⟨0x008, 0, 0, 0⟩ = 1

/-- The field lies in no EVENT register. -/
abbrev BesideEvent (f : Fld) : Prop := f.off % 0x400 ≠ 0x008

namespace Said

theorem same (h : Said t) (e : u.regs = t.regs) : Said u := (get_of_regs e).trans h

theorem put (h : Said t) (c : BesideEvent f) : Said (t.put p f v) :=
  (t.get_put_ne v (by simp only [addrOf]; omega)).trans h

theorem putb {b : Bool} (h : Said t) (c : BesideEvent f) : Said (t.putb p f b) := h.put c

theorem putBit {b : Bool} (h : Said t) (c : BesideEvent f) : Said (t.putBit p f k b) := h.put (f := ⟨f.off, f.lo + k, f.lo + k, 0⟩) c

theorem bump (h : Said t) (c : BesideEvent f) : Said (t.bump p f) := h.put c

theorem bumpWrap (h : Said t) (c : BesideEvent f) : Said (t.bumpWrap p f) := h.put c

/-- Setting an event clears none. -/
theorem event (h : Said t) (hk : k < 32) : Said (t.event p k) := by
  by_cases here : addrOf Pg.FAULT ⟨0x008, 0, 0, 0⟩ = addrOf p ⟨0x008, k, k, 0⟩
  · have page : p = Pg.FAULT := by simp only [addrOf] at here; omega
    subst page
    by_cases first : k = 0
    · subst first
      exact get_event_same _ _ _ (by decide)
    · exact (t.get_put_field 1 here le_rfl hk (by decide) (.inl (Nat.pos_of_ne_zero first))).trans h
  · exact (t.get_put_ne 1 here).trans h

theorem ite {c : Prop} [Decidable c] {a b : State} (ha : Said a) (hb : Said b) : Said (if c then a else b) := by
  split
  · exact ha
  · exact hb

theorem foldl {α : Type} {step : State → α → State} {l : List α} (h : Said t) (H : ∀ u, ∀ x ∈ l, Said u → Said (step u x)) :
    Said (l.foldl step t) := by
  induction l generalizing t with
  | nil => exact h
  | cons x l ih => exact ih (H t x List.mem_cons_self h) fun u y hy => H u y (List.mem_cons_of_mem x hy)

/-! ### The change log -/

theorem logLoss (h : Said t) : Said (logLoss t) := by
  unfold Machine.logLoss
  exact .ite h (.same (h.event (by decide)) rfl)

theorem logStore {e : LogEntry} (h : Said t) : Said (logStore t e) := by
  unfold Machine.logStore
  exact .put (.same h rfl) (by decide)

theorem logRing {e : LogEntry} (h : Said t) : Said (logRing t e) := by
  have stored : Said (Machine.logStore t e) := h.logStore
  unfold Machine.logRing
  refine .ite (.ite (.event (.same stored rfl) (by decide)) (.same stored rfl)) (.ite ?_ (.logLoss (h.bump (by decide))))
  exact .logLoss (.bump (.put stored (by decide)) (by decide))

theorem collect {e : LogEntry} (h : Said t) : Said (collect t e) := by
  have dropped : Said ((t.bump Pg.CHANGELOG Reg.CHANGELOG.PERSIST_DROP).event Pg.CHANGELOG 1) := (h.bump (by decide)).event (by decide)
  unfold Machine.collect
  exact .ite (.same h rfl) (.ite dropped (.same (dropped.event (by decide)) rfl))

theorem addEntry {o off old new : Nat} {e : LogFlags} (h : Said t) : Said (addEntry t o p off old new e) := by
  unfold Machine.addEntry
  exact .ite (.collect (.bumpWrap (.logRing h) (by decide))) (.bumpWrap (.logRing h) (by decide))

theorem putLogged {o : Nat} (h : Said t) (c : BesideEvent f) : Said (putLogged t o p f v) := by
  unfold Machine.putLogged Machine.logChange
  exact .ite h (.bumpWrap (.addEntry (h.put c)) (by decide))

/-! ### Phases and channels that take SAFE -/

theorem phaseLow (h : Said t) : Said (phaseLow t p) := by
  unfold Machine.phaseLow
  exact .putb (.same h rfl) (by decide)

theorem phaseSafe (h : Said t) : Said (phaseSafe t p) := by
  unfold Machine.phaseSafe
  exact .ite (.phaseLow (.put (.event (.put (h.putb (by decide)) (by decide)) (by decide)) (by decide))) h.phaseLow

theorem setChan {c : Nat} {x : ChanState} (h : Said t) : Said (t.setChan c x) := h.same rfl

theorem isoLow {c : Nat} (h : Said t) : Said (isoLow t c) := by
  unfold Machine.isoLow
  exact .putb (.setChan h) (by decide)

theorem stageOff {c : Nat} (h : Said t) : Said (stageOff t c) := by
  unfold Machine.stageOff
  exact .setChan (.isoLow h.phaseLow.phaseLow)

theorem markEnd {c r x : Nat} (h : Said t) : Said (markEnd t c r x) := by
  unfold Machine.markEnd
  exact .setChan (.foldl h fun _ _ _ hu => (hu.put (by decide)).put (by decide))

theorem clearRunFlags {c : Nat} (h : Said t) : Said (clearRunFlags t c) := by
  unfold Machine.clearRunFlags
  exact .setChan (.put (.putb (.putb (.putb (.putb (.putb (.putb (.put h (by decide)) (by decide)) (by decide)) (by decide)) (by decide))
    (by decide)) (by decide)) (by decide))

theorem setCstate {c : Nat} (h : Said t) : Said (t.setCstate c v) := by
  unfold State.setCstate
  exact .ite h (.event (h.put (by decide)) (by decide))

theorem toSafe {c r x : Nat} (h : Said t) : Said (toSafe t c r x) := by
  unfold Machine.toSafe
  extract_lets l g w
  have low : Said w := .putLogged (.foldl h fun _ _ _ hu => hu.phaseSafe.phaseSafe.stageOff) (by decide)
  exact .clearRunFlags (.ite low.markEnd (.ite (.foldl low fun _ _ _ hu => hu.put (by decide)) low))

theorem chanSafe {c r x : Nat} (h : Said t) : Said (chanSafe t c r x) := by
  rw [chanSafe_eq]
  exact .ite h h.toSafe.setCstate

theorem safeChans {a : Nat} {l : List Nat} (h : Said t) : Said (safeChans t p k a l) := by
  unfold Machine.safeChans
  exact .foldl h fun _ _ _ hu => hu.chanSafe

theorem chipSafeWith {r x : Nat} (h : Said t) : Said (chipSafeWith t r x) := by
  have shown : Said ((t.putb Pg.FAULT Reg.FAULT.STATUS_CHIP_SAFE true).put Pg.FAULT Reg.FAULT.STATUS_BANK_SAFE 0xFF) :=
    (h.putb (by decide)).put (by decide)
  unfold Machine.chipSafeWith
  exact .ite (.foldl shown fun _ _ _ hu => hu.chanSafe) shown

theorem takeScope {a : Nat} {x : Scope} (h : Said t) : Said (takeScope t p k a x) := by
  cases x with
  | chan c => exact .ite h.safeChans h
  | bank b => exact .ite (h.putBit (by decide)).safeChans (h.putBit (by decide))
  | chip => exact .ite ((h.putb (by decide)).put (by decide)).safeChans ((h.putb (by decide)).put (by decide))

/-! ### FAULT_N and the captures -/

/-- A field of a capture is no EVENT bit. -/
theorem besideEvent_capture (hf : 0x100 ≤ f.off ∧ f.off < 0x110 ∧ f.stride = 0x10) (hk : k < 4) : BesideEvent (f.ix k) := by
  obtain ⟨low, high, stride⟩ := hf
  show (f.off + k * f.stride) % 0x400 ≠ 0x008
  rw [stride]
  omega

theorem capStore (h : Said t) (hk : k < 4) : Said (capStore t k) := by
  have overrun : BesideEvent (Reg.TIMER.CAP_CTRL_OVERRUN.ix k) := besideEvent_capture (by decide) hk
  have low : BesideEvent (Reg.TIMER.CAP_LO.ix k) := besideEvent_capture (by decide) hk
  have high : BesideEvent (Reg.TIMER.CAP_HI_TICK.ix k) := besideEvent_capture (by decide) hk
  have full : BesideEvent (Reg.TIMER.CAP_CTRL_FULL.ix k) := besideEvent_capture (by decide) hk
  unfold Machine.capStore
  exact .event (.putb (.put (.put (.ite (.event (h.putb overrun) (by omega)) h) low) high) full) (by omega)

theorem publishFaultN (h : Said t) : Said (publishFaultN t) := by
  have shown (b : Bool) : Said ((t.putb Pg.FAULT Reg.FAULT.STATUS_FAULT_N_IN b).putb Pg.CHIP Reg.CHIP.STATUS_FAULT_N_IN b) :=
    (h.putb (by decide)).putb (by decide)
  unfold Machine.publishFaultN Machine.captureSource
  exact .ite (.ite (.foldl (shown _) fun _ x hx hu => .ite (hu.capStore (List.mem_range.mp hx)) hu) (shown _)) (shown _)

theorem driveFaultN (h : Said t) : Said (driveFaultN t) := by
  unfold Machine.driveFaultN
  exact .ite h (.chipSafeWith (.publishFaultN (h.putb (by decide))))

/-! ### A message -/

theorem latch (h : Said t) : Said (t.latch k) := by
  have shown : Said (t.putBit Pg.TWOWIRE Reg.TWOWIRE.STATUS_LATCHED k true) := h.putBit (by decide)
  unfold State.latch
  exact .ite h (.ite (.same shown rfl) shown)

theorem enqueueMsg {m : Nat} (h : Said t) : Said (enqueueMsg t m) := by
  unfold Machine.enqueueMsg
  exact .ite (.same h rfl) (.event (h.bump (by decide)) (by decide))

theorem makeEntry {a : Nat} (h : Said t) : Said (makeEntry t p k a v) := by
  unfold Machine.makeEntry
  extract_lets key old x y u w
  have listed : Said u := .same h rfl
  have latched : Said w := .ite listed.latch listed
  exact .ite h (.ite (latched.event (by decide)) latched)

theorem queueCrier {m : Nat} (h : Said t) : Said (queueCrier t m) := by
  unfold Machine.queueCrier
  exact .ite (.ite (.same h rfl) (h.bump (by decide))) h

theorem startRecord {m : Nat} {i c : Bool} (h : Said t) : Said (startRecord t m i c) := by
  have busy : Said (t.putb Pg.FAULT Reg.FAULT.STATUS_REC_BUSY true) := h.putb (by decide)
  unfold Machine.startRecord
  exact .ite (h.bump (by decide)) (.ite (.same busy rfl) (.same busy rfl))

/-- Whatever stood before, a message made is shown. -/
theorem raiseScoped {a : Nat} {i : Bool} {sc : Option Scope} : Said (raiseScoped t p k a v i sc) := by
  unfold Machine.raiseScoped
  extract_lets +onlyGivenNames msg u1 u2 u3 u4 n u5 cr u6 u7
  have h2 : Said u2 := get_event_same _ _ _ (by decide)
  have h4 : Said u4 := .makeEntry (.enqueueMsg (.ite (h2.event (by decide)) h2))
  have h5 : Said u5 := .ite h4.queueCrier h4
  have h6 : Said u6 := .ite h5.startRecord h5
  have h7 : Said u7 := by
    cases sc with
    | none => exact h6
    | some x => exact h6.takeScope
  exact .ite h7.driveFaultN h7

theorem flushLog (h : Said t) : Said (flushLog t) := by
  unfold Machine.flushLog
  exact .foldl (.same h rfl) fun _ _ _ _ => raiseScoped

end Said

end Sys2Proof.Machine

end
section
/-! PROOF. O42: the keys of the factory test mode, an injected fault, and the end of test mode (R355 to R357). -/

namespace Sys2Proof.Machine

variable {s t u v : State} {n : Nat}

/-! ### The level of TESTMODE -/

/-- TESTMODE seen at a level. -/
def pinned (s : State) (b : Bool) : State := { s with fault := { s.fault with testPin := b } }

theorem reachable_pinned (s : State) (b : Bool) (a : Nat) : reachable (pinned s b) a = reachable s a := rfl

theorem keySeq_pinned (s : State) (b : Bool) (k : Nat) : keySeq (pinned s b) k = keySeq s k := rfl

theorem channelsIdle_pinned (s : State) (b : Bool) : channelsIdle (pinned s b) = channelsIdle s := rfl

theorem pinned_again (s : State) (b : Bool) : pinned (pinned s b) b = pinned s b := rfl

/-- What TESTMODE and the key sequences are, taken from another state beside registers and the log. -/
def testOf (s t : State) : State :=
  { t with regs := s.regs, log := s.log, keys := s.keys, fault := { t.fault with testPin := s.fault.testPin } }

theorem testOf_pinned (s : State) (b : Bool) : testOf s (pinned s b) = s := rfl

/-! ### The keys -/

/-- R355: TEST_KEY by the host port comes to the keys' check, whatever sequence of the test mode runs. -/
theorem writeReg_testKey (reach : reachable s (Pg.FAULT * 0x400 + 0x0C0) = true) (unlock : keySeq s Pg.FAULT = none) (hn : n < 2 ^ 32) :
    ∃ r, writeReg s Org.HOST (Pg.FAULT * 0x400 + 0x0C0) n = (testKey s n s.fault.testPin, r) := by
  have page : (Pg.FAULT * 0x400 + 0x0C0) / 0x400 = Pg.FAULT := by decide
  have off : (Pg.FAULT * 0x400 + 0x0C0) % 0x400 = 0x0C0 := by decide
  have kind : pageKind Pg.FAULT = some .fault := rfl
  have key : (wrAt s Org.HOST .fault Pg.FAULT 0x0C0 n).is Reg.FAULT.TEST_KEY = true := rfl
  have clear : (wrAt s Org.HOST .fault Pg.FAULT 0x0C0 n).is Reg.FAULT.CLEAR = false := rfl
  have writable : readOnly .fault Pg.FAULT 0x0C0 (kindFields .fault 0x0C0) = false := by decide
  have test : breaksTest s (wrAt s Org.HOST .fault Pg.FAULT 0x0C0 n) = false := by simp [breaksTest, key]
  have locks : breaksUnlock s (wrAt s Org.HOST .fault Pg.FAULT 0x0C0 n) = false := by simp [breaksUnlock, unlock]
  have lock : lockRefuses s (kindFields .fault 0x0C0) (wrAt s Org.HOST .fault Pg.FAULT 0x0C0 n) = false := lockRefuses_of_no_rwl (by decide) rfl
  have command : faultCommand (wrAt s Org.HOST .fault Pg.FAULT 0x0C0 n) = true := rfl
  have rights : rightsWrite s false (kindFields .fault 0x0C0) (wrAt s Org.HOST .fault Pg.FAULT 0x0C0 n) =
      writeFault s (wrAt s Org.HOST .fault Pg.FAULT 0x0C0 n) := by
    have may : mayWrite s (wrAt s Org.HOST .fault Pg.FAULT 0x0C0 n).o (wrAt s Org.HOST .fault Pg.FAULT 0x0C0 n).page = true := mayWrite_host s _
    simp only [rightsWrite, may, lock, command, Bool.not_true, Bool.and_false, Bool.false_eq_true, if_false, if_true]
  have write := mkWr_eq (s := s) kind (show 0x0C0 < 0x400 by decide) Org.HOST n
  have core : writeReg s Org.HOST (Pg.FAULT * 0x400 + 0x0C0) n = rightsWrite s false (kindFields .fault 0x0C0) (wrAt s Org.HOST .fault Pg.FAULT 0x0C0 n) := by
    have notLock : ¬ 0x0C0 = 0x020 := by decide
    unfold writeReg writeCore
    simp only [Nat.mod_eq_of_lt hn, reach, page, off, kind, fieldsAt_of_kind kind, write, wrAt_page, wrAt_off, writable, test, locks, notLock,
      Bool.not_true, Bool.false_and, Bool.false_eq_true, if_false]
  refine ⟨if testKeyOk s n s.fault.testPin then .ok else .right, ?_⟩
  rw [core, rights]
  rfl

/-- A sequence begun for the test mode. -/
def testBegun (s : State) : KeySeq := ⟨3, s.frame, s.rcUs, !s.full⟩

theorem keyStart_spec (s : State) : (keySeq (keyStart s testSeq 3) testSeq).isSome = true ∧ (keyStart s testSeq 3).regs = s.regs ∧
    testOf s (keyStart s testSeq 3) = s ∧ (keyStart s testSeq 3).log = s.log ∧ (keyStart s testSeq 3).fault = s.fault := by
  refine ⟨?_, rfl, rfl, rfl, rfl⟩
  have here : Table.get KeySeq.none (keyStart s testSeq 3).keys testSeq = testBegun s :=
    Table.get_set_same KeySeq.none s.keys testSeq (testBegun s)
  have clock : (keyStart s testSeq 3).rcUs = s.rcUs ∧ (keyStart s testSeq 3).frame = s.frame := ⟨rfl, rfl⟩
  simp [keySeq, here, clock, testBegun]

theorem testKey_first (seq : keySeq s testSeq = none) : testKey s 0x7E57 true = keyStart (pinned s true) testSeq 3 := by
  have ok : testKeyOk (pinned s true) 0x7E57 true = true := by
    rw [testKeyOk, keySeq_pinned, seq]
    rfl
  unfold testKey
  extract_lets f u
  have here : u = pinned s true := rfl
  rw [here, if_pos ok, keySeq_pinned, seq]

/-- Test mode entered, its sequence ended. -/
def testEntered (s : State) : State := ((keyDrop s testSeq).putb Pg.FAULT Reg.FAULT.STATUS_TEST_MODE true).event Pg.FAULT 7

theorem testKey_second (seq : (keySeq s testSeq).isSome = true) (idle : channelsIdle s = true) :
    testKey s 0xC0DE true = logPersist (testEntered (pinned s true)) Org.FACTORY Pg.FAULT 0x0C0 0 0xC0DE := by
  obtain ⟨q, some⟩ := Option.isSome_iff_exists.mp seq
  have ok : testKeyOk (pinned s true) 0xC0DE true = true := by
    rw [testKeyOk, keySeq_pinned, some, channelsIdle_pinned, idle]
    rfl
  unfold testKey
  extract_lets f u
  have here : u = pinned s true := rfl
  rw [here, if_pos ok, keySeq_pinned, some]
  rfl

/-- A key of the host with TESTMODE high. -/
theorem writeReg_pinnedKey (reach : reachable s (Pg.FAULT * 0x400 + 0x0C0) = true) (unlock : keySeq s Pg.FAULT = none) (hn : n < 2 ^ 32) :
    ∃ r, writeReg (pinned s true) Org.HOST (Pg.FAULT * 0x400 + 0x0C0) n = (testKey (pinned s true) n true, r) :=
  writeReg_testKey (s := pinned s true) reach unlock hn

theorem exec_testKey (s : State) (n : Nat) :
    exec (.testKeyWrite .host n true) s = finish s (writeReg (pinned s true) Org.HOST (Pg.FAULT * 0x400 + 0x0C0) n).1 := rfl

theorem pinned_outer (s : State) (b : Bool) : sameOuter s (pinned s b) := ⟨rfl, rfl, rfl, rfl⟩

theorem onlyRegs.testOf (s : State) (h : onlyRegs t u) : Machine.testOf s u = Machine.testOf s t := h.field (Machine.testOf s)

theorem testOf_outer (h : testOf s t = s) : sameOuter s t :=
  ⟨(congrArg State.pending h :), (congrArg State.powered h :), (congrArg State.otpA h :), (congrArg State.otpB h :)⟩

theorem testOf_trans (h : testOf s t = s) (g : testOf t u = t) : testOf s u = s := by
  have same : testOf s (testOf t u) = testOf s t := congrArg (testOf s) g
  exact same.trans h

/-- Registers, keys and TESTMODE taken from another state. -/
def keysOf (s t : State) : State := { t with regs := s.regs, keys := s.keys, fault := { t.fault with testPin := s.fault.testPin } }

theorem keysOf_keyStart (s t : State) : keysOf s (keyStart t testSeq 3) = keysOf s t := rfl

theorem keysOf_pinned (s : State) (b : Bool) : keysOf s (pinned s b) = s := rfl

/-- What the first key leaves. -/
structure FirstKey (s t : State) : Prop where
  seq : (keySeq t testSeq).isSome = true
  pin : t.fault.testPin = true
  regs : t.regs = s.regs
  rest : keysOf s t = s
  log : t.log = s.log
  pending : t.fault.logPending = s.fault.logPending

theorem pinned_spec (s : State) : (pinned s true).regs = s.regs ∧ (pinned s true).log = s.log ∧
    (pinned s true).fault.logPending = s.fault.logPending ∧ (pinned s true).fault.testPin = true := ⟨rfl, rfl, rfl, rfl⟩

theorem firstKey_keyStart (s : State) : FirstKey s (keyStart (pinned s true) testSeq 3) := by
  obtain ⟨begun, regs, -, log, fault⟩ := keyStart_spec (pinned s true)
  obtain ⟨regs', log', pending', pin'⟩ := pinned_spec s
  exact ⟨begun, by rw [fault, pin'], regs.trans regs', (keysOf_keyStart s (pinned s true)).trans (keysOf_pinned s true), log.trans log',
    by rw [fault, pending']⟩

theorem keysOf_outer (h : keysOf s t = s) : sameOuter s t :=
  ⟨(congrArg State.pending h :), (congrArg State.powered h :), (congrArg State.otpA h :), (congrArg State.otpB h :)⟩

theorem FirstKey.gives {c : Instr} (first : FirstKey s t) (run : exec c s = finish s t) (room : logRoom s 0) :
    gives c s fun t => (keySeq t testSeq).isSome = true ∧ t.fault.testPin = true ∧ onlyBits s t [] [] ∧ keysOf s t = s :=
  gives_finish _ run rfl (keysOf_outer first.rest) (room.same first.log first.pending)
    ⟨first.seq, first.pin, (onlyBits.refl s).regs first.regs, first.rest⟩

/-- R355: the first key of the host. -/
theorem gives_firstKey (reach : reachable s (Pg.FAULT * 0x400 + 0x0C0) = true) (seq : keySeq s testSeq = none) (unlock : keySeq s Pg.FAULT = none)
    (room : logRoom s 0) :
    gives (.testKeyWrite .host 0x7E57 true) s fun t => (keySeq t testSeq).isSome = true ∧ t.fault.testPin = true ∧ onlyBits s t [] [] ∧
      keysOf s t = s := by
  obtain ⟨r, write⟩ := writeReg_pinnedKey reach unlock (n := 0x7E57) (by decide)
  rw [testKey_first (s := pinned s true) seq, pinned_again] at write
  have run : exec (.testKeyWrite .host 0x7E57 true) s = finish s (keyStart (pinned s true) testSeq 3) := by rw [exec_testKey, write]
  exact (firstKey_keyStart s).gives run room

/-- Test mode entered: its mark, its event, and the sequence's end. -/
theorem testEntered_spec (s : State) : (testEntered s).flag Pg.FAULT Reg.FAULT.STATUS_TEST_MODE = true ∧
    (testEntered s).get Pg.FAULT ⟨0x008, 7, 7, 0⟩ = 1 ∧
    onlyBits s (testEntered s) [(Pg.FAULT, Reg.FAULT.STATUS_TEST_MODE), (Pg.FAULT, ⟨0x008, 7, 7, 0⟩)] [] ∧ testOf s (testEntered s) = s ∧
    (testEntered s).log = s.log ∧ (testEntered s).fault = s.fault := by
  have dropped : (keyDrop s testSeq).regs = s.regs ∧ testOf s (keyDrop s testSeq) = s ∧ (keyDrop s testSeq).log = s.log ∧
      (keyDrop s testSeq).fault = s.fault := ⟨rfl, rfl, rfl, rfl⟩
  unfold testEntered
  generalize keyDrop s testSeq = u at dropped
  obtain ⟨regs, rest, log, fault⟩ := dropped
  have bits : onlyBits s u [(Pg.FAULT, Reg.FAULT.STATUS_TEST_MODE), (Pg.FAULT, ⟨0x008, 7, 7, 0⟩)] [] := (onlyBits.refl s).regs regs
  have only : onlyRegs u ((u.putb Pg.FAULT Reg.FAULT.STATUS_TEST_MODE true).event Pg.FAULT 7) := onlyRegs.put (.put rfl)
  refine ⟨?_, get_event_same _ _ _ (by decide), ?_, (only.testOf s).trans rest, (only.field State.log).trans log, (only.field State.fault).trans fault⟩
  · have shown : (u.putb Pg.FAULT Reg.FAULT.STATUS_TEST_MODE true).flag Pg.FAULT Reg.FAULT.STATUS_TEST_MODE = true :=
      State.flag_putb_same (s := u) _ _ _ rfl (by decide)
    rw [State.flag] at shown ⊢
    rw [get_event_ne _ (by decide)]
    exact shown
  · exact (bits.putb (covers_of_mem (.head _) rfl (by decide) le_rfl le_rfl)).event
      (covers_of_mem (.tail _ (.head _)) rfl (by decide) le_rfl le_rfl)

theorem testOf_logged (h : onlyLogged s t) : testOf s t = s := h.field (testOf s)

/-- R355: the second key of the host, with every channel idle. -/
theorem gives_secondKey (reach : reachable s (Pg.FAULT * 0x400 + 0x0C0) = true) (seq : (keySeq s testSeq).isSome = true)
    (unlock : keySeq s Pg.FAULT = none) (idle : channelsIdle s = true) (room : logRoom s 1) :
    gives (.testKeyWrite .host 0xC0DE true) s fun t => t.flag Pg.FAULT Reg.FAULT.STATUS_TEST_MODE = true ∧ t.get Pg.FAULT ⟨0x008, 7, 7, 0⟩ = 1 ∧
      onlyBits s t [(Pg.FAULT, Reg.FAULT.STATUS_TEST_MODE), (Pg.FAULT, ⟨0x008, 7, 7, 0⟩), changeSeq Pg.FAULT] [Pg.CHANGELOG] ∧ testOf s t = s := by
  obtain ⟨r, write⟩ := writeReg_pinnedKey reach unlock (n := 0xC0DE) (by decide)
  rw [testKey_second (s := pinned s true) seq idle, pinned_again] at write
  have before : testOf s (pinned s true) = s := testOf_pinned s true
  have free : logRoom (pinned s true) 1 := room.same rfl rfl
  have base : onlyBits s (pinned s true) [(Pg.FAULT, Reg.FAULT.STATUS_TEST_MODE), (Pg.FAULT, ⟨0x008, 7, 7, 0⟩)] [] := (onlyBits.refl s).regs rfl
  have run := exec_testKey s 0xC0DE
  generalize pinned s true = a at write before free base run
  obtain ⟨mode, event, bits, rest, log, fault⟩ := testEntered_spec a
  generalize testEntered a = b at write mode event bits rest log fault
  have logged := logged_logPersist (s := b) (o := Org.FACTORY) (page := Pg.FAULT) (off := 0x0C0) (old := 0) (new := 0xC0DE)
    (free.same log (congrArg FaultState.logPending fault))
  generalize logPersist b Org.FACTORY Pg.FAULT 0x0C0 0 0xC0DE = t at write logged
  have whole : testOf s t = s := testOf_trans before (testOf_trans rest (testOf_logged logged.rest))
  rw [write] at run
  refine gives_finish _ run rfl (testOf_outer whole) logged.room ⟨?_, ?_, ?_, whole⟩
  · exact (logged.flag (by decide) (by decide) (by decide)).trans mode
  · exact (logged.get (by decide) (by decide) (by decide)).trans event
  · exact ((base.trans bits).weaken (by decide) (by decide)).trans (logged.bits.weaken (by decide) (List.Subset.refl _))

/-! ### The end of test mode -/

/-- Test mode left, with its entry. -/
def testLeft (s : State) (old : Nat) : State :=
  addEntry (s.putb Pg.FAULT Reg.FAULT.STATUS_TEST_MODE false) Org.HW Pg.FAULT 0x044 old
    ((s.putb Pg.FAULT Reg.FAULT.STATUS_TEST_MODE false).rd (addrOf Pg.FAULT Reg.FAULT.STATUS_TEST_MODE)).toNat LogFlags.plain

theorem testExit_eq (on : s.flag Pg.FAULT Reg.FAULT.STATUS_TEST_MODE = true) :
    testExit s = testLeft (pinned s false) ((pinned s false).rd (addrOf Pg.FAULT Reg.FAULT.STATUS_TEST_MODE)).toNat := by
  have here : (pinned s false).flag Pg.FAULT Reg.FAULT.STATUS_TEST_MODE = true := on
  show testEnd (pinned s false) = _
  rw [testEnd, if_pos here]
  rfl

theorem testLeft_spec (room : logRoom s 1) (old : Nat) : (testLeft s old).flag Pg.FAULT Reg.FAULT.STATUS_TEST_MODE = false ∧
    onlyBits s (testLeft s old) [(Pg.FAULT, Reg.FAULT.STATUS_TEST_MODE), changeSeq Pg.FAULT] [Pg.CHANGELOG] ∧ onlyLogged s (testLeft s old) ∧
    logRoom (testLeft s old) 0 := by
  have off : (s.putb Pg.FAULT Reg.FAULT.STATUS_TEST_MODE false).flag Pg.FAULT Reg.FAULT.STATUS_TEST_MODE = false :=
    State.flag_putb_same (s := s) _ _ _ rfl (by decide)
  have bits : onlyBits s (s.putb Pg.FAULT Reg.FAULT.STATUS_TEST_MODE false) [(Pg.FAULT, Reg.FAULT.STATUS_TEST_MODE), changeSeq Pg.FAULT]
      [Pg.CHANGELOG] := (onlyBits.refl s).putb (covers_of_mem (.head _) rfl (by decide) le_rfl le_rfl)
  have rest : onlyLogged s (s.putb Pg.FAULT Reg.FAULT.STATUS_TEST_MODE false) := onlyLogged.putb rfl
  have free : logRoom (s.putb Pg.FAULT Reg.FAULT.STATUS_TEST_MODE false) 1 := room.putb
  unfold testLeft
  generalize s.putb Pg.FAULT Reg.FAULT.STATUS_TEST_MODE false = u at off bits rest free
  have entry := onlyBits_addEntry (s := u) (o := Org.HW) (page := Pg.FAULT) (off := 0x044) (old := old)
    (new := (u.rd (addrOf Pg.FAULT Reg.FAULT.STATUS_TEST_MODE)).toNat) (e := LogFlags.plain) free
  refine ⟨?_, bits.trans ?_, rest.trans (onlyLogged_addEntry free), free.addEntry⟩
  · exact (entry.flag_apart (by decide) (by decide) (by decide) (by decide)).trans off
  · exact entry.ofPages (List.nil_subset _) fun e he => .inr (logFields_inLog e he)

/-- Registers, the log and TESTMODE taken from another state. -/
def pinOf (s t : State) : State := { t with regs := s.regs, log := s.log, fault := { t.fault with testPin := s.fault.testPin } }

theorem pinOf_pinned (s : State) (b : Bool) : pinOf s (pinned s b) = s := rfl

theorem pinOf_logged (s : State) (h : onlyLogged t u) : pinOf s u = pinOf s t := h.field (pinOf s)

theorem onlyLogged.testPin (h : onlyLogged s t) : t.fault.testPin = s.fault.testPin := h.field fun y : State => y.fault.testPin

theorem pinOf_outer (h : pinOf s t = s) : sameOuter s t :=
  ⟨(congrArg State.pending h :), (congrArg State.powered h :), (congrArg State.otpA h :), (congrArg State.otpB h :)⟩

/-- R356: TESTMODE low ends test mode. -/
theorem gives_testExit (live : s.powered = true) (on : s.flag Pg.FAULT Reg.FAULT.STATUS_TEST_MODE = true) (room : logRoom s 1) :
    gives .testModeExit s fun t => t.flag Pg.FAULT Reg.FAULT.STATUS_TEST_MODE = false ∧ t.fault.testPin = false ∧
      onlyBits s t [(Pg.FAULT, Reg.FAULT.STATUS_TEST_MODE), changeSeq Pg.FAULT] [Pg.CHANGELOG] ∧ pinOf s t = s := by
  have act := testExit_eq on
  have low : (pinned s false).fault.testPin = false := rfl
  have before := pinOf_pinned s false
  have free : logRoom (pinned s false) 1 := room.same rfl rfl
  have base : onlyBits s (pinned s false) [(Pg.FAULT, Reg.FAULT.STATUS_TEST_MODE), changeSeq Pg.FAULT] [Pg.CHANGELOG] := (onlyBits.refl s).regs rfl
  generalize pinned s false = a at act low before free base
  obtain ⟨off, bits, rest, left⟩ := testLeft_spec free (a.rd (addrOf Pg.FAULT Reg.FAULT.STATUS_TEST_MODE)).toNat
  generalize testLeft a (a.rd (addrOf Pg.FAULT Reg.FAULT.STATUS_TEST_MODE)).toNat = t at act off bits rest left
  have whole := (pinOf_logged s rest).trans before
  have pin : t.fault.testPin = false := rest.testPin.trans low
  exact gives_act (act := testExit) rfl (by rw [live, on]; rfl) act (pinOf_outer whole) left ⟨off, pin, base.trans bits, whole⟩

/-! ### An injected fault -/

/-- Anything of a message may change. -/
abbrev anywhere : Nat → Prop := fun _ => True

theorem Held.logPersist {E : Nat → Prop} {o p off old new : Nat} (h : Held E s t) (hp : reactivePage p) :
    Held E s (Machine.logPersist t o p off old new) := by
  unfold Machine.logPersist
  exact h.addEntry.bumpWrap hp (by decide)

theorem injectWrite_eq (ok : injectOk s n = true) : injectWrite s Org.HOST n =
    raiseWith ((logPersist s Org.FACTORY Pg.FAULT 0x0C4 0 n).bump Pg.FAULT Reg.FAULT.INJECT_COUNT) (bitsOf n 29 20) (bitsOf n 19 12) (bitsOf n 11 4)
      (bitsOf n 3 1) true := by
  rw [injectWrite, if_pos ok]

theorem injectWrite_spec (ok : injectOk s n = true) : Held anywhere s (injectWrite s Org.HOST n) ∧ Said (injectWrite s Org.HOST n) := by
  rw [injectWrite_eq ok]
  have reactive : reactivePage Pg.FAULT := .inr (.inl rfl)
  have counted : Held anywhere s ((logPersist s Org.FACTORY Pg.FAULT 0x0C4 0 n).bump Pg.FAULT Reg.FAULT.INJECT_COUNT) :=
    ((Held.refl s).logPersist reactive).bump reactive (by decide)
  exact ⟨counted.raiseScoped (fun _ hx => scopeOf_ok hx) fun _ _ => trivial, Said.raiseScoped⟩

theorem writeReg_inject (reach : hostReach s Pg.FAULT 0x0C4) (hn : n < 2 ^ 32) :
    ∃ r, writeReg s Org.HOST (Pg.FAULT * 0x400 + 0x0C4) n = (injectWrite s Org.HOST n, r) := by
  have comes := hostComes (k := .fault) reach rfl (by decide) (by decide) hn
  have lock : lockRefuses s (kindFields .fault 0x0C4) (wrAt s Org.HOST .fault Pg.FAULT 0x0C4 n) = false := lockRefuses_of_no_rwl (by decide) rfl
  have command : faultCommand (wrAt s Org.HOST .fault Pg.FAULT 0x0C4 n) = true := rfl
  have may : mayWrite s (wrAt s Org.HOST .fault Pg.FAULT 0x0C4 n).o (wrAt s Org.HOST .fault Pg.FAULT 0x0C4 n).page = true := mayWrite_host s _
  refine ⟨if injectOk s n then .ok else .right, ?_⟩
  rw [comes.writeReg]
  simp only [rightsWrite, may, lock, command, Bool.not_true, Bool.and_false, Bool.false_eq_true, if_false, if_true]
  rfl

theorem Held.injectKeeps {E : Nat → Prop} (h : Held E s t) : t.frame = s.frame ∧ t.banks = s.banks ∧ t.gran.slots = s.gran.slots ∧ t.rtc = s.rtc ∧
    t.timer = s.timer ∧ t.pending = s.pending := by
  have rest := h.rest
  exact ⟨(congrArg State.frame rest :), (congrArg State.banks rest :), (congrArg (fun x : State => x.gran.slots) rest :), (congrArg State.rtc rest :),
    (congrArg State.timer rest :), (congrArg State.pending rest :)⟩

/-- R357: an injected fault that the rules allow. -/
theorem gives_inject (reach : hostReach s Pg.FAULT 0x0C4) (hn : n < 2 ^ 32) (ok : injectOk s n = true) :
    gives (.faultInject .host n) s fun t => t.frame = s.frame ∧ t.banks = s.banks ∧ t.gran.slots = s.gran.slots ∧ t.rtc = s.rtc ∧ t.timer = s.timer ∧
      t.pending = s.pending ∧ t.get Pg.FAULT ⟨0x008, 0, 0, 0⟩ = 1 := by
  obtain ⟨r, write⟩ := writeReg_inject reach hn
  obtain ⟨held, said⟩ := injectWrite_spec ok
  generalize injectWrite s Org.HOST n = v at write held said
  have all : Held anywhere s (flushLog v) := held.flushLog
  have shown : Said (flushLog v) := said.flushLog
  have next : (flushLog v).frame = s.frame ∧ (flushLog v).banks = s.banks ∧ (flushLog v).gran.slots = s.gran.slots ∧ (flushLog v).rtc = s.rtc ∧
      (flushLog v).timer = s.timer ∧ (flushLog v).pending = s.pending := all.injectKeeps
  obtain ⟨frame, banks, slots, rtc, timer, pending⟩ := next
  exact gives_hostWrite_flush (b := true) rfl rfl write held.sameOuter ⟨frame, banks, slots, rtc, timer, pending, shown⟩

end Sys2Proof.Machine

open Sys2Proof Sys2Proof.Machine

/-- Settles O42. -/
theorem factoryTestMode : Obligations.FactoryTestMode := by
  unfold Obligations.FactoryTestMode
  exact ⟨fun s reach seq unlock room => gives_firstKey reach seq unlock room,
    fun s reach seq unlock idle room => gives_secondKey reach seq unlock idle room,
    fun s n reach hn ok => gives_inject reach hn ok, fun s live on room => gives_testExit live on room⟩

end
